-- ==== Sys2Proof/Word.lean ====
section
/-! DEFINITION. The plain word types of the BX-640 and the one update of an indexed table. -/

namespace Sys2Proof

/-- One byte of a message, a card, a shuttle volume or a staging buffer. -/
abbrev Byte := BitVec 8

/-- A card serial or a volume serial: 64 bits (R1, R91). -/
abbrev Serial := BitVec 64

/-- An extent sum or any check value of Section 12: 32 bits (R70, R215). -/
abbrev Sum32 := BitVec 32

/-- Card bays CB0 to CB5. -/
abbrev Bay := Fin 6
/-- Copy channels CC0 to CC2. -/
abbrev Chan := Fin 3
/-- Destination ports DP0 to DP3. -/
abbrev Port := Fin 4
/-- Preview outputs PV0 to PV3. -/
abbrev Outp := Fin 4
/-- Station ports SP0 to SP3. -/
abbrev Stn := Fin 4
/-- Sync groups: index 0 is group 1 and index 1 is group 2. -/
abbrev Grp := Fin 2
/-- Camera letters A to H, numbered from 0. -/
abbrev Letter := Fin 8
/-- Look slots 0 to 31. -/
abbrev LookIx := Fin 32

/-- One packed number of a message (R216): how many bytes it takes, and its value. -/
structure Field where
  size : Nat
  val  : Nat
  deriving DecidableEq, Repr

/-- Change entry `i` of a table by `f` and no other entry. -/
def upd {α : Type} {n : Nat} (v : Vector α n) (i : Fin n) (f : α → α) : Vector α n :=
  v.set i.val (f v[i.val]) i.isLt

/-- The number `n` as an index of a table of `k` entries, when it is one. -/
def ix? (k n : Nat) : Option (Fin k) :=
  if h : n < k then some ⟨n, h⟩ else none

end Sys2Proof
end

