-- ==== Sys2Proof/Syntax.lean ====
section
/-! DEFINITION. The vocabulary of the BX-640 (every named value in the order in which its rule first lists its values,
since R216 numbers them so), the records that messages carry, and the 226 commands of the opcode table: requests of
stations, messages between blocks, completions of cards and drives, and events on the pins. -/

namespace Sys2Proof

/-! ## Named values -/

/-- Bay states (R1). -/
inductive BayState | empty | listing | present | unreadable | released
  deriving DecidableEq, Repr

/-- Why a bay is UNREADABLE (R1). -/
inductive UnreadCause | headerDamaged | directoryDamaged | duplicateCard | readFailed
  deriving DecidableEq, Repr

/-- Clip states (R23). -/
inductive ClipState | listed | queued | reading | checking | verified | short | unsupported
  deriving DecidableEq, Repr

/-- Inspection states of a clip (R23). -/
inductive InspState | none | live | partiall | complete | halted | reinspecting
  deriving DecidableEq, Repr

/-- Copy states (R28). -/
inductive CopyState
  | found | reserved | writing | written | verifying | repairing | verified | failed | abandoned | stale
  deriving DecidableEq, Repr

/-- Causes of a FAILED or ABANDONED copy (R28). -/
inductive CopyCause
  | readError | cardGone | writeFailed | lostDrive | mismatch | sourceUnstable | aborted
  deriving DecidableEq, Repr

/-- Order states (R45). `reserved` is last: it marks an entry whose bind is outstanding, which no query sees (R48). -/
inductive OrderState | pending | active | verifying | repairing | reserved
  deriving DecidableEq, Repr

/-- Waiting causes of PENDING orders (R45). -/
inductive WaitCause | cardAbsent | bayBusy | tooFewDestinations | destinationMasked | modeHold
  deriving DecidableEq, Repr

/-- The part mode (R62). -/
inductive PartMode | run | holding | hold
  deriving DecidableEq, Repr

/-- What a named destination is for an order (R51). -/
inductive Disposition
  | holdsCopy | absent | notReady | masked | qualificationFailed | indexFull | noSpace | write
  deriving DecidableEq, Repr

/-- Why a destination was dropped at the start of an order (R67, R68). -/
inductive DropCause | absent | notReady | noSpace | indexFull | volumeChanged | full | busy
  deriving DecidableEq, Repr

/-- Channel phases (R65). -/
inductive ChanPhase | idle | starting | reading | finishing | ending
  deriving DecidableEq, Repr

/-- Copy phases of a destination-list element (R65). -/
inductive CopyPhase
  | skipped | reserving | creating | header | writing | verify | repairWait | repair | reverify | rewrite | dropped
  deriving DecidableEq, Repr

/-- Sum modes of a read (R34). -/
inductive SumMode | compare | record
  deriving DecidableEq, Repr

/-- A channel's claim on its card (R65). -/
inductive ClaimState | none | waiting | held
  deriving DecidableEq, Repr

/-- Pass kinds of a read extent (R35). -/
inductive PassKind | read | repair
  deriving DecidableEq, Repr

/-- Port states (R91). -/
inductive PortState | absent | scanning | unformatted | ready | soaking | detaching | detached
  deriving DecidableEq, Repr

/-- Qualification of a volume (R91). -/
inductive Qual | untested | passed | failed
  deriving DecidableEq, Repr

/-- Header states on a volume: 1 INCOMPLETE, 2 COMPLETE (12.4). -/
inductive HeaderState | incomplete | complete
  deriving DecidableEq, Repr

/-- Read or write: the class served last (R91). -/
inductive ServedClass | read | write
  deriving DecidableEq, Repr

/-- Phases of a soak (R117). -/
inductive SoakPhase | write | read
  deriving DecidableEq, Repr

/-- Why a scan failed (R94, R95). -/
inductive ScanCause | noIdentity | labelUnreadable | labelAbsent | labelDamaged
  deriving DecidableEq, Repr

/-- Reader states of a parse context (R121). -/
inductive ParseState | idle | parsing | waiting | halted
  deriving DecidableEq, Repr

/-- End kinds of a re-inspection (R151). -/
inductive ReEnd | finish | halted | lost | failed
  deriving DecidableEq, Repr

/-- States of the re-inspection reader (R151). -/
inductive ReState | idle | locating | reading | draining
  deriving DecidableEq, Repr

/-- The eighteen finding kinds (R158). -/
inductive FindingKind
  | readError | sourceUnstable | verifyMismatch | writeFailed | lostDrive | foundMismatch | unlockedCard
  | unsupportedClip | droppedFrame | repeatedFrame | frameOrder | tcBreak | frameCount | unparsable | clipping
  | blackFrame | hotSite | partialInspection
  deriving DecidableEq, Repr

/-- Classes of a finding (R157). -/
inductive FindingClass | advisory | warning | blocking
  deriving DecidableEq, Repr

/-- States of a finding (R157). -/
inductive FindingState | opened | acknowledged | cleared
  deriving DecidableEq, Repr

/-- Encodings of a look (R173). -/
inductive Encoding | legal | full
  deriving DecidableEq, Repr

/-- Route sources of an output (R188). -/
inductive Route | none | live (c : Chan) | playback | pattern
  deriving DecidableEq, Repr

/-- Miss states of an output (R188). -/
inductive MissState | black | holdLast | pattern
  deriving DecidableEq, Repr

/-- Play states of an output (R188). -/
inductive PlayState | stopped | playing | paused | ended
  deriving DecidableEq, Repr

/-- Why playback ended (R199). -/
inductive PlayEnd | lastFrame | dataEnd | unparsable | sourceLost | purged
  deriving DecidableEq, Repr

/-- Link states of a station port (R203). -/
inductive LinkState | down | up
  deriving DecidableEq, Repr

/-- Station roles (R203). -/
inductive Role | loader | colour | review | observer
  deriving DecidableEq, Repr

/-- Notice kinds, in the order of the kind list of R210, with LINK last (R216). -/
inductive NoticeKind | card | catalog | order | copy | finding | look | output | dest | mode | link
  deriving DecidableEq, Repr

/-- Notice sub-kinds: for each kind, those of its notice table in that table's order (R216). -/
inductive NoticeSub
  | cardInserted | cardUnreadable | cardListed | cardListedPartial | cardClassDropped | cardReturned | cardReleased
  | cardRemoved
  | catCreated | catRelinked | catRefreshed | catDescriptionHeld | catState | catFoundUnlinked | catHolds
  | catRequiredCopies | catLook | catPurged | catReinspect
  | copyAdded | copyState
  | orderPosted | orderStarted | orderState | orderEnded | orderDestinationDropped
  | modeChanged
  | destAttached | destScanFailed | destScanned | destFormatted | destFormatFailed | destDetaching | destDetached
  | destRemoved | destSoakStarted | destSoakDone | destSoakEnded
  | findingFiled | findingJoined | findingEvicted | findingUnstored | findingAcknowledged | findingCleared
  | findingRemoved | findingPurged | findingClassSet
  | lookHeld | lookReleased | lookCommitted | lookFillStarted | lookFillDone | lookFillEnded | lookCameraDefault
  | outRouteSet | outPlaying | outPaused | outStopped | outEnded | outUnsynced | outGroup
  | linkStartFault | linkReset
  deriving DecidableEq, Repr

/-- Refusal codes, in the order of the table of R208. -/
inductive Code | rights | state | notFound | full | held | busy | value | overrun
  deriving DecidableEq, Repr

/-- The reasons a STATE refusal carries. -/
inductive Reason
  | already | noCard | listingIncomplete | cardBusy | clipNotVerified | clipBlocked | overflowHold
  | orderOpen | reinspecting | cardPresent | unsupported
  | notReady | noCapacity | volumeInUse | noDrive | noRoom | notSoaking
  | livePass | cleared | notHeld | notFilling
  | rateMismatch | notPaused | disabled | notPlayback | grouped | notPlaying | noMembers | notRunning
  deriving DecidableEq, Repr

/-! ## Records that messages carry -/

/-- A timecode as four bytes: hours, minutes, seconds, frames (R128, R215). -/
structure Timecode where
  h : Nat
  m : Nat
  s : Nat
  f : Nat
  deriving DecidableEq, Repr

/-- The description of a clip (2.1). -/
structure Desc where
  letter  : Letter
  reel    : Nat
  start   : Timecode
  rate    : Nat
  drop    : Bool
  frames  : Nat
  dataLen : Nat
  deriving DecidableEq, Repr

/-- A copy record (R28). -/
structure Copy where
  port     : Port
  vol      : Serial
  hb       : Nat
  state    : CopyState
  cause    : Option CopyCause
  written  : Nat
  passes   : Nat
  mismatch : Option (List Nat)
  recorded : Option (List Sum32)
  deriving DecidableEq, Repr

/-- A clip record (R23). The model's own: `made` numbers its creation (assumption 58). -/
structure Clip where
  id        : Nat
  serial    : Serial
  clipNo    : Nat
  desc      : Desc
  extents   : Nat
  required  : Nat
  state     : ClipState
  sums      : Option (List Sum32)
  copies    : List Copy
  look      : LookIx
  stamp     : Option (LookIx × Nat)
  inspected : Nat
  skipped   : Nat
  insp      : InspState
  blocking  : Nat
  overflow  : Bool
  order     : Option Nat
  held      : Option Desc
  made      : Nat := 0
  deriving DecidableEq, Repr

/-- A copy of a clip on a shuttle volume, as a reader of it needs it (R121, R151, R188). -/
structure Source where
  port : Port
  vol  : Serial
  hb   : Nat
  span : Nat
  deriving DecidableEq, Repr

/-- The frame header handed on with a frame (R124): clip id, frame index, timecode, chunk ordinal. -/
structure FrameHdr where
  clip    : Nat
  index   : Nat
  tc      : Timecode
  ordinal : Nat
  deriving DecidableEq, Repr

/-- The source of a preview slot (R129). -/
inductive SlotSource | live (c : Chan) (pass : Nat) | playback (k : Outp) | reinspect
  deriving DecidableEq, Repr

/-- One channel's trim: gain and offset (R173). -/
structure Trim where
  gain   : Nat
  offset : Int
  deriving DecidableEq, Repr

/-- A look record (R173): an absent part passes its input through. -/
structure LookRec where
  matrix : Option (Vector Int 9)
  trim   : Option (Vector Trim 3)
  curves : Option (Vector (Vector Nat 33) 3)
  enc    : Encoding
  deriving DecidableEq, Repr

/-- The qualifier of a finding (R157): a volume serial or a site. -/
inductive Qualifier | volume (v : Serial) | site (x y : Nat)
  deriving DecidableEq, Repr

/-- An occurrence filed with the Fault List (R159). -/
structure Occurrence where
  clip  : Nat
  kind  : FindingKind
  count : Nat
  span  : Option (Nat × Nat)
  qual  : Option Qualifier
  deriving DecidableEq, Repr

/-- The ODS's view of a bay (R50). -/
structure BayView where
  state   : BayState
  serial  : Option Serial
  reading : Bool
  deriving DecidableEq, Repr

/-- The ODS's view of a port (R50). -/
structure DestView where
  state     : PortState
  vol       : Option Serial
  qual      : Qual
  indexFull : Bool
  free      : Nat
  deriving DecidableEq, Repr

/-- A named destination in a start message (R56). -/
structure Dest where
  port : Port
  disp : Disposition
  vol  : Option Serial
  deriving DecidableEq, Repr

/-- The levels on the pins the part samples: strap inputs, card and drive detect, write-protect sense (0.7, R203). -/
structure Pins where
  roleStrap   : Vector Role 4
  superStrap  : Vector Bool 4
  cardDetect  : Vector Bool 6
  writeProt   : Vector Bool 6
  driveDetect : Vector Bool 4
  deriving DecidableEq, Repr

/-- An admitted request as the blocks know it: the station that sent it, and the number the SP gave its entry. -/
structure Req where
  st  : Stn
  rid : Nat
  deriving DecidableEq, Repr

/-- A request message as the link delivers it (12.5): tag, code, operand length and the bytes delivered after the
header. -/
structure Message where
  tag   : BitVec 32
  code  : BitVec 16
  oplen : BitVec 16
  bytes : List Byte
  deriving DecidableEq, Repr

/-- A block's answer to a request (R208). -/
inductive Answer
  | accepted (clamped : Bool) (vals : List Field)
  | refused (code : Code) (reason : Option Reason) (vals : List Field)
  deriving DecidableEq, Repr

/-- A notice as a block raises it (11.4, 12.5). `only` is `none` for a notice the filters judge, and the stations
addressed for a LINK notice. -/
structure Notice where
  sub    : NoticeSub
  serial : Option Serial := none
  bay    : Option Bay := none
  clip   : Option Nat := none
  order  : Option Nat := none
  letter : Option Letter := none
  cls    : Option FindingClass := none
  port   : Option Port := none
  fields : List Field := []
  only   : Option (List Stn) := none
  deriving DecidableEq, Repr

/-! ## Answers of one block to another -/

/-- The Catalog's answer to a listing request (R7). -/
inductive ListAns | made (clip : Nat) | relinked (clip : Nat) | full
  deriving DecidableEq, Repr

/-- The CI's answer to a claim (R10). -/
inductive ClaimAns | granted | waiting | cardGone
  deriving DecidableEq, Repr

/-- The CI's answer to a burst request (R12 to R14). -/
inductive BurstAns | done (bytes : List Byte) | readError | cardGone | notBound
  deriving DecidableEq, Repr

/-- The Catalog's answer to a creation request (R29). -/
inductive CreateAns | made | full | busy | notBound
  deriving DecidableEq, Repr

/-- What a start-read answer carries when the clip is bound (R34). -/
structure ReadInfo where
  serial  : Serial
  clipNo  : Nat
  extents : Nat
  desc    : Desc
  mode    : SumMode
  deriving DecidableEq, Repr

/-- The Catalog's answer to a sum report (R35). -/
inductive SumAns | stored | equal | unequal | notBound
  deriving DecidableEq, Repr

/-- The Catalog's answer to a bind request (R36, R48). -/
inductive BindAns | bound (serial : Serial) (letter : Letter) | notFound | unsupported | busy | full
  deriving DecidableEq, Repr

/-- A port's answer to a reservation (R67). -/
inductive ReserveAns | reserved (hb : Nat) | refused (cause : DropCause)
  deriving DecidableEq, Repr

/-- A port's answer to a write-class request (R75, R103). -/
inductive WriteAns | done | failed | lost | withdrawn
  deriving DecidableEq, Repr

/-- A port's answer to a verify read (R77). -/
inductive VerifyAns | matched | mismatch | lost | withdrawn
  deriving DecidableEq, Repr

/-- A port's answer to a playback read (R106, R109). -/
inductive ReadAns | done (bytes : List Byte) | failed | lost | withdrawn
  deriving DecidableEq, Repr

/-- A port's answer to a re-inspection read (R153); the bytes go to the parse context. -/
inductive ReReadAns | done | failed | lost | withdrawn
  deriving DecidableEq, Repr

/-- The playback context's answer to a fetch (R133). -/
inductive FetchAns
  | placed (slot : Nat) (hdr : FrameHdr) | noPlane (hdr : FrameHdr) | noSlot (hdr : FrameHdr) | beyondEnd
  | unparsable | failed | lost | cancelled
  deriving DecidableEq, Repr

/-- How a channel's run of an order ended (R58, R65). -/
inductive EndKind | complete | failed (cause : CopyCause) | aborted
  deriving DecidableEq, Repr

/-- How a live pass left its continuity context (R140). -/
inductive PassEnd | finish (frames : Nat) | cutOff | halted
  deriving DecidableEq, Repr

/-- A report of the inspection counts and state of a clip (R38). `setState st only`: write `st`, and with `only`
present write it only if the clip's state is the one named (R150, R154). -/
inductive InspReport
  | addInspected (n : Nat) | addSkipped (n : Nat) | start (st : InspState)
  | setState (st : InspState) (only : Option InspState)
  deriving DecidableEq, Repr

/-- A report of the re-inspection context to its reader (R134, R135, R153). -/
inductive ReReport
  | placed
  | ended (placed skipped : Nat)
  | halted (frame placed skipped : Nat)
  | lost (placed skipped ordinal : Nat)
  | counts (placed skipped : Nat)
  deriving DecidableEq, Repr

/-- The result of the Catalog's release test (R19). -/
inductive ReleaseAns | passed | fails (clip : Nat) (why : Reason)
  deriving DecidableEq, Repr

/-- What a camera default was asked for: the record, by id, card serial and creation (assumption 58), and for a creation
the bay and insertion to answer (R24, R26). -/
structure DefaultJob where
  clip   : Nat
  serial : Serial
  made   : Nat
  create : Option (Bay × Nat)
  deriving DecidableEq, Repr

/-- How far a playback read goes: the blocks it asks for, and where in the first a chunk header starts that may end the
read early, its frame having no preview plane (R133, assumption 34). -/
structure ReadSpan where
  count : Nat
  cut   : Option Nat
  deriving DecidableEq, Repr

/-- Where a copy stands: its destination, volume and header block (R28). -/
structure CopyPlace where
  port : Port
  vol  : Serial
  hb   : Nat
  deriving DecidableEq, Repr

/-- Who reads a clip record through the Catalog lookup (R44), and what for. -/
inductive Asker
  | dispatch (order : Nat)
  | channel (ch : Chan) (order : Nat)
  | livePass (ch : Chan) (pass : Nat)
  | analysis (tok : Nat)
  | reader
  | occurrence (tok : Nat)
  | verified (tok : Nat)
  | clearHold (q : Req) (tok : Nat)
  | boundary (k : Outp) (tok : Nat)
  | play (k : Outp)
  deriving DecidableEq, Repr

/-- Who asks a port whether a volume is attached (R151, R195): the re-inspection reader or an output, and which of
its candidates. -/
inductive VolAsker | reader (ix : Nat) | output (k : Outp) (ix : Nat)
  deriving DecidableEq, Repr

/-- Who cancels reads at a port (R109). -/
inductive Canceller | output (k : Outp) | inspector
  deriving DecidableEq, Repr

/-! ## Operands of requests -/

/-- One of the first three items of WRITE LOOK (R175): not carried, carried as ABSENT, or carried with values. -/
inductive Item (α : Type) | notCarried | absent | values (a : α)
  deriving DecidableEq, Repr

/-- The items of WRITE LOOK (R175), as carried: nothing is checked yet. The encoding is carried as a number. -/
structure LookItems where
  matrix : Item (Vector Int 9)
  trim   : Item (Vector Trim 3)
  curves : Item (Vector (Vector Nat 33) 3)
  enc    : Item Nat
  name   : Option (List Nat)
  deriving DecidableEq, Repr

/-- The preset of BANK FILL (R179): IDENTITY, or COPY with a source slot. -/
inductive Preset | identity | copy (source : Nat)
  deriving DecidableEq, Repr

/-- The items of SET ROUTE (R190), as carried; routes and miss states are their R216 numbers, and the override is a
slot or NONE. -/
structure RouteItems where
  enabled   : Option Bool := none
  rate      : Option Nat := none
  route     : Option Nat := none
  override_ : Option (Option Nat) := none
  miss      : Option Nat := none
  group     : Option Nat := none
  offset    : Option Int := none
  clearLate : Bool := false
  deriving DecidableEq, Repr

/-- The items of SET THRESHOLDS (R149), each optional. -/
structure ThresholdItems where
  clipLevel  : Option Nat := none
  clipArea   : Option Nat := none
  clipRun    : Option Nat := none
  blackLevel : Option Nat := none
  darkLimit  : Option Nat := none
  hotLevel   : Option Nat := none
  deriving DecidableEq, Repr

/-- The fields SET FILTER carries (R210): kinds, letter, bay and class by their numbers; an absent letter or bay is
ANY. -/
structure FilterItems where
  enabled  : Bool
  kinds    : List Nat
  letter   : Option Nat
  bay      : Option Nat
  minClass : Nat
  deriving DecidableEq, Repr

/-- What PAUSE and STOP name (R198): an output or a group. -/
inductive PlayTarget | output (n : Nat) | group (n : Nat)
  deriving DecidableEq, Repr

/-! ## The commands -/

/-- One constructor per row of spec/opcode_table.json. A request row carries the admitted request `q` that a block
answers; a completion row carries the number of the attempt it completes (assumption 3). -/
inductive Instr where
  -- start-up and the pins of the card bays
  | powerOnReset (pins : Pins)
  | cardInserted (b : Bay) (wp : Bool)
  | identificationTimeout (b : Bay) (tok : Nat)
  | headerReadComplete (b : Bay) (tok : Nat) (bytes : List Byte)
  | requiredCopiesQuery (b : Bay) (ins : Nat) (serial : Serial)
  | requiredCopiesAnswer (b : Bay) (ins : Nat) (highest : Option Nat)
  | directoryReadComplete (b : Bay) (tok : Nat) (bytes : List Byte)
  | listingReadFailed (b : Bay) (tok : Nat)
  | listingAnswer (b : Bay) (ins : Nat) (ans : ListAns)
  | claim (ch : Chan) (serial : Serial) (tag : Nat)
  | handBack (ch : Chan) (serial : Serial)
  | burstRequest (ch : Chan) (serial : Serial) (clipNo ext burst : Nat) (room : Bool)
  | burstGrantReport (ch : Chan) (serial : Serial)
  | burstCompletion (b : Bay) (tok : Nat) (bytes : List Byte)
  | burstMediaError (b : Bay) (tok : Nat)
  | burstTimeout (b : Bay) (tok : Nat)
  | cardRemoved (b : Bay)
  | releaseCard (q : Req) (bay : Nat)
  | releaseTest (q : Req) (b : Bay) (ins : Nat) (serial : Serial)
  | releaseTestAnswer (q : Req) (b : Bay) (ins : Nat) (ans : ReleaseAns)
  | forceRelease (q : Req) (bay : Nat)
  | queryBay (q : Req) (bay : Nat)
  | bayViewReport (b : Bay) (view : BayView)
  -- the Clip Catalog
  | listingRequest (b : Bay) (ins : Nat) (serial : Serial) (clipNo required : Nat) (desc : Desc)
  | cameraDefaultAnswer (job : DefaultJob) (slot : LookIx)
  | orderRemovalAnswer (clip : Nat) (serial : Serial) (made : Nat) (desc : Desc) (removed : Bool)
  | foundCopySearch (p : Port) (serial : Serial) (clipNo dataLen : Nat)
  | foundOffer (p : Port) (vol : Serial) (hb : Nat) (serial : Serial) (clipNo dataLen : Nat) (sums : List Sum32)
  | copyCreationRequest (ch : Chan) (clip order : Nat) (p : Port) (vol : Serial) (hb : Nat)
  | headerWrittenReport (clip : Nat) (vol : Serial)
  | extentWrittenReport (clip : Nat) (vol : Serial)
  | verifyBegunReport (clip : Nat) (vol : Serial)
  | mismatchReport (clip : Nat) (vol : Serial) (ext : Nat)
  | verifyEndedReport (clip : Nat) (vol : Serial)
  | rewriteDoneReport (clip : Nat) (vol : Serial)
  | copyEndReport (clip : Nat) (vol : Serial) (final : CopyState) (cause : CopyCause)
  | lostVolumeReport (p : Port) (vol : Serial)
  | startReadRequest (ch : Chan) (clip order : Nat)
  | storedSumsRequest (ch : Chan) (clip order : Nat)
  | sumReport (ch : Chan) (clip order ext : Nat) (sum : Sum32) (pass : PassKind)
  | bindRequest (clip order named : Nat)
  | candidatesRequest (q : Req) (serial : Serial)
  | unbindRequest (clip order : Nat)
  | blockingCountReport (clip n : Nat)
  | overflowHoldSet (clip : Nat)
  | overflowHoldClear (clip : Nat)
  | inspectionCountReport (clip : Nat) (rep : InspReport)
  | setCopies (q : Req) (serial : Serial) (count : Nat)
  | setCopiesForwarded (q : Req) (serial : Serial) (count : Nat) (held : Option Letter) (inBay : Bool)
  | assignLook (q : Req) (clip slot : Nat)
  | stampLook (q : Req) (clip : Nat)
  | stampVersionAnswer (q : Req) (clip : Nat) (serial : Serial) (made : Nat) (slot : LookIx) (version : Nat)
  | purgeCard (q : Req) (serial : Serial)
  | purgeReaderQuery (q : Req) (serial : Serial) (clips : List Nat)
  | purgeReaderAnswer (q : Req) (serial : Serial) (holds : Bool)
  | purgeBayQuery (q : Req) (serial : Serial)
  | purgeBayAnswer (q : Req) (serial : Serial) (held : Bool)
  | queryClip (q : Req) (clip : Nat)
  | listCard (q : Req) (serial : Serial)
  | findClip (q : Req) (serial : Serial) (clipNo : Nat)
  | clipLookup (who : Asker) (clip : Nat)
  -- the Order Dispatcher
  | postOrder (q : Req) (clip : Nat) (dests : List Nat) (priority : Nat)
  | bindAnswer (order : Nat) (ans : BindAns)
  | postCardOrder (q : Req) (serial : Serial) (dests : List Nat) (priority : Nat)
  | candidatesAnswer (q : Req) (clips : List Nat)
  | destViewReport (p : Port) (view : DestView)
  | catalogDispatchReport (clip : Nat)
  | readDoneReport (ch : Chan) (order : Nat)
  | repairBegunReport (ch : Chan) (order : Nat)
  | repairDoneReport (ch : Chan) (order : Nat)
  | orderEndReport (ch : Chan) (order : Nat) (kind : EndKind)
  | unbindAnswer (order clip : Nat) (state : ClipState)
  | abortOrder (q : Req) (order : Nat)
  | catalogRemovalRequest (clip order : Nat) (serial : Serial) (made : Nat) (desc : Desc)
  | abortAll (q : Req)
  | setMode (q : Req) (mode : Nat)
  | queryOrder (q : Req) (order : Nat)
  | listOrders (q : Req)
  -- the copy channels and the Staging Store
  | startMessage (ch : Chan) (order clip : Nat) (serial : Serial) (dests : List Dest)
  | clipLengthAnswer (ch : Chan) (order : Nat) (rec : Option Clip)
  | reservationAnswer (ch : Chan) (order : Nat) (p : Port) (ans : ReserveAns)
  | creationAnswer (ch : Chan) (order : Nat) (p : Port) (ans : CreateAns)
  | headerWriteAnswer (ch : Chan) (order : Nat) (p : Port) (ans : WriteAns)
  | startReadAnswer (ch : Chan) (order : Nat) (info : Option ReadInfo)
  | storedSumsAnswer (ch : Chan) (order : Nat) (sums : List Sum32)
  | claimAnswer (ch : Chan) (tag : Nat) (ans : ClaimAns)
  | bufferRequest (ch : Chan) (tag clip ext : Nat) (pass : PassKind) (len : Nat)
  | bufferWithdrawal (ch : Chan)
  | bufferGrant (ch : Chan) (tag num : Nat)
  | burstAnswer (ch : Chan) (ans : BurstAns)
  | sumAnswer (ch : Chan) (order ext : Nat) (pass : PassKind) (ans : SumAns)
  | extentWriteAnswer (ch : Chan) (order : Nat) (p : Port) (num : Nat) (ans : WriteAns)
  | verifyReadAnswer (ch : Chan) (order : Nat) (p : Port) (ext : Nat) (ans : VerifyAns)
  | headerRewriteAnswer (ch : Chan) (order : Nat) (p : Port) (ans : WriteAns)
  | channelLostVolume (ch : Chan) (p : Port) (vol : Serial)
  | channelAbort (ch : Chan) (order : Nat)
  | statusQuery (p : Port) (ch : Chan) (order : Nat)
  | watch (p : Port) (ch : Chan) (order : Nat)
  | queryChannel (q : Req) (ch : Nat)
  | queryStore (q : Req)
  -- the destination ports
  | driveAttach (p : Port)
  | identificationReadDone (p : Port) (tok capacity : Nat)
  | labelReadDone (p : Port) (tok : Nat) (bytes : List Byte)
  | walkReadDone (p : Port) (tok : Nat) (bytes : List Byte)
  | driveError (p : Port) (tok : Nat) (labelRaised : Bool)
  | driveAttemptExpiry (p : Port) (tok : Nat) (labelRaised : Bool)
  | formatVolume (q : Req) (port : Nat) (serial : Serial)
  | formatWriteDone (p : Port) (tok : Nat)
  | reservationRequest (ch : Chan) (p : Port) (order : Nat) (vol : Serial) (blocks : Nat)
  | statusQueryAnswer (p : Port) (ch : Chan) (order : Nat) (alive : Bool)
  | watchAnswer (p : Port) (ch : Chan) (order : Nat)
  | headerWrite (ch : Chan) (p : Port) (order : Nat) (vol : Serial) (hb : Nat) (serial : Serial) (clipNo dataLen : Nat)
  | headerWriteDone (p : Port) (tok : Nat)
  | headerRewrite (ch : Chan) (p : Port) (order : Nat) (vol : Serial) (hb : Nat) (sums : List Sum32)
  | headerRewriteDone (p : Port) (tok : Nat)
  | extentWrite (ch : Chan) (p : Port) (order : Nat) (vol : Serial) (num block : Nat)
  | extentWriteDone (p : Port) (tok : Nat)
  | verifyRead (ch : Chan) (p : Port) (order : Nat) (vol : Serial) (ext block len : Nat) (sum : Sum32)
  | verifyReadDone (p : Port) (tok : Nat) (bytes : List Byte)
  | playbackRead (k : Outp) (p : Port) (vol : Serial) (first : Nat) (span : ReadSpan) (rtok : Nat)
  | playbackReadDone (p : Port) (tok : Nat) (bytes : List Byte)
  | reinspectionRead (p : Port) (vol : Serial) (first count run : Nat)
  | reinspectionReadDone (p : Port) (tok : Nat) (bytes : List Byte)
  | withdrawal (ch : Chan) (p : Port) (order : Nat)
  | readCancel (who : Canceller) (p : Port)
  | attachmentQuestion (who : VolAsker) (p : Port) (vol : Serial)
  | detach (q : Req) (port : Nat)
  | driveRemoved (p : Port)
  | startSoak (q : Req) (port len threshold : Nat)
  | soakWriteDone (p : Port) (tok : Nat)
  | soakReadDone (p : Port) (tok : Nat) (bytes : List Byte)
  | stopSoak (q : Req) (port : Nat)
  | queryPort (q : Req) (port : Nat)
  | queryIndex (q : Req) (port first : Nat)
  -- the Frame Extractor and the Preview Pool
  | livePassBegin (ch : Chan) (clip : Nat) (desc : Desc)
  | liveInspectionStateAnswer (ch : Chan) (pass : Nat) (rec : Option Clip)
  | liveBytes (ch : Chan) (bytes : List Byte)
  | livePassEndOfData (ch : Chan)
  | livePassCutOff (ch : Chan)
  | analysisDoneReport (slot : Nat)
  | liveCountReport (c : Chan) (n : Nat)
  | takeNewest (k : Outp) (c : Chan) (tok : Nat)
  | slotDrop (k : Outp) (slot : Nat)
  | dropAll (k : Outp)
  | playbackStart (k : Outp) (clip dataLen frames : Nat) (copy : CopyPlace)
  | fetch (k : Outp) (run n : Nat)
  | playbackReadAnswer (k : Outp) (rtok : Nat) (ans : ReadAns)
  | playbackCancel (k : Outp)
  | reinspectContextStart (run clip dataLen frames : Nat) (src : Source)
  | reinspectBytes (run : Nat) (bytes : List Byte)
  | reinspectPlaneResume (free : Nat)
  | reinspectContextCancel (run : Nat)
  | reinspectReadLost (run : Nat)
  | queryPool (q : Req)
  -- the Inspector
  | frameHeader (ch : Chan) (pass : Nat) (hdr : FrameHdr)
  | continuityEnd (ch : Chan) (pass : Nat) (how : PassEnd)
  | analysisComplete (tok : Nat)
  | clearSites (q : Req)
  | setThresholds (q : Req) (items : ThresholdItems)
  | passResult (clip skipped : Nat) (superseded : Bool)
  | reinspect (q : Req) (clip : Nat)
  | reinspectAttachmentAnswer (ix : Nat) (yes : Bool)
  | reinspectLookupAnswer (rec : Option Clip)
  | reinspectReadAnswer (run : Nat) (ans : ReReadAns)
  | reinspectReadConsumed (run : Nat)
  | reinspectContextReport (run : Nat) (rep : ReReport)
  | reinspectLostVolume (p : Port) (vol : Serial)
  | queryInspector (q : Req)
  | querySites (q : Req) (first : Nat)
  -- the Fault List
  | occurrence (occ : Occurrence)
  | occurrenceLookupAnswer (tok : Nat) (rec : Option Clip)
  | setKindClass (q : Req) (kind cls : Nat)
  | clearOverflowHold (q : Req) (clip : Nat)
  | clearHoldLookupAnswer (q : Req) (tok clip : Nat) (rec : Option Clip)
  | ackFinding (q : Req) (finding : Nat)
  | clearFinding (q : Req) (finding : Nat) (sup : Bool)
  | verifiedCopyReport (clip : Nat) (vol : Serial)
  | verifiedReportLookupAnswer (tok : Nat) (rec : Option Clip)
  | reinspectionRemoval (clip : Nat)
  | purgeList (serial : Serial) (clips : List Nat)
  | queryFinding (q : Req) (finding : Nat)
  | listFindings (q : Req) (clip : Option Nat) (states : List Nat) (minClass first : Nat)
  | queryClasses (q : Req)
  -- the Look Bank
  | holdLook (q : Req) (slot : Nat)
  | writeLook (q : Req) (slot : Nat) (items : LookItems)
  | commitLook (q : Req) (slot : Nat) (keep : Bool)
  | cancelLook (q : Req) (slot : Nat)
  | linkDownReport (st : Stn)
  | bankFill (q : Req) (first last : Nat) (preset : Preset)
  | fillSlotWriteDone (tok : Nat)
  | cancelFill (q : Req)
  | setCameraLook (q : Req) (letter slot : Nat)
  | defaultRequest (letter : Letter) (job : DefaultJob)
  | latchRead (outs : List (Outp × Nat × LookIx))
  | versionRequest (q : Req) (clip : Nat) (serial : Serial) (made : Nat) (slot : LookIx)
  | queryLook (q : Req) (slot : Nat)
  | queryBank (q : Req)
  -- the Renderer and Outputs
  | setRoute (q : Req) (output : Nat) (items : RouteItems)
  | frameBoundary (k : Outp)
  | groupBoundary (g : Grp)
  | latchAnswer (outs : List (Outp × Nat × LookIx × Nat × LookRec))
  | takeNewestAnswer (k : Outp) (tok : Nat) (got : Option (Nat × FrameHdr × Nat))
  | play (q : Req) (output : Nat) (clip : Option Nat) (start : Option Nat)
  | playAttachmentAnswer (k : Outp) (ix : Nat) (yes : Bool)
  | fetchAnswer (k : Outp) (run n : Nat) (ans : FetchAns)
  | pause (q : Req) (target : PlayTarget)
  | stop (q : Req) (target : PlayTarget)
  | outputLostVolume (p : Port) (vol : Serial)
  | outputPurgeList (clips : List Nat)
  | playGroup (q : Req) (group : Nat) (start : Option Timecode) (cue : Bool)
  | queryOutput (q : Req) (output : Nat)
  -- the Station Ports
  | linkUp (st : Stn)
  | linkDown (st : Stn)
  | requestMessage (st : Stn) (msg : Message)
  | blockAnswer (q : Req) (ans : Answer)
  | noticeTaken (n : Notice)
  | noticeSent (st : Stn)
  | setFilter (q : Req) (number : Nat) (items : FilterItems)
  | resetPart (q : Req)
  | queryStation (q : Req) (port : Nat)
  -- the rows the table lists last
  | cardIdentificationResponse (b : Bay) (tok advertised capacity : Nat)
  | responseSent (st : Stn) (pins : Pins)
  | dispatchLookupAnswer (order : Nat) (rec : Option Clip)
  | analysisLookupAnswer (tok : Nat) (rec : Option Clip)
  | boundaryLookupAnswer (k : Outp) (tok : Nat) (rec : Option Clip)
  | playLookupAnswer (k : Outp) (rec : Option Clip)
  deriving DecidableEq, Repr

end Sys2Proof
end

