-- ==== Sys2Proof/Config.lean ====
section
/-! DEFINITION. The capacities and sizes of Section 0.4, and the open choices of the part: which message between two
blocks arrives next, and the count of a timecode that is not valid. -/

namespace Sys2Proof.Config

/-- Bytes of a block (0.4). -/
abbrev blockBytes : Nat := 4096
/-- Blocks of a burst (0.4). -/
abbrev burstBlocks : Nat := 64
/-- Bytes of a burst, 256 KiB (0.4). -/
abbrev burstBytes : Nat := 262144
/-- Blocks of a whole extent (0.4). -/
abbrev extentBlocks : Nat := 2048
/-- Bytes of a whole extent, 8 MiB (0.4). -/
abbrev extentBytes : Nat := 8388608
/-- The largest data length of a supported clip, 64 GiB (0.4). -/
abbrev maxClipBytes : Nat := 68719476736
/-- Clip records (R23). -/
abbrev clipRecords : Nat := 1024
/-- Copy records per clip (R28). -/
abbrev copyRecords : Nat := 6
/-- Order queue entries (R45). -/
abbrev orderEntries : Nat := 64
/-- Staging buffers (R71). -/
abbrev buffers : Nat := 256
/-- Staging buffers one channel may hold (R71). -/
abbrev buffersPerChannel : Nat := 96
/-- Volume index entries per port (R91). -/
abbrev indexEntries : Nat := 4096
/-- Preview slots (R129). -/
abbrev previewSlots : Nat := 64
/-- Findings (R157). -/
abbrev findings : Nat := 512
/-- Hot-site table entries (R147). -/
abbrev hotSites : Nat := 256
/-- Unanswered requests per station (R206). -/
abbrev unanswered : Nat := 16
/-- Response list entries per station (R206). -/
abbrev responses : Nat := 48
/-- Notices per station FIFO (R211). -/
abbrev notices : Nat := 64
/-- Samples of a preview plane, 960 × 540 (0.4). -/
abbrev planeSamples : Nat := 518400
/-- Bytes of a preview plane (12.3). -/
abbrev planeBytes : Nat := 2332800
/-- FREE slots a re-inspection needs before it takes one (R134). -/
abbrev reinspectReserve : Nat := 16

/-- FREE VALUE (assumption 2). The spec gives no order among messages of different senders on their way to one block
(0.6, and every "may reach … in either order"): at the n-th delivery the arrival taken is the one this constant names,
among those that are the oldest from their sender to their receiver. Nothing can be proved about it. -/
opaque arrival : Nat → Nat

/-- FREE VALUE (assumption 5). The count of the timecode `h`:`m`:`s`:`f` at a rate it is not valid at: R128 makes no
arithmetic with one, and no rule says what a group clock does with one it has kept across a change of its rate (R189).
Nothing can be proved about it. -/
opaque openCount : Nat → Nat → Nat → Nat → Nat → Nat

end Sys2Proof.Config
end

