-- ==== Sys2Proof/Machine/State.lean ====
section
/-! DEFINITION. The state of the BX-640 as plain data: one record per block (Section 0.3), the messages between blocks
that are on their way, the pins, and the queue of waiting commands; and the state right after reset. -/

namespace Sys2Proof.Machine

/-! ## Reasons to stop -/

/-- No command of this block stops with a fault: the spec gives each an effect in every state. -/
inductive Fault
  deriving DecidableEq, Repr

/-- Why a command could have no meaning. -/
inductive Refusal
  /-- Raised by an arm of `exec` whose command has no meaning yet; safe. No arm raises it. -/
  | notModelled (mnemonic : String)
  deriving DecidableEq, Repr

/-! ## Card Interface (Section 1) -/

/-- One element of a clip map (R1). -/
structure MapEntry where
  clipNo : Nat
  first  : Nat
  count  : Nat
  len    : Nat
  deriving DecidableEq, Repr

/-- A directory entry as it is read (12.2). -/
structure DirEntry where
  clipNo : Nat
  reel   : Nat
  first  : Nat
  count  : Nat
  len    : Nat
  frames : Nat
  rate   : Nat
  drop   : Bool
  start  : Timecode
  deriving DecidableEq, Repr

/-- How far a listing has got (1.3): awaiting the identification response, the header read, the Catalog's required
copies, the directory reads, or an answer of the hand-over. -/
inductive ListPhase | ident | header | copies | directory | handOver
  deriving DecidableEq, Repr

/-- A listing in progress (1.3): its phase, the number of the read attempt it awaits, what identification and header
told, the directory bytes read so far, the checked entries, and the entry next to be answered. -/
structure Listing where
  phase    : ListPhase
  tok      : Nat
  capacity : Nat := 0
  dirFirst : Nat := 0
  dirCount : Nat := 0
  dirSum   : Sum32 := 0
  got      : List Byte := []
  reads    : Nat := 0
  entries  : List DirEntry := []
  next     : Nat := 0
  deriving DecidableEq, Repr

/-- The one burst a bay is serving (R12): its channel and place, the first card block and byte length, PAUSED or
RUNNING, and the number of the attempt in progress. -/
structure Burst where
  ch      : Chan
  clipNo  : Nat
  ext     : Nat
  burst   : Nat
  first   : Nat
  len     : Nat
  running : Bool
  tok     : Nat
  deriving DecidableEq, Repr

/-- A card table entry (R1). The model's own: `ins` numbers the insertion, `tags` the last claim of each channel
(assumption 3). -/
structure BayEntry where
  state    : BayState := .empty
  serial   : Option Serial := none
  letter   : Option Letter := none
  body     : Option Nat := none
  wp       : Bool := false
  cls      : Nat := 0
  listed   : Bool := false
  required : Nat := 2
  cause    : Option UnreadCause := none
  map      : List MapEntry := []
  reader   : Option Chan := none
  claims   : List Chan := []
  burst    : Option Burst := none
  errors   : Nat := 0
  listing  : Option Listing := none
  ins      : Nat := 0
  tags     : Vector Nat 3 := Vector.replicate 3 0
  deriving DecidableEq, Repr

/-- The card table (R1). -/
structure CardInterface where
  bays : Vector BayEntry 6
  deriving DecidableEq, Repr

/-! ## Clip Catalog (Section 2) -/

/-- The clip records (R23), ascending by id; an id with no record is free. -/
structure Catalog where
  clips : List Clip
  deriving DecidableEq, Repr

/-! ## Order Dispatcher (Section 3) -/

/-- Where a reserved entry's answer goes (R48, R49): a POST ORDER, with its clamped marker, or the POST CARD ORDER
of that request. -/
inductive Posting | single (q : Req) (clamped : Bool) | card (q : Req)
  deriving DecidableEq, Repr

/-- An entry of the order queue (R45). `ending` holds the end kind while the unbind's answer is awaited (R58). -/
structure Order where
  id       : Nat
  clip     : Nat
  serial   : Serial := 0
  letter   : Letter := 0
  dests    : List Port
  priority : Nat
  passed   : Nat := 0
  station  : Stn
  state    : OrderState := .reserved
  chan     : Option Chan := none
  cause    : Option WaitCause := none
  abort    : Bool := false
  posting  : Option Posting := none
  ending   : Option EndKind := none
  deriving DecidableEq, Repr

/-- Who had a PENDING order removed (R59): STATION or CATALOG. -/
inductive Origin | station | catalog
  deriving DecidableEq, Repr

/-- A removed PENDING order whose unbind answer is awaited (R59, R61); `pass` when its removal runs a dispatch pass. -/
structure Leaving where
  order  : Order
  origin : Origin
  pass   : Bool
  deriving DecidableEq, Repr

/-- A POST CARD ORDER being carried out (R49). -/
structure CardPost where
  q       : Req
  dests   : List Port
  prio    : Nat
  clamped : Bool
  left    : List Nat := []
  posted  : Nat := 0
  skipped : Nat := 0
  deriving DecidableEq, Repr

/-- A dispatch pass whose Catalog reads are outstanding (R53): orders whose read is awaited, the reads that have
arrived, and whether another pass was called for meanwhile. -/
structure Pass where
  awaiting : List Nat
  reads    : List (Nat × Option Clip)
  again    : Bool
  deriving DecidableEq, Repr

/-- The Order Dispatcher: queue, channel table, views and mode (R45, R50, R62). -/
structure Dispatcher where
  orders  : List Order
  leaving : List Leaving
  posts   : List CardPost
  counter : Nat
  mode    : PartMode
  chans   : Vector (Option Nat) 3
  bays    : Vector BayView 6
  dests   : Vector DestView 4
  pass    : Option Pass
  deriving DecidableEq, Repr

/-! ## Copy Channels and Staging Store (Section 4) -/

/-- A destination list element (R65). The model's own: `newList` is the repair list a re-verification builds, `toWrite`
the extents of the running repair not yet rewritten, `lossSeen` the mark of R86. -/
structure Elem where
  port       : Port
  disp       : Disposition
  vol        : Option Serial
  hb         : Option Nat := none
  written    : Nat := 0
  nextVerify : Nat := 0
  repairList : List Nat := []
  phase      : CopyPhase
  passes     : Nat := 0
  newList    : List Nat := []
  toWrite    : List Nat := []
  lossSeen   : Bool := false
  deriving DecidableEq, Repr

/-- A repair pass (R80): extent list, how many of them have been requested, member copies, and whether the Card Interface has
granted it the card (R88). -/
structure RepairPass where
  exts    : List Nat
  done    : Nat := 0
  members : List Port
  granted : Bool := false
  deriving DecidableEq, Repr

/-- The extent being read (R73): extent and pass kind, the buffer request's number, the buffer once granted, the bytes
delivered and the burst that comes next. -/
structure Filling where
  ext   : Nat
  pass  : PassKind
  tag   : Nat
  num   : Option Nat := none
  bytes : Nat := 0
  burst : Nat := 0
  deriving DecidableEq, Repr

/-- A channel context (R65). The model's own: the camera letter for its notices, which answers are awaited (`lookup`,
`asked`, `claimAsked`, `claimTag`), whether the live pass has begun, the extent being filled, and the full buffers whose sums await an answer (R73). -/
structure Channel where
  phase       : ChanPhase := .idle
  order       : Option Nat := none
  clip        : Option Nat := none
  serial      : Serial := 0
  clipNo      : Nat := 0
  letter      : Option Letter := none
  dataLen     : Nat := 0
  extents     : Nat := 0
  mode        : Option SumMode := none
  sums        : List Sum32 := []
  next        : Nat := 0
  claim       : ClaimState := .none
  burstOut    : Bool := false
  bufferWait  : Bool := false
  dests       : List Elem := []
  repair      : Option RepairPass := none
  outstanding : Vector Nat 4 := Vector.replicate 4 0
  abort       : Bool := false
  ended       : Option EndKind := none
  lookup      : Bool := false
  asked       : Bool := false
  claimAsked  : Bool := false
  claimTag    : Nat := 0
  begun       : Bool := false
  fill        : Option Filling := none
  summing     : List (Nat × Nat × PassKind) := []
  deriving DecidableEq, Repr

/-- The three channels, and the watches of ports not yet answered (R102): port, channel, order. -/
structure Channels where
  ctx     : Vector Channel 3
  watches : List (Port × Chan × Nat)
  deriving DecidableEq, Repr

/-- A staging buffer that is not FREE (R71): FILLING while `pend` is empty, DRAINING otherwise. `data` are the bytes
delivered so far. -/
structure Buffer where
  num   : Nat
  owner : Chan
  clip  : Nat
  ext   : Nat
  pass  : PassKind
  len   : Nat
  data  : List Byte := []
  pend  : List Port := []
  deriving DecidableEq, Repr

/-- A channel in the store's wait list, and what it asked a buffer for (R72). -/
structure Waiter where
  ch   : Chan
  tag  : Nat
  clip : Nat
  ext  : Nat
  pass : PassKind
  len  : Nat
  deriving DecidableEq, Repr

/-- The Staging Store (R71, R72): the buffers that are not FREE, ascending by number; a buffer not listed is FREE. -/
structure Staging where
  bufs  : List Buffer
  waits : List Waiter
  last  : Chan
  deriving DecidableEq, Repr

/-! ## Destination Ports (Section 5) -/

/-- A volume index entry (R91): `sums` is the extent sum list, present when the header state is COMPLETE. -/
structure IndexEntry where
  hb     : Nat
  serial : Serial
  clipNo : Nat
  len    : Nat
  sums   : Option (List Sum32)
  deriving DecidableEq, Repr

/-- A write-class request (R104 to R106). -/
inductive WriteReq
  | header (ch : Chan) (order hb : Nat) (serial : Serial) (clipNo len : Nat)
  | rewrite (ch : Chan) (order hb : Nat) (sums : List Sum32)
  | extent (ch : Chan) (order num block : Nat)
  deriving DecidableEq, Repr

/-- A read-class request (R106, R107). -/
inductive ReadReq
  | verify (ch : Chan) (order ext block len : Nat) (sum : Sum32)
  | reinspect (first count run : Nat)
  deriving DecidableEq, Repr

/-- A playback read (R106). With `cut` present, a chunk header stands at that byte of the first block, and the read goes
no further than it when its preview length is 0 (R133, assumption 34). -/
structure PlayReq where
  k     : Outp
  first : Nat
  count : Nat
  cut   : Option Nat
  rtok  : Nat
  deriving DecidableEq, Repr

/-- What the drive is performing (R94 to R96, R100, R103, R117). `sumList` reads the rest of a COMPLETE header's span;
`discarded` is an operation of that kind whose result is to be discarded (R100, R110, R119). -/
inductive OpKind
  | ident
  | label
  | walk (pos : Nat)
  | sumList (pos : Nat) (e : IndexEntry) (check : Sum32)
  | format (serial : Serial)
  | soakWrite (blocks : Nat)
  | soakRead (blocks : Nat)
  | play (r : PlayReq)
  | read (r : ReadReq)
  | write (r : WriteReq)
  | discarded (was : OpKind)
  deriving DecidableEq, Repr

/-- What stands on the drive's interface while an operation runs: a read of blocks, a read of a frame whose header stands
at a byte of its first block (R133), or writes of bytes from a block onward (R104, R106). -/
inductive DriveCmd
  | none
  | identify
  | read (first count : Nat)
  | readFrame (first count cut : Nat)
  | write (parts : List (Nat × List Byte))
  deriving DecidableEq, Repr

/-- The current operation (R91) with its attempt, the attempt's number, and for a header write the recorded end its
label raise writes (R104). -/
structure DriveOp where
  kind    : OpKind
  tok     : Nat
  attempt : Nat
  raise   : Option Nat := none
  cmd     : DriveCmd := .none
  deriving DecidableEq, Repr

/-- The soak context (R117). `tx` is the transmit generator and `rx` the receiver register: bit i of either is the bit
i + 1 places before the next one. -/
structure Soak where
  len     : Nat
  limit   : Nat
  phase   : SoakPhase := .write
  pos     : Nat := 0
  tx      : BitVec 23 := BitVec.allOnes 23
  rx      : BitVec 23 := 0
  loaded  : Bool := false
  loading : Nat := 0
  errors  : Nat := 0
  deriving DecidableEq, Repr

/-- What a holder test was asked for (R112). -/
inductive TestFor
  | soak (len limit : Nat) (clamped : Bool)
  | format (serial : Serial)
  deriving DecidableEq, Repr

/-- An outstanding holder test (R112): the request, the channels whose answer is awaited, and whether it has failed. -/
structure HolderTest where
  q        : Req
  what     : TestFor
  awaiting : List Chan
  failed   : Bool
  deriving DecidableEq, Repr

/-- A port context (R91). The request queue is its four classes; the soak class is the soak context's own sequence.
The index-full flag is read off the index. The model's own: the holder test (R112) and the unanswered watches, each with the order it names
(R111). -/
structure PortCtx where
  state     : PortState := .absent
  capacity  : Option Nat := none
  vol       : Option Serial := none
  recEnd    : Option Nat := none
  alloc     : Option Nat := none
  qual      : Qual := .untested
  index     : List IndexEntry := []
  holders   : Vector (Option (Nat × Nat)) 3 := Vector.replicate 3 none
  plays     : List PlayReq := []
  reads     : List ReadReq := []
  writes    : List WriteReq := []
  op        : Option DriveOp := none
  lastClass : ServedClass := .write
  lastChan  : Chan := 2
  format    : Option Serial := none
  soak      : Option Soak := none
  test      : Option HolderTest := none
  watching  : List (Chan × Nat) := []
  deriving DecidableEq, Repr

/-- The four ports. -/
structure Ports where
  ctx : Vector PortCtx 4
  deriving DecidableEq, Repr

/-! ## Frame Extractor and Preview Pool (Section 6) -/

/-- An accepted chunk header (R121). -/
structure ChunkHdr where
  len     : Nat
  index   : Nat
  tc      : Timecode
  preview : Nat
  deriving DecidableEq, Repr

/-- The chunk whose bytes are passing (R121): its header, how many of its bytes have passed, whether its plane is
gathered. -/
structure Chunk where
  hdr     : ChunkHdr
  taken   : Nat
  offered : Bool
  deriving DecidableEq, Repr

/-- The fields all parse contexts share (R121). `gather` are the bytes of the next chunk header taken so far and
`planeRev` the plane bytes gathered so far, newest first. -/
structure Parse where
  state     : ParseState := .idle
  clip      : Option Nat := none
  dataLen   : Nat := 0
  frames    : Nat := 0
  pos       : Nat := 0
  ordinal   : Nat := 0
  lastIndex : Option Nat := none
  chunk     : Option Chunk := none
  gather    : List Byte := []
  planeRev  : List Byte := []
  deriving DecidableEq, Repr

/-- What a channel has delivered to a live context whose inspection state is still being asked (R124). -/
inductive LiveEvent | start (clip : Nat) (desc : Desc) | bytes (bs : List Byte) | endOfData | cutOff
  deriving DecidableEq, Repr

/-- A live context (R121). `held` are deliveries that came before the Catalog's answer (assumption 11). -/
structure LiveCtx where
  parse      : Parse := {}
  pass       : Nat := 0
  inspecting : Bool := false
  placed     : Nat := 0
  skipped    : Nat := 0
  asking     : Bool := false
  held       : List LiveEvent := []
  deriving DecidableEq, Repr

/-- A playback context (R121, R133): the copy read, the fetch list (run and frame), and the read in progress with the
clip byte it starts at. -/
structure PlayCtx where
  parse   : Parse := {}
  src     : Option Source := none
  fetches : List (Nat × Nat) := []
  rtok    : Option Nat := none
  deriving DecidableEq, Repr

/-- The re-inspection context (R121, R134). `held` are the bytes of the delivered read not yet taken; `early` is a read
delivered before the start of its run (assumption 11). -/
structure ReCtx where
  parse   : Parse := {}
  run     : Nat := 0
  src     : Option Source := none
  placed  : Nat := 0
  skipped : Nat := 0
  held    : List Byte := []
  early   : Option (Nat × List Byte) := none
  deriving DecidableEq, Repr

/-- An entry of the settle list (R127). -/
structure Settle where
  pass    : Nat
  clip    : Nat
  skipped : Nat
  left    : Nat
  deriving DecidableEq, Repr

/-- The Frame Extractor (R121). -/
structure Extractor where
  live   : Vector LiveCtx 3
  play   : Vector PlayCtx 4
  re     : ReCtx
  steps  : Vector Nat 3
  settle : List Settle
  passes : Nat
  deriving DecidableEq, Repr

/-- The users that keep a preview slot in use (R129). -/
inductive Holder | inspect | output (k : Outp) | newest (c : Chan)
  deriving DecidableEq, Repr

/-- A preview slot that is held (R129). -/
structure Slot where
  num     : Nat
  src     : SlotSource
  hdr     : FrameHdr
  plane   : List Byte
  holders : List Holder
  deriving DecidableEq, Repr

/-- The Preview Pool (R129 to R131): the held slots, ascending by number; a slot not listed is FREE. -/
structure Pool where
  slots  : List Slot
  queue  : List Nat
  seqs   : Vector Nat 3
  counts : Vector Nat 3
  deriving DecidableEq, Repr

/-! ## Inspector (Section 7) -/

/-- A continuity context (R137): CHECKING while `checking`. `pass` is the pass it was started for. -/
structure Continuity where
  checking  : Bool := false
  pass      : Nat := 0
  clip      : Option Nat := none
  rate      : Nat := 0
  drop      : Bool := false
  frames    : Nat := 0
  lastIndex : Option Nat := none
  lastTc    : Option Timecode := none
  deriving DecidableEq, Repr

/-- The six thresholds (R149). -/
structure Thresholds where
  clipLevel  : Nat := 4064
  clipArea   : Nat := 5184
  clipRun    : Nat := 3
  blackLevel : Nat := 64
  darkLimit  : Nat := 256
  hotLevel   : Nat := 3072
  deriving DecidableEq, Repr

/-- The slot the engine is analysing (R141): what it read at the take, the Catalog's answer about the clip once it has
come (its camera letter, or that the id is free), and whether the analysis has completed. -/
structure Analysis where
  tok    : Nat
  slot   : Nat
  src    : SlotSource
  hdr    : FrameHdr
  plane  : List Byte
  limits : Thresholds
  letter : Option (Option Letter) := none
  done   : Bool := false
  deriving DecidableEq, Repr

/-- An analysis context (R142). The pass number, to which R142 gives no reset value, starts at 0 (the model's choice,
assumption 90). -/
structure AnalysisCtx where
  pass     : Nat := 0
  clip     : Option Nat := none
  letter   : Option Letter := none
  run      : Nat := 0
  runFirst : Option Nat := none
  filed    : Bool := false
  deriving DecidableEq, Repr

/-- A hot-site table entry (R147). -/
structure Site where
  letter   : Letter
  x        : Nat
  y        : Nat
  hits     : Nat
  reported : Bool
  clip     : Nat
  deriving DecidableEq, Repr

/-- A copy the reader or an output asked about, and its port's answer once it has come (R151, R195). -/
structure Candidate where
  src    : Source
  answer : Option Bool := none
  deriving DecidableEq, Repr

/-- The re-inspection reader (R151). `counts` are the context's final counts once taken (R153); `q` the request being
answered; `run` numbers the re-inspection, and `consumed` marks a report of a read consumed that came before the read's answer. -/
structure Reader where
  state   : ReState := .idle
  q       : Option Req := none
  clip    : Option Nat := none
  serial  : Serial := 0
  letter  : Letter := 0
  dataLen : Nat := 0
  frames  : Nat := 0
  extents : Nat := 0
  src     : Option Source := none
  cands   : List Candidate := []
  next    : Nat := 0
  left    : Nat := 0
  readOut : Bool := false
  consumed : Bool := false
  placed  : Nat := 0
  anal    : Nat := 0
  skipped : Nat := 0
  ended   : Option ReEnd := none
  final   : Bool := false
  run     : Nat := 0
  deriving DecidableEq, Repr

/-- The Inspector (Section 7). `ctxs` are LIVE 0, LIVE 1, LIVE 2 and REINSPECT. -/
structure Inspector where
  conts  : Vector Continuity 3
  engine : Option Analysis
  ctxs   : Vector AnalysisCtx 4
  limits : Thresholds
  sites  : List Site
  reader : Reader
  deriving DecidableEq, Repr

/-! ## Fault List (Section 8) -/

/-- Who cleared a finding (R157). -/
inductive ClearedBy | station (st : Stn) | part
  deriving DecidableEq, Repr

/-- A finding (R157). -/
structure Finding where
  id      : Nat
  clip    : Nat
  serial  : Serial
  letter  : Letter
  kind    : FindingKind
  cls     : FindingClass
  qual    : Option Qualifier
  span    : Option (Nat × Nat)
  count   : Nat
  state   : FindingState := .opened
  ackBy   : Option Stn := none
  clearBy : Option ClearedBy := none
  deriving DecidableEq, Repr

/-- What the Fault List has yet to look up and place, in arrival order (R159, R168). -/
inductive FaultItem | occ (o : Occurrence) | verified (clip : Nat) (vol : Serial)
  deriving DecidableEq, Repr

/-- The Fault List (R157). `queue` holds the items taken in order, the head being looked up; `asks` the numbers of the
lookups outstanding; `purged` each purged id with the lookups that were outstanding when its list was taken (R169);
`sent` the last-sent blocking counts that are not 0 (R170). -/
structure FaultList where
  list    : List Finding
  classes : Vector FindingClass 18
  counter : Nat
  queue   : List FaultItem
  asks    : List Nat
  purged  : List (Nat × List Nat)
  sent    : List (Nat × Nat)
  deriving DecidableEq, Repr

/-! ## Look Bank (Section 9) -/

/-- A look slot (R172). -/
structure LookSlot where
  active      : LookRec
  pending     : Option LookRec
  pendingName : Option (List Nat)
  holder      : Option Stn
  version     : Nat
  name        : List Nat
  deriving DecidableEq, Repr

/-- The fill context (R179); `tok` numbers the slot write in progress. -/
structure Fill where
  first  : Nat
  last   : Nat
  st     : Stn
  next   : Nat
  look   : LookRec
  preset : Preset
  tok    : Nat
  deriving DecidableEq, Repr

/-- The Look Bank (R172). -/
structure LookBank where
  slots    : Vector LookSlot 32
  defaults : Vector LookIx 8
  fill     : Option Fill
  deriving DecidableEq, Repr

/-! ## Renderer and Outputs (Section 10) -/

/-- One sample of an output frame: the R, G and B codes. -/
structure Rgb where
  r : Nat
  g : Nat
  b : Nat
  deriving DecidableEq, Repr

/-- Status of a prefetch entry (R188). -/
inductive FetchStatus
  | requested | late | placed (slot : Nat) (hdr : FrameHdr) | noPlane | noSlot | failed | beyondEnd | unparsable
  deriving DecidableEq, Repr

/-- A prefetch entry (R188); `run` and `src` are the playback and the source copy the fetch belongs to. -/
structure Prefetch where
  frame  : Nat
  run    : Nat
  src    : Option Source
  status : FetchStatus
  deriving DecidableEq, Repr

/-- The preview slot an output shows (R188), with the clip frame number for playback. -/
structure Current where
  slot  : Nat
  hdr   : FrameHdr
  src   : SlotSource
  seq   : Nat
  frame : Nat
  deriving DecidableEq, Repr

/-- What an output selected at a boundary (R192). -/
inductive Selection | plane | pattern | miss
  deriving DecidableEq, Repr

/-- How far a boundary has got (R192): awaiting the pool, the clip lookup, or ready with its effective slot. -/
inductive BoundaryStage | pool (c : Chan) | lookup | ready (slot : LookIx) | latching
  deriving DecidableEq, Repr

/-- A boundary in progress (R192); `grp` is the group whose boundary it is, if any, and `event` the number of the boundary
event, which the members of a group take as one (R191). -/
structure Boundary where
  tok   : Nat
  grp   : Option Grp
  event : Nat
  sel   : Selection
  stage : BoundaryStage
  deriving DecidableEq, Repr

/-- The clip an output plays (R188), with the letter its notices carry. -/
structure PlayClip where
  clip   : Nat
  frames : Nat
  start  : Timecode
  rate   : Nat
  letter : Letter
  deriving DecidableEq, Repr

/-- A latched look (R188). -/
structure Latched where
  slot    : LookIx
  version : Nat
  look    : LookRec
  deriving DecidableEq, Repr

/-- A PLAY locating its source (R195). -/
structure Locate where
  q     : Req
  clip  : Nat
  start : Nat
  cands : List Candidate
  deriving DecidableEq, Repr

/-- An output context (R188). The model's own: `stale` are replaced slots not yet dropped (R192), `patternHeld` that
the last boundary selected a PATTERN route (R193), `bnd` the boundary in progress, `locate` a PLAY being located, `why`
the cause of ENDED, `run` the number of the playback, and `pins` the frame going out. -/
structure Output where
  enabled     : Bool := false
  rate        : Nat := 1
  route       : Route := .none
  override_   : Option LookIx := none
  miss        : MissState := .black
  group       : Option Grp := none
  offset      : Int := 0
  play        : PlayState := .stopped
  clip        : Option PlayClip := none
  pos         : Nat := 0
  src         : Option Source := none
  unsynced    : Bool := false
  prefetch    : List Prefetch := []
  current     : Option Current := none
  latched     : Option Latched := none
  store       : Option (List Rgb) := none
  late        : Nat := 0
  stale       : List Nat := []
  patternHeld : Bool := false
  bnd         : Option Boundary := none
  locate      : Option Locate := none
  why         : Option PlayEnd := none
  run         : Nat := 0
  pins        : Option (List Rgb) := none
  deriving DecidableEq, Repr

/-- A sync-group clock (R189). -/
structure Clock where
  tc      : Timecode := ⟨0, 0, 0, 0⟩
  rate    : Option Nat := none
  running : Bool := false
  first   : Bool := false
  lead    : Option Outp := none
  deriving DecidableEq, Repr

/-- The Renderer and Outputs (R188, R189). -/
structure Renderer where
  outs   : Vector Output 4
  clocks : Vector Clock 2
  deriving DecidableEq, Repr

/-! ## Station Ports (Section 11) -/

/-- An entry of a response list (R206): the request's tag, its number when it was admitted, its answer once ready, and
whether it is a RESET PART (R213). -/
structure Response where
  tag      : BitVec 32
  rid      : Nat
  admitted : Bool
  answer   : Option Answer
  reset    : Bool := false
  deriving DecidableEq, Repr

/-- A notice as it stands in a FIFO (R209, R211). -/
structure Delivered where
  seq    : Nat
  gap    : Bool
  notice : Notice
  deriving DecidableEq, Repr

/-- A notice filter (R210). -/
structure Filter where
  enabled  : Bool := false
  kinds    : List NoticeKind := []
  letter   : Option Letter := none
  bay      : Option Bay := none
  minClass : FindingClass := .advisory
  deriving DecidableEq, Repr

/-- The message a link took last, as bytes (R212, R216). -/
inductive Sent | nothing | response (bytes : List Byte) | notice (bytes : List Byte)
  deriving DecidableEq, Repr

/-- A station context (R203). The model's own: `backlog` are messages the link holds back by its flow control (R206),
`sent` the message last put on the link. -/
structure Station where
  link       : LinkState := .down
  role       : Role := .loader
  sup        : Bool := false
  strapFault : Bool := false
  responses  : List Response := []
  unanswered : Nat := 0
  fifo       : List Delivered := []
  gap        : Bool := false
  filters    : Vector Filter 4 := Vector.replicate 4 {}
  backlog    : List Message := []
  sent       : Sent := .nothing
  deriving DecidableEq, Repr

/-- The Station Ports (R203, R209); `rid` numbers the next admitted request. -/
structure StationPorts where
  stations : Vector Station 4
  seq      : Nat
  rid      : Nat
  deriving DecidableEq, Repr

/-! ## The whole machine -/

/-- The senders and receivers of messages (Section 0.3); a station's requests keep their order per station (R206). -/
inductive Node
  | ci | cat | ods | cc (ch : Chan) | sts | dp (p : Port) | fx | pp | ins | fl | lb | ro | sp | station (st : Stn)
  deriving DecidableEq, Repr

/-- A message on its way between two blocks: the command it is when it arrives. -/
structure Wire where
  src : Node
  dst : Node
  msg : Instr
  deriving DecidableEq, Repr

/-- The state of the BX-640. `wire` holds the messages sent and not yet taken, oldest first; `token` numbers attempts,
insertions and reads; `arrivals` counts deliveries; `pending` is the queue of waiting commands. -/
structure State where
  ci       : CardInterface
  cat      : Catalog
  ods      : Dispatcher
  cc       : Channels
  sts      : Staging
  dp       : Ports
  fx       : Extractor
  pp       : Pool
  ins      : Inspector
  fl       : FaultList
  lb       : LookBank
  ro       : Renderer
  sp       : StationPorts
  pins     : Pins
  wire     : List Wire
  token    : Nat
  arrivals : Nat
  pending  : List Instr
  deriving DecidableEq, Repr

/-! ## Reset values -/

/-- The identity look: matrix, trim and curves absent, encoding LEGAL (R172). -/
def identityLook : LookRec := { matrix := none, trim := none, curves := none, enc := .legal }

/-- The card table after reset (R1). -/
def CardInterface.reset : CardInterface := { bays := Vector.replicate 6 {} }

/-- The Catalog after reset: every id free (R23). -/
def Catalog.reset : Catalog := { clips := [] }

/-- The Order Dispatcher after reset (R45, R50). -/
def Dispatcher.reset : Dispatcher :=
  { orders := [], leaving := [], posts := [], counter := 0, mode := .hold
    chans := Vector.replicate 3 none
    bays := Vector.replicate 6 { state := .empty, serial := none, reading := false }
    dests := Vector.replicate 4 { state := .absent, vol := none, qual := .untested, indexFull := false, free := 0 }
    pass := none }

/-- The channels after reset: IDLE (R65). -/
def Channels.reset : Channels := { ctx := Vector.replicate 3 {}, watches := [] }

/-- The Staging Store after reset (R71). -/
def Staging.reset : Staging := { bufs := [], waits := [], last := 2 }

/-- The ports after reset: ABSENT (R91). -/
def Ports.reset : Ports := { ctx := Vector.replicate 4 {} }

/-- The Frame Extractor after reset (R121). -/
def Extractor.reset : Extractor :=
  { live := Vector.replicate 3 {}, play := Vector.replicate 4 {}, re := {}, steps := Vector.replicate 3 1
    settle := [], passes := 0 }

/-- The Preview Pool after reset (R129, R131). -/
def Pool.reset : Pool :=
  { slots := [], queue := [], seqs := Vector.replicate 3 0, counts := Vector.replicate 3 0 }

/-- The Inspector after reset (R137, R141, R142, R147, R149, R151). -/
def Inspector.reset : Inspector :=
  { conts := Vector.replicate 3 {}, engine := none, ctxs := Vector.replicate 4 {}, limits := {}, sites := []
    reader := {} }

/-- The class table after reset, in the kind order of R158. -/
def defaultClasses : Vector FindingClass 18 :=
  #v[.blocking, .blocking, .blocking, .warning, .warning, .warning, .advisory, .blocking, .warning, .warning,
     .warning, .advisory, .warning, .warning, .advisory, .warning, .warning, .advisory]

/-- The Fault List after reset (R157). -/
def FaultList.reset : FaultList :=
  { list := [], classes := defaultClasses, counter := 0, queue := [], asks := [], purged := [], sent := [] }

/-- The Look Bank after reset (R172, R182). -/
def LookBank.reset : LookBank :=
  { slots := Vector.replicate 32
      { active := identityLook, pending := none, pendingName := none, holder := none, version := 0, name := [] }
    defaults := Vector.replicate 8 0
    fill := none }

/-- The outputs and group clocks after reset (R188, R189). -/
def Renderer.reset : Renderer := { outs := Vector.replicate 4 {}, clocks := Vector.replicate 2 {} }

/-- The pins at `State.reset`: no supervisor strap, role straps at their first value, nothing inserted
(DESIGN CHOICE, assumption 4: POWER_ON_RESET carries the real levels). -/
def pinsAtReset : Pins :=
  { roleStrap := Vector.replicate 4 .loader, superStrap := Vector.replicate 4 false
    cardDetect := Vector.replicate 6 false, writeProt := Vector.replicate 6 false
    driveDetect := Vector.replicate 4 false }

/-- The Station Ports after power-on reset with those pins (R203, R209). -/
def StationPorts.reset : StationPorts := { stations := Vector.replicate 4 {}, seq := 0, rid := 0 }

/-- The RO reports a LIVE count of 0 for each channel after either reset (R188). -/
def liveZero : List Wire := (List.finRange 3).map fun c => ⟨.ro, .pp, .liveCountReport c 0⟩

/-- The machine right after power-on reset with nothing in its bays and ports. -/
def State.reset : State :=
  { ci := .reset, cat := .reset, ods := .reset, cc := .reset, sts := .reset, dp := .reset, fx := .reset, pp := .reset
    ins := .reset, fl := .reset, lb := .reset, ro := .reset, sp := .reset, pins := pinsAtReset
    wire := liveZero, token := 0, arrivals := 0, pending := [] }

end Sys2Proof.Machine
end

