-- ==== Sys2Proof/Machine/Formats.lean ====
section
/-! DEFINITION. Sizes derived from a data length, timecode arithmetic (R128), the extent sum (R70), the byte layouts of
cards, clip data and volumes (R215), and the packed fields of messages (R216). -/

namespace Sys2Proof.Machine

/-! ## Sizes -/

/-- `n` divided by `d`, rounded up. -/
def ceilDiv (n d : Nat) : Nat := (n + d - 1) / d

/-- Extent count of a data length (R23, 12.4). -/
def extentsOf (len : Nat) : Nat := ceilDiv len Config.extentBytes

/-- Extent count a clip record holds: 0 above 64 GiB (R23). -/
def recordExtents (len : Nat) : Nat := if len > Config.maxClipBytes then 0 else extentsOf len

/-- Header span of a copy with that many extents (R51, R91). -/
def spanOf (extents : Nat) : Nat := 1 + ceilDiv extents 1024

/-- Data blocks of a data length (R51). -/
def dataBlocks (len : Nat) : Nat := ceilDiv len Config.blockBytes

/-- Length in bytes of extent `ext` of a clip of `len` bytes: only the last may be shorter (0.4). -/
def extentLen (len ext : Nat) : Nat := min Config.extentBytes (len - ext * Config.extentBytes)

/-- Bytes of burst `burst` of extent `ext` (1.5): only the last burst of the clip may be shorter. -/
def burstLen (len ext burst : Nat) : Nat :=
  min Config.burstBytes (len - (ext * Config.extentBytes + burst * Config.burstBytes))

/-! ## Timecodes (R128) -/

/-- Frames per second of a rate code (0.4); 0 for a number that is no rate code. -/
def fps (rate : Nat) : Nat :=
  match rate with
  | 1 => 24 | 2 => 25 | 3 => 30 | 4 => 48 | 5 => 50 | 6 => 60 | _ => 0

/-- Frames in a day at a rate (R128). -/
def dayFrames (rate : Nat) : Nat := 86400 * fps rate

/-- A timecode is valid at a rate (R128). -/
def tcValid (rate : Nat) (t : Timecode) : Bool := t.h < 24 && t.m < 60 && t.s < 60 && t.f < fps rate

/-- Count of a timecode (R128); of one that is not valid at the rate, a free value (assumption 5). -/
def tcCount (rate : Nat) (t : Timecode) : Nat :=
  if tcValid rate t then ((t.h * 60 + t.m) * 60 + t.s) * fps rate + t.f
  else Config.openCount rate t.h t.m t.s t.f

/-- The timecode of a count (R128). -/
def tcOf (rate n : Nat) : Timecode :=
  let q := n / fps rate
  { h := q / 3600, m := q / 60 % 60, s := q % 60, f := n % fps rate }

/-- The next timecode (R128). -/
def tcNext (rate : Nat) (t : Timecode) : Timecode := tcOf rate ((tcCount rate t + 1) % dayFrames rate)

/-- A timecode plus `k` frames, `k` maybe negative (R128). -/
def tcPlus (rate : Nat) (t : Timecode) (k : Int) : Timecode :=
  tcOf rate (((tcCount rate t : Int) + k) % (dayFrames rate : Int)).toNat

/-- Difference of `t` from `t0` (R128). -/
def tcDiff (rate : Nat) (t t0 : Timecode) : Nat :=
  (((tcCount rate t : Int) - (tcCount rate t0 : Int)) % (dayFrames rate : Int)).toNat

/-! ## Bytes -/

/-- `v` as `n` bytes, low byte first (R215). -/
def leBytes : Nat → Nat → List Byte
  | 0, _ => []
  | n + 1, v => BitVec.ofNat 8 v :: leBytes n (v / 256)

/-- The number stored low byte first (R215). -/
def leNat : List Byte → Nat
  | [] => 0
  | b :: bs => b.toNat + 256 * leNat bs

/-- The number of `n` bytes at offset `off`. -/
def leAt (bs : List Byte) (off n : Nat) : Nat := leNat ((bs.drop off).take n)

/-- One word into the two accumulators of the extent sum (R70). -/
def sumWord (ab : Nat × Nat) (w : Nat) : Nat × Nat :=
  let a := (ab.1 + w) % 65535
  (a, (ab.2 + a) % 65535)

/-- The accumulators after a run of bytes taken in pairs, low byte first (R70). -/
def sumPairs : Nat × Nat → List Byte → Nat × Nat
  | ab, [] => ab
  | ab, [x] => sumWord ab x.toNat
  | ab, x :: y :: rest => sumPairs (sumWord ab (x.toNat + 256 * y.toNat)) rest

/-- The extent sum of a run of bytes (R70), also every check value (R215). -/
def extentSum (bs : List Byte) : Sum32 :=
  let ab := sumPairs (1, 0) bs
  BitVec.ofNat 32 (ab.2 * 65536 + ab.1)

/-- Four bytes of a timecode (R215). -/
def tcBytes (t : Timecode) : List Byte :=
  [BitVec.ofNat 8 t.h, BitVec.ofNat 8 t.m, BitVec.ofNat 8 t.s, BitVec.ofNat 8 t.f]

/-- The timecode of four bytes at an offset (R215). -/
def tcAt (bs : List Byte) (off : Nat) : Timecode :=
  { h := leAt bs off 1, m := leAt bs (off + 1) 1, s := leAt bs (off + 2) 1, f := leAt bs (off + 3) 1 }

/-- The camera letter a byte names, 41h to 48h (R215). -/
def letterOf (n : Nat) : Option Letter := if n < 65 then none else ix? 8 (n - 65)

/-! ## Cards (12.2) -/

/-- The fields of a card volume header that is accepted (R3). -/
structure CardHdr where
  serial   : Serial
  letter   : Letter
  body     : Nat
  dirCount : Nat
  dirFirst : Nat
  dirSum   : Sum32
  deriving DecidableEq, Repr

/-- Read the card volume header; `none` when R3 rejects it. -/
def readCardHdr (capacity : Nat) (bs : List Byte) : Option CardHdr :=
  if bs.take 4 ≠ [0x42, 0x58, 0x43, 0x44] then none else
  if BitVec.ofNat 32 (leAt bs 29 4) ≠ extentSum (bs.take 29) then none else
  match letterOf (leAt bs 12 1) with
  | none => none
  | some letter =>
    let h : CardHdr :=
      { serial := BitVec.ofNat 64 (leAt bs 4 8), letter := letter, body := leAt bs 13 2
        dirCount := leAt bs 15 2, dirFirst := leAt bs 17 8, dirSum := BitVec.ofNat 32 (leAt bs 25 4) }
    if h.serial = 0 then none else
    if h.dirCount > 999 then none else
    if h.dirCount ≠ 0 ∧ h.dirFirst + ceilDiv h.dirCount 64 > capacity then none else
    some h

/-- One 64-byte directory entry (12.2). -/
def readDirEntry (bs : List Byte) : DirEntry :=
  { clipNo := leAt bs 0 2, reel := leAt bs 2 2, first := leAt bs 4 8, count := leAt bs 12 4, len := leAt bs 16 8
    frames := leAt bs 24 3, rate := leAt bs 27 1, drop := leAt bs 28 1 % 2 = 1, start := tcAt bs 29 }

/-- The directory's entries, in order (12.2). -/
def readDirEntries : Nat → List Byte → List DirEntry
  | 0, _ => []
  | n + 1, bs => readDirEntry (bs.take 64) :: readDirEntries n (bs.drop 64)

/-- One directory entry passes the tests of R5. -/
def dirEntryOk (capacity : Nat) (e : DirEntry) : Bool :=
  1 ≤ e.clipNo && e.clipNo ≤ 999 && e.len ≠ 0 && e.frames ≠ 0 && 1 ≤ e.reel && e.reel ≤ 999 &&
  e.first + e.count ≤ capacity && dataBlocks e.len ≤ e.count

/-- The bytes the directory's check value covers: of each entry, in order, those its table lists (12.2). The rest of the 64
are in no check value (R215, assumption 77). -/
def dirCovered : Nat → List Byte → List Byte
  | 0, _ => []
  | n + 1, bs => bs.take 33 ++ dirCovered n (bs.drop 64)

/-- No two entries share a clip number (R5). -/
def clipNosDistinct : List DirEntry → Bool
  | [] => true
  | e :: es => !(es.any fun x => x.clipNo = e.clipNo) && clipNosDistinct es

/-- Check a directory as a whole; `none` when R5 rejects it. -/
def checkDirectory (capacity count : Nat) (check : Sum32) (bs : List Byte) : Option (List DirEntry) :=
  let es := readDirEntries count bs
  if extentSum (dirCovered count bs) = check ∧ es.all (dirEntryOk capacity) ∧ clipNosDistinct es then some es else none

/-! ## Clip data (12.3) -/

/-- Read 64 bytes as a chunk header at byte `pos` of a clip of `len` bytes; `none` when R122 does not accept it. Of offsets 0
to 59 its table lists 0 to 18, and the check value covers those (R215, assumption 77). -/
def readChunkHdr (pos len : Nat) (bs : List Byte) : Option ChunkHdr :=
  if bs.take 4 ≠ [0x42, 0x58, 0x46, 0x43] then none else
  if BitVec.ofNat 32 (leAt bs 60 4) ≠ extentSum (bs.take 19) then none else
  let h : ChunkHdr := { len := leAt bs 4 4, index := leAt bs 8 3, tc := tcAt bs 11, preview := leAt bs 15 4 }
  if h.preview ≠ 0 ∧ h.preview ≠ Config.planeBytes then none else
  if h.len < 64 + h.preview then none else
  if pos + h.len > len then none else
  some h

/-- A 12-bit sample of a plane. -/
abbrev Sample := Nat × Nat × Nat

/-- The samples of a plane: each 9 bytes hold two of them (12.3). -/
def planeSamples : List Byte → List Sample
  | b0 :: b1 :: b2 :: b3 :: b4 :: b5 :: b6 :: b7 :: b8 :: rest =>
    let v := leNat [b0, b1, b2, b3, b4, b5, b6, b7, b8]
    (v % 4096, v / 4096 % 4096, v / 4096 ^ 2 % 4096) ::
    (v / 4096 ^ 3 % 4096, v / 4096 ^ 4 % 4096, v / 4096 ^ 5 % 4096) :: planeSamples rest
  | _ => []

/-! ## Shuttle volumes (12.4) -/

/-- The volume label as it is written, without its check value. -/
def labelBody (serial : Serial) (capacity recEnd : Nat) : List Byte :=
  [0x42, 0x58, 0x53, 0x4C] ++ leBytes 8 serial.toNat ++ leBytes 8 capacity ++ leBytes 8 recEnd

/-- The volume label as it is written (R100, R104). -/
def labelBytes (serial : Serial) (capacity recEnd : Nat) : List Byte :=
  labelBody serial capacity recEnd ++ leBytes 4 (extentSum (labelBody serial capacity recEnd)).toNat

/-- Read a volume label on a drive of that capacity (R95): the serial and recorded end, or why it is rejected. -/
def readLabel (capacity : Nat) (bs : List Byte) : Except ScanCause (Serial × Nat) :=
  if bs.take 4 ≠ [0x42, 0x58, 0x53, 0x4C] then .error .labelAbsent else
  let serial := BitVec.ofNat 64 (leAt bs 4 8)
  let recEnd := leAt bs 20 8
  if BitVec.ofNat 32 (leAt bs 28 4) ≠ extentSum (bs.take 28) ∨ serial = 0 ∨ leAt bs 12 8 ≠ capacity ∨
     recEnd = 0 ∨ recEnd > capacity then .error .labelDamaged else
  .ok (serial, recEnd)

/-- The clip header's fields as they are written, without the header check value. -/
def clipHdrBody (vol : Serial) (st : HeaderState) (serial : Serial) (clipNo len : Nat) (check : Sum32) : List Byte :=
  [0x42, 0x58, 0x43, 0x48] ++ leBytes 8 vol.toNat ++ leBytes 1 (st.ctorIdx + 1) ++ leBytes 8 serial.toNat ++
  leBytes 2 clipNo ++ leBytes 8 len ++ leBytes 4 check.toNat

/-- The first 39 bytes of a clip header as it is written (R104, R105). -/
def clipHdrBytes (vol : Serial) (st : HeaderState) (serial : Serial) (clipNo len : Nat) (check : Sum32) : List Byte :=
  clipHdrBody vol st serial clipNo len check ++
  leBytes 4 (extentSum (clipHdrBody vol st serial clipNo len check)).toNat

/-- An extent sum list as bytes (12.4). -/
def sumListBytes (sums : List Sum32) : List Byte := sums.flatMap fun s => leBytes 4 s.toNat

/-- The extent sums stored in a run of bytes (12.4). -/
def readSumList : Nat → List Byte → List Sum32
  | 0, _ => []
  | n + 1, bs => BitVec.ofNat 32 (leAt bs 0 4) :: readSumList n (bs.drop 4)

/-- Bytes padded with zeros to a length (R106, R215). -/
def padTo (n : Nat) (bs : List Byte) : List Byte := bs ++ List.replicate (n - bs.length) 0

/-- A clip header found by the walk: the index entry it makes while its sum list is unread, whether it is COMPLETE, and
the stored check value of the list. -/
structure FoundHdr where
  entry    : IndexEntry
  complete : Bool
  check    : Sum32
  deriving DecidableEq, Repr

/-- Read block `pos` as a clip header on a volume (R96); `none` when it is not a valid header. -/
def readClipHdr (vol : Serial) (recEnd pos : Nat) (bs : List Byte) : Option FoundHdr :=
  if bs.take 4 ≠ [0x42, 0x58, 0x43, 0x48] then none else
  if BitVec.ofNat 32 (leAt bs 35 4) ≠ extentSum (bs.take 35) then none else
  if BitVec.ofNat 64 (leAt bs 4 8) ≠ vol then none else
  let st := leAt bs 12 1
  let clipNo := leAt bs 21 2
  let len := leAt bs 23 8
  if st ≠ 1 ∧ st ≠ 2 then none else
  if clipNo = 0 ∨ clipNo > 999 ∨ len = 0 ∨ len > Config.maxClipBytes then none else
  if pos + spanOf (extentsOf len) + dataBlocks len > recEnd then none else
  some { entry := { hb := pos, serial := BitVec.ofNat 64 (leAt bs 13 8), clipNo := clipNo, len := len, sums := none }
         complete := st = 2
         check := BitVec.ofNat 32 (leAt bs 31 4) }

/-! ## Packed fields (R216) -/

def u8 (n : Nat) : List Field := [⟨1, n⟩]
def u16 (n : Nat) : List Field := [⟨2, n⟩]
def u32 (n : Nat) : List Field := [⟨4, n⟩]
def u64 (n : Nat) : List Field := [⟨8, n⟩]

/-- A serial. -/
def fSerial (s : Serial) : List Field := u64 s.toNat
/-- A flag: 1 for set. -/
def fFlag (b : Bool) : List Field := u8 (if b then 1 else 0)
/-- A named value by its place, from 0, in its rule's list: numbered from 1. -/
def fNamed (place : Nat) : List Field := u8 (place + 1)
/-- A camera letter. -/
def fLetter (l : Letter) : List Field := u8 (65 + l.val)
/-- A timecode. -/
def fTc (t : Timecode) : List Field := u8 t.h ++ u8 t.m ++ u8 t.s ++ u8 t.f
/-- A signed number of `size` bytes. -/
def fInt (size : Nat) (v : Int) : List Field := [⟨size, (v % (256 ^ size : Nat)).toNat⟩]
/-- An optional field of the given widths: a presence byte, and zeros when absent. -/
def fOpt {α : Type} (widths : List Nat) (f : α → List Field) : Option α → List Field
  | some a => u8 1 ++ f a
  | none => u8 0 ++ widths.map fun w => ⟨w, 0⟩
/-- A list: its count, then its elements. -/
def fList {α : Type} (f : α → List Field) (l : List α) : List Field := u16 l.length ++ l.flatMap f
/-- A name: its count of characters, then the characters. -/
def fName (n : List Nat) : List Field := u8 n.length ++ n.flatMap u8

/-- The bytes of a run of fields. -/
def fieldBytes (fs : List Field) : List Byte := fs.flatMap fun f => leBytes f.size f.val

/-- A trim as fields: gain and offset of each channel. -/
def fTrim (t : Vector Trim 3) : List Field := t.toList.flatMap fun c => u16 c.gain ++ fInt 2 c.offset

/-- A look record as fields (R173, R216). -/
def fLook (l : LookRec) : List Field :=
  fOpt (List.replicate 9 2) (fun m => m.toList.flatMap (fInt 2)) l.matrix ++
  fOpt (List.replicate 6 2) fTrim l.trim ++
  fOpt (List.replicate 99 2) (fun c => c.toList.flatMap fun v => v.toList.flatMap u16) l.curves ++
  fNamed l.enc.ctorIdx

/-- A span, where a finding has one (R157). -/
def fSpan (span : Option (Nat × Nat)) : List Field := fOpt [4, 4] (fun s => u32 s.1 ++ u32 s.2) span

/-- A qualifier (R157): an optional volume serial, then an optional site (assumption 75). -/
def fQualifier (qual : Option Qualifier) : List Field :=
  fOpt [8] fSerial (match qual with | some (.volume v) => some v | _ => none) ++
  fOpt [2, 2] (fun s => u16 s.1 ++ u16 s.2) (match qual with | some (.site x y) => some (x, y) | _ => none)

/-- Span or qualifier, as R171 and 8.10 name them: the span's place, then the qualifier's (assumption 75). -/
def fSpanQual (span : Option (Nat × Nat)) (qual : Option Qualifier) : List Field := fSpan span ++ fQualifier qual

/-! ## Notices and responses (12.5) -/

/-- The kind of a sub-kind. -/
def subKind (n : NoticeSub) : NoticeKind :=
  let i := n.ctorIdx
  if i < 8 then .card else if i < 19 then .catalog else if i < 21 then .copy else if i < 26 then .order else
  if i < 27 then .mode else if i < 38 then .dest else if i < 47 then .finding else if i < 54 then .look else
  if i < 61 then .output else .link

/-- The place of a kind's first sub-kind in `NoticeSub`. -/
def kindFirst (k : NoticeKind) : Nat :=
  match k with
  | .card => 0 | .catalog => 8 | .copy => 19 | .order => 21 | .mode => 26 | .dest => 27 | .finding => 38
  | .look => 47 | .output => 54 | .link => 61

/-- The number of a sub-kind within its kind, from 1 (R216). -/
def subNumber (n : NoticeSub) : Nat := n.ctorIdx - kindFirst (subKind n) + 1

/-- The presence byte of a notice record (12.5). -/
def presence (n : Notice) : Nat :=
  (if n.serial.isSome then 1 else 0) + (if n.bay.isSome then 2 else 0) + (if n.clip.isSome then 4 else 0) +
  (if n.order.isSome then 8 else 0) + (if n.letter.isSome then 16 else 0) + (if n.cls.isSome then 32 else 0) +
  (if n.port.isSome then 64 else 0)

/-- The notice record of 12.5. -/
def noticeFields (d : Delivered) : List Field :=
  let n := d.notice
  u32 d.seq ++ u8 ((subKind n.sub).ctorIdx + 1) ++ u8 (subNumber n.sub) ++ fFlag d.gap ++ u8 (presence n) ++
  u64 ((n.serial.map (·.toNat)).getD 0) ++ u8 ((n.bay.map (·.val)).getD 0) ++ u16 (n.clip.getD 0) ++
  u16 (n.order.getD 0) ++ u8 ((n.letter.map (65 + ·.val)).getD 0) ++ u8 ((n.cls.map (·.ctorIdx + 1)).getD 0) ++
  u8 ((n.port.map (·.val)).getD 0) ++ u16 (fieldBytes n.fields).length ++ n.fields

/-- A message: the 8-byte header and its operand bytes (12.5). With more than 65,535 operand bytes the length field holds the
low 16 bits of their number (the model's choice, assumption 106). -/
def messageBytes (tag code : Nat) (ops : List Byte) : List Byte :=
  leBytes 4 tag ++ leBytes 2 code ++ leBytes 2 ops.length ++ ops

/-- The message a notice is carried in: tag 0 and code FFFFh. -/
def noticeMessage (d : Delivered) : List Byte := messageBytes 0 0xFFFF (fieldBytes (noticeFields d))

/-- A reason in capitals, as the part reports it. -/
def reasonText (r : Reason) : String :=
  match r with
  | .already => "ALREADY" | .noCard => "NO_CARD" | .listingIncomplete => "LISTING_INCOMPLETE"
  | .cardBusy => "CARD_BUSY" | .clipNotVerified => "CLIP_NOT_VERIFIED" | .clipBlocked => "CLIP_BLOCKED"
  | .overflowHold => "OVERFLOW_HOLD" | .orderOpen => "ORDER_OPEN" | .reinspecting => "REINSPECTING"
  | .cardPresent => "CARD_PRESENT" | .unsupported => "UNSUPPORTED" | .notReady => "NOT_READY"
  | .noCapacity => "NO_CAPACITY" | .volumeInUse => "VOLUME_IN_USE" | .noDrive => "NO_DRIVE" | .noRoom => "NO_ROOM"
  | .notSoaking => "NOT_SOAKING" | .livePass => "LIVE_PASS" | .cleared => "CLEARED" | .notHeld => "NOT_HELD"
  | .notFilling => "NOT_FILLING" | .rateMismatch => "RATE_MISMATCH" | .notPaused => "NOT_PAUSED"
  | .disabled => "DISABLED" | .notPlayback => "NOT_PLAYBACK" | .grouped => "GROUPED" | .notPlaying => "NOT_PLAYING"
  | .noMembers => "NO_MEMBERS" | .notRunning => "NOT_RUNNING"

/-- A reason as 24 ASCII characters padded with spaces (R216). -/
def reasonBytes (r : Reason) : List Byte :=
  let cs := (reasonText r).toList.map fun c => BitVec.ofNat 8 c.toNat
  cs ++ List.replicate (24 - cs.length) 0x20

/-- The code and operand bytes of a response (R216). The fields of a refusal that carries no reason, such as the holder of a
HELD refusal, stand at the start of the operands (the model's choice, assumption 76). -/
def answerBytes (a : Answer) : Nat × List Byte :=
  match a with
  | .accepted clamped vals => (0, fieldBytes (fFlag clamped ++ vals))
  | .refused code reason vals =>
    (code.ctorIdx + 1, (match reason with | some r => reasonBytes r | none => []) ++ fieldBytes vals)

/-- A response message (R208, R216): the request's tag. -/
def responseMessage (tag : BitVec 32) (a : Answer) : List Byte :=
  messageBytes tag.toNat (answerBytes a).1 (answerBytes a).2

end Sys2Proof.Machine
end

