-- ==== Sys2Proof/Machine/Flags.lean ====
section
/-! DEFINITION. The derived flags and views of each block's state: what a rule reads off a record rather than stores. -/

namespace Sys2Proof

/-- The source extent sums are complete (R23). -/
def Clip.complete (c : Clip) : Bool := c.sums.any fun l => l.length = c.extents

/-- How many copies of a clip are VERIFIED. -/
def Clip.verified (c : Clip) : Nat := (c.copies.filter fun x => x.state = .verified).length

/-- The test of UNSUPPORTED (R24). -/
def Desc.unsupported (d : Desc) : Bool := d.dataLen > Config.maxClipBytes || d.rate < 1 || d.rate > 6

/-- A final state of a copy (R28). -/
def CopyState.final (c : CopyState) : Bool :=
  match c with
  | .verified | .failed | .abandoned | .stale => true
  | .found | .reserved | .writing | .written | .verifying | .repairing => false

/-- RESERVED, WRITING, WRITTEN, VERIFYING or REPAIRING: a copy a channel is making (R30, R31). -/
def CopyState.inProgress (c : CopyState) : Bool :=
  match c with
  | .reserved | .writing | .written | .verifying | .repairing => true
  | .found | .verified | .failed | .abandoned | .stale => false

/-- A record slot reuse may remove: FAILED, ABANDONED or STALE (R29). -/
def CopyState.reusable (c : CopyState) : Bool :=
  match c with
  | .failed | .abandoned | .stale => true
  | .found | .reserved | .writing | .written | .verifying | .repairing | .verified => false

/-- The pairs of a final state and a cause an end report may carry (R30). -/
def endPairOk (final : CopyState) (cause : CopyCause) : Bool :=
  match final, cause with
  | .abandoned, .readError | .abandoned, .cardGone | .abandoned, .aborted => true
  | .failed, .readError | .failed, .cardGone | .failed, .writeFailed | .failed, .lostDrive | .failed, .mismatch
  | .failed, .sourceUnstable => true
  | _, _ => false

/-- The finding kind a FAILED copy's cause calls for (R30). -/
def failKind (cause : CopyCause) : Option FindingKind :=
  match cause with
  | .mismatch => some .verifyMismatch
  | .writeFailed => some .writeFailed
  | .lostDrive => some .lostDrive
  | .readError | .cardGone | .sourceUnstable | .aborted => none

/-- The state of a clip with no order (R37). -/
def Clip.settled (c : Clip) : ClipState :=
  if c.sums = none then .listed else if c.required ≤ c.verified then .verified else .short

/-- An order in ACTIVE, VERIFYING or REPAIRING (R45). -/
def OrderState.running (o : OrderState) : Bool :=
  match o with
  | .active | .verifying | .repairing => true
  | .pending | .reserved => false

/-- A copy is alive in these copy phases (R65). -/
def CopyPhase.alive (p : CopyPhase) : Bool :=
  match p with
  | .header | .writing | .verify | .repairWait | .repair | .reverify | .rewrite => true
  | .skipped | .reserving | .creating | .dropped => false

/-- A status query finds the element ALIVE in these phases (R102). -/
def CopyPhase.holding (p : CopyPhase) : Bool := p.alive || p = .reserving || p = .creating

/-- The volume is attached (R92). -/
def PortState.attached (p : PortState) : Bool :=
  match p with
  | .ready | .soaking | .detaching | .detached => true
  | .absent | .scanning | .unformatted => false

/-- Rank of a class: BLOCKING above WARNING above ADVISORY (R161). -/
def FindingClass.rank (c : FindingClass) : Nat := c.ctorIdx

/-- The span kinds (R158). -/
def FindingKind.spans (k : FindingKind) : Bool :=
  match k with
  | .droppedFrame | .repeatedFrame | .frameOrder | .tcBreak | .unparsable | .clipping | .blackFrame => true
  | .readError | .sourceUnstable | .verifyMismatch | .writeFailed | .lostDrive | .foundMismatch | .unlockedCard
  | .unsupportedClip | .frameCount | .hotSite | .partialInspection => false

/-- The place of a kind in the class table. -/
def FindingKind.ix (k : FindingKind) : Fin 18 := (ix? 18 k.ctorIdx).getD 0

end Sys2Proof

namespace Sys2Proof.Machine

/-- Causes of a FAILED end report and of a FAILED order, in the order of R58's lists. -/
inductive FailCause | readError | cardGone | sourceUnstable | short | refreshed
  deriving DecidableEq, Repr

/-- The cause a channel's FAILED end report carries (R58). -/
def failCause (k : CopyCause) : FailCause :=
  match k with
  | .cardGone => .cardGone
  | .sourceUnstable => .sourceUnstable
  | .readError | .writeFailed | .lostDrive | .mismatch | .aborted => .readError

/-! ## Bays -/

/-- The release lamp of a bay: lit while the bay is RELEASED (R1). -/
def BayEntry.lamp (e : BayEntry) : Bool := e.state = .released

/-- What the CI reports of a bay to the ODS (R50). -/
def BayEntry.view (e : BayEntry) : BayView := { state := e.state, serial := e.serial, reading := e.reader.isSome }

/-- A bay in PRESENT or RELEASED that holds the serial (R10). -/
def BayEntry.holds (e : BayEntry) (serial : Serial) : Bool :=
  (e.state = .present || e.state = .released) && e.serial = some serial

/-! ## Orders -/

/-- Effective priority (R54). R54 defines it for a PENDING order; R64 reports it for a running one too, and the model
computes it there in the same way (the model's choice, assumption 63). -/
def Order.effective (o : Order) : Nat := if o.passed ≥ 4 then 3 else o.priority

/-- The bay in the bay view that holds a serial in PRESENT or RELEASED (R52; for notices, the model's choice, assumption
65). -/
def Dispatcher.bayOf (d : Dispatcher) (serial : Serial) : Option Bay :=
  (List.finRange 6).find? fun b =>
    (d.bays[b].state = .present || d.bays[b].state = .released) && d.bays[b].serial = some serial

/-! ## Channels -/

/-- The element of a channel's destination list for a port. -/
def Channel.elem? (c : Channel) (p : Port) : Option Elem := c.dests.find? fun e => e.port = p

/-- The channel runs that order and its element for the port is ALIVE (R102). -/
def Channel.aliveFor (c : Channel) (p : Port) (order : Nat) : Bool :=
  c.order = some order && (c.elem? p).any fun e => e.phase.holding

/-- Header span of the clip a channel copies (R67). -/
def Channel.span (c : Channel) : Nat := spanOf c.extents

/-! ## Ports -/

/-- The index-full flag (R91). -/
def PortCtx.indexFull (c : PortCtx) : Bool := c.index.length ≥ Config.indexEntries

/-- Free blocks: capacity less allocation pointer, or 0 when either is absent (R92). -/
def PortCtx.free (c : PortCtx) : Nat :=
  match c.capacity, c.alloc with
  | some cap, some a => cap - a
  | _, _ => 0

/-- What a port reports to the ODS (R50, R92). -/
def PortCtx.view (c : PortCtx) : DestView :=
  { state := c.state, vol := c.vol, qual := c.qual, indexFull := c.indexFull, free := c.free }

/-- The serial a request's volume test compares with: none while SCANNING (R93, R107). -/
def PortCtx.current (c : PortCtx) : Option Serial := if c.state = .scanning then none else c.vol

/-! ## Slots and findings -/

/-- FREE preview slots (R129). -/
def Pool.free (p : Pool) : Nat := Config.previewSlots - p.slots.length

/-- Buffers a channel holds that are not FREE (R71). -/
def Staging.held (t : Staging) (ch : Chan) : Nat := (t.bufs.filter fun b => b.owner = ch).length

/-- A running fill covers a slot (R174). -/
def LookBank.covered (l : LookBank) (slot : LookIx) : Bool :=
  l.fill.any fun f => f.first ≤ slot.val && slot.val ≤ f.last

/-- A rate code an output may have (R188). -/
def outputRate (n : Nat) : Bool := n = 1 || n = 2 || n = 3 || n = 5 || n = 6

end Sys2Proof.Machine
end

