-- ==== Sys2Proof/Machine/Operands.lean ====
section
/-! DEFINITION. Request messages: the codes of R216, the rights table of R207, the operands of each request as they are
packed (R216), and the command and owning block each request is passed on as (R206). -/

namespace Sys2Proof.Machine

/-! ## Reading packed operands (R216) -/

/-- A reader of operand bytes: a value and the bytes that follow it, or `none` when the operands are too short. -/
abbrev Rd (α : Type) := List Byte → Option (α × List Byte)

/-- A number of `n` bytes, low byte first. -/
def rdNat (n : Nat) : Rd Nat := fun bs => if bs.length < n then none else some (leNat (bs.take n), bs.drop n)

/-- One value read after another. -/
def rdBind {α β : Type} (r : Rd α) (f : α → Rd β) : Rd β := fun bs => (r bs).bind fun p => f p.1 p.2

/-- No operand. -/
def rdPure {α : Type} (a : α) : Rd α := fun bs => some (a, bs)

/-- A value read and then changed. -/
def rdMap {α β : Type} (f : α → β) (r : Rd α) : Rd β := rdBind r fun a => rdPure (f a)

def rd8 : Rd Nat := rdNat 1
def rd16 : Rd Nat := rdNat 2
def rd32 : Rd Nat := rdNat 4

/-- A 64-bit serial. -/
def rdSerial : Rd Serial := rdMap (BitVec.ofNat 64) (rdNat 8)

/-- A flag: any byte but 0 is read as set (the model's choice, assumption 9). -/
def rdFlag : Rd Bool := rdMap (fun n => n ≠ 0) rd8

/-- A signed number of `n` bytes in two's complement. -/
def rdInt (n : Nat) : Rd Int :=
  rdMap (fun v : Nat => if 2 * v < 256 ^ n then (v : Int) else (v : Int) - (256 ^ n : Nat)) (rdNat n)

/-- `n` values in order. -/
def rdMany {α : Type} (r : Rd α) : Nat → Rd (List α)
  | 0 => rdPure []
  | n + 1 => rdBind r fun a => rdMap (a :: ·) (rdMany r n)

/-- A list preceded by its 2-byte count. -/
def rdList {α : Type} (r : Rd α) : Rd (List α) := rdBind rd16 (rdMany r)

/-- An optional field: its presence byte, present when it is not 0 (the model's choice, assumption 9), then its bytes whether
present or not. -/
def rdOpt {α : Type} (r : Rd α) : Rd (Option α) :=
  rdBind rd8 fun p => rdMap (fun a => if p ≠ 0 then some a else none) r

/-- An item of WRITE LOOK: an optional field, not carried when absent, whose value is an optional part, carried as ABSENT
when absent (R216). -/
def rdItem {α : Type} (r : Rd α) : Rd (Item α) :=
  rdMap (fun o : Option (Option α) =>
    match o with
    | none => .notCarried
    | some none => .absent
    | some (some a) => .values a) (rdOpt (rdOpt r))

/-- A timecode (R215). -/
def rdTc : Rd Timecode :=
  rdBind rd8 fun h => rdBind rd8 fun m => rdBind rd8 fun s => rdMap (fun f => ⟨h, m, s, f⟩) rd8

/-- A matrix: nine signed coefficients. -/
def rdMatrix : Rd (Vector Int 9) :=
  rdMap (fun l => Vector.ofFn fun i : Fin 9 => l.getD i.val 0) (rdMany (rdInt 2) 9)

/-- A trim: gain and offset of three channels. -/
def rdTrim : Rd (Vector Trim 3) :=
  rdMap (fun l => Vector.ofFn fun i : Fin 3 => l.getD i.val ⟨0, 0⟩)
    (rdMany (rdBind rd16 fun g => rdMap (fun o => ⟨g, o⟩) (rdInt 2)) 3)

/-- A set of curves: 33 entries of three channels. -/
def rdCurves : Rd (Vector (Vector Nat 33) 3) :=
  rdMap (fun l => Vector.ofFn fun i : Fin 3 => Vector.ofFn fun j : Fin 33 => l.getD (33 * i.val + j.val) 0)
    (rdMany rd16 99)

/-- A name: its count of characters, then the characters. -/
def rdName : Rd (List Nat) := rdBind rd8 (rdMany rd8)

/-- The operands of WRITE LOOK after the slot (R175). -/
def rdLookItems : Rd LookItems :=
  rdBind (rdItem rdMatrix) fun m => rdBind (rdItem rdTrim) fun t => rdBind (rdItem rdCurves) fun c =>
  rdBind (rdItem rd8) fun e => rdMap (fun n => ⟨m, t, c, e, n⟩) (rdOpt rdName)

/-- The operands of SET ROUTE after the output (R190). -/
def rdRouteItems : Rd RouteItems :=
  rdBind (rdOpt rdFlag) fun en => rdBind (rdOpt rd8) fun rate => rdBind (rdOpt rd8) fun route =>
  rdBind (rdOpt (rdOpt rd8)) fun ov => rdBind (rdOpt rd8) fun miss => rdBind (rdOpt rd8) fun grp =>
  rdBind (rdOpt (rdInt 1)) fun off => rdMap (fun c : Option Bool =>
    { enabled := en, rate := rate, route := route, override_ := ov, miss := miss, group := grp, offset := off
      clearLate := c.getD false }) (rdOpt rdFlag)

/-- The operands of SET THRESHOLDS (R149). -/
def rdThresholds : Rd ThresholdItems :=
  rdBind (rdOpt rd16) fun a => rdBind (rdOpt rd32) fun b => rdBind (rdOpt rd8) fun c =>
  rdBind (rdOpt rd16) fun d => rdBind (rdOpt rd16) fun e => rdMap (fun f =>
    { clipLevel := a, clipArea := b, clipRun := c, blackLevel := d, darkLimit := e, hotLevel := f }) (rdOpt rd16)

/-- The operands of SET FILTER after the filter number (R210). -/
def rdFilter : Rd FilterItems :=
  rdBind rdFlag fun en => rdBind (rdList rd8) fun ks => rdBind (rdOpt rd8) fun l => rdBind (rdOpt rd8) fun b =>
  rdMap (fun c => ⟨en, ks, l, b, c⟩) rd8

/-- The preset of BANK FILL: 1 IDENTITY or 2 COPY, then the source slot, an optional part (R179, R216). A source slot sent
with IDENTITY is not used; a COPY without one, and any other number, are read as a COPY of a slot outside 0 to 31, which is
refused VALUE (the model's choice, assumption 9). -/
def rdPreset : Rd Preset :=
  rdBind rd8 fun p => rdMap (fun o : Option Nat => if p = 1 then .identity else if p = 2 then .copy (o.getD 256) else .copy 256)
    (rdOpt rd8)

/-- What PAUSE and STOP name: 1 an output, 2 a group, then its number. Any other selector is read as an output outside
0 to 3, which is refused VALUE (DESIGN CHOICE, assumption 9). -/
def rdTarget : Rd PlayTarget :=
  rdBind rd8 fun p => rdMap (fun n => if p = 1 then .output n else if p = 2 then .group n else .output 256) rd8

/-! ## Request codes (R216) -/

/-- The last request code: SET MODE. -/
abbrev lastCode : Nat := 56

/-- The code of RESET PART in the rights table. -/
abbrev codeResetPart : Nat := 55

/-- The rights table (R207): may a station of that role and flag send that code? `anySup`: some station holds the
supervisor flag. -/
def allowed (code : Nat) (role : Role) (sup anySup : Bool) : Bool :=
  if code ≤ 21 then true
  else if code ≤ 31 then role = .loader
  else if code ≤ 40 then role = .colour
  else if code ≤ 45 then role = .colour || role = .review
  else if code ≤ 49 then role = .review
  else if code ≤ 51 then role = .review || sup
  else if code ≤ 55 then sup
  else sup || (role = .loader && !anySup)

/-- The operands of a request read as the command its owning block takes; `none` for an unknown code or when the
operands are too short (R216). The clip id ANY of LIST FINDINGS is an absent optional field (the model's choice, assumption
9). -/
def readRequest (code : Nat) (q : Req) (sup : Bool) (bs : List Byte) : Option Instr :=
  let run (r : Rd Instr) : Option Instr := (r bs).map (·.1)
  match code with
  | 1 => run (rdMap (.queryBay q) rd8)
  | 2 => run (rdMap (.queryClip q) rd16)
  | 3 => run (rdMap (.listCard q) rdSerial)
  | 4 => run (rdBind rdSerial fun s => rdMap (.findClip q s) rd16)
  | 5 => run (rdMap (.queryOrder q) rd16)
  | 6 => some (.listOrders q)
  | 7 => run (rdMap (.queryChannel q) rd8)
  | 8 => some (.queryStore q)
  | 9 => run (rdMap (.queryPort q) rd8)
  | 10 => run (rdBind rd8 fun p => rdMap (.queryIndex q p) rd16)
  | 11 => some (.queryPool q)
  | 12 => some (.queryInspector q)
  | 13 => run (rdMap (.querySites q) rd8)
  | 14 => run (rdMap (.queryFinding q) rd16)
  | 15 => run (rdBind (rdOpt rd16) fun c => rdBind (rdList rd8) fun ss => rdBind rd8 fun m =>
      rdMap (.listFindings q c ss m) rd16)
  | 16 => some (.queryClasses q)
  | 17 => run (rdMap (.queryLook q) rd8)
  | 18 => some (.queryBank q)
  | 19 => run (rdMap (.queryOutput q) rd8)
  | 20 => run (rdMap (.queryStation q) rd8)
  | 21 => run (rdBind rd8 fun n => rdMap (.setFilter q n) rdFilter)
  | 22 => run (rdBind rd16 fun c => rdBind (rdList rd8) fun ds => rdMap (.postOrder q c ds) rd8)
  | 23 => run (rdBind rdSerial fun s => rdBind (rdList rd8) fun ds => rdMap (.postCardOrder q s ds) rd8)
  | 24 => run (rdMap (.abortOrder q) rd16)
  | 25 => some (.abortAll q)
  | 26 => run (rdMap (.releaseCard q) rd8)
  | 27 => run (rdBind rdSerial fun s => rdMap (.setCopies q s) rd8)
  | 28 => run (rdMap (.detach q) rd8)
  | 29 => run (rdBind rd8 fun p => rdBind rd16 fun l => rdMap (.startSoak q p l) rd32)
  | 30 => run (rdMap (.stopSoak q) rd8)
  | 31 => run (rdMap (.purgeCard q) rdSerial)
  | 32 => run (rdMap (.holdLook q) rd8)
  | 33 => run (rdBind rd8 fun n => rdMap (.writeLook q n) rdLookItems)
  | 34 => run (rdBind rd8 fun n => rdMap (.commitLook q n) rdFlag)
  | 35 => run (rdMap (.cancelLook q) rd8)
  | 36 => run (rdBind rd8 fun a => rdBind rd8 fun b => rdMap (.bankFill q a b) rdPreset)
  | 37 => some (.cancelFill q)
  | 38 => run (rdBind rd8 fun l => rdMap (.setCameraLook q l) rd8)
  | 39 => run (rdBind rd16 fun c => rdMap (.assignLook q c) rd8)
  | 40 => run (rdMap (.stampLook q) rd16)
  | 41 => run (rdBind rd8 fun k => rdMap (.setRoute q k) rdRouteItems)
  | 42 => run (rdBind rd8 fun k => rdBind (rdOpt rd16) fun c => rdMap (.play q k c) (rdOpt rd32))
  | 43 => run (rdBind rd8 fun g => rdBind (rdOpt rdTc) fun t => rdMap (.playGroup q g t) rdFlag)
  | 44 => run (rdMap (.pause q) rdTarget)
  | 45 => run (rdMap (.stop q) rdTarget)
  | 46 => run (rdMap (.setThresholds q) rdThresholds)
  | 47 => run (rdBind rd8 fun k => rdMap (.setKindClass q k) rd8)
  | 48 => run (rdMap (.reinspect q) rd16)
  | 49 => some (.clearSites q)
  | 50 => run (rdMap (.ackFinding q) rd16)
  | 51 => run (rdMap (fun f => .clearFinding q f sup) rd16)
  | 52 => run (rdMap (.forceRelease q) rd8)
  | 53 => run (rdBind rd8 fun p => rdMap (.formatVolume q p) rdSerial)
  | 54 => run (rdMap (.clearOverflowHold q) rd16)
  | 55 => some (.resetPart q)
  | 56 => run (rdMap (.setMode q) rd8)
  | _ => none

/-- The block a request code belongs to; the port and channel requests go to the one they name. -/
def owner (code : Nat) (bs : List Byte) : Node :=
  let port : Node := .dp ((ix? 4 (leAt bs 0 1)).getD 0)
  if code = 1 ∨ code = 26 ∨ code = 27 ∨ code = 52 then .ci
  else if code ≤ 4 ∨ code = 31 ∨ code = 39 ∨ code = 40 then .cat
  else if code ≤ 6 ∨ (22 ≤ code ∧ code ≤ 25) ∨ code = 56 then .ods
  else if code = 7 then .cc ((ix? 3 (leAt bs 0 1)).getD 0)
  else if code = 8 then .sts
  else if code ≤ 10 ∨ code = 28 ∨ code = 29 ∨ code = 30 ∨ code = 53 then port
  else if code = 11 then .pp
  else if code ≤ 13 ∨ code = 46 ∨ code = 48 ∨ code = 49 then .ins
  else if code ≤ 16 ∨ code = 47 ∨ code = 50 ∨ code = 51 ∨ code = 54 then .fl
  else if code ≤ 18 ∨ (32 ≤ code ∧ code ≤ 38) then .lb
  else if code = 19 ∨ (41 ≤ code ∧ code ≤ 45) then .ro
  else .sp

end Sys2Proof.Machine
end

