-- ==== Sys2Proof/Machine/Ops.lean ====
section
/-! DEFINITION. The named operations every block is written over: sending a message, raising a notice, answering a
request, filing an occurrence, and storing an entry of a block with the reports its change owes. -/

namespace Sys2Proof.Machine

/-- The outcome of a command. -/
abbrev Result := Host.Outcome State Fault Refusal

/-- Insert a number in an ascending list without a second one of it (R28, R65). -/
def insertAsc (n : Nat) : List Nat → List Nat
  | [] => [n]
  | m :: ms => if n < m then n :: m :: ms else if n = m then m :: ms else m :: insertAsc n ms

/-! ## Messages -/

/-- Put messages on their way from one block to another, in order. -/
def State.send (s : State) (src dst : Node) (ms : List Instr) : State :=
  { s with wire := s.wire ++ ms.map fun m => ⟨src, dst, m⟩ }

/-- An earlier message on the wire must arrive before a later one: of one sender to one receiver always (0.6), and what the
Inspector has filed with the Fault List before the completion of an analysis it then reports to the pool (R141). -/
def goesBefore (earlier later : Wire) : Bool :=
  (earlier.src = later.src && earlier.dst = later.dst) ||
  (earlier.src = .ins && earlier.dst = .fl && later.src = .ins &&
    match later.msg with
    | .analysisDoneReport _ => true
    | _ => false)

/-- Raise a notice: it goes to the Station Ports (11.4). -/
def State.raise (s : State) (src : Node) (n : Notice) : State := s.send src .sp [.noticeTaken n]

/-- Answer a request: the answer goes to the Station Ports (R208). -/
def State.reply (s : State) (src : Node) (q : Req) (a : Answer) : State := s.send src .sp [.blockAnswer q a]

/-- Accept a request with the values its rule names. -/
def State.accept (s : State) (src : Node) (q : Req) (vals : List Field) : State := s.reply src q (.accepted false vals)

/-- Refuse a request with a code that carries no reason. -/
def State.refuse (s : State) (src : Node) (q : Req) (c : Code) : State := s.reply src q (.refused c none [])

/-- Refuse a request STATE with a reason. -/
def State.refuseState (s : State) (src : Node) (q : Req) (r : Reason) : State :=
  s.reply src q (.refused .state (some r) [])

/-- File one occurrence with the Fault List (R159). -/
def State.file (s : State) (src : Node) (o : Occurrence) : State := s.send src .fl [.occurrence o]

/-- Ask the Catalog for a clip record (R44). -/
def State.lookup (s : State) (src : Node) (who : Asker) (clip : Nat) : State := s.send src .cat [.clipLookup who clip]

/-- Use up one attempt number (assumption 3): the number used is `s.token`. -/
def State.tick (s : State) : State := { s with token := s.token + 1 }

/-! ## Blocks -/

/-- Entry of a bay. -/
def State.bay (s : State) (b : Bay) : BayEntry := s.ci.bays[b]

/-- Store a bay's entry, and report it to the ODS when its state, serial or reading flag changes (R50). -/
def State.setBay (s : State) (b : Bay) (e : BayEntry) : State :=
  let t := { s with ci := { bays := upd s.ci.bays b fun _ => e } }
  if e.view = (s.bay b).view then t else t.send .ci .ods [.bayViewReport b e.view]

/-- The bay in PRESENT or RELEASED that holds a serial (R10). -/
def State.bayOf (s : State) (serial : Serial) : Option Bay :=
  (List.finRange 6).find? fun b => (s.bay b).holds serial

/-- The record of a clip id, if the id is not free. -/
def State.clip? (s : State) (id : Nat) : Option Clip := s.cat.clips.find? fun c => c.id = id

/-- The record of a card serial and clip number (R24). -/
def State.clipOf (s : State) (serial : Serial) (clipNo : Nat) : Option Clip :=
  s.cat.clips.find? fun c => c.serial = serial ∧ c.clipNo = clipNo

/-- The records of a serial, ascending by id. -/
def State.clipsOf (s : State) (serial : Serial) : List Clip := s.cat.clips.filter fun c => c.serial = serial

/-- Store a clip record over the one with its id. -/
def State.setClip (s : State) (r : Clip) : State :=
  { s with cat := { clips := s.cat.clips.map fun c => if c.id = r.id then r else c } }

/-- Context of a channel. -/
def State.chan (s : State) (ch : Chan) : Channel := s.cc.ctx[ch]

/-- Answer CLOSED every watch of a channel whose element has closed (R102). -/
def State.answerWatches (s : State) (ch : Chan) : State :=
  let closed := s.cc.watches.filter fun w => w.2.1 = ch ∧ !(s.chan ch).aliveFor w.1 w.2.2
  let kept := s.cc.watches.filter fun w => ¬(w.2.1 = ch ∧ !(s.chan ch).aliveFor w.1 w.2.2)
  closed.foldl (fun t w => t.send (.cc ch) (.dp w.1) [.watchAnswer w.1 ch w.2.2])
    { s with cc := { s.cc with watches := kept } }

/-- Store a channel's context, and answer the watches the change closes (R102). -/
def State.setChan (s : State) (ch : Chan) (c : Channel) : State :=
  State.answerWatches { s with cc := { s.cc with ctx := upd s.cc.ctx ch fun _ => c } } ch

/-- Context of a port. -/
def State.port (s : State) (p : Port) : PortCtx := s.dp.ctx[p]

/-- Store a port's context, and report to the ODS when one of the five values changes (R92). A FORMAT VOLUME accepted in
UNFORMATTED, which changes none of them, makes no report (the model's choice, assumption 114). -/
def State.setPort (s : State) (p : Port) (c : PortCtx) : State :=
  let t := { s with dp := { ctx := upd s.dp.ctx p fun _ => c } }
  if c.view = (s.port p).view then t else t.send (.dp p) .ods [.destViewReport p c.view]

/-- Context of an output. -/
def State.out (s : State) (k : Outp) : Output := s.ro.outs[k]

/-- Store an output's context. -/
def State.setOut (s : State) (k : Outp) (o : Output) : State :=
  { s with ro := { s.ro with outs := upd s.ro.outs k fun _ => o } }

/-- Context of a station. -/
def State.station (s : State) (st : Stn) : Station := s.sp.stations[st]

/-- Store a station's context. -/
def State.setStation (s : State) (st : Stn) (x : Station) : State :=
  { s with sp := { s.sp with stations := upd s.sp.stations st fun _ => x } }

/-! ## Notices -/

/-- A notice about a clip record: it carries clip id, card serial and camera letter (2.10). -/
def clipNotice (sub : NoticeSub) (c : Clip) (order : Option Nat) (fields : List Field) : Notice :=
  { sub := sub, serial := some c.serial, clip := some c.id, order := order, letter := some c.desc.letter
    fields := fields }

/-- A notice about a copy record (R29, R30). -/
def copyNotice (sub : NoticeSub) (c : Clip) (x : Copy) (fields : List Field) : Notice :=
  { clipNotice sub c c.order fields with port := some x.port }

/-- A notice about a bay: serial and letter as the entry has recorded them (1.8). -/
def bayNotice (sub : NoticeSub) (b : Bay) (e : BayEntry) (fields : List Field) : Notice :=
  { sub := sub, serial := e.serial, bay := some b, letter := e.letter, fields := fields }

/-- A notice about a port: it carries the port, and the volume serial while one is held (5.10). -/
def portNotice (sub : NoticeSub) (p : Port) (vol : Option Serial) (fields : List Field) : Notice :=
  { sub := sub, port := some p, fields := fOpt [8] fSerial vol ++ fields }

end Sys2Proof.Machine
end

