-- ==== Sys2Proof/Machine/Cards.lean ====
section
/-! DEFINITION. The Card Interface (Section 1): insertion, listing, reading rights, bursts, removal and release. -/

namespace Sys2Proof.Machine

/-! ## Listing -/

/-- The bay becomes UNREADABLE with a cause (R3 to R6). -/
def State.unreadable (s : State) (b : Bay) (e : BayEntry) (cause : UnreadCause) : State :=
  let e' := { e with state := .unreadable, cause := some cause, listing := none }
  (s.setBay b e').raise .ci (bayNotice .cardUnreadable b e' (fNamed cause.ctorIdx))

/-- What the read-error ladder does with a failed attempt (R14). -/
inductive Ladder | retry (errors : Nat) | drop (cls : Nat) | exhausted
  deriving DecidableEq, Repr

/-- The read-error ladder (R14): the transfer class and the consecutive-error count before the failure. -/
def ladder (cls errors : Nat) : Ladder :=
  if cls = 0 then (if errors + 1 < 3 then .retry (errors + 1) else .exhausted)
  else (if errors + 1 < 2 then .retry (errors + 1) else .drop (cls - 1))

/-- Lower the transfer class of a bay and raise CLASS_DROPPED (R14, R15). -/
def State.dropClass (s : State) (b : Bay) (e : BayEntry) : State :=
  (s.setBay b e).raise .ci (bayNotice .cardClassDropped b e (u8 e.cls))

/-- The listing request for the entry at the hand-over's place, or the end of the hand-over (R7, R8). -/
def State.offerNext (s : State) (b : Bay) (e : BayEntry) (l : Listing) : State :=
  match l.entries[l.next]? with
  | some d =>
    (s.setBay b { e with listing := some l }).send .ci .cat [.listingRequest b e.ins (e.serial.getD 0) d.clipNo
      e.required { letter := e.letter.getD 0, reel := d.reel, start := d.start, rate := d.rate, drop := d.drop
                   frames := d.frames, dataLen := d.len }]
  | none =>
    let e' := { e with state := .present, listed := true, listing := none }
    (s.setBay b e').raise .ci (bayNotice .cardListed b e' [])

/-- An insertion event (R2): a bay that is not EMPTY takes none. -/
def State.cardIn (s : State) (b : Bay) (wp : Bool) : State :=
  if (s.bay b).state ≠ .empty then s else
  let e : BayEntry := { state := .listing, wp := wp, ins := s.token
                        listing := some { phase := .ident, tok := s.token } }
  (s.tick.setBay b e).raise .ci (bayNotice .cardInserted b e [])

/-- CARD_INSERTED (R2). -/
def execCardInserted (b : Bay) (wp : Bool) (s : State) : Result :=
  .next (State.cardIn { s with pins := { s.pins with cardDetect := upd s.pins.cardDetect b fun _ => true
                                                     writeProt := upd s.pins.writeProt b fun _ => wp } } b wp)

/-- CARD_IDENTIFICATION_RESPONSE (R2): the transfer class is the smaller of the advertised class and 7. -/
def execCardIdentificationResponse (b : Bay) (tok advertised capacity : Nat) (s : State) : Result :=
  let e := s.bay b
  match e.listing with
  | some l =>
    if l.phase = .ident ∧ l.tok = tok then
      .next (s.tick.setBay b { e with cls := min advertised 7
                                      listing := some { l with phase := .header, tok := s.token, capacity := capacity } })
    else .next s
  | none => .next s

/-- IDENTIFICATION_TIMEOUT (R2, R6). -/
def execIdentificationTimeout (b : Bay) (tok : Nat) (s : State) : Result :=
  let e := s.bay b
  match e.listing with
  | some l => .next (if l.phase = .ident ∧ l.tok = tok then s.unreadable b e .readFailed else s)
  | none => .next s

/-- The duplicate test (R4): another bay in LISTING, PRESENT or RELEASED has recorded the serial. -/
def State.duplicate (s : State) (b : Bay) (serial : Serial) : Bool :=
  (List.finRange 6).any fun x => x ≠ b && (s.bay x).serial = some serial &&
    ((s.bay x).state = .listing || (s.bay x).state = .present || (s.bay x).state = .released)

/-- HEADER_READ_COMPLETE (R3, R4). -/
def execHeaderReadComplete (b : Bay) (tok : Nat) (bytes : List Byte) (s : State) : Result :=
  let e := s.bay b
  match e.listing with
  | none => .next s
  | some l =>
    if ¬(l.phase = .header ∧ l.tok = tok) then .next s else
    let e := { e with errors := 0 }
    match readCardHdr l.capacity bytes with
    | none => .next (s.unreadable b e .headerDamaged)
    | some h =>
      if s.duplicate b h.serial then .next (s.unreadable b e .duplicateCard) else
      let e' := { e with serial := some h.serial, letter := some h.letter, body := some h.body
                         listing := some { l with phase := .copies, dirFirst := h.dirFirst, dirCount := h.dirCount
                                                  dirSum := h.dirSum } }
      .next ((s.setBay b e').send .ci .cat [.requiredCopiesQuery b e.ins h.serial])

/-- REQUIRED_COPIES_ANSWER (R4): the directory phase begins. A count a SET COPIES has written meanwhile gives way to the
highest of the answer, and stays where the answer has none (the model's choice, assumption 93). -/
def execRequiredCopiesAnswer (b : Bay) (ins : Nat) (highest : Option Nat) (s : State) : Result :=
  let e := s.bay b
  match e.listing with
  | some l =>
    if l.phase = .copies ∧ e.ins = ins then
      .next (s.tick.setBay b { e with required := highest.getD e.required
                                      listing := some { l with phase := .directory, tok := s.token } })
    else .next s
  | none => .next s

/-- DIRECTORY_READ_COMPLETE (R5): one directory block has been read; after the last, the directory is checked whole.
A directory of no entries ends at its first completion. -/
def execDirectoryReadComplete (b : Bay) (tok : Nat) (bytes : List Byte) (s : State) : Result :=
  let e := s.bay b
  match e.listing with
  | none => .next s
  | some l =>
    if ¬(l.phase = .directory ∧ l.tok = tok) then .next s else
    let e := { e with errors := 0 }
    let l := { l with got := l.got ++ bytes.take Config.blockBytes, reads := l.reads + 1 }
    if l.reads < ceilDiv l.dirCount 64 then
      .next (s.tick.setBay b { e with listing := some { l with tok := s.token } })
    else
      match checkDirectory l.capacity l.dirCount l.dirSum l.got with
      | none => .next (s.unreadable b e .directoryDamaged)
      | some es =>
        let e' := { e with map := es.map fun d => ⟨d.clipNo, d.first, d.count, d.len⟩ }
        .next (s.offerNext b e' { l with phase := .handOver, entries := es, got := [], next := 0 })

/-- LISTING_READ_FAILED (R14, R6): the read-error ladder on a listing read. -/
def execListingReadFailed (b : Bay) (tok : Nat) (s : State) : Result :=
  let e := s.bay b
  match e.listing with
  | none => .next s
  | some l =>
    if ¬((l.phase = .header ∨ l.phase = .directory) ∧ l.tok = tok) then .next s else
    match ladder e.cls e.errors with
    | .retry n => .next (s.tick.setBay b { e with errors := n, listing := some { l with tok := s.token } })
    | .drop c => .next (s.tick.dropClass b { e with cls := c, errors := 0, listing := some { l with tok := s.token } })
    | .exhausted => .next (s.unreadable b { e with errors := 0 } .readFailed)

/-- LISTING_ANSWER (R7, R8). -/
def execListingAnswer (b : Bay) (ins : Nat) (ans : ListAns) (s : State) : Result :=
  let e := s.bay b
  match e.listing with
  | none => .next s
  | some l =>
    if ¬(l.phase = .handOver ∧ e.ins = ins) then .next s else
    let taken (clip : Nat) : State :=
      let t := if e.wp then s else
        s.file .ci { clip := clip, kind := .unlockedCard, count := 1, span := none, qual := none }
      t.offerNext b e { l with next := l.next + 1 }
    match ans with
    | .made clip => .next (taken clip)
    | .relinked clip => .next (taken clip)
    | .full =>
      let e' := { e with state := .present, listing := none }
      .next ((s.setBay b e').raise .ci
        (bayNotice .cardListedPartial b e' (u16 ((l.entries[l.next]?.map (·.clipNo)).getD 0))))

/-! ## Reading rights -/

/-- Answer a channel's claim (R10). -/
def State.answerClaim (s : State) (ch : Chan) (tag : Nat) (a : ClaimAns) : State :=
  s.send .ci (.cc ch) [.claimAnswer ch tag a]

/-- CLAIM (R10). -/
def execClaim (ch : Chan) (serial : Serial) (tag : Nat) (s : State) : Result :=
  match s.bayOf serial with
  | none => .next (s.answerClaim ch tag .cardGone)
  | some b =>
    let e := { s.bay b with tags := upd (s.bay b).tags ch fun _ => tag }
    match e.reader with
    | none =>
      let e' := { e with reader := some ch, errors := 0, state := .present }
      let t := (s.setBay b e').answerClaim ch tag .granted
      .next (if e.state = .released then t.raise .ci (bayNotice .cardReturned b e' (u8 ch.val)) else t)
    | some r =>
      if r = ch then .next ((s.setBay b e).answerClaim ch tag .granted)
      else if ch ∈ e.claims then .next ((s.setBay b e).answerClaim ch tag .waiting)
      else .next ((s.setBay b { e with claims := e.claims ++ [ch] }).answerClaim ch tag .waiting)

/-- HAND_BACK (R11). -/
def execHandBack (ch : Chan) (serial : Serial) (s : State) : Result :=
  match s.bayOf serial with
  | none => .next s
  | some b =>
    let e := s.bay b
    if e.reader = some ch then
      match e.claims with
      | [] => .next (s.setBay b { e with reader := none, errors := 0 })
      | c :: cs =>
        .next ((s.setBay b { e with reader := some c, claims := cs, errors := 0 }).answerClaim c e.tags[c] .granted)
    else .next (s.setBay b { e with claims := e.claims.filter fun c => c ≠ ch })

/-! ## Bursts -/

/-- Answer a channel's burst request (R12 to R14). -/
def State.answerBurst (s : State) (ch : Chan) (a : BurstAns) : State := s.send .ci (.cc ch) [.burstAnswer ch a]

/-- BURST_REQUEST (R12): `room` when the channel holds a FILLING buffer with room for the burst. A burst that starts at or
past the data length the bay's clip map holds is taken with length 0, and its completion answers DONE with no bytes (the
model's choice, assumption 81). -/
def execBurstRequest (ch : Chan) (serial : Serial) (clipNo ext burst : Nat) (room : Bool) (s : State) : Result :=
  match s.bayOf serial with
  | none => .next (s.answerBurst ch .cardGone)
  | some b =>
    let e := s.bay b
    if e.reader ≠ some ch then .next (s.answerBurst ch .notBound) else
    match e.map.find? fun m => m.clipNo = clipNo with
    | none => .next (s.answerBurst ch .notBound)
    | some m =>
      let x : Burst :=
        { ch := ch, clipNo := clipNo, ext := ext, burst := burst
          first := m.first + ext * Config.extentBlocks + burst * Config.burstBlocks
          len := burstLen m.len ext burst, running := room, tok := s.token }
      .next (s.tick.setBay b { e with burst := some x })

/-- BURST_GRANT_REPORT (R12): a PAUSED burst becomes RUNNING with a new attempt. -/
def execBurstGrantReport (ch : Chan) (serial : Serial) (s : State) : Result :=
  match s.bayOf serial with
  | none => .next s
  | some b =>
    let e := s.bay b
    match e.burst with
    | some x =>
      if x.ch = ch ∧ x.running = false then
        .next (s.tick.setBay b { e with burst := some { x with running := true, tok := s.token } })
      else .next s
    | none => .next s

/-- The burst a bay's running attempt belongs to, when `tok` numbers that attempt. -/
def BayEntry.attempt (e : BayEntry) (tok : Nat) : Option Burst :=
  e.burst.filter fun x => x.running && x.tok = tok

/-- BURST_COMPLETION (R13): a completion of an attempt no longer running is discarded (R12). The
bytes taken are as many as the burst has. -/
def execBurstCompletion (b : Bay) (tok : Nat) (bytes : List Byte) (s : State) : Result :=
  let e := s.bay b
  match e.attempt tok with
  | none => .next s
  | some x => .next ((s.setBay b { e with burst := none, errors := 0 }).answerBurst x.ch (.done (padTo x.len (bytes.take x.len))))

/-- A failed attempt at a burst (R14). -/
def State.burstFailed (s : State) (b : Bay) (tok : Nat) : State :=
  let e := s.bay b
  match e.attempt tok with
  | none => s
  | some x =>
    let again := some { x with tok := s.token }
    match ladder e.cls e.errors with
    | .retry n => s.tick.setBay b { e with errors := n, burst := again }
    | .drop c => s.tick.dropClass b { e with cls := c, errors := 0, burst := again }
    | .exhausted => (s.setBay b { e with burst := none, errors := 0 }).answerBurst x.ch .readError

/-- BURST_MEDIA_ERROR (R14). -/
def execBurstMediaError (b : Bay) (tok : Nat) (s : State) : Result := .next (s.burstFailed b tok)

/-- BURST_TIMEOUT (R12, R14): 2 s of RUNNING have passed. -/
def execBurstTimeout (b : Bay) (tok : Nat) (s : State) : Result := .next (s.burstFailed b tok)

/-! ## Removal and release -/

/-- CARD_REMOVED (R16 to R18). -/
def execCardRemoved (b : Bay) (s : State) : Result :=
  let s := { s with pins := { s.pins with cardDetect := upd s.pins.cardDetect b fun _ => false } }
  let e := s.bay b
  if e.state = .empty then .next s else
  let gone : State :=
    if e.state = .present ∨ e.state = .released then
      let t := match e.reader with
        | some r => s.answerClaim r e.tags[r] .cardGone
        | none => s
      let t := match e.burst with
        | some x => t.answerBurst x.ch .cardGone
        | none => t
      e.claims.foldl (fun t c => t.answerClaim c e.tags[c] .cardGone) t
    else s
  .next ((gone.setBay b {}).raise .ci (bayNotice .cardRemoved b e (fNamed e.state.ctorIdx)))

/-- Conditions 1 and 3 of R19, and the state test of R21: why the bay may not be released as it stands. -/
def BayEntry.unreleasable (e : BayEntry) : Option Reason :=
  match e.state with
  | .released => some .already
  | .empty | .listing | .unreadable => some .noCard
  | .present => if e.reader.isSome then some .cardBusy else none

/-- RELEASE_CARD (R19): the CI's own conditions, then the Catalog's test. -/
def execReleaseCard (q : Req) (bay : Nat) (s : State) : Result :=
  match ix? 6 bay with
  | none => .next (s.refuse .ci q .value)
  | some b =>
    let e := s.bay b
    match e.state with
    | .released => .next (s.refuseState .ci q .already)
    | .empty | .listing | .unreadable => .next (s.refuseState .ci q .noCard)
    | .present =>
      if ¬e.listed then .next (s.refuseState .ci q .listingIncomplete)
      else if e.reader.isSome then .next (s.refuseState .ci q .cardBusy)
      else .next (s.send .ci .cat [.releaseTest q b e.ins (e.serial.getD 0)])

/-- Make a bay RELEASED and light its lamp (R20, R21). -/
def State.release (s : State) (q : Req) (b : Bay) (forced : Bool) : State :=
  let e := { s.bay b with state := .released }
  ((s.setBay b e).accept .ci q []).raise .ci (bayNotice .cardReleased b e (fFlag forced))

/-- RELEASE_TEST_ANSWER (R19, R20): the bay is tested again, then the Catalog's answer decides. A card removed since the
test was sent is refused NO_CARD, whatever card the bay holds now. A reason from the Catalog is followed by the clip id, with
no presence byte, and a reason of the CI by nothing (the model's choice, assumption 118). -/
def execReleaseTestAnswer (q : Req) (b : Bay) (ins : Nat) (ans : ReleaseAns) (s : State) : Result :=
  let e := s.bay b
  if e.ins ≠ ins then .next (s.refuseState .ci q .noCard) else
  match e.unreleasable with
  | some r => .next (s.refuseState .ci q r)
  | none =>
    match ans with
    | .fails clip why => .next (s.reply .ci q (.refused .state (some why) (u16 clip)))
    | .passed => .next (s.release q b false)

/-- FORCE_RELEASE (R21). -/
def execForceRelease (q : Req) (bay : Nat) (s : State) : Result :=
  match ix? 6 bay with
  | none => .next (s.refuse .ci q .value)
  | some b =>
    match (s.bay b).unreleasable with
    | some r => .next (s.refuseState .ci q r)
    | none => .next (s.release q b true)

/-- QUERY_BAY (R22). The camera letter and body number have a presence byte each (the model's choice, assumption 117). -/
def execQueryBay (q : Req) (bay : Nat) (s : State) : Result :=
  match ix? 6 bay with
  | none => .next (s.refuse .ci q .value)
  | some b =>
    let e := s.bay b
    .next (s.accept .ci q (fNamed e.state.ctorIdx ++ fOpt [8] fSerial e.serial ++ fOpt [1] fLetter e.letter ++
      fOpt [2] u16 e.body ++ fFlag e.wp ++ u8 e.cls ++ fFlag e.listed ++ u8 e.required ++
      fOpt [1] (fun c => fNamed c.ctorIdx) e.cause ++ fOpt [1] (fun c : Chan => u8 c.val) e.reader ++
      fList (fun c : Chan => u8 c.val) e.claims ++ u16 e.map.length))

/-- SET_COPIES (R39): the count is written into every bay that has recorded the serial, then forwarded. -/
def execSetCopies (q : Req) (serial : Serial) (count : Nat) (s : State) : Result :=
  if count < 1 ∨ count > 3 then .next (s.refuse .ci q .value) else
  let bays := (List.finRange 6).filter fun b => (s.bay b).serial = some serial
  let t := bays.foldl (fun t b => t.setBay b { t.bay b with required := count }) s
  let letter := (bays.head?.bind fun b => (s.bay b).letter)
  .next (t.send .ci .cat [.setCopiesForwarded q serial count letter (!bays.isEmpty)])

/-- PURGE_BAY_QUERY (R42): has a bay recorded the serial? -/
def execPurgeBayQuery (q : Req) (serial : Serial) (s : State) : Result :=
  let held := (List.finRange 6).any fun b => (s.bay b).serial = some serial
  .next (s.send .ci .cat [.purgeBayAnswer q serial held])

end Sys2Proof.Machine
end

