-- ==== Sys2Proof/Machine/Catalog.lean ====
section
/-! DEFINITION. The Clip Catalog (Section 2): listing requests, copy records, found copies, source sums, clip states,
looks, purges and queries. -/

namespace Sys2Proof.Machine

/-! ## Clip states -/

/-- The notice of a change of clip state (R37). -/
def stateNotice (c : Clip) (order : Option Nat) (new : ClipState) : Notice :=
  clipNotice .catState c order (fNamed c.state.ctorIdx ++ fNamed new.ctorIdx)

/-- Give a record a state, with the STATE notice when it is another (R34 to R37). `order` is the notice's order id. -/
def State.clipState (s : State) (c : Clip) (order : Option Nat) (new : ClipState) : State :=
  let t := s.setClip { c with state := new }
  if new = c.state then t else t.raise .cat (stateNotice c order new)

/-- Compute again the state of a clip with no order that is VERIFIED or SHORT (R37). -/
def State.recompute (s : State) (id : Nat) : State :=
  match s.clip? id with
  | some c =>
    if c.order = none ∧ c.state ≠ .unsupported ∧ c.state ≠ .listed then s.clipState c c.order c.settled else s
  | none => s

/-! ## Copies -/

/-- Put a copy record in the place of the `i`-th of its clip. -/
def State.putCopy (s : State) (c : Clip) (i : Nat) (x : Copy) : State :=
  s.setClip { c with copies := c.copies.set i x }

/-- The COPY notice of a new state (R30). -/
def copyStateNotice (c : Clip) (x : Copy) : Notice :=
  copyNotice .copyState c x (fNamed x.state.ctorIdx ++ fOpt [1] (fun k => fNamed k.ctorIdx) x.cause)

/-- File the finding a FAILED copy calls for (R30, R31). -/
def State.fileFailure (s : State) (c : Clip) (x : Copy) : State :=
  match x.state, x.cause.bind failKind with
  | .failed, some k =>
    s.file .cat { clip := c.id, kind := k, count := 1, span := none, qual := some (.volume x.vol) }
  | _, _ => s

/-- A copy of clip `c`, the `i`-th, becomes `x` with another state (R30): the COPY notice, the finding of a FAILED copy,
and for a VERIFIED one the report to the Fault List, the ODS and the clip's state. -/
def State.moveCopy (s : State) (c : Clip) (i : Nat) (x : Copy) : State :=
  let t := ((s.putCopy c i x).raise .cat (copyStateNotice c x)).fileFailure c x
  if x.state = .verified then
    ((t.send .cat .fl [.verifiedCopyReport c.id x.vol]).send .cat .ods [.catalogDispatchReport c.id]).recompute c.id
  else t

/-- The place of a clip's copy for a volume in one of the states a report names (R30). -/
def clipCopyIn (c : Clip) (vol : Serial) (ok : CopyState → Bool) : Option (Nat × Copy) :=
  match c.copies.findIdx? (fun x => x.vol = vol && ok x.state) with
  | some i => (c.copies[i]?).map fun x => (i, x)
  | none => none

/-- The record and copy a progress report applies to (R30); `none` when it is discarded. -/
def State.reported (s : State) (clip : Nat) (vol : Serial) (ok : CopyState → Bool) : Option (Clip × Nat × Copy) :=
  (s.clip? clip).bind fun c => (clipCopyIn c vol ok).map fun ix => (c, ix)

/-- Place a new copy record: append it, or remove the oldest FAILED, ABANDONED or STALE record first (R29). -/
def placeCopy (l : List Copy) (x : Copy) : Option (List Copy) :=
  if l.length < Config.copyRecords then some (l ++ [x])
  else
    match l.findIdx? fun y => y.state.reusable with
    | some i => some (l.eraseIdx i ++ [x])
    | none => none

/-- Resolve the `i`-th copy of a clip, a FOUND copy, against the clip's complete source sums (R33). -/
def State.resolve (s : State) (c : Clip) (i : Nat) (x : Copy) : State :=
  if x.recorded = c.sums then s.moveCopy c i { x with state := .verified, recorded := none }
  else
    (s.moveCopy c i { x with state := .stale, cause := none, recorded := none }).file .cat
      { clip := c.id, kind := .foundMismatch, count := 1, span := none, qual := some (.volume x.vol) }

/-- Resolve every FOUND copy of a clip whose sums have become complete (R33, R35), in copy-list order (the model's
choice, assumption 116). -/
def State.resolveAll (s : State) (id : Nat) : State :=
  (List.range Config.copyRecords).foldl (fun t i =>
    match t.clip? id with
    | some c =>
      match c.copies[i]? with
      | some x => if x.state = .found ∧ c.complete then t.resolve c i x else t
      | none => t
    | none => t) s

/-! ## Listing -/

/-- Ask every port that is READY, SOAKING or DETACHING for found copies of a record (R27). -/
def State.search (s : State) (c : Clip) : State :=
  if c.state = .unsupported then s else
  (List.finRange 4).foldl (fun t p =>
    let st := (t.port p).state
    if st = .ready ∨ st = .soaking ∨ st = .detaching then
      t.send .cat (.dp p) [.foundCopySearch p c.serial c.clipNo c.desc.dataLen]
    else t) s

/-- The lowest free clip id (R24). -/
def Catalog.freeId (k : Catalog) : Option Nat :=
  (List.range Config.clipRecords).find? fun i => !(k.clips.any fun c => c.id = i)

/-- Insert a record in its place by id. -/
def insertClip (r : Clip) : List Clip → List Clip
  | [] => [r]
  | c :: cs => if r.id < c.id then r :: c :: cs else c :: insertClip r cs

/-- The record a listing request creates (R23, R24); its look slot waits for the Look Bank. -/
def newClip (id made : Nat) (serial : Serial) (clipNo required : Nat) (d : Desc) : Clip :=
  { id := id, serial := serial, clipNo := clipNo, desc := d, extents := recordExtents d.dataLen, required := required
    state := if d.unsupported then .unsupported else .listed
    sums := none, copies := [], look := 0, stamp := none, inspected := 0, skipped := 0, insp := .none, blocking := 0
    overflow := false, order := none, held := none, made := made }

/-- File UNSUPPORTED_CLIP for a record that is UNSUPPORTED (R24, R26). -/
def State.fileUnsupported (s : State) (c : Clip) : State :=
  if c.state = .unsupported then
    s.file .cat { clip := c.id, kind := .unsupportedClip, count := 1, span := none, qual := none }
  else s

/-- A record after a refresh (R26), but for the look slot that the Look Bank is asked for: until the answer the record keeps
the slot it had (the model's choice, assumption 70). -/
def refreshed (c : Clip) (d : Desc) : Clip :=
  { c with
    desc := d, extents := recordExtents d.dataLen, sums := none
    copies := (c.copies.filter fun x => x.state ≠ .verified).map fun x =>
      if x.state = .found then { x with state := .stale, cause := none, recorded := none } else x
    inspected := 0, skipped := 0, insp := .none, stamp := none
    state := if d.unsupported then .unsupported else .listed
    held := none }

/-- Refresh a record with a new description (R26), with the COPY notices in copy-list order (the model's choice, assumption
116). -/
def State.refresh (s : State) (c : Clip) (d : Desc) : State :=
  let r := refreshed c d
  let t := (c.copies.filter fun x => x.state = .found).foldl (fun t x =>
    t.raise .cat (copyStateNotice r { x with state := .stale, cause := none })) (s.setClip r)
  (t.fileUnsupported r).send .cat .lb
    [.defaultRequest d.letter { clip := c.id, serial := c.serial, made := c.made, create := none }]

/-- Hold a description until the order is unbound (R26). -/
def State.holdDesc (s : State) (c : Clip) (d : Desc) : State :=
  (s.setClip { c with held := some d }).raise .cat (clipNotice .catDescriptionHeld c c.order [])

/-- REQUIRED_COPIES_QUERY (R4): the highest required copies of the serial's records. -/
def execRequiredCopiesQuery (b : Bay) (ins : Nat) (serial : Serial) (s : State) : Result :=
  .next (s.send .cat .ci [.requiredCopiesAnswer b ins ((s.clipsOf serial).map (·.required)).max?])

/-- LISTING_REQUEST (R24 to R26). -/
def execListingRequest (b : Bay) (ins : Nat) (serial : Serial) (clipNo required : Nat) (desc : Desc) (s : State) :
    Result :=
  match s.clipOf serial clipNo with
  | some c =>
    let t := s.send .cat .ci [.listingAnswer b ins (.relinked c.id)]
    if c.desc = desc then .next ((t.raise .cat (clipNotice .catRelinked c none [])).search c) else
    match c.order with
    | none => .next (t.refresh c desc)
    | some o =>
      if c.state = .queued then .next (t.send .cat .ods [.catalogRemovalRequest c.id o c.serial c.made desc])
      else .next (t.holdDesc c desc)
  | none =>
    match s.cat.freeId with
    | none => .next (s.send .cat .ci [.listingAnswer b ins .full])
    | some id =>
      let c := newClip id s.token serial clipNo required desc
      let t : State := { s.tick with cat := { clips := insertClip c s.cat.clips } }
      .next ((t.fileUnsupported c).send .cat .lb
        [.defaultRequest desc.letter { clip := id, serial := serial, made := s.token, create := some (b, ins) }])

/-- The record a message was sent about, if no purge has removed it since: its id still names the record of that
card and creation (assumption 58). -/
def State.sameClip (s : State) (id : Nat) (serial : Serial) (made : Nat) : Option Clip :=
  (s.clip? id).filter fun c => c.serial = serial && c.made = made

/-- CAMERA_DEFAULT_ANSWER (R24, R26): a creation answers the CI, a refresh ends. The spec does not say what becomes of an
answer whose record a purge has removed: the model drops it, and keeps it from a record made meanwhile at the same id (the
model's choice, assumption 58). A look slot that ASSIGN LOOK has given a record meanwhile is replaced by the answer's (the
model's choice, assumption 70). The state CREATED and REFRESHED carry is the record's as the answer is taken, QUEUED where
the record was bound meanwhile (the model's choice, assumption 82). -/
def execCameraDefaultAnswer (job : DefaultJob) (slot : LookIx) (s : State) : Result :=
  match s.sameClip job.clip job.serial job.made with
  | none => .next s
  | some c =>
    let t := s.setClip { c with look := slot }
    match job.create with
    | some (b, ins) =>
      .next (((t.send .cat .ci [.listingAnswer b ins (.made c.id)]).raise .cat
        (clipNotice .catCreated c none (fNamed c.state.ctorIdx))).search c)
    | none => .next ((t.raise .cat (clipNotice .catRefreshed c none (fNamed c.state.ctorIdx))).search c)

/-- ORDER_REMOVAL_ANSWER (R26): refresh a record that has no order id, hold the description for one that has. The spec
speaks of the order id asked about and of none; a record bound meanwhile under another order id holds the description too
(the model's choice, assumption 59), and an answer whose record a purge has removed is dropped (assumption 58). -/
def execOrderRemovalAnswer (clip : Nat) (serial : Serial) (made : Nat) (desc : Desc) (_removed : Bool) (s : State) :
    Result :=
  match s.sameClip clip serial made with
  | none => .next s
  | some c => .next (if c.order.isSome then s.holdDesc c desc else s.refresh c desc)

/-! ## Found copies -/

/-- FOUND_OFFER (R32, R33). -/
def execFoundOffer (p : Port) (vol : Serial) (hb : Nat) (serial : Serial) (clipNo dataLen : Nat) (sums : List Sum32)
    (s : State) : Result :=
  match s.clipOf serial clipNo with
  | none => .next s
  | some c =>
    if c.state = .unsupported ∨ c.desc.dataLen ≠ dataLen then .next s else
    let added (c' : Clip) (x : Copy) : State :=
      ((s.setClip c').raise .cat (copyNotice .copyAdded c x (fNamed x.state.ctorIdx))).send .cat .ods
        [.catalogDispatchReport c.id]
    let settle (t : State) (i : Nat) : State :=
      match t.clip? c.id with
      | some c' =>
        match c'.copies[i]? with
        | some x => if c'.complete then t.resolve c' i x else t
        | none => t
      | none => t
    match c.copies.filter fun x => x.vol = vol with
    | [] =>
      let x : Copy :=
        { port := p, vol := vol, hb := hb, state := .found, cause := none, written := c.extents, passes := 0
          mismatch := none, recorded := some sums }
      match placeCopy c.copies x with
      | some l => .next (settle (added { c with copies := l } x) (l.length - 1))
      | none => .next (s.raise .cat { clipNotice .catFoundUnlinked c none [] with port := some p })
    | [x] =>
      if (x.state = .found ∨ x.state = .stale) ∧ x.hb < hb then
        let x' := { x with hb := hb, port := p, recorded := some sums, state := .found, cause := none }
        let i := c.copies.findIdx fun y => y.vol = vol
        .next (settle (added { c with copies := c.copies.set i x' } x') i)
      else .next s
    | _ => .next s

/-! ## Copy records and progress reports -/

/-- COPY_CREATION_REQUEST (R29). -/
def execCopyCreationRequest (ch : Chan) (clip order : Nat) (p : Port) (vol : Serial) (hb : Nat) (s : State) : Result :=
  let ans (t : State) (a : CreateAns) : State := t.send .cat (.cc ch) [.creationAnswer ch order p a]
  match s.clip? clip with
  | none => .next (ans s .notBound)
  | some c =>
    if c.order ≠ some order then .next (ans s .notBound)
    else if c.copies.any fun x => x.vol = vol && !x.state.final then .next (ans s .busy)
    else
      let x : Copy :=
        { port := p, vol := vol, hb := hb, state := .reserved, cause := none, written := 0, passes := 0
          mismatch := none, recorded := none }
      match placeCopy c.copies x with
      | some l =>
        .next ((ans (s.setClip { c with copies := l }) .made).raise .cat
          (copyNotice .copyAdded c x (fNamed x.state.ctorIdx)))
      | none => .next (ans s .full)

/-- HEADER_WRITTEN_REPORT (R30). -/
def execHeaderWrittenReport (clip : Nat) (vol : Serial) (s : State) : Result :=
  match s.reported clip vol fun k => k = .reserved with
  | some (c, i, x) => .next (s.moveCopy c i { x with state := .writing })
  | none => .next s

/-- EXTENT_WRITTEN_REPORT (R30). -/
def execExtentWrittenReport (clip : Nat) (vol : Serial) (s : State) : Result :=
  match s.reported clip vol fun k => k = .writing with
  | some (c, i, x) =>
    if x.written + 1 ≥ c.extents then .next (s.moveCopy c i { x with written := c.extents, state := .written })
    else .next (s.putCopy c i { x with written := x.written + 1 })
  | none => .next s

/-- VERIFY_BEGUN_REPORT (R30). -/
def execVerifyBegunReport (clip : Nat) (vol : Serial) (s : State) : Result :=
  match s.reported clip vol fun k => k = .written || k = .repairing with
  | some (c, i, x) =>
    if x.state = .written then .next (s.moveCopy c i { x with state := .verifying, mismatch := none })
    else .next (s.putCopy c i { x with mismatch := none })
  | none => .next s

/-- MISMATCH_REPORT (R30). -/
def execMismatchReport (clip : Nat) (vol : Serial) (ext : Nat) (s : State) : Result :=
  match s.reported clip vol fun k => k = .verifying || k = .repairing with
  | some (c, i, x) => .next (s.putCopy c i { x with mismatch := some (insertAsc ext (x.mismatch.getD [])) })
  | none => .next s

/-- VERIFY_ENDED_REPORT (R30). -/
def execVerifyEndedReport (clip : Nat) (vol : Serial) (s : State) : Result :=
  match s.reported clip vol fun k => k = .verifying || k = .repairing with
  | some (c, i, x) =>
    if (x.mismatch.getD []).isEmpty then .next s
    else if x.passes < 2 then
      let x' := { x with passes := x.passes + 1, state := .repairing }
      .next (if x.state = .repairing then s.putCopy c i x' else s.moveCopy c i x')
    else .next (s.moveCopy c i { x with state := .failed, cause := some .mismatch })
  | none => .next s

/-- REWRITE_DONE_REPORT (R30). -/
def execRewriteDoneReport (clip : Nat) (vol : Serial) (s : State) : Result :=
  match s.reported clip vol fun k => k = .verifying || k = .repairing with
  | some (c, i, x) => .next (s.moveCopy c i { x with state := .verified, mismatch := none })
  | none => .next s

/-- COPY_END_REPORT (R30). -/
def execCopyEndReport (clip : Nat) (vol : Serial) (final : CopyState) (cause : CopyCause) (s : State) : Result :=
  if ¬endPairOk final cause then .next s else
  match s.reported clip vol CopyState.inProgress with
  | some (c, i, x) => .next (s.moveCopy c i { x with state := final, cause := some cause })
  | none => .next s

/-- LOST_VOLUME_REPORT (R31): clips in ascending id, and a clip's copies in copy-list order (the model's choice, assumption
116). -/
def execLostVolumeReport (_p : Port) (vol : Serial) (s : State) : Result :=
  .next (s.cat.clips.foldl (fun t c0 =>
    (List.range c0.copies.length).foldl (fun t i =>
      match t.clip? c0.id with
      | some c =>
        match c.copies[i]? with
        | some x =>
          if x.vol = vol ∧ x.state.inProgress then t.moveCopy c i { x with state := .failed, cause := some .lostDrive }
          else t
        | none => t
      | none => t) t) s)

/-! ## Source sums and the read -/

/-- START_READ_REQUEST (R34). -/
def execStartReadRequest (ch : Chan) (clip order : Nat) (s : State) : Result :=
  match s.clip? clip with
  | none => .next (s.send .cat (.cc ch) [.startReadAnswer ch order none])
  | some c =>
    if c.order ≠ some order then .next (s.send .cat (.cc ch) [.startReadAnswer ch order none]) else
    let mode := if c.complete then SumMode.compare else .record
    let c' := { c with sums := if c.complete then c.sums else some [] }
    .next (((s.setClip c').clipState c' (some order) .reading).send .cat (.cc ch)
      [.startReadAnswer ch order (some { serial := c.serial, clipNo := c.clipNo, extents := c.extents, desc := c.desc
                                         mode := mode })])

/-- STORED_SUMS_REQUEST (R69). -/
def execStoredSumsRequest (ch : Chan) (clip order : Nat) (s : State) : Result :=
  .next (s.send .cat (.cc ch) [.storedSumsAnswer ch order (((s.clip? clip).bind (·.sums)).getD [])])

/-- The last READ sum has been accepted (R35): the clip becomes CHECKING and its FOUND copies are resolved. -/
def State.readEnds (s : State) (id : Nat) (order : Nat) : State :=
  match s.clip? id with
  | some c => (s.clipState c (some order) .checking).resolveAll id
  | none => s

/-- SUM_REPORT (R35). Whether a READ report is one of RECORD or of COMPARE is read off the sums the record holds, which has
no field for the mode: one that comes once they are complete is compared (the model's choice, assumption 60). -/
def execSumReport (ch : Chan) (clip order ext : Nat) (sum : Sum32) (pass : PassKind) (s : State) : Result :=
  let ans (t : State) (a : SumAns) : State := t.send .cat (.cc ch) [.sumAnswer ch order ext pass a]
  match s.clip? clip with
  | none => .next (ans s .notBound)
  | some c =>
    if c.order ≠ some order then .next (ans s .notBound) else
    let sums := c.sums.getD []
    let last := pass = .read ∧ ext + 1 = c.extents
    if pass = .read ∧ ¬c.complete then
      if ext ≠ sums.length then .next (ans s .notBound) else
      let t := s.setClip { c with sums := some (sums ++ [sum]) }
      .next (ans (if last then t.readEnds clip order else t) .stored)
    else if sums[ext]? = some sum then .next (ans (if last then s.readEnds clip order else s) .equal)
    else .next (ans s .unequal)

/-! ## Binding -/

/-- BIND_REQUEST (R36). -/
def execBindRequest (clip order named : Nat) (s : State) : Result :=
  let ans (t : State) (a : BindAns) : State := t.send .cat .ods [.bindAnswer order a]
  match s.clip? clip with
  | none => .next (ans s .notFound)
  | some c =>
    if c.state = .unsupported then .next (ans s .unsupported)
    else if c.order.isSome then .next (ans s .busy)
    else if (Config.copyRecords - c.copies.length) + (c.copies.filter fun x => x.state.reusable).length < named then
      .next (ans s .full)
    else
      let c' := { c with order := some order }
      .next (ans ((s.setClip c').clipState c' (some order) .queued) (.bound c.serial c.desc.letter))

/-- CANDIDATES_REQUEST (R36). -/
def execCandidatesRequest (q : Req) (serial : Serial) (s : State) : Result :=
  let ids := ((s.clipsOf serial).filter fun c => c.state ≠ .verified ∧ c.state ≠ .unsupported ∧ c.order = none).map
    (·.id)
  .next (s.send .cat .ods [.candidatesAnswer q ids])

/-- UNBIND_REQUEST (R37). The STATE notice carries the id of the order just unbound, which the record no longer holds (the
model's choice, assumption 61). A held description's refresh settles the state: R37's STATE notice follows its COPY notices
and carries the new description's letter (assumption 18), and R26's REFRESHED comes with the Look Bank's answer. -/
def execUnbindRequest (clip order : Nat) (s : State) : Result :=
  match s.clip? clip with
  | none => .next s
  | some c =>
    if c.order ≠ some order then .next s else
    let c' := { c with order := none, sums := if c.complete then c.sums else none }
    let t := s.setClip c'
    match c.held with
    | some d =>
      let r := refreshed c' d
      .next (((t.refresh c' d).clipState { r with state := c.state } (some order) r.state).send .cat .ods
        [.unbindAnswer order clip r.state])
    | none =>
      .next ((t.clipState c' (some order) c'.settled).send .cat .ods [.unbindAnswer order clip c'.settled])

/-! ## Fields kept for other blocks -/

/-- Store a record's blocking count and overflow hold, with the HOLDS notice when either changes (R38). -/
def State.setHolds (s : State) (c : Clip) (blocking : Nat) (overflow : Bool) : State :=
  if blocking = c.blocking ∧ overflow = c.overflow then s
  else (s.setClip { c with blocking := blocking, overflow := overflow }).raise .cat
    (clipNotice .catHolds c none (u16 blocking ++ fFlag overflow))

/-- BLOCKING_COUNT_REPORT (R38, R170). -/
def execBlockingCountReport (clip n : Nat) (s : State) : Result :=
  match s.clip? clip with
  | some c => .next (s.setHolds c n c.overflow)
  | none => .next s

/-- OVERFLOW_HOLD_SET (R38, R164). -/
def execOverflowHoldSet (clip : Nat) (s : State) : Result :=
  match s.clip? clip with
  | some c => .next (s.setHolds c c.blocking true)
  | none => .next s

/-- OVERFLOW_HOLD_CLEAR (R38, R165). -/
def execOverflowHoldClear (clip : Nat) (s : State) : Result :=
  match s.clip? clip with
  | some c => .next (s.setHolds c c.blocking false)
  | none => .next s

/-- A record after an inspection report: the counts saturate at 16,777,215 (R38). -/
def inspected (c : Clip) (rep : InspReport) : Clip :=
  match rep with
  | .addInspected n => { c with inspected := min (c.inspected + n) 16777215 }
  | .addSkipped n => { c with skipped := min (c.skipped + n) 16777215 }
  | .start st => { c with inspected := 0, skipped := 0, insp := st }
  | .setState st only => if only = none ∨ only = some c.insp then { c with insp := st } else c

/-- INSPECTION_COUNT_REPORT (R38). -/
def execInspectionCountReport (clip : Nat) (rep : InspReport) (s : State) : Result :=
  match s.clip? clip with
  | some c => .next (s.setClip (inspected c rep))
  | none => .next s

/-! ## Required copies and looks -/

/-- SET_COPIES_FORWARDED (R39), the records in ascending clip id (the model's choice, assumption 116). -/
def execSetCopiesForwarded (q : Req) (serial : Serial) (count : Nat) (held : Option Letter) (inBay : Bool) (s : State) :
    Result :=
  let cs := s.clipsOf serial
  if cs.isEmpty ∧ ¬inBay then .next (s.refuse .cat q .notFound) else
  let t := cs.foldl (fun t c0 =>
    match t.clip? c0.id with
    | some c =>
      let u := (t.setClip { c with required := count }).recompute c.id
      if c.required = count then u else u.send .cat .ods [.catalogDispatchReport c.id]
    | none => t) s
  let letter := match cs.head? with | some c => some c.desc.letter | none => held
  .next ((t.accept .cat q []).raise .cat
    { sub := .catRequiredCopies, serial := some serial, letter := letter, fields := u8 count })

/-- ASSIGN_LOOK (R40). The version of the LOOK notice, which table 2.10 has for a stamp, is an optional field that is absent
here (the model's choice, assumption 118). -/
def execAssignLook (q : Req) (clip slot : Nat) (s : State) : Result :=
  match decide (clip < Config.clipRecords), ix? 32 slot with
  | true, some l =>
    match s.clip? clip with
    | none => .next (s.refuse .cat q .notFound)
    | some c =>
      .next (((s.setClip { c with look := l }).accept .cat q []).raise .cat
        (clipNotice .catLook c none (u8 slot ++ fOpt [2] u16 none)))
  | _, _ => .next (s.refuse .cat q .value)

/-- STAMP_LOOK (R41): the version of the record's look slot is asked for. -/
def execStampLook (q : Req) (clip : Nat) (s : State) : Result :=
  if clip ≥ Config.clipRecords then .next (s.refuse .cat q .value) else
  match s.clip? clip with
  | none => .next (s.refuse .cat q .notFound)
  | some c => .next (s.send .cat .lb [.versionRequest q clip c.serial c.made c.look])

/-- STAMP_VERSION_ANSWER (R41): an answer about a record purged meanwhile is discarded, and the request refused
NOT_FOUND, also where a record has been made at the same id since. The LOOK notice carries the version as an optional field
that is present (the model's choice, assumption 118). -/
def execStampVersionAnswer (q : Req) (clip : Nat) (serial : Serial) (made : Nat) (slot : LookIx) (version : Nat)
    (s : State) : Result :=
  match s.sameClip clip serial made with
  | none => .next (s.refuse .cat q .notFound)
  | some c =>
    .next (((s.setClip { c with stamp := some (slot, version) }).accept .cat q (u8 slot.val ++ u16 version)).raise .cat
      (clipNotice .catLook c none (u8 slot.val ++ fOpt [2] u16 (some version))))

/-! ## Purging -/

/-- The first reason of R42 that the serial's own records give. -/
def purgeReason (cs : List Clip) : Option Reason :=
  if cs.any fun c => c.order.isSome then some .orderOpen
  else if cs.any fun c => c.insp = .reinspecting then some .reinspecting
  else none

/-- PURGE_CARD (R42): the records are tested, then the Inspector is asked. -/
def execPurgeCard (q : Req) (serial : Serial) (s : State) : Result :=
  let cs := s.clipsOf serial
  if cs.isEmpty then .next (s.refuse .cat q .notFound) else
  match purgeReason cs with
  | some r => .next (s.refuseState .cat q r)
  | none => .next (s.send .cat .ins [.purgeReaderQuery q serial (cs.map (·.id))])

/-- PURGE_READER_ANSWER (R42). -/
def execPurgeReaderAnswer (q : Req) (serial : Serial) (holds : Bool) (s : State) : Result :=
  if holds then .next (s.refuseState .cat q .reinspecting)
  else .next (s.send .cat .ci [.purgeBayQuery q serial])

/-- PURGE_BAY_ANSWER (R42): ORDER_OPEN and REINSPECTING are tested again, then the records are removed. Where another purge
of the serial has removed them all meanwhile, the request is accepted with a count of 0 and PURGED carries 0: NOT_FOUND is
not tested again (the model's choice, assumption 62). -/
def execPurgeBayAnswer (q : Req) (serial : Serial) (held : Bool) (s : State) : Result :=
  if held then .next (s.refuseState .cat q .cardPresent) else
  let cs := s.clipsOf serial
  match purgeReason cs with
  | some r => .next (s.refuseState .cat q r)
  | none =>
    let ids := cs.map (·.id)
    let t : State := { s with cat := { clips := s.cat.clips.filter fun c => c.serial ≠ serial } }
    .next ((((t.send .cat .fl [.purgeList serial ids]).send .cat .ro [.outputPurgeList ids]).accept .cat q
      (u16 ids.length)).raise .cat { sub := .catPurged, serial := some serial, fields := u16 ids.length })

/-- RELEASE_TEST (R19): the first record of the serial that fails, in ascending clip id. -/
def releaseFailure (cs : List Clip) : ReleaseAns :=
  match cs with
  | [] => .passed
  | c :: rest =>
    if c.state ≠ .verified then .fails c.id .clipNotVerified
    else if c.blocking > 0 then .fails c.id .clipBlocked
    else if c.overflow then .fails c.id .overflowHold
    else releaseFailure rest

/-- RELEASE_TEST (R19): the Catalog answers the CI. -/
def execReleaseTest (q : Req) (b : Bay) (ins : Nat) (serial : Serial) (s : State) : Result :=
  .next (s.send .cat .ci [.releaseTestAnswer q b ins (releaseFailure (s.clipsOf serial))])

/-! ## Queries -/

/-- A copy record as QUERY CLIP reports it (R43). -/
def fCopy (x : Copy) : List Field :=
  u8 x.port.val ++ fSerial x.vol ++ u64 x.hb ++ fNamed x.state.ctorIdx ++ fOpt [1] (fun k => fNamed k.ctorIdx) x.cause ++
  u16 x.written ++ u8 x.passes ++ fOpt [2] (fList u16) x.mismatch

/-- A clip record as QUERY CLIP reports it (R43): the sum lists are left out. -/
def fClip (c : Clip) : List Field :=
  u16 c.id ++ fSerial c.serial ++ u16 c.clipNo ++ fLetter c.desc.letter ++ u16 c.desc.reel ++ fTc c.desc.start ++
  u8 c.desc.rate ++ fFlag c.desc.drop ++ u32 c.desc.frames ++ u64 c.desc.dataLen ++ u16 c.extents ++ u8 c.required ++
  fNamed c.state.ctorIdx ++ u16 (c.sums.getD []).length ++ fFlag c.complete ++ fList fCopy c.copies ++ u8 c.look.val ++
  fOpt [1, 2] (fun x => u8 x.1.val ++ u16 x.2) c.stamp ++ u32 c.inspected ++ u32 c.skipped ++ fNamed c.insp.ctorIdx ++
  u16 c.blocking ++ fFlag c.overflow ++ fOpt [2] u16 c.order ++ fFlag c.held.isSome

/-- QUERY_CLIP (R43). -/
def execQueryClip (q : Req) (clip : Nat) (s : State) : Result :=
  if clip ≥ Config.clipRecords then .next (s.refuse .cat q .value) else
  match s.clip? clip with
  | none => .next (s.refuse .cat q .notFound)
  | some c => .next (s.accept .cat q (fClip c))

/-- LIST_CARD (R44). -/
def execListCard (q : Req) (serial : Serial) (s : State) : Result :=
  let cs := s.clipsOf serial
  if cs.isEmpty then .next (s.refuse .cat q .notFound) else
  .next (s.accept .cat q (fList (fun c : Clip => u16 c.id ++ u16 c.clipNo ++ fNamed c.state.ctorIdx ++ u8 c.required ++
    u8 c.verified ++ u16 c.blocking ++ fFlag c.overflow) cs))

/-- FIND_CLIP (R44). -/
def execFindClip (q : Req) (serial : Serial) (clipNo : Nat) (s : State) : Result :=
  if clipNo < 1 ∨ clipNo > 999 then .next (s.refuse .cat q .value) else
  match s.clipOf serial clipNo with
  | none => .next (s.refuse .cat q .notFound)
  | some c => .next (s.accept .cat q (u16 c.id))

/-- Where a lookup's answer goes, and the message it is (R44). -/
def lookupAnswer (who : Asker) (clip : Nat) (rec : Option Clip) : Node × Instr :=
  match who with
  | .dispatch order => (.ods, .dispatchLookupAnswer order rec)
  | .channel ch order => (.cc ch, .clipLengthAnswer ch order rec)
  | .livePass ch pass => (.fx, .liveInspectionStateAnswer ch pass rec)
  | .analysis tok => (.ins, .analysisLookupAnswer tok rec)
  | .reader => (.ins, .reinspectLookupAnswer rec)
  | .occurrence tok => (.fl, .occurrenceLookupAnswer tok rec)
  | .verified tok => (.fl, .verifiedReportLookupAnswer tok rec)
  | .clearHold q tok => (.fl, .clearHoldLookupAnswer q tok clip rec)
  | .boundary k tok => (.ro, .boundaryLookupAnswer k tok rec)
  | .play k => (.ro, .playLookupAnswer k rec)

/-- CLIP_LOOKUP (R44): the record as it stands, or that the id is free. -/
def execClipLookup (who : Asker) (clip : Nat) (s : State) : Result :=
  let a := lookupAnswer who clip (s.clip? clip)
  .next (s.send .cat a.1 [a.2])

end Sys2Proof.Machine
end

