-- ==== Sys2Proof/Machine/Staging.lean ====
section
/-! DEFINITION. The Staging Store (R71, R72): granting, freeing and counting extent buffers. -/

namespace Sys2Proof.Machine

/-- The lowest-numbered FREE buffer (R72). -/
def Staging.lowestFree (t : Staging) : Option Nat :=
  (List.range Config.buffers).find? fun n => !(t.bufs.any fun b => b.num = n)

/-- The buffer of a number, if it is not FREE. -/
def Staging.buf? (t : Staging) (n : Nat) : Option Buffer := t.bufs.find? fun b => b.num = n

/-- A channel below its share (R72). -/
def Staging.eligible (t : Staging) (ch : Chan) : Bool := t.held ch < Config.buffersPerChannel

/-- Insert a buffer in its place by number. -/
def insertBuffer (b : Buffer) : List Buffer → List Buffer
  | [] => [b]
  | x :: xs => if b.num < x.num then b :: x :: xs else x :: insertBuffer b xs

/-- Store the buffers of the Staging Store. -/
def State.setBufs (s : State) (bufs : List Buffer) : State := { s with sts := { s.sts with bufs := bufs } }

/-- Grant a buffer to what a channel asked for: it becomes FILLING (R72). -/
def State.grant (s : State) (w : Waiter) (n : Nat) : State :=
  let b : Buffer := { num := n, owner := w.ch, clip := w.clip, ext := w.ext, pass := w.pass, len := w.len }
  ({ s with sts := { s.sts with bufs := insertBuffer b s.sts.bufs, last := w.ch } }).send .sts (.cc w.ch)
    [.bufferGrant w.ch w.tag n]

/-- A channel leaves the wait list (R72): no buffer is granted to it. -/
def State.leaveWaits (s : State) (ch : Chan) : State :=
  { s with sts := { s.sts with waits := s.sts.waits.filter fun w => w.ch ≠ ch } }

/-- The waiting channel a freed buffer goes to: the first eligible one after the last granted (R72). -/
def Staging.winner (t : Staging) : Option Waiter :=
  ([t.last + 1, t.last + 2, t.last].filter fun ch => t.eligible ch).findSome? fun ch => t.waits.find? fun w => w.ch = ch

/-- Make a buffer that is not FREE so, and grant it to the first eligible waiting channel (R72). -/
def State.freeBuffer (s : State) (n : Nat) : State :=
  if (s.sts.buf? n).isNone then s else
  let s := s.setBufs (s.sts.bufs.filter fun b => b.num ≠ n)
  match s.sts.winner with
  | some w => ({ s with sts := { s.sts with waits := s.sts.waits.filter fun x => x.ch ≠ w.ch } }).grant w n
  | none => s

/-- Take a port out of the pending set of a channel's buffer; a set that empties frees the buffer (R71, R75, R86). A buffer
freed meanwhile, and then granted to another channel, is not the one the port's answer is about. -/
def State.drained (s : State) (ch : Chan) (p : Port) (n : Nat) : State :=
  match s.sts.buf? n with
  | none => s
  | some b =>
    if b.owner ≠ ch ∨ p ∉ b.pend then s else
    let pend := b.pend.filter fun x => x ≠ p
    if pend.isEmpty then s.freeBuffer n
    else s.setBufs (s.sts.bufs.map fun x => if x.num = n then { x with pend := pend } else x)

/-- BUFFER_REQUEST (R72). -/
def execBufferRequest (ch : Chan) (tag clip ext : Nat) (pass : PassKind) (len : Nat) (s : State) : Result :=
  let w : Waiter := { ch := ch, tag := tag, clip := clip, ext := ext, pass := pass, len := len }
  let wait : State := { s with sts := { s.sts with waits := s.sts.waits ++ [w] } }
  match s.sts.lowestFree with
  | some n => .next (if s.sts.eligible ch then s.grant w n else wait)
  | none => .next wait

/-- BUFFER_WITHDRAWAL (R72): a request that was still on its way when the channel withdrew leaves the wait list. -/
def execBufferWithdrawal (ch : Chan) (s : State) : Result := .next (s.leaveWaits ch)

/-- QUERY_STORE (R90). -/
def execQueryStore (q : Req) (s : State) : Result :=
  let count (p : Buffer → Bool) : List Field := u16 (s.sts.bufs.filter p).length
  let held (p : Buffer → Bool) : List Field := u8 (s.sts.bufs.filter p).length
  .next (s.accept .sts q (u16 (Config.buffers - s.sts.bufs.length) ++ count (fun b => b.pend.isEmpty) ++
    count (fun b => !b.pend.isEmpty) ++
    ((List.finRange 3).flatMap fun ch =>
      held (fun b => b.owner = ch && b.pend.isEmpty) ++ held (fun b => b.owner = ch && !b.pend.isEmpty) ++
      fFlag (s.sts.waits.any fun w => w.ch = ch)) ++
    u8 s.sts.last.val))

end Sys2Proof.Machine
end

