-- ==== Sys2Proof/Machine/Channels.lean ====
section
/-! DEFINITION. The copy channels (Section 4): starting an order, reading, verifying, repairing, and winding down. -/

namespace Sys2Proof.Machine

/-! ## Storing parts of a channel context -/

/-- Change the element of a port in a channel's destination list. -/
def State.setElem (s : State) (ch : Chan) (p : Port) (f : Elem → Elem) : State :=
  let c := s.chan ch
  s.setChan ch { c with dests := c.dests.map fun e => if e.port = p then f e else e }

/-- Send a port a request, and count it as outstanding (R65). -/
def State.askPort (s : State) (ch : Chan) (p : Port) (m : Instr) : State :=
  let c := s.chan ch
  (s.setChan ch { c with outstanding := upd c.outstanding p (· + 1) }).send (.cc ch) (.dp p) [m]

/-- A port has answered a request (R65). -/
def State.portAnswered (s : State) (ch : Chan) (p : Port) : State :=
  let c := s.chan ch
  s.setChan ch { c with outstanding := upd c.outstanding p (· - 1) }

/-- Report a copy's progress to the Catalog (R30). -/
def State.tellCat (s : State) (ch : Chan) (m : Instr) : State := s.send (.cc ch) .cat [m]

/-- Make an element DROPPED, out of any repair pass it is a member of (R65, R82). Its repair list is emptied at every drop,
where R79 says so of spent passes alone (the model's choice, assumption 83). -/
def State.dropElem (s : State) (ch : Chan) (p : Port) : State :=
  let t := s.setElem ch p fun e => { e with phase := .dropped, repairList := [], newList := [], toWrite := [] }
  let c := t.chan ch
  t.setChan ch { c with repair := c.repair.map fun r => { r with members := r.members.filter fun x => x ≠ p } }

/-- Send the Catalog the end report of a copy, and make its element DROPPED (R30, R68, R75). -/
def State.endCopy (s : State) (ch : Chan) (e : Elem) (final : CopyState) (cause : CopyCause) : State :=
  (s.tellCat ch (.copyEndReport ((s.chan ch).clip.getD 0) (e.vol.getD 0) final cause)).dropElem ch e.port

/-- Drop a destination at the start of an order, with its notice (R67, R68). -/
def State.dropDest (s : State) (ch : Chan) (p : Port) (cause : DropCause) : State :=
  let c := s.chan ch
  (s.dropElem ch p).raise (.cc ch)
    { sub := .orderDestinationDropped, serial := some c.serial, bay := s.ods.bayOf c.serial, clip := c.clip
      order := c.order, letter := c.letter, port := some p
      fields := u8 ch.val ++ fNamed cause.ctorIdx }

/-- The header span of an element's copy comes first, then extent `e` at 2048 blocks each (R67). -/
def extentBlock (span hb ext : Nat) : Nat := hb + span + Config.extentBlocks * ext

/-! ## Bursts -/

/-- Request the first burst of an extent, and a buffer for it (R73, R81). -/
def State.startExtent (s : State) (ch : Chan) (ext : Nat) (pass : PassKind) : State :=
  let c := s.chan ch
  let f : Filling := { ext := ext, pass := pass, tag := s.token }
  ((s.tick.setChan ch { c with fill := some f, bufferWait := true, burstOut := true }).send (.cc ch) .sts
    [.bufferRequest ch s.token (c.clip.getD 0) ext pass (extentLen c.dataLen ext)]).send (.cc ch) .ci
    [.burstRequest ch c.serial c.clipNo ext 0 false]

/-- Request the next burst of the extent being filled (R73). -/
def State.nextBurst (s : State) (ch : Chan) (f : Filling) : State :=
  let c := s.chan ch
  (s.setChan ch { c with fill := some f, burstOut := true }).send (.cc ch) .ci
    [.burstRequest ch c.serial c.clipNo f.ext f.burst f.num.isSome]

/-- Give up the claim (R11). -/
def State.giveUpClaim (s : State) (ch : Chan) : State :=
  let c := s.chan ch
  if c.claim = .none then s
  else (s.setChan ch { c with claim := .none }).send (.cc ch) .ci [.handBack ch c.serial]

/-- Send the CI a claim for the card (R69, R80). -/
def State.sendClaim (s : State) (ch : Chan) : State :=
  let c := s.chan ch
  (s.tick.setChan ch { c with claimAsked := true, claimTag := s.token }).send (.cc ch) .ci
    [.claim ch c.serial s.token]

/-! ## Ends and wind-down (4.8, 4.9) -/

/-- The end state and cause of the copies for an end kind (R83 to R87). -/
def endState (k : EndKind) : CopyState × CopyCause :=
  match k with
  | .failed .readError => (.abandoned, .readError)
  | .failed .cardGone => (.abandoned, .cardGone)
  | .failed c => (.failed, c)
  | .aborted => (.abandoned, .aborted)
  | .complete => (.abandoned, .aborted)

/-- No port request of a channel is outstanding. -/
def Channel.noneOutstanding (c : Channel) : Bool := c.outstanding.toList.all (· == 0)

/-- Send the Order Dispatcher the end report and empty the context (R88, R89). The end reports of the copies go out in the
order of the destination list (the model's choice, assumption 116). -/
def State.endOrder (s : State) (ch : Chan) (k : EndKind) : State :=
  (s.setChan ch {}).send (.cc ch) .ods [.orderEndReport ch ((s.chan ch).order.getD 0) k]

/-- The last step of the wind-down (R88): the end reports of the alive copies, then the end report of the order. A claim sent
and not yet answered, of which R88 does not speak, keeps the wind-down open, and is handed back once its answer says that
it is HELD or WAITING (the model's choice, assumption 119). -/
def State.windDown (s : State) (ch : Chan) : State :=
  let c := s.chan ch
  let waiting := c.dests.any fun e => e.phase = .reserving || e.phase = .creating
  if s.sts.held ch ≠ 0 ∨ c.claim ≠ .none ∨ c.claimAsked ∨ c.burstOut ∨ ¬c.noneOutstanding ∨ waiting then s else
  let k := c.ended.getD .aborted
  let t := (c.dests.filter fun e => e.phase.alive).foldl (fun t e => t.endCopy ch e (endState k).1 (endState k).2) s
  t.endOrder ch k

/-- With no burst at the CI: leave the wait list, then free the FILLING buffers, in ascending number (the model's choice,
assumption 107), and hand the card back (R88 step 2). A freeing reaches the store at once, and so does the withdrawal
before it; the message that follows finds a request still on its way (the model's choice, assumption 105). -/
def State.stopReading (s : State) (ch : Chan) : State :=
  let c := s.chan ch
  let t := if c.bufferWait then (s.leaveWaits ch).send (.cc ch) .sts [.bufferWithdrawal ch] else s
  let full := (s.sts.bufs.filter fun b => b.owner = ch && b.pend.isEmpty).map (·.num)
  let nums := full.filter fun n => (c.fill.bind (·.num)) = some n || c.summing.any fun x => x.1 = n
  let t := nums.foldl State.freeBuffer (t.setChan ch { c with bufferWait := false, fill := none, summing := [] })
  t.giveUpClaim ch

/-- Enter ENDING (R88 steps 1 to 4). A repair pass that was granted stays in the context, whatever has become of the claim.
The live pass is cut off and the withdrawals are sent at once, also with a burst still to be answered (the model's choice,
assumption 94). Of a read that was never begun, no live pass stands at the Frame Extractor and none is cut off (the model's
choice, assumption 68). An element RESERVING whose reservation has not been sent is dropped without a notice (the model's
choice, assumption 27). -/
def State.enterEnding (s : State) (ch : Chan) (k : EndKind) : State :=
  let c := s.chan ch
  let unsent (e : Elem) : Elem := if c.lookup ∧ e.phase = .reserving then { e with phase := .dropped } else e
  let t := s.setChan ch { c with
    phase := .ending, ended := some k, lookup := false, dests := c.dests.map unsent
    repair := c.repair.filter (·.granted) }
  let t := if c.burstOut then t else t.stopReading ch
  let t := if c.begun ∧ c.phase ≠ .finishing then t.send (.cc ch) .fx [.livePassCutOff ch] else t
  let t := (List.finRange 4).foldl (fun t p =>
    if c.outstanding[p] = 0 then t else t.send (.cc ch) (.dp p) [.withdrawal ch p (c.order.getD 0)]) t
  t.windDown ch

/-- Card loss (R85). -/
def State.cardLoss (s : State) (ch : Chan) : State := s.enterEnding ch (.failed .cardGone)

/-! ## Progress from one phase to the next -/

/-- Send the start-read request when every element has left RESERVING, CREATING and HEADER (R69). -/
def State.maybeStartRead (s : State) (ch : Chan) : State :=
  let c := s.chan ch
  if c.lookup ∨ c.asked ∨ c.dests.any (fun e => e.phase = .reserving || e.phase = .creating || e.phase = .header) then s
  else (s.setChan ch { c with asked := true }).tellCat ch (.startReadRequest ch (c.clip.getD 0) (c.order.getD 0))

/-- Send a verify read of an extent of a copy (R77, R81). -/
def State.sendVerify (s : State) (ch : Chan) (e : Elem) (ext : Nat) : State :=
  let c := s.chan ch
  s.askPort ch e.port (.verifyRead ch e.port (c.order.getD 0) (e.vol.getD 0) ext
    (extentBlock c.span (e.hb.getD 0) ext) (extentLen c.dataLen ext) (c.sums.getD ext 0))

/-- Begin the verification of a copy (R77). -/
def State.beginVerify (s : State) (ch : Chan) (e : Elem) : State :=
  let t := s.tellCat ch (.verifyBegunReport ((s.chan ch).clip.getD 0) (e.vol.getD 0))
  (t.setElem ch e.port fun x => { x with phase := .verify, nextVerify := 0, repairList := [] }).sendVerify ch e 0

/-- Begin a repair pass over the copies in REPAIR_WAIT (R80). -/
def State.beginRepair (s : State) (ch : Chan) : State :=
  let c := s.chan ch
  let ms := c.dests.filter fun e => e.phase = .repairWait
  let exts := (ms.flatMap fun e => e.repairList).foldl (fun l n => insertAsc n l) []
  let joins (e : Elem) : Elem :=
    if e.phase = .repairWait then { e with phase := .repair, toWrite := e.repairList } else e
  (s.setChan ch { c with repair := some { exts := exts, members := ms.map (·.port) }
                         dests := c.dests.map joins }).sendClaim ch

/-- In FINISHING: begin verifications, begin a repair pass, or complete the order (R77, R80, R89). -/
def State.finish (s : State) (ch : Chan) : State :=
  let c := s.chan ch
  let t := (c.dests.filter fun e => e.phase = .writing ∧ e.written = c.extents).foldl (fun t e => t.beginVerify ch e) s
  let c := t.chan ch
  if c.repair.isSome then t
  else if c.dests.any fun e => e.phase = .repairWait then t.beginRepair ch
  else if (c.dests.all fun e => e.phase = .skipped || e.phase = .dropped) ∧ t.sts.held ch = 0 ∧ c.noneOutstanding then
    t.endOrder ch .complete
  else t

/-- What a channel does once an answer has been taken: what its phase then calls for. -/
def State.settle (s : State) (ch : Chan) : State :=
  match (s.chan ch).phase with
  | .starting => s.maybeStartRead ch
  | .finishing => s.finish ch
  | .ending => s.windDown ch
  | .idle | .reading => s

/-- The channel runs that order. -/
def Channel.runs (c : Channel) (order : Nat) : Bool := c.phase ≠ .idle && c.order = some order

/-! ## Starting (4.2) -/

/-- START_MESSAGE (R66). -/
def execStartMessage (ch : Chan) (order clip : Nat) (serial : Serial) (dests : List Dest) (s : State) : Result :=
  if (s.chan ch).phase ≠ .idle then .next s else
  let elem (d : Dest) : Elem :=
    { port := d.port, disp := d.disp, vol := d.vol, phase := if d.disp = .write then .reserving else .skipped }
  .next ((s.setChan ch { phase := .starting, order := some order, clip := some clip, serial := serial, lookup := true
                         dests := dests.map elem }).lookup (.cc ch) (.channel ch order) clip)

/-- CLIP_LENGTH_ANSWER (R66, R67): the reservations are sent, or the start-read request where there are none. -/
def execClipLengthAnswer (ch : Chan) (order : Nat) (rec : Option Clip) (s : State) : Result :=
  let c := s.chan ch
  if ¬(c.runs order ∧ c.phase = .starting ∧ c.lookup) then .next s else
  match rec with
  | none => .next (s.cardLoss ch)
  | some r =>
    let t := s.setChan ch { c with lookup := false, clipNo := r.clipNo, dataLen := r.desc.dataLen
                                   extents := r.extents, letter := some r.desc.letter }
    let blocks := spanOf r.extents + dataBlocks r.desc.dataLen
    let t := (c.dests.filter fun e => e.phase = .reserving).foldl (fun t e =>
      t.askPort ch e.port (.reservationRequest ch e.port order (e.vol.getD 0) blocks)) t
    .next (t.settle ch)

/-- RESERVATION_ANSWER (R67, R88). -/
def execReservationAnswer (ch : Chan) (order : Nat) (p : Port) (ans : ReserveAns) (s : State) : Result :=
  let c := s.chan ch
  match c.runs order, c.elem? p with
  | true, some e =>
    if e.phase ≠ .reserving then .next s else
    let s := s.portAnswered ch p
    match ans with
    | .refused cause => .next ((s.dropDest ch p cause).settle ch)
    | .reserved hb =>
      if c.phase = .starting then
        .next ((s.setElem ch p fun e => { e with hb := some hb, phase := .creating }).tellCat ch
          (.copyCreationRequest ch (c.clip.getD 0) order p (e.vol.getD 0) hb))
      else .next ((s.dropElem ch p).settle ch)
  | _, _ => .next s

/-- CREATION_ANSWER (R68, R86, R88). For an element with the loss mark answered MADE in ENDING, R86 and R88 name two ends:
the model reports R86's, FAILED with LOST_DRIVE (the model's choice, assumption 66). -/
def execCreationAnswer (ch : Chan) (order : Nat) (p : Port) (ans : CreateAns) (s : State) : Result :=
  let c := s.chan ch
  match c.runs order, c.elem? p with
  | true, some e =>
    if e.phase ≠ .creating then .next s else
    match ans with
    | .made =>
      if e.lossSeen then .next ((s.endCopy ch e .failed .lostDrive).settle ch)
      else if c.phase = .ending then
        let k := endState (c.ended.getD .aborted)
        .next ((s.endCopy ch e k.1 k.2).settle ch)
      else
        .next ((s.setElem ch p fun e => { e with phase := .header }).askPort ch p
          (.headerWrite ch p order (e.vol.getD 0) (e.hb.getD 0) c.serial c.clipNo c.dataLen))
    | .full => .next ((s.dropDest ch p .full).settle ch)
    | .busy => .next ((s.dropDest ch p .busy).settle ch)
    | .notBound =>
      let t := s.dropElem ch p
      .next (if c.phase = .ending then t.settle ch else t.cardLoss ch)
  | _, _ => .next s

/-- A drive is lost under a channel (R86): an alive copy there is dropped, and the port leaves the pending sets of the
channel's buffers, in ascending number (the model's choice, assumption 107). A copy that is no longer alive leaves each
set with the answer about it, and an element in CREATING keeps the mark of the loss. -/
def State.loseDrive (s : State) (ch : Chan) (p : Port) : State :=
  match (s.chan ch).elem? p with
  | some e =>
    if e.phase.alive then
      ((s.sts.bufs.filter fun b => b.owner = ch && p ∈ b.pend).map (·.num)).foldl (fun t n => t.drained ch p n)
        (s.dropElem ch p)
    else if e.phase = .creating then s.setElem ch p fun e => { e with lossSeen := true }
    else s
  | none => s

/-- A write of a copy has failed (R68, R75, R78, R86): the copy ends FAILED, and its writes waiting in the port are
withdrawn. -/
def State.writeFailed (s : State) (ch : Chan) (p : Port) (e : Elem) : State :=
  let t := s.endCopy ch e .failed .writeFailed
  if (t.chan ch).outstanding[p] = 0 then t
  else t.send (.cc ch) (.dp p) [.withdrawal ch p ((t.chan ch).order.getD 0)]

/-- The element of a port, while the channel runs that order. -/
def Channel.answering (c : Channel) (order : Nat) (p : Port) : Option Elem :=
  if c.runs order then c.elem? p else none

/-- HEADER_WRITE_ANSWER (R68, R86, R88). -/
def execHeaderWriteAnswer (ch : Chan) (order : Nat) (p : Port) (ans : WriteAns) (s : State) : Result :=
  let c := s.chan ch
  match c.answering order p with
  | none => .next s
  | some e =>
    let t := s.portAnswered ch p
    if e.phase ≠ .header then .next (t.settle ch) else
    match ans with
    | .done =>
      if c.phase = .ending then .next (t.settle ch)
      else
        .next (((t.tellCat ch (.headerWrittenReport (c.clip.getD 0) (e.vol.getD 0))).setElem ch p fun e =>
          { e with phase := .writing }).settle ch)
    | .failed => .next ((t.writeFailed ch p e).settle ch)
    | .lost => .next ((t.loseDrive ch p).settle ch)
    | .withdrawn => .next (t.settle ch)

/-- START_READ_ANSWER (R69). -/
def execStartReadAnswer (ch : Chan) (order : Nat) (info : Option ReadInfo) (s : State) : Result :=
  let c := s.chan ch
  if ¬(c.runs order ∧ c.phase = .starting ∧ c.asked ∧ ¬c.begun) then .next s else
  match info with
  | none => .next (s.cardLoss ch)
  | some i =>
    let t := (s.setChan ch { c with clipNo := i.clipNo, dataLen := i.desc.dataLen, extents := i.extents
                                    mode := some i.mode, sums := [], begun := true }).send (.cc ch) .fx
      [.livePassBegin ch (c.clip.getD 0) i.desc]
    match i.mode with
    | .record => .next (t.sendClaim ch)
    | .compare => .next (t.tellCat ch (.storedSumsRequest ch (c.clip.getD 0) order))

/-- STORED_SUMS_ANSWER (R69): the claim follows. -/
def execStoredSumsAnswer (ch : Chan) (order : Nat) (sums : List Sum32) (s : State) : Result :=
  let c := s.chan ch
  if c.runs order ∧ c.phase = .starting ∧ c.mode = some .compare ∧ ¬c.claimAsked ∧ c.claim = .none then
    .next ((s.setChan ch { c with sums := sums }).sendClaim ch)
  else .next s

/-! ## The claim -/

/-- The element is a member of the running repair pass, still in REPAIR (R80, R81). -/
def Channel.member (c : Channel) (e : Elem) : Bool :=
  e.phase = .repair && c.repair.any fun r => r.members.contains e.port

/-- Members of a repair pass that could not be begun fail with CARD_GONE, in the order of the destination list (the model's
choice, assumption 116), and the pass ends (R80). -/
def State.dropRepair (s : State) (ch : Chan) : State :=
  let c := s.chan ch
  let ms := c.dests.filter c.member
  let t := ms.foldl (fun t e => t.endCopy ch e .failed .cardGone) s
  t.setChan ch { t.chan ch with repair := none }

/-- CLAIM_ANSWER (R69, R80, R85, R88): an answer to a claim given up is discarded. A CARD_GONE answer makes the claim NONE,
so that no hand-back is sent for it (the model's choice, assumption 67). -/
def execClaimAnswer (ch : Chan) (tag : Nat) (ans : ClaimAns) (s : State) : Result :=
  let c := s.chan ch
  if c.claimTag ≠ tag ∨ (¬c.claimAsked ∧ c.claim = .none) then .next s else
  let begun (t : State) : State :=
    if c.claimAsked ∧ c.phase = .finishing then
      t.send (.cc ch) .ods [.repairBegunReport ch (c.order.getD 0)] else t
  match ans with
  | .granted =>
    if c.claim = .held then .next s else
    let t := s.setChan ch { c with claimAsked := false, claim := .held }
    match c.phase with
    | .starting =>
      .next ((t.setChan ch { t.chan ch with phase := .reading }).startExtent ch c.next .read)
    | .finishing =>
      let t := t.setChan ch { t.chan ch with repair := c.repair.map fun r => { r with granted := true } }
      match c.repair.bind fun r => r.exts[r.done]? with
      | some ext => .next ((begun t).startExtent ch ext .repair)
      | none => .next (begun t)
    | .ending => .next ((t.giveUpClaim ch).settle ch)
    | .idle | .reading => .next t
  | .waiting =>
    if c.claim ≠ .none then .next s else
    let t := s.setChan ch { c with claimAsked := false, claim := .waiting }
    .next (if c.phase = .ending then (t.giveUpClaim ch).settle ch else begun t)
  | .cardGone =>
    let t := s.setChan ch { c with claimAsked := false, claim := .none }
    match c.phase with
    | .starting | .reading => .next (t.cardLoss ch)
    | .finishing => .next (if c.claimAsked then (t.dropRepair ch).settle ch else t.cardLoss ch)
    | .ending | .idle => .next (t.settle ch)

/-! ## Reading (4.5) -/

/-- BUFFER_GRANT (R72, R73): a grant no longer wanted frees its buffer. -/
def execBufferGrant (ch : Chan) (tag num : Nat) (s : State) : Result :=
  let c := s.chan ch
  match c.fill with
  | some f =>
    if f.tag = tag ∧ f.num = none then
      .next ((s.setChan ch { c with fill := some { f with num := some num }, bufferWait := false }).send (.cc ch) .ci
        [.burstGrantReport ch c.serial])
    else .next ((s.freeBuffer num).settle ch)
  | none => .next ((s.freeBuffer num).settle ch)

/-- The extent's buffer is full (R74, R81): its sum goes to the Catalog, and the next extent is requested. -/
def State.extentFull (s : State) (ch : Chan) (f : Filling) (num : Nat) : State :=
  let c := s.chan ch
  let sum := extentSum (((s.sts.buf? num).map (·.data)).getD [])
  let c' := { c with fill := none, summing := c.summing ++ [(num, f.ext, f.pass)] }
  let sent (t : State) : State :=
    t.tellCat ch (.sumReport ch (c.clip.getD 0) (c.order.getD 0) f.ext sum f.pass)
  match f.pass with
  | .read =>
    let t := sent (s.setChan ch { c' with next := c.next + 1 })
    if c.next + 1 < c.extents then t.startExtent ch (c.next + 1) .read else t
  | .repair =>
    let r := c.repair.map fun r => { r with done := r.done + 1 }
    let t := sent (s.setChan ch { c' with repair := r })
    match r.bind fun r => r.exts[r.done]? with
    | some ext => t.startExtent ch ext .repair
    | none => t

/-- The bytes of a burst go into the buffer, and those of a READ to the Frame Extractor (R73, R81). An extent is full by its
bytes alone, so that bursts past number 31 are requested of a card whose clip is shorter than the Catalog's (the model's
choice, assumption 86). -/
def State.burstDone (s : State) (ch : Chan) (f : Filling) (num : Nat) (bytes : List Byte) : State :=
  let t := s.setBufs (s.sts.bufs.map fun b => if b.num = num then { b with data := b.data ++ bytes } else b)
  let t := match f.pass with
    | .read => t.send (.cc ch) .fx [.liveBytes ch bytes]
    | .repair => t
  let f' := { f with bytes := f.bytes + bytes.length, burst := f.burst + 1 }
  if f'.bytes ≥ extentLen (s.chan ch).dataLen f.ext then t.extentFull ch f' num else t.nextBurst ch f'

/-- BURST_ANSWER (R73, R84, R85, R88). -/
def execBurstAnswer (ch : Chan) (ans : BurstAns) (s : State) : Result :=
  let c := s.chan ch
  if ¬c.burstOut then .next s else
  let t := s.setChan ch { c with burstOut := false }
  if c.phase = .ending then .next ((t.stopReading ch).settle ch) else
  match ans with
  | .done bytes =>
    match c.fill with
    | some f =>
      match f.num with
      | some num => .next (t.burstDone ch f num bytes)
      | none => .next t
    | none => .next t
  | .readError =>
    .next ((t.file (.cc ch) { clip := c.clip.getD 0, kind := .readError, count := 1, span := none, qual := none }).enterEnding
      ch (.failed .readError))
  | .cardGone | .notBound => .next (t.cardLoss ch)

/-- Hand a full buffer on to the ports that write it, or free it (R74, R81). -/
def State.handOn (s : State) (ch : Chan) (num ext : Nat) (writes : Elem → Bool) : State :=
  let c := s.chan ch
  let es := c.dests.filter writes
  if es.isEmpty then s.freeBuffer num else
  let t := s.setBufs (s.sts.bufs.map fun b => if b.num = num then { b with pend := es.map (·.port) } else b)
  es.foldl (fun t e => t.askPort ch e.port (.extentWrite ch e.port (c.order.getD 0) (e.vol.getD 0) num
    (extentBlock c.span (e.hb.getD 0) ext))) t

/-- The read is done (R76). -/
def State.readDone (s : State) (ch : Chan) : State :=
  let t := (s.giveUpClaim ch).send (.cc ch) .fx [.livePassEndOfData ch]
  (t.setChan ch { t.chan ch with phase := .finishing }).send (.cc ch) .ods
    [.readDoneReport ch ((t.chan ch).order.getD 0)]

/-- The repair pass has re-read its last extent (R81). -/
def State.repairDone (s : State) (ch : Chan) : State :=
  let t := s.giveUpClaim ch
  (t.setChan ch { t.chan ch with repair := none }).send (.cc ch) .ods
    [.repairDoneReport ch ((t.chan ch).order.getD 0)]

/-- A sum was accepted (R74, R76, R81). -/
def State.sumAccepted (s : State) (ch : Chan) (num ext : Nat) (pass : PassKind) (ans : SumAns) : State :=
  let c := s.chan ch
  match pass with
  | .read =>
    let sum := extentSum (((s.sts.buf? num).map (·.data)).getD [])
    let t := if ans = .stored then s.setChan ch { c with sums := c.sums ++ [sum] } else s
    let t := if ext + 1 = c.extents then t.readDone ch else t
    (t.handOn ch num ext fun e => e.phase = .writing).settle ch
  | .repair =>
    let t := s.handOn ch num ext fun e => c.member e && e.repairList.contains ext
    let last := c.repair.any fun r => r.exts.getLast? = some ext && r.done = r.exts.length
    (if last then t.repairDone ch else t).settle ch

/-- SUM_ANSWER (R74, R81, R83, R85): discarded in ENDING and once IDLE (R88). UNEQUAL frees the refused sum's buffer (R83);
after NOT_BOUND the wind-down frees it with the other FILLING ones (R88 step 2). -/
def execSumAnswer (ch : Chan) (order ext : Nat) (pass : PassKind) (ans : SumAns) (s : State) : Result :=
  let c := s.chan ch
  if ¬c.runs order ∨ c.phase = .ending then .next s else
  match c.summing.find? fun x => x.2.1 = ext && x.2.2 = pass with
  | none => .next s
  | some (num, _, _) =>
    let t := s.setChan ch { c with summing := c.summing.filter fun x => ¬(x.2.1 = ext ∧ x.2.2 = pass) }
    match ans with
    | .stored | .equal => .next (t.sumAccepted ch num ext pass ans)
    | .unequal =>
      .next (((t.file (.cc ch)
        { clip := c.clip.getD 0, kind := .sourceUnstable, count := 1, span := none, qual := none }).freeBuffer
          num).enterEnding ch (.failed .sourceUnstable))
    | .notBound => .next (s.cardLoss ch)

/-! ## Writing, verifying and repairing (4.5 to 4.7) -/

/-- An extent write of a copy is DONE (R75, R81). -/
def State.extentDone (s : State) (ch : Chan) (e : Elem) (ext : Nat) : State :=
  let c := s.chan ch
  let clip := c.clip.getD 0
  let vol := e.vol.getD 0
  match e.phase with
  | .writing =>
    (s.tellCat ch (.extentWrittenReport clip vol)).setElem ch e.port fun e => { e with written := e.written + 1 }
  | .repair =>
    let left := e.toWrite.filter fun n => n ≠ ext
    if left.isEmpty then
      let t := (s.tellCat ch (.verifyBegunReport clip vol)).setElem ch e.port fun e =>
        { e with phase := .reverify, toWrite := [], newList := [], repairList := e.repairList.drop 1 }
      match e.repairList with
      | n :: _ => t.sendVerify ch e n
      | [] => t
    else s.setElem ch e.port fun e => { e with toWrite := left }
  | .skipped | .reserving | .creating | .header | .verify | .repairWait | .reverify | .rewrite | .dropped => s

/-- EXTENT_WRITE_ANSWER (R75, R81, R86, R88). -/
def execExtentWriteAnswer (ch : Chan) (order : Nat) (p : Port) (num : Nat) (ans : WriteAns) (s : State) : Result :=
  let c := s.chan ch
  match c.answering order p with
  | none => .next s
  | some e =>
    let ext := ((s.sts.buf? num).map (·.ext)).getD 0
    let t := (s.portAnswered ch p).drained ch p num
    match ans with
    | .done => .next ((if c.phase = .ending then t else t.extentDone ch e ext).settle ch)
    | .failed => .next ((if e.phase.alive then t.writeFailed ch p e else t).settle ch)
    | .lost => .next ((t.loseDrive ch p).settle ch)
    | .withdrawn => .next (t.settle ch)

/-- A round of reading back has ended (R77 to R79, R81, R82): `bad` is the repair list it has built. -/
def State.verifyEnded (s : State) (ch : Chan) (e : Elem) (bad : List Nat) : State :=
  let c := s.chan ch
  let vol := e.vol.getD 0
  let t := s.tellCat ch (.verifyEndedReport (c.clip.getD 0) vol)
  if bad.isEmpty then
    (t.setElem ch e.port fun e => { e with phase := .rewrite, repairList := [], newList := [] }).askPort ch e.port
      (.headerRewrite ch e.port (c.order.getD 0) vol (e.hb.getD 0) c.sums)
  else if e.passes < 2 then
    t.setElem ch e.port fun e =>
      { e with phase := .repairWait, passes := e.passes + 1, repairList := bad, newList := [] }
  else t.dropElem ch e.port

/-- VERIFY_READ_ANSWER (R77, R81, R86, R88). Next extent to verify rises as an answer is taken, is the extent count after
the last, and keeps that in REVERIFY (the model's choice, assumption 84). -/
def execVerifyReadAnswer (ch : Chan) (order : Nat) (p : Port) (ext : Nat) (ans : VerifyAns) (s : State) : Result :=
  let c := s.chan ch
  match c.answering order p with
  | none => .next s
  | some e =>
    let t := s.portAnswered ch p
    match ans with
    | .lost => .next ((t.loseDrive ch p).settle ch)
    | .withdrawn => .next (t.settle ch)
    | .matched | .mismatch =>
      if c.phase = .ending ∨ (e.phase ≠ .verify ∧ e.phase ≠ .reverify) then .next (t.settle ch) else
      let bad := ans = .mismatch
      let t := if bad then t.tellCat ch (.mismatchReport (c.clip.getD 0) (e.vol.getD 0) ext) else t
      if e.phase = .verify then
        let l := if bad then insertAsc ext e.repairList else e.repairList
        let n := e.nextVerify + 1
        let t := t.setElem ch p fun e => { e with repairList := l, nextVerify := n }
        .next ((if n < c.extents then t.sendVerify ch e n else t.verifyEnded ch e l).settle ch)
      else
        let l := if bad then insertAsc ext e.newList else e.newList
        let t := t.setElem ch p fun e => { e with newList := l, repairList := e.repairList.drop 1 }
        match e.repairList with
        | n :: _ => .next ((t.sendVerify ch e n).settle ch)
        | [] => .next ((t.verifyEnded ch e l).settle ch)

/-- HEADER_REWRITE_ANSWER (R78, R86, R88): a rewrite answered DONE is reported also in ENDING. -/
def execHeaderRewriteAnswer (ch : Chan) (order : Nat) (p : Port) (ans : WriteAns) (s : State) : Result :=
  let c := s.chan ch
  match c.answering order p with
  | none => .next s
  | some e =>
    let t := s.portAnswered ch p
    if e.phase ≠ .rewrite then .next (t.settle ch) else
    match ans with
    | .done =>
      .next (((t.tellCat ch (.rewriteDoneReport (c.clip.getD 0) (e.vol.getD 0))).dropElem ch p).settle ch)
    | .failed => .next ((t.writeFailed ch p e).settle ch)
    | .lost => .next ((t.loseDrive ch p).settle ch)
    | .withdrawn => .next (t.settle ch)

/-- CHANNEL_LOST_VOLUME (R86). -/
def execChannelLostVolume (ch : Chan) (p : Port) (vol : Serial) (s : State) : Result :=
  match (s.chan ch).elem? p with
  | some e => .next (if e.vol = some vol then (s.loseDrive ch p).settle ch else s)
  | none => .next s

/-- CHANNEL_ABORT (R87). -/
def execChannelAbort (ch : Chan) (order : Nat) (s : State) : Result :=
  let c := s.chan ch
  if ¬c.runs order ∨ c.phase = .ending then .next s
  else .next ((s.setChan ch { c with abort := true }).enterEnding ch .aborted)

/-! ## Questions and queries -/

/-- STATUS_QUERY (R102). -/
def execStatusQuery (p : Port) (ch : Chan) (order : Nat) (s : State) : Result :=
  .next (s.send (.cc ch) (.dp p) [.statusQueryAnswer p ch order ((s.chan ch).aliveFor p order)])

/-- WATCH (R102): answered CLOSED now, or when the element closes. -/
def execWatch (p : Port) (ch : Chan) (order : Nat) (s : State) : Result :=
  if (s.chan ch).aliveFor p order then
    .next { s with cc := { s.cc with watches := s.cc.watches ++ [(p, ch, order)] } }
  else .next (s.send (.cc ch) (.dp p) [.watchAnswer p ch order])

/-- An end kind as fields: its place in R65, and the cause of FAILED by its place in R58's list, as an optional field (the
model's choice, assumption 117). -/
def fEnd (k : EndKind) : List Field :=
  match k with
  | .complete => fNamed 0 ++ fOpt [1] (fun c : CopyCause => fNamed (failCause c).ctorIdx) none
  | .failed c => fNamed 1 ++ fOpt [1] (fun c : CopyCause => fNamed (failCause c).ctorIdx) (some c)
  | .aborted => fNamed 2 ++ fOpt [1] (fun c : CopyCause => fNamed (failCause c).ctorIdx) none

/-- QUERY_CHANNEL (R90). Order id, clip id and sum mode are optional fields, and the card serial, which has no presence
byte, is 0 where the channel has none (the model's choice, assumption 85). The repair list of an element in REVERIFY is
what is left to read back, without the new list that builds (the model's choice, assumption 95). -/
def execQueryChannel (q : Req) (n : Nat) (s : State) : Result :=
  match ix? 3 n with
  | none => .next (s.refuse (.cc 0) q .value)
  | some ch =>
    let c := s.chan ch
    .next (s.accept (.cc ch) q (fNamed c.phase.ctorIdx ++ fOpt [2] u16 c.order ++ fOpt [2] u16 c.clip ++
      fSerial c.serial ++ fOpt [1] (fun m => fNamed m.ctorIdx) c.mode ++ u16 c.sums.length ++ u16 c.next ++
      fNamed c.claim.ctorIdx ++ fFlag c.bufferWait ++ u8 (s.sts.held ch) ++
      fList (fun e : Elem => u8 e.port.val ++ fNamed e.phase.ctorIdx ++ u16 e.written ++ u16 e.nextVerify ++
        fList u16 e.repairList) c.dests ++
      fOpt [2] (fun r : RepairPass => fList u16 r.exts) c.repair ++ fFlag c.abort ++
      fOpt [1, 1, 1] fEnd c.ended))

end Sys2Proof.Machine
end

