-- ==== Sys2Proof/Machine/Inspector.lean ====
section
/-! DEFINITION. The Inspector (Section 7): continuity, image analysis, hot sites, thresholds, the pass result and the
re-inspection reader. -/

namespace Sys2Proof.Machine

/-! ## Continuity (7.1) -/

/-- Store the continuity context of a channel. -/
def State.setCont (s : State) (ch : Chan) (c : Continuity) : State :=
  { s with ins := { s.ins with conts := upd s.ins.conts ch fun _ => c } }

/-- An occurrence of a span kind with its span (7.8). -/
def spanOcc (clip : Nat) (kind : FindingKind) (count first last : Nat) : Occurrence :=
  { clip := clip, kind := kind, count := count, span := some (first, last), qual := none }

/-- An occurrence of a kind with neither span nor qualifier (7.8). -/
def plainOcc (clip : Nat) (kind : FindingKind) (count : Nat) : Occurrence :=
  { clip := clip, kind := kind, count := count, span := none, qual := none }

/-- What the index judgement of a header files (R138). -/
def indexFault (clip : Nat) (last : Option Nat) (index : Nat) : Option Occurrence :=
  match last with
  | none => none
  | some l =>
    if index = l + 1 then none
    else if index > l then some (spanOcc clip .droppedFrame (index - l - 1) (l + 1) (index - 1))
    else if index = l then some (spanOcc clip .repeatedFrame 1 index index)
    else some (spanOcc clip .frameOrder 1 index index)

/-- The timecode test of a header fails (R139): it is invalid, or it is compared and is not the next one. -/
def tcFault (c : Continuity) (index : Nat) (tc : Timecode) : Bool :=
  if !tcValid c.rate tc then true else
  match c.lastIndex, c.lastTc with
  | some l, some t => index = l + 1 && !c.drop && tc ≠ tcNext c.rate t
  | _, _ => false

/-- FRAME_HEADER (R138, R139): a header of a pass the context is not checking is discarded. -/
def execFrameHeader (ch : Chan) (pass : Nat) (hdr : FrameHdr) (s : State) : Result :=
  let c := s.ins.conts[ch]
  if ¬(c.checking ∧ c.pass = pass) then .next s else
  let clip := c.clip.getD 0
  let s := if tcFault c hdr.index hdr.tc then s.file .ins (spanOcc clip .tcBreak 1 hdr.index hdr.index) else s
  let s := match indexFault clip c.lastIndex hdr.index with
    | some o => s.file .ins o
    | none => s
  .next (s.setCont ch { c with lastIndex := some hdr.index
                               lastTc := if tcValid c.rate hdr.tc then some hdr.tc else none })

/-- CONTINUITY_END (R140). -/
def execContinuityEnd (ch : Chan) (pass : Nat) (how : PassEnd) (s : State) : Result :=
  let c := s.ins.conts[ch]
  if ¬(c.checking ∧ c.pass = pass) then .next s else
  let t := s.setCont ch {}
  match how with
  | .finish frames =>
    let d := (frames - c.frames) + (c.frames - frames)
    .next (if d = 0 then t else t.file .ins (plainOcc (c.clip.getD 0) .frameCount d))
  | .cutOff | .halted => .next t

/-! ## Image analysis (7.2) -/

/-- Luma of a sample (R143). -/
def luma (x : Sample) : Nat := (306 * x.1 + 601 * x.2.1 + 117 * x.2.2 + 512) / 1024

/-- Frame mean of a plane's luma values (R143). -/
def frameMean (ys : List Nat) : Nat := ys.foldl (· + ·) 0 / Config.planeSamples

/-- Clipped count of a plane (R143). -/
def clippedCount (level : Nat) (xs : List Sample) : Nat :=
  (xs.filter fun x => level ≤ x.1 || level ≤ x.2.1 || level ≤ x.2.2).length

/-- The luma at a position of a plane. -/
def lumaAt (ys : Array Nat) (x y : Nat) : Nat := ys.getD (y * 960 + x) 0

/-- A position is a hot-site candidate (R146). -/
def isCandidate (ys : Array Nat) (hot x y : Nat) : Bool :=
  lumaAt ys x y ≥ hot && lumaAt ys (x - 1) y < hot / 2 && lumaAt ys (x + 1) y < hot / 2 &&
  lumaAt ys x (y - 1) < hot / 2 && lumaAt ys x (y + 1) < hot / 2

/-- The candidate list of a frame in raster order (R146). -/
def candidates (t : Thresholds) (mean : Nat) (ys : List Nat) : List (Nat × Nat) :=
  if mean > t.darkLimit then [] else
  let arr := ys.toArray
  let row (y : Nat) : List (Nat × Nat) :=
    (List.range 958).filterMap fun i => if isCandidate arr t.hotLevel (i + 1) y then some (i + 1, y) else none
  ((List.range 538).flatMap fun j => row (j + 1)).take 32

/-- The analysis context of a source (R142). -/
def ctxOf (src : SlotSource) : Fin 4 :=
  match src with
  | .live c _ => c.castLE (by decide)
  | .reinspect | .playback _ => 3

/-- Store an analysis context. -/
def State.setCtx (s : State) (i : Fin 4) (c : AnalysisCtx) : State :=
  { s with ins := { s.ins with ctxs := upd s.ins.ctxs i fun _ => c } }

/-- The context as the engine finds it at a take (R142): a LIVE context of another pass or clip is started afresh. -/
def AnalysisCtx.at (c : AnalysisCtx) (src : SlotSource) (clip : Nat) : AnalysisCtx :=
  match src with
  | .live _ pass => if c.pass = pass ∧ c.clip = some clip then c else { pass := pass, clip := some clip }
  | .reinspect | .playback _ => c

/-- The IDLE engine takes the slot at the head of the inspection queue (R141), and asks for its clip's letter. -/
def State.engineTake (s : State) : State :=
  match s.ins.engine, s.pp.queue with
  | none, n :: rest =>
    match s.pp.slots.find? fun x => x.num = n with
    | some x =>
      let a : Analysis :=
        { tok := s.token, slot := n, src := x.src, hdr := x.hdr, plane := x.plane, limits := s.ins.limits }
      let i := ctxOf x.src
      let t := s.tick.setCtx i (s.ins.ctxs[i].at x.src x.hdr.clip)
      ({ t with ins := { t.ins with engine := some a }, pp := { t.pp with queue := rest } }).lookup .ins
        (.analysis s.token) x.hdr.clip
    | none => { s with pp := { s.pp with queue := rest } }
  | _, _ => s

/-- One frame in a clipping run (R145): the context after it, and the span to file. Where the present index lies below the
run's first, the two are put in the order R157 wants of a span (assumption 92). -/
def clipRun (t : Thresholds) (c : AnalysisCtx) (clipped : Bool) (index : Nat) : AnalysisCtx × Option (Nat × Nat) :=
  if !clipped then ({ c with run := 0, runFirst := none, filed := false }, none) else
  let first := if c.run = 0 then index else c.runFirst.getD index
  let run := min 64 (c.run + 1)
  if c.filed then ({ c with run := run, runFirst := some first }, some (index, index))
  else if run ≥ t.clipRun then ({ c with run := run, runFirst := some first, filed := true }, some (min first index, max first index))
  else ({ c with run := run, runFirst := some first }, none)

/-- Offer one candidate to the hot-site table (R147): the table after it, and whether the site is to be filed. -/
def offerSite (sites : List Site) (letter : Letter) (x y clip : Nat) : List Site × Bool :=
  let same (e : Site) : Bool := e.letter = letter && e.x = x && e.y = y
  let new : Site := { letter := letter, x := x, y := y, hits := 1, reported := false, clip := clip }
  match sites.find? same with
  | some e =>
    let hits := min 255 (e.hits + 1)
    let report := decide (hits ≥ 8) && !e.reported
    let e' := { e with hits := hits, clip := clip, reported := e.reported || report }
    (sites.map fun z => if same z then e' else z, report)
  | none =>
    if sites.length < Config.hotSites then (sites ++ [new], false)
    else
      match sites.findIdx? fun e => e.hits = 1 with
      | some i => (sites.eraseIdx i ++ [new], false)
      | none => (sites, false)

/-- Offer a frame's candidates in raster order, filing each site that is to be reported (R147). -/
def State.offerSites (s : State) (letter : Letter) (clip : Nat) (cs : List (Nat × Nat)) : State :=
  cs.foldl (fun t c =>
    let r := offerSite t.ins.sites letter c.1 c.2 clip
    let u : State := { t with ins := { t.ins with sites := r.1 } }
    if r.2 then
      u.file .ins { clip := clip, kind := .hotSite, count := 1, span := none, qual := some (.site c.1 c.2) }
    else u) s

/-- What an analysed frame of a clip that stands gives rise to (R144, R145, R147). -/
def State.fileFrame (s : State) (a : Analysis) (letter : Letter) : State :=
  let clip := a.hdr.clip
  let index := a.hdr.index
  let xs := planeSamples a.plane
  let ys := xs.map luma
  let mean := frameMean ys
  let s := if mean ≤ a.limits.blackLevel then s.file .ins (spanOcc clip .blackFrame 1 index index) else s
  let i := ctxOf a.src
  let r := clipRun a.limits s.ins.ctxs[i] (decide (clippedCount a.limits.clipLevel xs ≥ a.limits.clipArea)) index
  let s := s.setCtx i r.1
  let s := match r.2 with
    | some sp => s.file .ins (spanOcc clip .clipping 1 sp.1 sp.2)
    | none => s
  match a.src with
  | .live _ _ => s.offerSites letter clip (candidates a.limits mean ys)
  | .reinspect | .playback _ => s

/-- An analysis completes (R141): its findings, the frames inspected, the report to the pool, and the next take. -/
def State.analysed (s : State) (a : Analysis) (letter : Option Letter) : State :=
  let t := match letter with
    | some l => s.fileFrame a l
    | none => s
  let t := (t.send .ins .cat [.inspectionCountReport a.hdr.clip (.addInspected 1)]).send .ins .pp
    [.analysisDoneReport a.slot]
  State.engineTake { t with ins := { t.ins with engine := none } }

/-- ANALYSIS_LOOKUP_ANSWER (R142). -/
def execAnalysisLookupAnswer (tok : Nat) (rec : Option Clip) (s : State) : Result :=
  match s.ins.engine with
  | none => .next s
  | some a =>
    if a.tok ≠ tok ∨ a.letter.isSome then .next s else
    let letter := rec.map fun c => c.desc.letter
    let i := ctxOf a.src
    let t := match letter with
      | some l => s.setCtx i { s.ins.ctxs[i] with letter := some l }
      | none => s
    if a.done then .next (t.analysed a letter)
    else .next { t with ins := { t.ins with engine := some { a with letter := some letter } } }

/-- ANALYSIS_COMPLETE (R141): a completion that comes before the lookup's answer waits for it. -/
def execAnalysisComplete (tok : Nat) (s : State) : Result :=
  match s.ins.engine with
  | none => .next s
  | some a =>
    if a.tok ≠ tok then .next s else
    match a.letter with
    | some letter => .next (s.analysed a letter)
    | none => .next { s with ins := { s.ins with engine := some { a with done := true } } }

/-- CLEAR_SITES (R148). -/
def execClearSites (q : Req) (s : State) : Result :=
  .next (({ s with ins := { s.ins with sites := [] } }).accept .ins q (u16 s.ins.sites.length))

/-! ## Thresholds (7.4) -/

/-- A value carried, brought into its range (R149). -/
def clampTo (lo hi v : Nat) : Nat := max lo (min hi v)

/-- A threshold after SET THRESHOLDS, and whether it was clamped (R149). -/
def newLimit (old lo hi : Nat) (v : Option Nat) : Nat × Bool :=
  match v with
  | none => (old, false)
  | some n => (clampTo lo hi n, decide (clampTo lo hi n ≠ n))

/-- The six thresholds as fields (R149, R156). -/
def fLimits (t : Thresholds) : List Field :=
  u16 t.clipLevel ++ u32 t.clipArea ++ u8 t.clipRun ++ u16 t.blackLevel ++ u16 t.darkLimit ++ u16 t.hotLevel

/-- SET_THRESHOLDS (R149). -/
def execSetThresholds (q : Req) (items : ThresholdItems) (s : State) : Result :=
  let t := s.ins.limits
  let a := newLimit t.clipLevel 1 4095 items.clipLevel
  let b := newLimit t.clipArea 1 518400 items.clipArea
  let c := newLimit t.clipRun 1 64 items.clipRun
  let d := newLimit t.blackLevel 0 4095 items.blackLevel
  let e := newLimit t.darkLimit 0 4095 items.darkLimit
  let f := newLimit t.hotLevel 2 4095 items.hotLevel
  let t' : Thresholds :=
    { clipLevel := a.1, clipArea := b.1, clipRun := c.1, blackLevel := d.1, darkLimit := e.1, hotLevel := f.1 }
  .next (({ s with ins := { s.ins with limits := t' } }).reply .ins q
    (.accepted (a.2 || b.2 || c.2 || d.2 || e.2 || f.2) (fLimits t')))

/-! ## The pass result (7.5) -/

/-- PASS_RESULT (R150): the state is written where the clip is still LIVE. R150 also says that a clip is left in the state of
the later of two passes, which that test can keep out; the model makes the test alone (the model's choice, assumption 73). -/
def execPassResult (clip skipped : Nat) (superseded : Bool) (s : State) : Result :=
  let st := if skipped = 0 then InspState.complete else .partiall
  let t := if superseded then s else s.send .ins .cat [.inspectionCountReport clip (.setState st (some .live))]
  .next (if skipped = 0 then t else t.file .ins (plainOcc clip .partialInspection skipped))

/-! ## Re-inspection (7.6) -/

/-- Store the re-inspection reader. -/
def State.setReader (s : State) (r : Reader) : State := { s with ins := { s.ins with reader := r } }

/-- Header span of a clip's copies (R152). -/
def Clip.span (c : Clip) : Nat := spanOf c.extents

/-- The VERIFIED copies of a clip as sources, in copy-list order (R151, R195). -/
def verifiedSources (c : Clip) : List Source :=
  (c.copies.filter fun x => x.state = .verified).map fun x => { port := x.port, vol := x.vol, hb := x.hb, span := Clip.span c }

/-- The first copy answered YES (R151, R195). -/
def firstYes (cs : List Candidate) : Option Source := (cs.find? fun c => c.answer = some true).map (·.src)

/-- Record a port's answer about a candidate. -/
def answered (cs : List Candidate) (ix : Nat) (yes : Bool) : List Candidate :=
  cs.zipIdx.map fun c => if c.2 = ix then { c.1 with answer := some yes } else c.1

/-- Every candidate has been answered. -/
def allAnswered (cs : List Candidate) : Bool := cs.all fun c => c.answer.isSome

/-- Ask each candidate's port whether its volume is attached (R151, R195). -/
def State.askAttached (s : State) (src : Node) (who : Nat → VolAsker) (cs : List Candidate) : State :=
  cs.zipIdx.foldl (fun t c =>
    t.send src (.dp c.1.src.port) [.attachmentQuestion (who c.2) c.1.src.port c.1.src.vol]) s

/-- REINSPECT (R151). -/
def execReinspect (q : Req) (clip : Nat) (s : State) : Result :=
  if clip ≥ Config.clipRecords then .next (s.refuse .ins q .value) else
  match s.clip? clip with
  | none => .next (s.refuse .ins q .notFound)
  | some c =>
    if s.ins.reader.state ≠ .idle then .next (s.refuse .ins q .busy)
    else if c.insp = .live then .next (s.refuseState .ins q .livePass)
    else if (verifiedSources c).isEmpty then .next (s.refuse .ins q .notFound)
    else
      let cs := (verifiedSources c).map fun x => ({ src := x } : Candidate)
      .next ((s.setReader { state := .locating, q := some q, clip := some clip, cands := cs }).askAttached .ins .reader cs)

/-- REINSPECT_ATTACHMENT_ANSWER (R151): with the last answer the clip is looked up again. -/
def execReinspectAttachmentAnswer (ix : Nat) (yes : Bool) (s : State) : Result :=
  let r := s.ins.reader
  if r.state ≠ .locating then .next s else
  let cs := answered r.cands ix yes
  let t := s.setReader { r with cands := cs }
  .next (if allAnswered cs then t.lookup .ins .reader (r.clip.getD 0) else t)

/-- A CATALOG notice of sub-kind REINSPECT (R152, R154). -/
def reinspectNotice (clip : Nat) (serial : Serial) (letter : Letter) (fields : List Field) : Notice :=
  { sub := .catReinspect, serial := some serial, clip := some clip, letter := some letter, fields := fields }

/-- Send the next re-inspection read (R153). -/
def State.nextRead (s : State) : State :=
  let r := s.ins.reader
  match r.src with
  | some src =>
    if r.left = 0 then s else
    (s.setReader { r with readOut := true, consumed := false }).send .ins (.dp src.port)
      [.reinspectionRead src.port src.vol r.next (min 2048 r.left) r.run]
  | none => s

/-- Start a re-inspection from a source (R152). The notice carries the phase alone, with no place for the fields of ENDED (the
model's choice, assumption 118). -/
def State.startReinspect (s : State) (q : Req) (c : Clip) (src : Source) : State :=
  let run := s.token
  let src := { src with span := Clip.span c }
  let r : Reader :=
    { state := .reading, clip := some c.id, serial := c.serial, letter := c.desc.letter, dataLen := c.desc.dataLen
      frames := c.desc.frames, extents := c.extents, src := some src, next := src.hb + src.span
      left := dataBlocks c.desc.dataLen, run := run }
  let t := s.tick.send .ins .fl [.reinspectionRemoval c.id]
  let t := t.send .ins .cat [.inspectionCountReport c.id (.start .reinspecting)]
  let t := (t.setCtx 3 { clip := some c.id }).send .ins .fx
    [.reinspectContextStart run c.id c.desc.dataLen c.desc.frames src]
  let t := (t.setReader r).accept .ins q (u8 src.port.val ++ fSerial src.vol)
  State.nextRead (t.raise .ins { reinspectNotice c.id c.serial c.desc.letter (fNamed 0) with port := some src.port })

/-- REINSPECT_LOOKUP_ANSWER (R151, R152). The source is one of the copies the request found VERIFIED, with the header block it
had then; the second reading is not asked whether it still is (the model's choice, assumption 115). -/
def execReinspectLookupAnswer (rec : Option Clip) (s : State) : Result :=
  let r := s.ins.reader
  match decide (r.state = .locating ∧ allAnswered r.cands = true), r.q with
  | true, some q =>
    let idle := s.setReader {}
    match rec with
    | none => .next (idle.refuse .ins q .notFound)
    | some c =>
      if c.insp = .live then .next (idle.refuseState .ins q .livePass) else
      match firstYes r.cands with
      | none => .next (idle.refuse .ins q .notFound)
      | some src => .next (idle.startReinspect q c src)
  | _, _ => .next s

/-- Frames a re-inspection did not reach (R154). -/
def Reader.notReached (r : Reader) : Nat :=
  match r.ended with
  | some .finish => 0
  | some .halted | some .lost | some .failed | none => r.frames - r.placed - r.skipped

/-- The inspection state a re-inspection reports (R154). -/
def Reader.finalState (r : Reader) : InspState :=
  match r.ended with
  | some .finish => .complete
  | some .halted => .halted
  | some .lost | some .failed | none => .partiall

/-- The re-inspection ends when its final counts have been taken and every placed slot is analysed (R154). An occurrence
has a count of 1 or more (R159), so a shortfall of 0 files none. The ENDED notice carries the camera letter read at the
start (the model's choice, assumption 101), and its fields after the phase without presence bytes (assumption 118). -/
def State.readerEnds (s : State) : State :=
  let r := s.ins.reader
  if ¬(r.state = .draining ∧ r.final ∧ r.anal = r.placed) then s else
  let clip := r.clip.getD 0
  let n := r.notReached
  let t := if n = 0 then s else s.send .ins .cat [.inspectionCountReport clip (.addSkipped n)]
  let t := t.send .ins .cat [.inspectionCountReport clip (.setState r.finalState (some .reinspecting))]
  let lost := decide (r.ended = some .lost ∨ r.ended = some .failed)
  let t := if lost && n ≠ 0 then t.file .ins (plainOcc clip .partialInspection n) else t
  (t.raise .ins (reinspectNotice clip r.serial r.letter
    (fNamed 1 ++ fNamed ((r.ended.getD .finish).ctorIdx) ++ fNamed r.finalState.ctorIdx ++ u32 r.placed ++
      u32 r.skipped ++ u32 n))).setReader {}

/-- Set the end kind, once (R153): the reader becomes DRAINING. -/
def State.endReader (s : State) (k : ReEnd) : State :=
  let r := s.ins.reader
  if r.state = .reading then s.setReader { r with state := .draining, ended := some k } else s

/-- REINSPECT_READ_ANSWER (R153): a LOST answer makes the context report the loss whatever the end kind (R135). -/
def execReinspectReadAnswer (run : Nat) (ans : ReReadAns) (s : State) : Result :=
  let r := s.ins.reader
  if r.run ≠ run ∨ ¬r.readOut then .next s else
  let t := s.setReader { r with readOut := false }
  match ans with
  | .done =>
    let n := min 2048 r.left
    let u := s.setReader { r with readOut := false, consumed := false, next := r.next + n, left := r.left - n }
    .next (if r.consumed ∧ r.state = .reading then u.nextRead else u)
  | .failed =>
    .next (if r.state = .reading then (t.endReader .failed).send .ins .fx [.reinspectContextCancel run] else t)
  | .lost => .next ((t.endReader .lost).send .ins .fx [.reinspectReadLost run])
  | .withdrawn => .next t

/-- REINSPECT_READ_CONSUMED (R153): a report that comes before the read's answer is kept for it. -/
def execReinspectReadConsumed (run : Nat) (s : State) : Result :=
  let r := s.ins.reader
  if r.run ≠ run ∨ r.state ≠ .reading then .next s
  else .next (if r.readOut then s.setReader { r with consumed := true } else s.nextRead)

/-- Take the context's final counts (R153). -/
def State.takeFinal (s : State) (placed skipped : Nat) : State :=
  let r := s.ins.reader
  if r.final then s else (s.setReader { r with placed := placed, skipped := skipped, final := true }).readerEnds

/-- REINSPECT_CONTEXT_REPORT (R153). -/
def execReinspectContextReport (run : Nat) (rep : ReReport) (s : State) : Result :=
  let r := s.ins.reader
  if r.run ≠ run ∨ (r.state ≠ .reading ∧ r.state ≠ .draining) then .next s else
  match rep with
  | .placed => .next (if r.state = .reading then s.setReader { r with placed := r.placed + 1 } else s)
  | .ended p k => .next ((s.endReader .finish).takeFinal p k)
  | .halted _ p k => .next ((s.endReader .halted).takeFinal p k)
  | .lost p k _ => .next ((s.endReader .lost).takeFinal p k)
  | .counts p k => .next (s.takeFinal p k)

/-- REINSPECT_LOST_VOLUME (R153). -/
def execReinspectLostVolume (_p : Port) (vol : Serial) (s : State) : Result :=
  let r := s.ins.reader
  if r.state = .reading ∧ r.src.any (fun x => x.vol = vol) then
    let t := s.endReader .lost
    .next (if r.readOut then t else t.send .ins .fx [.reinspectContextCancel r.run])
  else .next s

/-- PURGE_READER_QUERY (R42): does the reader hold a clip of the serial? -/
def execPurgeReaderQuery (q : Req) (serial : Serial) (clips : List Nat) (s : State) : Result :=
  let r := s.ins.reader
  let holds := r.state ≠ .idle && r.clip.any fun c => c ∈ clips
  .next (s.send .ins .cat [.purgeReaderAnswer q serial holds])

/-! ## Queries (7.7) -/

/-- A slot's source as fields (R136, R156): LIVE with channel and pass number, PLAYBACK with output, or REINSPECT; a part that
a kind does not have is written 0 (the model's choice, assumption 71). -/
def fSource (x : SlotSource) : List Field :=
  match x with
  | .live c pass => fNamed 0 ++ u8 c.val ++ u16 pass
  | .playback k => fNamed 1 ++ u8 k.val ++ u16 0
  | .reinspect => fNamed 2 ++ u8 0 ++ u16 0

/-- QUERY_INSPECTOR (R156). The pass number of the REINSPECT context, which R142 does not give it, is written 0 with no
presence byte (the model's choice, assumption 91). The engine's slot, source, clip id and frame index stand under one
presence byte, the clip id of a continuity or analysis context and the reader's clip id, source and end kind have one each,
and what else an IDLE reader lacks is written 0 (the model's choice, assumption 109). -/
def execQueryInspector (q : Req) (s : State) : Result :=
  let i := s.ins
  let r := i.reader
  .next (s.accept .ins q (fLimits i.limits ++
    fNamed (if i.engine.isSome then 1 else 0) ++
    fOpt [1, 1, 1, 2, 2, 4] (fun a : Analysis => u8 a.slot ++ fSource a.src ++ u16 a.hdr.clip ++ u32 a.hdr.index) i.engine ++
    i.conts.toList.flatMap (fun c => fNamed (if c.checking then 1 else 0) ++ fOpt [2] u16 c.clip ++
      fOpt [4] u32 c.lastIndex ++ fOpt [1, 1, 1, 1] fTc c.lastTc) ++
    i.ctxs.toList.flatMap (fun c => u16 c.pass ++ fOpt [2] u16 c.clip ++ u8 c.run ++ fOpt [4] u32 c.runFirst ++
      fFlag c.filed) ++
    fNamed r.state.ctorIdx ++ fOpt [2] u16 r.clip ++ fOpt [1, 8] (fun x : Source => u8 x.port.val ++ fSerial x.vol) r.src ++
    u64 r.next ++ u32 r.left ++ u32 r.placed ++ u32 r.anal ++ fOpt [1] (fun k => fNamed k.ctorIdx) r.ended ++
    u16 i.sites.length))

/-- QUERY_SITES (R156). -/
def execQuerySites (q : Req) (first : Nat) (s : State) : Result :=
  if first > 255 then .next (s.refuse .ins q .value) else
  .next (s.accept .ins q (fList (fun e : Site => fLetter e.letter ++ u16 e.x ++ u16 e.y ++ u8 e.hits ++
    fFlag e.reported ++ u16 e.clip) ((s.ins.sites.drop first).take 64) ++ u16 s.ins.sites.length))

end Sys2Proof.Machine
end

