-- ==== Sys2Proof/Machine/Faults.lean ====
section
/-! DEFINITION. The Fault List (Section 8): taking occurrences, merging, making room, station actions, clearing and
removal, blocking counts and queries. -/

namespace Sys2Proof.Machine

/-! ## Notices (8.10) -/

/-- A finding's fields in a notice (8.10). -/
def fFinding (f : Finding) : List Field :=
  u16 f.id ++ fNamed f.kind.ctorIdx ++ fSpanQual f.span f.qual ++ u16 f.count

/-- A notice about one finding (8.10). -/
def findingNotice (sub : NoticeSub) (f : Finding) (fields : List Field) : Notice :=
  { sub := sub, serial := some f.serial, clip := some f.clip, letter := some f.letter, cls := some f.cls
    fields := fields }

/-- Who cleared a finding as fields: the station, absent for PART (assumption 9). -/
def fClearedBy (c : ClearedBy) : List Field :=
  match c with
  | .station st => fOpt [1] (fun x : Stn => u8 x.val) (some st)
  | .part => fOpt [1] (fun x : Stn => u8 x.val) none

/-! ## Blocking counts (R170) -/

/-- Findings of a clip that block its card (R170). -/
def FaultList.blocking (l : FaultList) (clip : Nat) : Nat :=
  (l.list.filter fun f => f.clip = clip && f.cls = .blocking && f.state ≠ .cleared).length

/-- The count last sent for a clip (R170). -/
def FaultList.lastSent (l : FaultList) (clip : Nat) : Nat :=
  ((l.sent.find? fun x => x.1 = clip).map (·.2)).getD 0

/-- Settle a clip's blocking count (R170). -/
def State.settleBlocking (s : State) (clip : Nat) : State :=
  let n := s.fl.blocking clip
  if n = s.fl.lastSent clip then s else
  let sent := s.fl.sent.filter fun x => x.1 ≠ clip
  ({ s with fl := { s.fl with sent := if n = 0 then sent else sent ++ [(clip, n)] } }).send .fl .cat
    [.blockingCountReport clip n]

/-! ## Placing an occurrence (8.3, 8.4) -/

/-- Store the finding list. -/
def State.setFindings (s : State) (l : List Finding) : State := { s with fl := { s.fl with list := l } }

/-- A finding an occurrence may merge into: same key, not CLEARED, and near where the kind carries a span (R160, R161). -/
def merges (o : Occurrence) (f : Finding) : Bool :=
  f.clip = o.clip && f.kind = o.kind && f.qual = o.qual && f.state ≠ .cleared &&
  (!o.kind.spans ||
    match o.span, f.span with
    | some (a, b), some (p, q) => a ≤ q + 24 && p ≤ b + 24
    | _, _ => false)

/-- The smallest span that holds two (R161). -/
def unionSpan (x y : Option (Nat × Nat)) : Option (Nat × Nat) :=
  match x, y with
  | some (a, b), some (p, q) => some (min a p, max b q)
  | some s, none => some s
  | none, y => y

/-- A finding that has taken an occurrence (R160, R161). -/
def Finding.merged (f : Finding) (o : Occurrence) : Finding :=
  { f with count := min 65535 (f.count + o.count), span := if o.kind.spans then unionSpan f.span o.span else f.span }

/-- The higher of two classes (R161). -/
def higherClass (a b : FindingClass) : FindingClass := if a.rank < b.rank then b else a

/-- The survivor of a join (R161): the oldest, with the others taken into it. -/
def joined (f : Finding) (others : List Finding) : Finding :=
  let anyOpen := (f :: others).any fun x => x.state = .opened
  let g := others.foldl (fun g x =>
    { g with span := unionSpan g.span x.span, count := min 65535 (g.count + x.count), cls := higherClass g.cls x.cls }) f
  if anyOpen then { g with state := .opened, ackBy := none } else g

/-- The finding id counter's next id that no finding holds (R162). -/
def FaultList.freshId (l : FaultList) : Nat :=
  let ids := (List.range (l.list.length + 1)).map fun i => (l.counter + i) % 65536
  (ids.find? fun n => !(l.list.any fun f => f.id = n)).getD l.counter

/-- The finding evicted to make room for one of class `new` (R163). -/
def evictee (l : List Finding) (new : FindingClass) : Option Finding :=
  (l.find? fun f => f.state = .cleared).or
  ((l.find? fun f => f.state = .acknowledged && f.cls = .advisory).or
  ((l.find? fun f => f.state = .opened && f.cls = .advisory).or
  (if new = .blocking then l.find? fun f => f.cls ≠ .blocking else none)))

/-- Make a new finding of an occurrence (R162). -/
def State.newFinding (s : State) (o : Occurrence) (c : Clip) (cls : FindingClass) : State :=
  let id := s.fl.freshId
  let f : Finding :=
    { id := id, clip := o.clip, serial := c.serial, letter := c.desc.letter, kind := o.kind, cls := cls, qual := o.qual
      span := o.span, count := min 65535 o.count }
  let t : State := { s with fl := { s.fl with list := s.fl.list ++ [f], counter := (id + 1) % 65536 } }
  (t.raise .fl (findingNotice .findingFiled f (fFinding f))).settleBlocking o.clip

/-- An unstorable occurrence (R164). The count its notice carries is at most 65535, as a finding's is (the model's choice,
assumption 78). -/
def State.unstorable (s : State) (o : Occurrence) (c : Clip) (cls : FindingClass) : State :=
  (s.send .fl .cat [.overflowHoldSet o.clip]).raise .fl
    { sub := .findingUnstored, serial := some c.serial, clip := some o.clip, letter := some c.desc.letter, cls := some cls
      fields := fNamed o.kind.ctorIdx ++ fSpanQual o.span o.qual ++ u16 (min 65535 o.count) }

/-- Store an occurrence that merged into nothing (R162 to R164). -/
def State.store (s : State) (o : Occurrence) (c : Clip) : State :=
  let cls := s.fl.classes[o.kind.ix]
  if s.fl.list.length < Config.findings then s.newFinding o c cls else
  match evictee s.fl.list cls with
  | none => s.unstorable o c cls
  | some e =>
    let t := (s.setFindings (s.fl.list.filter fun f => f.id ≠ e.id)).raise .fl
      (findingNotice .findingEvicted e (fFinding e ++ fNamed e.state.ctorIdx))
    t.newFinding o c cls

/-- Place an occurrence against the record its clip id holds (R159 to R164). JOINED lists the ids removed in creation order
(the model's choice, assumption 116). -/
def State.placeOcc (s : State) (o : Occurrence) (c : Clip) : State :=
  match s.fl.list.filter (merges o) with
  | [] => s.store o c
  | [f] => s.setFindings (s.fl.list.map fun x => if x.id = f.id then f.merged o else x)
  | f :: others =>
    let g := (joined f others).merged o
    let gone := others.map (·.id)
    let l := (s.fl.list.filter fun x => x.id ∉ gone).map fun x => if x.id = f.id then g else x
    ((s.setFindings l).raise .fl (findingNotice .findingJoined g (fFinding g ++ fList u16 gone))).settleBlocking o.clip

/-! ## Taking occurrences in order (R159, R168) -/

/-- Look up the item at the head of the queue. -/
def State.askHead (s : State) : State :=
  let ask (t : State) (who : Asker) (clip : Nat) : State :=
    ({ t.tick with fl := { t.fl with asks := t.fl.asks ++ [t.token] } }).lookup .fl who clip
  match s.fl.queue with
  | [] => s
  | .occ o :: _ => ask s (.occurrence s.token) o.clip
  | .verified clip _ :: _ => ask s (.verified s.token) clip

/-- Take an item into the queue. -/
def State.enqueueItem (s : State) (i : FaultItem) : State :=
  let t : State := { s with fl := { s.fl with queue := s.fl.queue ++ [i] } }
  if s.fl.queue.isEmpty then t.askHead else t

/-- A lookup has been answered: it leaves the purged ids' lists, and an id with none left leaves the set (R169). -/
def State.lookupDone (s : State) (tok : Nat) : State :=
  let purged := (s.fl.purged.map fun p => (p.1, p.2.filter fun n => n ≠ tok)).filter fun p => !p.2.isEmpty
  { s with fl := { s.fl with asks := s.fl.asks.filter fun n => n ≠ tok, purged := purged } }

/-- A purge list naming the clip was taken while the lookup was outstanding (R159). -/
def FaultList.purgedSince (l : FaultList) (clip tok : Nat) : Bool :=
  l.purged.any fun p => p.1 = clip && tok ∈ p.2

/-- OCCURRENCE (R159). -/
def execOccurrence (occ : Occurrence) (s : State) : Result := .next (s.enqueueItem (.occ occ))

/-- VERIFIED_COPY_REPORT (R168). -/
def execVerifiedCopyReport (clip : Nat) (vol : Serial) (s : State) : Result :=
  .next (s.enqueueItem (.verified clip vol))

/-- OCCURRENCE_LOOKUP_ANSWER (R159 to R164). -/
def execOccurrenceLookupAnswer (tok : Nat) (rec : Option Clip) (s : State) : Result :=
  match decide (tok ∈ s.fl.asks), s.fl.queue with
  | true, .occ o :: rest =>
    let gone := s.fl.purgedSince o.clip tok
    let t := s.lookupDone tok
    let t := match rec with
      | some c => if gone then t else t.placeOcc o c
      | none => t
    .next (State.askHead { t with fl := { t.fl with queue := rest } })
  | _, _ => .next s

/-- A finding a verified copy on that volume clears (R168). -/
def clearsOn (clip : Nat) (vol : Serial) (f : Finding) : Bool :=
  f.clip = clip && f.state ≠ .cleared && f.qual = some (.volume vol) &&
  (f.kind = .verifyMismatch || f.kind = .writeFailed || f.kind = .lostDrive)

/-- A finding CLEARED by someone (R167, R168). -/
def Finding.clearedBy (f : Finding) (c : ClearedBy) : Finding := { f with state := .cleared, clearBy := some c }

/-- Clear what a verified copy clears (R168), with the CLEARED notices in creation order (the model's choice, assumption
116). -/
def State.clearVerified (s : State) (clip : Nat) (vol : Serial) : State :=
  let hit := s.fl.list.filter (clearsOn clip vol)
  let t := s.setFindings (s.fl.list.map fun f => if clearsOn clip vol f then f.clearedBy .part else f)
  let t := hit.foldl (fun t f =>
    t.raise .fl (findingNotice .findingCleared (f.clearedBy .part) (u16 f.id ++ fClearedBy .part))) t
  t.settleBlocking clip

/-- VERIFIED_REPORT_LOOKUP_ANSWER (R168). -/
def execVerifiedReportLookupAnswer (tok : Nat) (rec : Option Clip) (s : State) : Result :=
  match decide (tok ∈ s.fl.asks), s.fl.queue with
  | true, .verified clip vol :: rest =>
    let gone := s.fl.purgedSince clip tok
    let t := s.lookupDone tok
    let t := if rec.isSome && !gone then t.clearVerified clip vol else t
    .next (State.askHead { t with fl := { t.fl with queue := rest } })
  | _, _ => .next s

/-! ## Station actions (R158, R165 to R167) -/

/-- A kind by its number (R216). -/
def kindOf (n : Nat) : Option FindingKind :=
  [.readError, .sourceUnstable, .verifyMismatch, .writeFailed, .lostDrive, .foundMismatch, .unlockedCard,
   .unsupportedClip, .droppedFrame, .repeatedFrame, .frameOrder, .tcBreak, .frameCount, .unparsable, .clipping,
   .blackFrame, .hotSite, .partialInspection].find? fun k : FindingKind => k.ctorIdx + 1 = n

/-- A class by its number (R216). -/
def classOf (n : Nat) : Option FindingClass :=
  [.advisory, .warning, .blocking].find? fun k : FindingClass => k.ctorIdx + 1 = n

/-- SET_KIND_CLASS (R158). -/
def execSetKindClass (q : Req) (kind cls : Nat) (s : State) : Result :=
  match kindOf kind, classOf cls with
  | some k, some c =>
    let vals := fNamed k.ctorIdx ++ fNamed (s.fl.classes[k.ix]).ctorIdx ++ fNamed c.ctorIdx
    let t : State := { s with fl := { s.fl with classes := upd s.fl.classes k.ix fun _ => c } }
    .next ((t.accept .fl q vals).raise .fl { sub := .findingClassSet, fields := vals })
  | _, _ => .next (s.refuse .fl q .value)

/-- CLEAR_OVERFLOW_HOLD (R165): the clip is looked up. -/
def execClearOverflowHold (q : Req) (clip : Nat) (s : State) : Result :=
  if clip ≥ Config.clipRecords then .next (s.refuse .fl q .value) else
  .next (({ s.tick with fl := { s.fl with asks := s.fl.asks ++ [s.token] } }).lookup .fl (.clearHold q s.token) clip)

/-- CLEAR_HOLD_LOOKUP_ANSWER (R165). -/
def execClearHoldLookupAnswer (q : Req) (tok clip : Nat) (rec : Option Clip) (s : State) : Result :=
  if tok ∉ s.fl.asks then .next s else
  let t := s.lookupDone tok
  match rec with
  | none => .next (t.refuse .fl q .notFound)
  | some c =>
    if c.overflow then .next ((t.accept .fl q []).send .fl .cat [.overflowHoldClear clip])
    else .next (t.refuseState .fl q .already)

/-- The finding of an id. -/
def FaultList.find? (l : FaultList) (id : Nat) : Option Finding := l.list.find? fun f => f.id = id

/-- Store a finding over the one with its id. -/
def State.setFinding (s : State) (g : Finding) : State :=
  s.setFindings (s.fl.list.map fun f => if f.id = g.id then g else f)

/-- ACK_FINDING (R166). -/
def execAckFinding (q : Req) (finding : Nat) (s : State) : Result :=
  match s.fl.find? finding with
  | none => .next (s.refuse .fl q .notFound)
  | some f =>
    match f.state with
    | .acknowledged => .next (s.refuseState .fl q .already)
    | .cleared => .next (s.refuseState .fl q .cleared)
    | .opened =>
      let g := { f with state := .acknowledged, ackBy := some q.st }
      .next (((s.setFinding g).accept .fl q []).raise .fl
        (findingNotice .findingAcknowledged g (u16 g.id ++ u8 q.st.val)))

/-- CLEAR_FINDING (R167). -/
def execClearFinding (q : Req) (finding : Nat) (sup : Bool) (s : State) : Result :=
  match s.fl.find? finding with
  | none => .next (s.refuse .fl q .notFound)
  | some f =>
    if f.state = .cleared then .next (s.refuseState .fl q .already)
    else if f.cls = .blocking ∧ sup = false then .next (s.refuse .fl q .rights)
    else
      let by_ : ClearedBy := .station q.st
      let g := f.clearedBy by_
      .next ((((s.setFinding g).accept .fl q []).raise .fl
        (findingNotice .findingCleared g (u16 g.id ++ fClearedBy by_))).settleBlocking f.clip)

/-! ## Removing findings (R169) -/

/-- A finding the start of a re-inspection removes (R169). -/
def removable (clip : Nat) (f : Finding) : Bool :=
  f.clip = clip && f.state = .opened && (f.kind = .clipping || f.kind = .blackFrame || f.kind = .partialInspection)

/-- REINSPECTION_REMOVAL (R169), with the REMOVED notices in creation order (the model's choice, assumption 116). -/
def execReinspectionRemoval (clip : Nat) (s : State) : Result :=
  let t := s.setFindings (s.fl.list.filter fun f => !removable clip f)
  let t := (s.fl.list.filter (removable clip)).foldl (fun t f =>
    t.raise .fl (findingNotice .findingRemoved f (fFinding f))) t
  .next (t.settleBlocking clip)

/-- PURGE_LIST (R169). -/
def execPurgeList (serial : Serial) (clips : List Nat) (s : State) : Result :=
  let kept := s.fl.list.filter fun f => f.clip ∉ clips
  let n := s.fl.list.length - kept.length
  let fresh := if s.fl.asks.isEmpty then [] else clips.map fun c => (c, s.fl.asks)
  let t : State := { s with fl := { s.fl with
    list := kept, sent := s.fl.sent.filter fun x => x.1 ∉ clips, purged := s.fl.purged ++ fresh } }
  .next (t.raise .fl { sub := .findingPurged, serial := some serial, fields := u16 n })

/-! ## Queries (8.9) -/

/-- A finding as queries report it, in the order of R157. -/
def fFindingFull (f : Finding) : List Field :=
  u16 f.id ++ u16 f.clip ++ fSerial f.serial ++ fLetter f.letter ++ fNamed f.kind.ctorIdx ++ fNamed f.cls.ctorIdx ++
  fQualifier f.qual ++ fSpan f.span ++ u16 f.count ++ fNamed f.state.ctorIdx ++ fOpt [1] (fun x : Stn => u8 x.val) f.ackBy ++
  fOpt [1, 1] fClearedBy f.clearBy

/-- QUERY_FINDING (R171). Positions count from 0 (the model's choice, assumption 102). -/
def execQueryFinding (q : Req) (finding : Nat) (s : State) : Result :=
  match s.fl.find? finding with
  | none => .next (s.refuse .fl q .notFound)
  | some f => .next (s.accept .fl q (fFindingFull f ++ u16 (s.fl.list.findIdx fun x => x.id = finding)))

/-- LIST_FINDINGS (R171). A number in the set of states that names no state is an operand out of its set and refused VALUE
(R208), though R171 names only the clip id and the class (assumption 74). The first position counts from 0 (assumption
102). -/
def execListFindings (q : Req) (clip : Option Nat) (states : List Nat) (minClass first : Nat) (s : State) : Result :=
  match clip.all (fun c => decide (c < Config.clipRecords)) && states.all (fun n => 1 ≤ n && n ≤ 3), classOf minClass with
  | true, some m =>
    let pass := s.fl.list.filter fun f =>
      clip.all (fun c => decide (f.clip = c)) && (states.isEmpty || decide (f.state.ctorIdx + 1 ∈ states)) &&
        decide (m.rank ≤ f.cls.rank)
    .next (s.accept .fl q (fList (fun f : Finding => u16 f.id ++ u16 f.clip ++ fSerial f.serial ++ fLetter f.letter ++
      fNamed f.kind.ctorIdx ++ fNamed f.cls.ctorIdx ++ fNamed f.state.ctorIdx ++ fSpanQual f.span f.qual ++ u16 f.count)
      ((pass.drop first).take 64) ++ u16 pass.length ++ u16 s.fl.list.length ++ u16 s.fl.counter))
  | _, _ => .next (s.refuse .fl q .value)

/-- QUERY_CLASSES (R171). -/
def execQueryClasses (q : Req) (s : State) : Result :=
  .next (s.accept .fl q (s.fl.classes.toList.flatMap fun c => fNamed c.ctorIdx))

end Sys2Proof.Machine
end

