-- ==== Sys2Proof/Machine/Frames.lean ====
section
/-! DEFINITION. The Frame Extractor and the Preview Pool (Section 6): parsing, the live pass, preview slots, playback
reading and re-inspection reading. -/

namespace Sys2Proof.Machine

/-! ## Parsing (R121, R122) -/

/-- What one byte brings about in a parse context. -/
inductive ParseEvent | nothing | header (h : ChunkHdr) | plane | bad
  deriving DecidableEq, Repr

/-- A parse context at the start of a pass (R124, R133, R134). -/
def Parse.start (clip dataLen frames : Nat) : Parse :=
  { state := .parsing, clip := some clip, dataLen := dataLen, frames := frames }

/-- Close the current chunk once its last byte has passed (R122). -/
def Parse.close (p : Parse) : Parse :=
  match p.chunk with
  | some c =>
    if c.taken ≥ c.hdr.len then { p with chunk := none, planeRev := [], pos := p.pos + c.hdr.len } else p
  | none => p

/-- The position is at the end of the data, with no current chunk (R122). -/
def Parse.atEnd (p : Parse) : Bool := p.chunk.isNone && p.pos ≥ p.dataLen

/-- Accept a chunk header (R122); whether its plane is wanted is decided by the reader. -/
def Parse.accept (p : Parse) (h : ChunkHdr) : Parse :=
  { p with ordinal := p.ordinal + 1, lastIndex := some h.index, gather := []
           chunk := some { hdr := h, taken := 64, offered := false } }

/-- Take one byte (R122). Bytes past the data length are not taken. -/
def Parse.take (p : Parse) (b : Byte) : Parse × ParseEvent :=
  match p.chunk with
  | some c =>
    let taken := c.taken + 1
    let wanted := c.offered && taken ≤ 64 + c.hdr.preview
    ({ p with chunk := some { c with taken := taken }, planeRev := if wanted then b :: p.planeRev else p.planeRev },
      if c.offered && taken = 64 + c.hdr.preview then .plane else .nothing)
  | none =>
    if p.atEnd then (p, .nothing) else
    let g := p.gather ++ [b]
    if g.length = 64 then
      match readChunkHdr p.pos p.dataLen g with
      | some h => (p.accept h, .header h)
      | none => ({ p with gather := g }, .bad)
    else if p.pos + g.length ≥ p.dataLen then ({ p with gather := g }, .bad)
    else ({ p with gather := g }, .nothing)

/-- The frame at fault of an unparsable pass (R123). -/
def Parse.faultFrame (p : Parse) : Nat :=
  match p.lastIndex with
  | some n => (n + 1) % 16777216
  | none => 0

/-- A context made HALTED (R123): a plane being gathered is discarded. -/
def Parse.halt (p : Parse) : Parse := { p with state := .halted, chunk := none, gather := [], planeRev := [] }

/-- The frame header handed on for an accepted header (R124). -/
def Parse.frameHdr (p : Parse) (h : ChunkHdr) : FrameHdr :=
  { clip := p.clip.getD 0, index := h.index, tc := h.tc, ordinal := p.ordinal }

/-- The frame header of the current chunk. -/
def Parse.currentHdr (p : Parse) : FrameHdr :=
  match p.chunk with
  | some c => p.frameHdr c.hdr
  | none => { clip := p.clip.getD 0, index := 0, tc := ⟨0, 0, 0, 0⟩, ordinal := p.ordinal }

/-- Mark the current chunk's plane as wanted. -/
def Parse.offer (p : Parse) : Parse := { p with chunk := p.chunk.map fun c => { c with offered := true } }

/-- File an UNPARSABLE occurrence (R123). -/
def State.fileUnparsable (s : State) (p : Parse) : State :=
  s.file .fx (spanOcc (p.clip.getD 0) .unparsable 1 p.faultFrame p.faultFrame)

/-! ## Preview slots (R129 to R131) -/

/-- The lowest-numbered FREE slot (R129). -/
def Pool.lowestFree (p : Pool) : Option Nat :=
  (List.range Config.previewSlots).find? fun n => !(p.slots.any fun x => x.num = n)

/-- Store the held slots; each change in the number of FREE ones is reported to the re-inspection context (R129, R134). -/
def State.setSlots (s : State) (slots : List Slot) : State :=
  let t : State := { s with pp := { s.pp with slots := slots } }
  if slots.length = s.pp.slots.length then t else t.send .pp .fx [.reinspectPlaneResume t.pp.free]

/-- A holder leaves every slot that `p` picks; a slot left with no holder becomes FREE (R129). -/
def dropHolder (h : Holder) (p : Slot → Bool) (slots : List Slot) : List Slot :=
  (slots.map fun x => if p x then { x with holders := x.holders.filter fun y => y ≠ h } else x).filter fun x =>
    !x.holders.isEmpty

/-- Insert a slot in its place by number. -/
def insertSlot (x : Slot) : List Slot → List Slot
  | [] => [x]
  | y :: ys => if x.num < y.num then x :: y :: ys else y :: insertSlot x ys

/-- Place a plane in a granted slot (R129 to R131): NEWEST moves to it, INSPECT puts it on the inspection queue, and an
IDLE engine takes the head of a queue that was empty (R141). -/
def State.place (s : State) (n : Nat) (src : SlotSource) (hdr : FrameHdr) (plane : List Byte) (newest : Option Chan)
    (holders : List Holder) : State :=
  let old := match newest with
    | some c => dropHolder (.newest c) (fun _ => true) s.pp.slots
    | none => s.pp.slots
  let new : Slot :=
    { num := n, src := src, hdr := hdr, plane := plane, holders := holders ++ (newest.map Holder.newest).toList }
  let t := s.setSlots (insertSlot new old)
  let t : State := match newest with
    | some c => { t with pp := { t.pp with seqs := upd t.pp.seqs c fun v => (v + 1) % 65536 } }
    | none => t
  if .inspect ∈ holders then
    State.engineTake { t with pp := { t.pp with queue := t.pp.queue ++ [n] } }
  else t

/-! ## The live pass (R124 to R127) -/

/-- Live context of a channel. -/
def State.liveCtx (s : State) (c : Chan) : LiveCtx := s.fx.live[c]

/-- Store a live context. -/
def State.setLive (s : State) (c : Chan) (x : LiveCtx) : State :=
  { s with fx := { s.fx with live := upd s.fx.live c fun _ => x } }

/-- Count a frame skipped (R124). -/
def State.skipFrame (s : State) (c : Chan) : State :=
  let x := s.liveCtx c
  (s.setLive c { x with skipped := x.skipped + 1 }).send .fx .cat
    [.inspectionCountReport (x.parse.clip.getD 0) (.addSkipped 1)]

/-- The inspection step after a header taken with that many FREE slots (R126). -/
def nextStep (step free : Nat) : Nat :=
  if free < 8 then min 8 (2 * step) else if free > 32 then max 1 (step / 2) else step

/-- An accepted header of a live pass (R124). -/
def State.liveHeader (s : State) (c : Chan) (h : ChunkHdr) : State :=
  let x := s.liveCtx c
  let t := s.send .fx .ins [.frameHeader c x.pass (x.parse.frameHdr h)]
  if x.inspecting then
    let step := nextStep s.fx.steps[c] s.pp.free
    let t : State := { t with fx := { t.fx with steps := upd t.fx.steps c fun _ => step } }
    if h.preview = 0 ∨ h.index % step ≠ 0 then t.skipFrame c
    else t.setLive c { x with parse := x.parse.offer }
  else if h.preview ≠ 0 ∧ s.pp.counts[c] > 0 then t.setLive c { x with parse := x.parse.offer }
  else t

/-- The plane of an offered chunk of a live pass has arrived (R124). -/
def State.livePlane (s : State) (c : Chan) : State :=
  let x := s.liveCtx c
  match s.pp.lowestFree with
  | none => if x.inspecting then s.skipFrame c else s
  | some n =>
    let src : SlotSource := .live c x.pass
    let plane := x.parse.planeRev.reverse
    if x.inspecting then
      (s.setLive c { x with placed := x.placed + 1 }).place n src x.parse.currentHdr plane
        (if s.pp.counts[c] > 0 then some c else none) [.inspect]
    else s.place n src x.parse.currentHdr plane (some c) []

/-- An unparsable live pass (R123). -/
def State.liveBad (s : State) (c : Chan) : State :=
  let x := s.liveCtx c
  let t := s.fileUnparsable x.parse
  let t := if x.inspecting then
    t.send .fx .cat [.inspectionCountReport (x.parse.clip.getD 0) (.setState .halted none)] else t
  (t.send .fx .ins [.continuityEnd c x.pass .halted]).setLive c { x with parse := x.parse.halt }

/-- One byte of a live pass (R122). -/
def State.liveByte (s : State) (c : Chan) (b : Byte) : State :=
  let x := s.liveCtx c
  if x.parse.state ≠ .parsing then s else
  let r := x.parse.take b
  let t := s.setLive c { x with parse := r.1 }
  let t := match r.2 with
    | .nothing => t
    | .header h => t.liveHeader c h
    | .plane => t.livePlane c
    | .bad => t.liveBad c
  t.setLive c { t.liveCtx c with parse := (t.liveCtx c).parse.close }

/-- The superseded mark of a pass result (R127). A context still waiting for the Catalog's answer has its inspecting flag
clear as yet, and supersedes nothing (the model's choice, assumption 72). -/
def State.superseded (s : State) (clip pass : Nat) : Bool :=
  s.fx.live.toList.any fun x =>
    x.inspecting && x.parse.state = .parsing && x.parse.clip = some clip && x.pass ≠ pass

/-- Hand the Inspector a pass result (R127). -/
def State.passResult (s : State) (pass clip skipped : Nat) : State :=
  s.send .fx .ins [.passResult clip skipped (s.superseded clip pass)]

/-- Settle a pass that was inspected and not HALTED (R127); its context is IDLE by then. -/
def State.settlePass (s : State) (c : Chan) (pass clip skipped : Nat) : State :=
  let left := (s.pp.slots.filter fun x => x.src = .live c pass && Holder.inspect ∈ x.holders).length
  if left = 0 then s.passResult pass clip skipped
  else { s with fx := { s.fx with
    settle := s.fx.settle ++ [{ pass := pass, clip := clip, skipped := skipped, left := left }] } }

/-- The end of a live pass's data (R127). A context that becomes IDLE is emptied as at a reset (the model's choice,
assumption 88). -/
def State.liveEnd (s : State) (c : Chan) : State :=
  let x := s.liveCtx c
  let idle := s.setLive c {}
  if x.parse.state ≠ .parsing then idle else
  let t := idle.send .fx .ins [.continuityEnd c x.pass (.finish x.parse.ordinal)]
  if x.inspecting then t.settlePass c x.pass (x.parse.clip.getD 0) x.skipped else t

/-- The cut-off of a live pass (R127), which empties the context (the model's choice, assumption 88). -/
def State.liveCut (s : State) (c : Chan) : State :=
  let x := s.liveCtx c
  let idle := s.setLive c {}
  if x.parse.state ≠ .parsing then idle else
  let t := idle.send .fx .ins [.continuityEnd c x.pass .cutOff]
  if ¬x.inspecting then t else
  let clip := x.parse.clip.getD 0
  let n := x.parse.frames - (x.placed + x.skipped)
  let t := if n = 0 then t else t.send .fx .cat [.inspectionCountReport clip (.addSkipped n)]
  t.settlePass c x.pass clip (x.skipped + n)

/-- A live pass begins (R124, R137): the continuity context is started and the Catalog is asked. -/
def State.liveStart (s : State) (c : Chan) (clip : Nat) (desc : Desc) : State :=
  let pass := s.fx.passes
  let x : LiveCtx := { parse := .start clip desc.dataLen desc.frames, pass := pass, asking := true }
  let cont : Continuity :=
    { checking := true, pass := pass, clip := some clip, rate := desc.rate, drop := desc.drop, frames := desc.frames }
  let t := s.setLive c x
  let t : State := { t with fx := { t.fx with passes := (pass + 1) % 65536 } }
  (t.setCont c cont).lookup .fx (.livePass c pass) clip

/-- Take one delivery of a live pass. -/
def State.liveEvent (s : State) (c : Chan) (e : LiveEvent) : State :=
  match e with
  | .start clip desc => s.liveStart c clip desc
  | .bytes bs => bs.foldl (fun t b => t.liveByte c b) s
  | .endOfData => s.liveEnd c
  | .cutOff => s.liveCut c

/-- A delivery of a live pass: held while the clip's inspection state is being asked (assumption 11). -/
def State.deliverLive (s : State) (c : Chan) (e : LiveEvent) : State :=
  let x := s.liveCtx c
  if x.asking then s.setLive c { x with held := x.held ++ [e] } else s.liveEvent c e

/-- LIVE_PASS_BEGIN (R124, R137). -/
def execLivePassBegin (ch : Chan) (clip : Nat) (desc : Desc) (s : State) : Result :=
  .next (s.deliverLive ch (.start clip desc))

/-- LIVE_INSPECTION_STATE_ANSWER (R124): the flag is set, and the deliveries held are taken. -/
def execLiveInspectionStateAnswer (ch : Chan) (pass : Nat) (rec : Option Clip) (s : State) : Result :=
  let x := s.liveCtx ch
  if ¬(x.asking ∧ x.pass = pass) then .next s else
  let on := !(rec.any fun c => c.insp = .reinspecting)
  let t := s.setLive ch { x with asking := false, inspecting := on, held := [] }
  let t := if on then t.send .fx .cat [.inspectionCountReport (x.parse.clip.getD 0) (.start .live)] else t
  .next (x.held.foldl (fun t e => t.deliverLive ch e) t)

/-- LIVE_BYTES (R122, R124). -/
def execLiveBytes (ch : Chan) (bytes : List Byte) (s : State) : Result := .next (s.deliverLive ch (.bytes bytes))

/-- LIVE_PASS_END_OF_DATA (R127). -/
def execLivePassEndOfData (ch : Chan) (s : State) : Result := .next (s.deliverLive ch .endOfData)

/-- LIVE_PASS_CUT_OFF (R127). -/
def execLivePassCutOff (ch : Chan) (s : State) : Result := .next (s.deliverLive ch .cutOff)

/-- An analysed slot of a live pass lowers its settle entry (R127, R130). -/
def State.settleOne (s : State) (pass : Nat) : State :=
  match s.fx.settle.find? fun e => e.pass = pass with
  | none => s
  | some e =>
    if e.left ≤ 1 then
      State.passResult { s with fx := { s.fx with settle := s.fx.settle.filter fun x => x.pass ≠ pass } } pass e.clip
        e.skipped
    else
      let lower (x : Settle) : Settle := if x.pass = pass then { x with left := x.left - 1 } else x
      { s with fx := { s.fx with settle := s.fx.settle.map lower } }

/-- ANALYSIS_DONE_REPORT (R130, R153). -/
def execAnalysisDoneReport (slot : Nat) (s : State) : Result :=
  match s.pp.slots.find? fun x => x.num = slot && Holder.inspect ∈ x.holders with
  | none => .next s
  | some x =>
    let t := s.setSlots (dropHolder .inspect (fun y => y.num = slot) s.pp.slots)
    match x.src with
    | .live _ pass => .next (t.settleOne pass)
    | .reinspect => .next ((t.setReader { t.ins.reader with anal := t.ins.reader.anal + 1 }).readerEnds)
    | .playback _ => .next t

/-! ## Requests of outputs to the pool (R131, R132) -/

/-- LIVE_COUNT_REPORT (R131). -/
def execLiveCountReport (c : Chan) (n : Nat) (s : State) : Result :=
  let t : State := { s with pp := { s.pp with counts := upd s.pp.counts c fun _ => n } }
  .next (if n = 0 then t.setSlots (dropHolder (.newest c) (fun _ => true) t.pp.slots) else t)

/-- TAKE_NEWEST (R132). -/
def execTakeNewest (k : Outp) (c : Chan) (tok : Nat) (s : State) : Result :=
  match s.pp.slots.find? fun x => Holder.newest c ∈ x.holders with
  | none => .next (s.send .pp .ro [.takeNewestAnswer k tok none])
  | some x =>
    let add (y : Slot) : Slot :=
      if y.num = x.num ∧ Holder.output k ∉ y.holders then { y with holders := y.holders ++ [.output k] } else y
    .next ((s.setSlots (s.pp.slots.map add)).send .pp .ro
      [.takeNewestAnswer k tok (some (x.num, x.hdr, s.pp.seqs[c]))])

/-- SLOT_DROP (R132). -/
def execSlotDrop (k : Outp) (slot : Nat) (s : State) : Result :=
  .next (s.setSlots (dropHolder (.output k) (fun y => y.num = slot) s.pp.slots))

/-- DROP_ALL (R132). -/
def execDropAll (k : Outp) (s : State) : Result :=
  .next (s.setSlots (dropHolder (.output k) (fun _ => true) s.pp.slots))

/-! ## Playback reading (R133, R135) -/

/-- Playback context of an output. -/
def State.playCtx (s : State) (k : Outp) : PlayCtx := s.fx.play[k]

/-- Store a playback context. -/
def State.setPlay (s : State) (k : Outp) (x : PlayCtx) : State :=
  { s with fx := { s.fx with play := upd s.fx.play k fun _ => x } }

/-- Answer a fetch (R133). -/
def State.answerFetch (s : State) (k : Outp) (f : Nat × Nat) (a : FetchAns) : State :=
  s.send .fx .ro [.fetchAnswer k f.1 f.2 a]

/-- Answer every fetch of a context alike. -/
def State.answerAll (s : State) (k : Outp) (fs : List (Nat × Nat)) (a : FetchAns) : State :=
  fs.foldl (fun t f => t.answerFetch k f a) s

/-- Send the port a playback read of the blocks that hold clip bytes `first` to `last`, of which the first are a chunk
header's (R133); with `whole` clear the header alone is wanted. -/
def State.playRead (s : State) (k : Outp) (x : PlayCtx) (src : Source) (first last : Nat) (whole : Bool) : State :=
  let b := first / Config.blockBytes
  let n := last / Config.blockBytes - b + 1
  let cut := if whole then some (first % Config.blockBytes) else none
  (s.tick.setPlay k { x with rtok := some s.token }).send .fx (.dp src.port)
    [.playbackRead k src.port src.vol (src.hb + src.span + b) ⟨n, cut⟩ s.token]

/-- Serve the oldest fetch of the list (R133): answer it where no read can, and otherwise send the read it needs. Frame `n`
itself takes one read, through the end of its plane or, where it has none, through its header alone: the read is cut once
the header has been read (assumption 34). A return to position 0 leaves no last frame index (the model's choice, assumption
100). -/
def State.serveFetch (k : Outp) : List (Nat × Nat) → State → State
  | [], s => s.setPlay k { s.playCtx k with fetches := [] }
  | f :: rest, s =>
    let x := { s.playCtx k with fetches := f :: rest }
    let x := if f.2 < x.parse.ordinal then { x with parse := { x.parse with pos := 0, ordinal := 0, lastIndex := none } } else x
    let p := x.parse
    match x.src with
    | none => (s.setPlay k { x with fetches := [] }).answerAll k (f :: rest) .cancelled
    | some src =>
      if p.pos ≥ p.dataLen then State.serveFetch k rest ((s.setPlay k x).answerFetch k f .beyondEnd)
      else if p.dataLen < p.pos + 64 then
        (s.setPlay k { x with parse := p.halt, fetches := [] }).answerAll k (f :: rest) .unparsable
      else if p.ordinal < f.2 then s.playRead k x src p.pos (p.pos + 63) false
      else s.playRead k x src p.pos (min (p.pos + 64 + Config.planeBytes) p.dataLen - 1) true

/-- PLAYBACK_START (R133): the context derives the header span. -/
def execPlaybackStart (k : Outp) (clip dataLen frames : Nat) (copy : CopyPlace) (s : State) : Result :=
  let src : Source := { port := copy.port, vol := copy.vol, hb := copy.hb, span := spanOf (extentsOf dataLen) }
  .next (s.setPlay k { parse := .start clip dataLen frames, src := some src })

/-- FETCH (R133): served at once when nothing else is. A fetch that reaches a HALTED context is answered UNPARSABLE, and
one that reaches an IDLE context CANCELLED. -/
def execFetch (k : Outp) (run n : Nat) (s : State) : Result :=
  let x := s.playCtx k
  match x.parse.state with
  | .parsing =>
    if x.fetches.isEmpty then .next (State.serveFetch k [(run, n)] s)
    else .next (s.setPlay k { x with fetches := x.fetches ++ [(run, n)] })
  | .halted => .next (s.answerFetch k (run, n) .unparsable)
  | .idle | .waiting => .next (s.answerFetch k (run, n) .cancelled)

/-- The bytes of a playback read (R133): a header passed over on the way, or the frame fetched. -/
def State.playBytes (s : State) (k : Outp) (x : PlayCtx) (f : Nat × Nat) (rest : List (Nat × Nat)) (bytes : List Byte) :
    State :=
  let p := x.parse
  let bs := bytes.drop (p.pos % Config.blockBytes)
  match readChunkHdr p.pos p.dataLen (bs.take 64) with
  | none => (s.setPlay k { x with parse := p.halt, fetches := [], rtok := none }).answerAll k (f :: rest) .unparsable
  | some h =>
    let p' := p.accept h
    let y := { x with rtok := none, parse := { p' with chunk := none, pos := p.pos + h.len } }
    let t := s.setPlay k y
    if p.ordinal < f.2 then State.serveFetch k (f :: rest) t
    else if h.preview = 0 then State.serveFetch k rest (t.answerFetch k f (.noPlane (p'.frameHdr h)))
    else
      match t.pp.lowestFree with
      | none => State.serveFetch k rest (t.answerFetch k f (.noSlot (p'.frameHdr h)))
      | some n =>
        let plane := (bs.drop 64).take Config.planeBytes
        State.serveFetch k rest ((t.place n (.playback k) (p'.frameHdr h) plane none [.output k]).answerFetch k f
          (.placed n (p'.frameHdr h)))

/-- PLAYBACK_READ_ANSWER (R133, R135): an answer to a read since cancelled is discarded. A LOST one empties the context (the
model's choice, assumption 88). -/
def execPlaybackReadAnswer (k : Outp) (rtok : Nat) (ans : ReadAns) (s : State) : Result :=
  let x := s.playCtx k
  if x.rtok ≠ some rtok then .next s else
  match x.fetches, ans with
  | f :: rest, .done bytes => .next (s.playBytes k x f rest bytes)
  | f :: rest, .failed => .next (State.serveFetch k rest ((s.setPlay k { x with rtok := none }).answerFetch k f .failed))
  | fs, .lost => .next ((s.setPlay k {}).answerAll k fs .lost)
  | fs, .withdrawn => .next ((s.setPlay k { x with rtok := none, fetches := [] }).answerAll k fs .cancelled)
  | [], _ => .next (s.setPlay k { x with rtok := none })

/-- PLAYBACK_CANCEL (R133), which empties the context (the model's choice, assumption 88). -/
def execPlaybackCancel (k : Outp) (s : State) : Result :=
  let x := s.playCtx k
  let t := match x.rtok, x.src with
    | some _, some src => s.send .fx (.dp src.port) [.readCancel (.output k) src.port]
    | _, _ => s
  .next ((t.setPlay k {}).answerAll k x.fetches .cancelled)

/-! ## Re-inspection reading (R134, R135) -/

/-- Store the re-inspection context. -/
def State.setRe (s : State) (x : ReCtx) : State := { s with fx := { s.fx with re := x } }

/-- Report to the re-inspection reader. -/
def State.tellReader (s : State) (run : Nat) (rep : ReReport) : State :=
  s.send .fx .ins [.reinspectContextReport run rep]

/-- Place the gathered plane of a re-inspection (R134). -/
def State.placeRe (s : State) (n : Nat) : State :=
  let x := s.fx.re
  ((s.setRe { x with placed := x.placed + 1 }).place n .reinspect x.parse.currentHdr x.parse.planeRev.reverse none
    [.inspect]).tellReader x.run .placed

/-- Close the current chunk of the re-inspection context, and end the parse at the data length (R122, R134), which empties
the context (the model's choice, assumption 88). -/
def State.closeRe (s : State) : State :=
  let x := s.fx.re
  let p := x.parse.close
  if x.parse.state = .parsing ∧ p.atEnd then (s.setRe {}).tellReader x.run (.ended x.placed x.skipped)
  else s.setRe { x with parse := p }

/-- One byte of a re-inspection (R134). -/
def State.reByte (s : State) (b : Byte) : State :=
  let x := s.fx.re
  let r := x.parse.take b
  let t := s.setRe { x with parse := r.1 }
  match r.2 with
  | .nothing => t.closeRe
  | .header h =>
    if h.preview = 0 then
      State.closeRe ((t.setRe { t.fx.re with skipped := x.skipped + 1 }).send .fx .cat
        [.inspectionCountReport (x.parse.clip.getD 0) (.addSkipped 1)])
    else t.setRe { t.fx.re with parse := r.1.offer }
  | .plane =>
    if t.pp.free ≥ Config.reinspectReserve then
      match t.pp.lowestFree with
      | some n => (t.placeRe n).closeRe
      | none => t
    else t.setRe { t.fx.re with parse := { r.1 with state := .waiting } }
  | .bad =>
    ((t.fileUnparsable r.1).setRe { t.fx.re with parse := r.1.halt }).tellReader x.run
      (.halted r.1.faultFrame x.placed x.skipped)

/-- Report a read consumed once every byte of it has been taken: none waits with the context, which goes on, or WAITS with the
plane the last byte has completed (R134). -/
def State.reConsumed (s : State) : State :=
  let x := s.fx.re
  if x.parse.state = .parsing ∨ x.parse.state = .waiting ∧ x.held = [] then
    s.send .fx .ins [.reinspectReadConsumed x.run]
  else s

/-- Take the bytes of a delivered read (R134): the rest waits with a WAITING context, and a read taken to its last byte
is reported consumed; of the read that ends the parse the ended report alone is sent (the model's choice, assumption 89). -/
def State.reBytes : List Byte → State → State
  | [], s => s.reConsumed
  | b :: bs, s =>
    match s.fx.re.parse.state with
    | .parsing => State.reBytes bs (s.reByte b)
    | .waiting => s.setRe { s.fx.re with held := s.fx.re.held ++ b :: bs }
    | .idle | .halted => s

/-- REINSPECT_CONTEXT_START (R134): a read delivered before it is taken now (assumption 11). -/
def execReinspectContextStart (run clip dataLen frames : Nat) (src : Source) (s : State) : Result :=
  let early := s.fx.re.early
  let t := s.setRe { parse := .start clip dataLen frames, run := run, src := some src }
  match early with
  | some (r, bytes) => .next (if r = run then State.reBytes bytes t else t)
  | none => .next t

/-- REINSPECT_BYTES (R134): a HALTED context discards the bytes of its run (R123); bytes of a run that has not started here
are kept for it (assumption 11). -/
def execReinspectBytes (run : Nat) (bytes : List Byte) (s : State) : Result :=
  let x := s.fx.re
  match x.parse.state with
  | .parsing | .waiting => .next (if x.run = run then State.reBytes bytes s else s)
  | .halted => .next (if x.run = run then s else s.setRe { x with early := some (run, bytes) })
  | .idle => .next (s.setRe { x with early := some (run, bytes) })

/-- REINSPECT_PLANE_RESUME (R134): a report of the FREE count. The WAITING context places its plane and takes the waiting
bytes, when at least 16 slots are FREE by the report and still are as it is taken (the model's choice, assumption 39). With
no byte waiting, the read was reported consumed as the context began to wait. -/
def execReinspectPlaneResume (free : Nat) (s : State) : Result :=
  let x := s.fx.re
  if x.parse.state ≠ .waiting ∨ free < Config.reinspectReserve ∨ s.pp.free < Config.reinspectReserve then .next s else
  match s.pp.lowestFree with
  | none => .next s
  | some n =>
    let t := s.setRe { x with held := [], parse := { x.parse with state := .parsing } }
    let u := (t.placeRe n).closeRe
    .next (if x.held = [] then u else State.reBytes x.held u)

/-- REINSPECT_CONTEXT_CANCEL (R134), which empties the context (the model's choice, assumption 88). -/
def execReinspectContextCancel (run : Nat) (s : State) : Result :=
  let x := s.fx.re
  if x.parse.state = .idle ∨ x.run ≠ run then .next s
  else .next ((s.setRe {}).tellReader run (.counts x.placed x.skipped))

/-- REINSPECT_READ_LOST (R135), which empties the context (the model's choice, assumption 88). -/
def execReinspectReadLost (run : Nat) (s : State) : Result :=
  let x := s.fx.re
  if x.parse.state = .idle ∨ x.run ≠ run then .next s
  else .next ((s.setRe {}).tellReader run (.lost x.placed x.skipped x.parse.ordinal))

/-! ## Queries (6.7) -/

/-- A holder as fields: INSPECT, OUTPUT k or NEWEST c (R136), each a kind and a number (the model's choice, assumption 71). -/
def fHolder (h : Holder) : List Field :=
  match h with
  | .inspect => fNamed 0 ++ u8 0
  | .output k => fNamed 1 ++ u8 k.val
  | .newest c => fNamed 2 ++ u8 c.val

/-- A parse context as QUERY POOL reports it (R136); its clip id is an optional field (the model's choice, assumption 98). -/
def fParse (p : Parse) : List Field := fNamed p.state.ctorIdx ++ fOpt [2] u16 p.clip ++ u32 p.ordinal

/-- QUERY_POOL (R136). Each held slot is named by its number before the fields the rule lists (the model's choice, assumption
71), and its holders stand in the order they joined (assumption 99). -/
def execQueryPool (q : Req) (s : State) : Result :=
  .next (s.accept .pp q (u8 s.pp.free ++
    fList (fun x : Slot => u8 x.num ++ fSource x.src ++ u16 x.hdr.clip ++ u32 x.hdr.index ++ fList fHolder x.holders)
      s.pp.slots ++
    fList u8 s.pp.queue ++
    ((List.finRange 3).flatMap fun c => u8 s.fx.steps[c] ++ u16 s.pp.seqs[c] ++
      fOpt [1] (fun x : Slot => u8 x.num) (s.pp.slots.find? fun x => Holder.newest c ∈ x.holders)) ++
    fList (fun e : Settle => u16 e.pass ++ u16 e.clip ++ u32 e.skipped ++ u8 e.left) s.fx.settle ++
    s.fx.live.toList.flatMap (fun x => fParse x.parse ++ u32 x.placed ++ u32 x.skipped) ++
    s.fx.play.toList.flatMap (fun x => fParse x.parse) ++
    fParse s.fx.re.parse ++ u32 s.fx.re.placed ++ u32 s.fx.re.skipped))

end Sys2Proof.Machine
end

