-- ==== Sys2Proof/Machine/Looks.lean ====
section
/-! DEFINITION. The Look Bank (Section 9): edit holds, bank fills, camera defaults, reads by other blocks and queries. -/

namespace Sys2Proof.Machine

/-! ## Slots -/

/-- A look slot. -/
def State.look (s : State) (i : LookIx) : LookSlot := s.lb.slots[i]

/-- Store a look slot. -/
def State.setLook (s : State) (i : LookIx) (x : LookSlot) : State :=
  { s with lb := { s.lb with slots := upd s.lb.slots i fun _ => x } }

/-- The version after a change of the active look (R172). -/
def nextVersion (v : Nat) : Nat := (v + 1) % 65536

/-- Refuse HELD with the holder (R174, R175). -/
def State.refuseHeld (s : State) (q : Req) (vals : List Field) : State := s.reply .lb q (.refused .held none vals)

/-- A notice of the Look Bank (9.7). -/
def lookNotice (sub : NoticeSub) (fields : List Field) : Notice := { sub := sub, fields := fields }

/-- Tests 1 to 4 of R175: the slot, or the refusal. -/
def State.heldBy (s : State) (q : Req) (slot : Nat) : Except State LookIx :=
  match ix? 32 slot with
  | none => .error (s.refuse .lb q .value)
  | some i =>
    if s.lb.covered i then .error (s.refuse .lb q .busy) else
    match (s.look i).holder with
    | none => .error (s.refuseState .lb q .notHeld)
    | some h => if h = q.st then .ok i else .error (s.refuseHeld q (u8 h.val))

/-! ## Edit holds (9.2) -/

/-- HOLD_LOOK (R174). -/
def execHoldLook (q : Req) (slot : Nat) (s : State) : Result :=
  match ix? 32 slot with
  | none => .next (s.refuse .lb q .value)
  | some i =>
    let x := s.look i
    if s.lb.covered i then .next (s.refuse .lb q .busy) else
    match x.holder with
    | some h => .next (s.refuseHeld q (u8 h.val))
    | none =>
      .next (((s.setLook i { x with holder := some q.st, pending := some x.active, pendingName := some x.name }).accept
        .lb q (u16 x.version)).raise .lb (lookNotice .lookHeld (u8 slot ++ u8 q.st.val ++ u16 x.version)))

/-- A number lies in a range. -/
def inRange (lo hi v : Int) : Bool := lo ≤ v && v ≤ hi

/-- The matrix, trim, encoding and name items of WRITE LOOK lie in their ranges (R173, R175). -/
def lookItemsOk (w : LookItems) : Bool :=
  (match w.matrix with
    | .values m => m.toList.all (inRange (-4096) 4095)
    | .notCarried | .absent => true) &&
  (match w.trim with
    | .values t => t.toList.all fun c => c.gain ≤ 4095 && inRange (-2048) 2047 c.offset
    | .notCarried | .absent => true) &&
  (match w.enc with
    | .notCarried => true
    | .absent => false
    | .values e => e = 1 || e = 2) &&
  (match w.name with
    | some n => decide (n.length ≤ 16) && n.all fun c => 32 ≤ c && c ≤ 126
    | none => true)

/-- A part of a pending look after WRITE LOOK (R175). -/
def newPart {α : Type} (old : Option α) (i : Item α) : Option α :=
  match i with
  | .notCarried => old
  | .absent => none
  | .values a => some a

/-- Curves with every entry above 4095 taken as 4095 (R173). -/
def clampCurves (c : Vector (Vector Nat 33) 3) : Vector (Vector Nat 33) 3 := c.map fun v => v.map (min 4095)

/-- The curves item after clamping. -/
def clampItem (i : Item (Vector (Vector Nat 33) 3)) : Item (Vector (Vector Nat 33) 3) :=
  match i with
  | .values c => .values (clampCurves c)
  | .notCarried => .notCarried
  | .absent => .absent

/-- A pending look after WRITE LOOK (R175). -/
def newLook (l : LookRec) (w : LookItems) : LookRec :=
  { matrix := newPart l.matrix w.matrix, trim := newPart l.trim w.trim, curves := newPart l.curves (clampItem w.curves)
    enc := match w.enc with
      | .values e => if e = 2 then .full else .legal
      | .notCarried | .absent => l.enc }

/-- WRITE_LOOK (R175). -/
def execWriteLook (q : Req) (slot : Nat) (items : LookItems) (s : State) : Result :=
  match s.heldBy q slot with
  | .error t => .next t
  | .ok i =>
    if !lookItemsOk items then .next (s.refuse .lb q .value) else
    let x := s.look i
    let x' := { x with pending := some (newLook (x.pending.getD x.active) items)
                       pendingName := items.name.or x.pendingName }
    .next ((s.setLook i x').reply .lb q (.accepted (decide (clampItem items.curves ≠ items.curves)) []))

/-- COMMIT_LOOK (R176). -/
def execCommitLook (q : Req) (slot : Nat) (keep : Bool) (s : State) : Result :=
  match s.heldBy q slot with
  | .error t => .next t
  | .ok i =>
    let x := s.look i
    let active := x.pending.getD x.active
    let name := x.pendingName.getD x.name
    let v := nextVersion x.version
    let x' : LookSlot :=
      { active := active, name := name, version := v
        pending := if keep then some active else none
        pendingName := if keep then some name else none
        holder := if keep then x.holder else none }
    .next (((s.setLook i x').accept .lb q (u16 v)).raise .lb
      (lookNotice .lookCommitted (u8 slot ++ u8 q.st.val ++ u16 v ++ fName name ++ fFlag keep)))

/-- A slot without its hold (R177, R178). -/
def LookSlot.released (x : LookSlot) : LookSlot := { x with pending := none, pendingName := none, holder := none }

/-- CANCEL_LOOK (R177). -/
def execCancelLook (q : Req) (slot : Nat) (s : State) : Result :=
  match s.heldBy q slot with
  | .error t => .next t
  | .ok i =>
    .next (((s.setLook i (s.look i).released).accept .lb q []).raise .lb
      (lookNotice .lookReleased (u8 slot ++ u8 q.st.val ++ fNamed 0)))

/-- LINK_DOWN_REPORT (R178). -/
def execLinkDownReport (st : Stn) (s : State) : Result :=
  .next ((List.finRange 32).foldl (fun t i =>
    if (t.look i).holder = some st then
      (t.setLook i (t.look i).released).raise .lb (lookNotice .lookReleased (u8 i.val ++ u8 st.val ++ fNamed 1))
    else t) s)

/-! ## Bank fills (9.3) -/

/-- The slots of a range, ascending. -/
def slotRange (first last : Nat) : List LookIx := (List.finRange 32).filter fun i => first ≤ i.val && i.val ≤ last

/-- A preset as fields, in FILL_STARTED (R179) and in QUERY BANK (R184): IDENTITY or COPY, then the source slot as an optional
field (the model's choice, assumptions 117 and 118). -/
def fPreset (p : Preset) : List Field :=
  match p with
  | .identity => fNamed 0 ++ fOpt [1] u8 none
  | .copy n => fNamed 1 ++ fOpt [1] u8 (some n)

/-- The fill look of a preset (R179); `none` for a source slot outside 0 to 31. -/
def State.fillLook (s : State) (p : Preset) : Option LookRec :=
  match p with
  | .identity => some identityLook
  | .copy n => (ix? 32 n).map fun i => (s.look i).active

/-- BANK_FILL (R179). -/
def execBankFill (q : Req) (first last : Nat) (preset : Preset) (s : State) : Result :=
  match decide (first < 32 ∧ last < 32 ∧ first ≤ last), s.fillLook preset with
  | true, some l =>
    if s.lb.fill.isSome then .next (s.refuse .lb q .busy) else
    match (slotRange first last).find? fun i => (s.look i).holder.isSome with
    | some i => .next (s.refuseHeld q (u8 i.val ++ u8 (((s.look i).holder.map (·.val)).getD 0)))
    | none =>
      let f : Fill := { first := first, last := last, st := q.st, next := first, look := l, preset := preset, tok := s.token }
      .next ((({ s.tick with lb := { s.lb with fill := some f } }).accept .lb q []).raise .lb
        (lookNotice .lookFillStarted (u8 first ++ u8 last ++ fPreset preset ++ u8 q.st.val)))
  | _, _ => .next (s.refuse .lb q .value)

/-- A slot whose look a completed fill replaces (R180). -/
def LookSlot.filled (x : LookSlot) : LookSlot :=
  { x with active := x.pending.getD x.active, pending := none, version := nextVersion x.version }

/-- The fill completes (R180). FILL_DONE carries the new versions as a list with its count (the model's choice, assumption
104). -/
def State.fillDone (s : State) (f : Fill) : State :=
  let is := slotRange f.first f.last
  let t := is.foldl (fun t i => t.setLook i (t.look i).filled) s
  ({ t with lb := { t.lb with fill := none } }).raise .lb (lookNotice .lookFillDone
    (u8 f.first ++ u8 f.last ++ u8 f.st.val ++ fList (fun i => u16 (t.look i).version) is))

/-- FILL_SLOT_WRITE_DONE (R180): the completion of a cancelled fill's write is discarded. -/
def execFillSlotWriteDone (tok : Nat) (s : State) : Result :=
  match s.lb.fill with
  | none => .next s
  | some f =>
    if f.tok ≠ tok then .next s else
    let t := match ix? 32 f.next with
      | some i => s.setLook i { s.look i with pending := some f.look }
      | none => s
    if f.next + 1 > f.last then .next (t.fillDone f)
    else .next { t.tick with lb := { t.lb with fill := some { f with next := f.next + 1, tok := t.token } } }

/-- CANCEL_FILL (R181). -/
def execCancelFill (q : Req) (s : State) : Result :=
  match s.lb.fill with
  | none => .next (s.refuseState .lb q .notFilling)
  | some f =>
    let t := (slotRange f.first f.last).foldl (fun t i => t.setLook i { t.look i with pending := none }) s
    .next ((({ t with lb := { t.lb with fill := none } }).accept .lb q []).raise .lb
      (lookNotice .lookFillEnded (u8 f.first ++ u8 f.last ++ fNamed 0 ++ u8 (f.next - f.first))))

/-! ## Camera defaults and reads (9.4, 9.5) -/

/-- SET_CAMERA_LOOK (R182): the letter is carried as its character. -/
def execSetCameraLook (q : Req) (letter slot : Nat) (s : State) : Result :=
  match letterOf letter, ix? 32 slot with
  | some l, some i =>
    let old := s.lb.defaults[l]
    let vals := u8 old.val ++ u8 slot
    .next ((({ s with lb := { s.lb with defaults := upd s.lb.defaults l fun _ => i } }).accept .lb q vals).raise .lb
      { lookNotice .lookCameraDefault vals with letter := some l })
  | _, _ => .next (s.refuse .lb q .value)

/-- DEFAULT_REQUEST (R182). -/
def execDefaultRequest (letter : Letter) (job : DefaultJob) (s : State) : Result :=
  .next (s.send .lb .cat [.cameraDefaultAnswer job s.lb.defaults[letter]])

/-- LATCH_READ (R183). -/
def execLatchRead (outs : List (Outp × Nat × LookIx)) (s : State) : Result :=
  .next (s.send .lb .ro [.latchAnswer (outs.map fun x =>
    (x.1, x.2.1, x.2.2, (s.look x.2.2).version, (s.look x.2.2).active))])

/-- VERSION_REQUEST (R183). -/
def execVersionRequest (q : Req) (clip : Nat) (serial : Serial) (made : Nat) (slot : LookIx) (s : State) : Result :=
  .next (s.send .lb .cat [.stampVersionAnswer q clip serial made slot (s.look slot).version])

/-! ## Queries (9.6) -/

/-- QUERY_LOOK (R184). A flag tells whether a fill covers the slot, and an optional flag whether its write has completed (the
model's choice, assumption 103). -/
def execQueryLook (q : Req) (slot : Nat) (s : State) : Result :=
  match ix? 32 slot with
  | none => .next (s.refuse .lb q .value)
  | some i =>
    let x := s.look i
    let written := s.lb.fill.bind fun f => if f.first ≤ slot ∧ slot ≤ f.last then some (decide (slot < f.next)) else none
    .next (s.accept .lb q (fLook x.active ++ u16 x.version ++ fName x.name ++ fOpt [1] (fun h : Stn => u8 h.val) x.holder ++
      fOpt ((fLook identityLook).map (·.size)) fLook x.pending ++ fOpt [1] fName x.pendingName ++
      fFlag (s.lb.covered i) ++ fOpt [1] fFlag written))

/-- QUERY_BANK (R184). -/
def execQueryBank (q : Req) (s : State) : Result :=
  .next (s.accept .lb q (s.lb.slots.toList.flatMap (fun x => u16 x.version ++ fName x.name ++
      fOpt [1] (fun h : Stn => u8 h.val) x.holder ++ fFlag x.pending.isSome) ++
    s.lb.defaults.toList.flatMap (fun i => u8 i.val) ++
    fOpt [1, 1, 1, 1, 1, 1, 1] (fun f : Fill => u8 f.first ++ u8 f.last ++ u8 f.next ++ fPreset f.preset ++ u8 f.st.val)
      s.lb.fill))

end Sys2Proof.Machine
end

