-- ==== Sys2Proof/Machine/Orders.lean ====
section
/-! DEFINITION. The Order Dispatcher (Section 3): posting, dispatch passes, progress, ends, aborts, mode and queries. -/

namespace Sys2Proof.Machine

/-! ## The order queue -/

/-- The queue with the entry of `o`'s id replaced by `o`. -/
def State.setOrder (s : State) (o : Order) : State :=
  { s with ods := { s.ods with orders := s.ods.orders.map fun x => if x.id = o.id then o else x } }

/-- The queue without the entry of that id. -/
def State.dropOrder (s : State) (id : Nat) : State :=
  { s with ods := { s.ods with orders := s.ods.orders.filter fun x => x.id ≠ id } }

/-- The entry of an order id, if it is in the queue and its bind is not outstanding (R48). -/
def Dispatcher.seen (d : Dispatcher) (id : Nat) : Option Order :=
  d.orders.find? fun o => o.id = id && o.state ≠ .reserved

/-- The order id counter's next id that no entry holds (R46). -/
def Dispatcher.freshId (d : Dispatcher) : Nat :=
  let used := d.orders.map (·.id) ++ d.leaving.map (·.order.id)
  let ids := (List.range (used.length + 1)).map fun i => (d.counter + i) % 65536
  (ids.find? fun n => n ∉ used).getD d.counter

/-- A notice about an order (3.11): the bay is the one the bay view shows holding the card, which the model takes to be one
in PRESENT or RELEASED, as R52 tests it, and no bay still LISTING or UNREADABLE (the model's choice, assumption 65). -/
def State.orderNotice (s : State) (sub : NoticeSub) (o : Order) (fields : List Field) : Notice :=
  { sub := sub, serial := some o.serial, bay := s.ods.bayOf o.serial, clip := some o.clip, order := some o.id
    letter := some o.letter, fields := fields }

/-! ## Dispatch tests -/

/-- The disposition of a destination for an order (R51). -/
def disposition (v : DestView) (c : Clip) : Disposition :=
  if v.state.attached && c.copies.any fun x => (x.state = .found || x.state = .verified) && v.vol = some x.vol then
    .holdsCopy
  else
    match v.state with
    | .absent => .absent
    | .scanning | .unformatted | .detaching | .detached => .notReady
    | .soaking => .masked
    | .ready =>
      if v.qual = .failed then .qualificationFailed
      else if v.indexFull then .indexFull
      else if v.free < spanOf c.extents + dataBlocks c.desc.dataLen then .noSpace
      else .write

/-- The named destinations of an order with their dispositions, and the volume serial of each WRITE port (R56). -/
def Dispatcher.judge (d : Dispatcher) (o : Order) (c : Clip) : List Dest :=
  o.dests.map fun p =>
    let disp := disposition d.dests[p] c
    { port := p, disp := disp, vol := if disp = .write then d.dests[p].vol else none }

/-- Tests 1 to 3 of R52: the cause of the first that fails. -/
def Dispatcher.early (d : Dispatcher) (o : Order) : Option WaitCause :=
  if d.mode ≠ .run then some .modeHold else
  match d.bayOf o.serial with
  | none => some .cardAbsent
  | some b =>
    if d.bays[b].reading || d.orders.any fun x => x.state = .active && x.serial = o.serial then some .bayBusy else none

/-- Tests 4 and 5 of R52 over the judged destinations: the cause of the first that fails. -/
def lateCause (required : Nat) (ds : List Dest) : Option WaitCause :=
  let count (k : Disposition) := (ds.filter fun d => d.disp = k).length
  if count .masked ≠ 0 then some .destinationMasked
  else if count .write + count .holdsCopy < required then some .tooFewDestinations
  else if count .holdsCopy = 0 ∧ count .write = 0 then some .tooFewDestinations
  else none

/-- What the Catalog reads of a pass say of an order's clip (R50, R53). -/
def readOf (reads : List (Nat × Option Clip)) (o : Order) : Option Clip :=
  (reads.find? fun r => r.1 = o.id).bind (·.2)

/-- The waiting cause a pass writes for a PENDING order (R52): of an order that passes tests 1 to 3 and whose record
this pass has not read, the cause it had. -/
def Dispatcher.causeOf (d : Dispatcher) (reads : List (Nat × Option Clip)) (o : Order) : Option WaitCause :=
  match d.early o with
  | some k => some k
  | none =>
    match readOf reads o with
    | some c => lateCause c.required (d.judge o c)
    | none => o.cause

/-- An order is dispatchable in this evaluation (R52). -/
def Dispatcher.dispatchable (d : Dispatcher) (reads : List (Nat × Option Clip)) (o : Order) : Bool :=
  o.state = .pending && d.early o = none && (readOf reads o).any fun c => lateCause c.required (d.judge o c) = none

/-- The PENDING orders with their waiting causes written (R52). -/
def Dispatcher.written (d : Dispatcher) (cause : Order → Option WaitCause) : Dispatcher :=
  { d with orders := d.orders.map fun o => if o.state = .pending then { o with cause := cause o } else o }

/-! ## Dispatch passes -/

/-- Of orders in posting order, the earliest of the highest effective priority (R54). -/
def bestOrder : List Order → Option Order
  | [] => none
  | o :: os =>
    match bestOrder os with
    | none => some o
    | some b => if b.effective > o.effective then some b else some o

/-- The lowest-numbered free channel (R53). -/
def Dispatcher.freeChan (d : Dispatcher) : Option Chan := (List.finRange 3).find? fun ch => d.chans[ch] = none

/-- The orders before an id in posting order. -/
def ordersBefore (id : Nat) : List Order → List Nat
  | [] => []
  | o :: os => if o.id = id then [] else o.id :: ordersBefore id os

/-- Start an order on a channel, and age the earlier dispatchable orders (R55, R56). -/
def State.startOrder (s : State) (ch : Chan) (o : Order) (c : Clip) (ready : List Nat) : State :=
  let ds := s.ods.judge o c
  let before := ordersBefore o.id s.ods.orders
  let aged (x : Order) : Order :=
    if x.id ∈ ready ∧ x.id ∈ before then { x with passed := min 4 (x.passed + 1) } else x
  let o' := { o with state := .active, chan := some ch, cause := none }
  let ods := { s.ods with
    orders := s.ods.orders.map fun x => if x.id = o.id then o' else aged x
    chans := upd s.ods.chans ch fun _ => some o.id }
  (({ s with ods := ods }).send .ods (.cc ch) [.startMessage ch o.id o.clip o.serial ds]).raise .ods
    (s.orderNotice .orderStarted o' (u8 ch.val ++ fList (fun d : Dest => u8 d.port.val ++ fNamed d.disp.ctorIdx) ds))

/-- Evaluate, select and start until no channel is free or no order is dispatchable (R53). Three starts fill the
channels, so four rounds suffice. -/
def State.passLoop (reads : List (Nat × Option Clip)) : Nat → State → State
  | 0, s => s
  | n + 1, s =>
    let s := { s with ods := s.ods.written (s.ods.causeOf reads) }
    let ready := s.ods.orders.filter (s.ods.dispatchable reads)
    match s.ods.freeChan, bestOrder ready with
    | some ch, some o =>
      match readOf reads o with
      | some c => State.passLoop reads n (s.startOrder ch o c (ready.map (·.id)))
      | none => s
    | _, _ => s

/-- Run a dispatch pass (R53). Outside RUN it sets MODE_HOLD. In RUN it writes the causes of tests 1 to 3 and reads
from the Catalog the record of every other PENDING order; a pass called for while reads are outstanding is run after
them. -/
def State.runPass (s : State) : State :=
  if s.ods.mode ≠ .run then { s with ods := s.ods.written fun _ => some .modeHold } else
  match s.ods.pass with
  | some p => { s with ods := { s.ods with pass := some { p with again := true } } }
  | none =>
    let t := { s with ods := s.ods.written fun o => (s.ods.early o).or o.cause }
    let asks := s.ods.orders.filter fun o => o.state = .pending && s.ods.early o = none
    if asks.isEmpty then t else
    asks.foldl (fun u o => u.lookup .ods (.dispatch o.id) o.clip)
      { t with ods := { t.ods with pass := some { awaiting := asks.map (·.id), reads := [], again := false } } }

/-- DISPATCH_LOOKUP_ANSWER (R44, R53): with the last read of a pass in, its orders are evaluated and started. -/
def execDispatchLookupAnswer (order : Nat) (rec : Option Clip) (s : State) : Result :=
  match s.ods.pass with
  | none => .next s
  | some p =>
    if order ∉ p.awaiting then .next s else
    let p' := { p with awaiting := p.awaiting.filter fun n => n ≠ order, reads := p.reads ++ [(order, rec)] }
    if p'.awaiting.isEmpty then
      let t := State.passLoop p'.reads 4 { s with ods := { s.ods with pass := none } }
      .next (if p'.again then t.runPass else t)
    else .next { s with ods := { s.ods with pass := some p' } }

/-! ## Posting -/

/-- The destination set of a request: one to three distinct ports (R47). -/
def portSet (dests : List Nat) : Option (List Port) :=
  if dests.length < 1 ∨ dests.length > 3 ∨ ¬dests.Nodup then none else dests.mapM (ix? 4)

/-- Reserve an entry at the end of the queue and send its bind (R46 to R48). -/
def State.reserve (s : State) (clip : Nat) (dests : List Port) (prio : Nat) (st : Stn) (how : Posting) : State :=
  let id := s.ods.freshId
  let o : Order := { id := id, clip := clip, dests := dests, priority := prio, station := st, posting := some how }
  ({ s with ods := { s.ods with orders := s.ods.orders ++ [o], counter := (id + 1) % 65536 } }).send .ods .cat
    [.bindRequest clip id dests.length]

/-- POST_ORDER (R47). -/
def execPostOrder (q : Req) (clip : Nat) (dests : List Nat) (priority : Nat) (s : State) : Result :=
  match decide (clip < Config.clipRecords), portSet dests with
  | true, some ps =>
    if s.ods.orders.length ≥ Config.orderEntries then .next (s.refuse .ods q .full)
    else .next (s.reserve clip ps (min 3 priority) q.st (.single q (decide (priority > 3))))
  | _, _ => .next (s.refuse .ods q .value)

/-- POST_CARD_ORDER (R49): the Catalog is asked for the candidates. -/
def execPostCardOrder (q : Req) (serial : Serial) (dests : List Nat) (priority : Nat) (s : State) : Result :=
  match portSet dests with
  | none => .next (s.refuse .ods q .value)
  | some ps =>
    let x : CardPost := { q := q, dests := ps, prio := min 3 priority, clamped := decide (priority > 3) }
    .next (({ s with ods := { s.ods with posts := s.ods.posts ++ [x] } }).send .ods .cat [.candidatesRequest q serial])

/-- The POST CARD ORDERs being carried out with that of request `q` replaced, or ended (R49). -/
def State.setPost (s : State) (q : Req) (x : Option CardPost) : State :=
  let posts := s.ods.posts.flatMap fun y => if y.q = q then x.toList else [y]
  { s with ods := { s.ods with posts := posts } }

/-- Take up the next candidate of a POST CARD ORDER, or end it (R49). -/
def State.nextCandidate (s : State) (x : CardPost) : State :=
  match x.left with
  | [] => (s.setPost x.q none).reply .ods x.q (.accepted x.clamped (u16 x.posted ++ u16 x.skipped))
  | c :: rest =>
    if s.ods.orders.length ≥ Config.orderEntries then
      (s.setPost x.q none).reply .ods x.q (.refused .full none (u16 x.posted))
    else (s.setPost x.q (some { x with left := rest })).reserve c x.dests x.prio x.q.st (.card x.q)

/-- The POST CARD ORDER of a request, while it is being carried out. -/
def Dispatcher.post? (d : Dispatcher) (q : Req) : Option CardPost := d.posts.find? fun x => x.q = q

/-- CANDIDATES_ANSWER (R49). -/
def execCandidatesAnswer (q : Req) (clips : List Nat) (s : State) : Result :=
  match s.ods.post? q with
  | some x => .next (s.nextCandidate { x with left := clips })
  | none => .next s

/-- A bound entry becomes PENDING, with its POSTED notice (R48). -/
def State.posted (s : State) (o : Order) (serial : Serial) (letter : Letter) : State :=
  let o' := { o with serial := serial, letter := letter, state := .pending, posting := none }
  (s.setOrder o').raise .ods (s.orderNotice .orderPosted o'
    (u8 o.priority ++ fList (fun p : Port => u8 p.val) o.dests ++ u8 o.station.val))

/-- The refusal of a posting whose bind failed (R48). -/
def bindRefusal (a : BindAns) : Answer :=
  match a with
  | .notFound => .refused .notFound none []
  | .unsupported => .refused .state (some .unsupported) []
  | .busy => .refused .busy none []
  | .full => .refused .full none []
  | .bound _ _ => .accepted false []

/-- BIND_ANSWER (R48, R49). -/
def execBindAnswer (order : Nat) (ans : BindAns) (s : State) : Result :=
  match s.ods.orders.find? fun o => o.id = order && o.state = .reserved with
  | none => .next s
  | some o =>
    match ans, o.posting with
    | .bound serial letter, some (.single q clamped) =>
      .next (((s.posted o serial letter).reply .ods q (.accepted clamped (u16 order))).runPass)
    | .bound serial letter, some (.card q) =>
      let t := (s.posted o serial letter).runPass
      match s.ods.post? q with
      | some x => .next (t.nextCandidate { x with posted := x.posted + 1 })
      | none => .next t
    | .bound serial letter, none => .next ((s.posted o serial letter).runPass)
    | a, some (.single q _) => .next ((s.dropOrder order).reply .ods q (bindRefusal a))
    | _, some (.card q) =>
      match s.ods.post? q with
      | some x => .next ((s.dropOrder order).nextCandidate { x with skipped := x.skipped + 1 })
      | none => .next (s.dropOrder order)
    | _, none => .next (s.dropOrder order)

/-! ## Views -/

/-- A change of a bay view element that runs a pass (R53). -/
def bayCallsPass (old new : BayView) : Bool :=
  ((new.state = .present || new.state = .released) && new.state ≠ old.state) || (old.reading && !new.reading)

/-- BAY_VIEW_REPORT (R50, R53). -/
def execBayViewReport (b : Bay) (view : BayView) (s : State) : Result :=
  let t := { s with ods := { s.ods with bays := upd s.ods.bays b fun _ => view } }
  .next (if bayCallsPass s.ods.bays[b] view then t.runPass else t)

/-- DEST_VIEW_REPORT (R50, R53). -/
def execDestViewReport (p : Port) (view : DestView) (s : State) : Result :=
  let t := { s with ods := { s.ods with dests := upd s.ods.dests p fun _ => view } }
  .next (if s.ods.dests[p] = view then t else t.runPass)

/-- CATALOG_DISPATCH_REPORT (R53). -/
def execCatalogDispatchReport (clip : Nat) (s : State) : Result :=
  .next (if s.ods.orders.any fun o => o.state = .pending && o.clip = clip then s.runPass else s)

/-! ## Progress -/

/-- A running order's new state, with its STATE notice (R57). -/
def State.orderState (s : State) (ch : Chan) (o : Order) (new : OrderState) : State :=
  let o' := { o with state := new }
  (s.setOrder o').raise .ods (s.orderNotice .orderState o' (u8 ch.val ++ fNamed new.ctorIdx))

/-- READ_DONE_REPORT (R57): ACTIVE becomes VERIFYING, and a pass follows. -/
def execReadDoneReport (ch : Chan) (order : Nat) (s : State) : Result :=
  match s.ods.seen order with
  | some o => .next (if o.state = .active then (s.orderState ch o .verifying).runPass else s)
  | none => .next s

/-- REPAIR_BEGUN_REPORT (R57): VERIFYING becomes REPAIRING. -/
def execRepairBegunReport (ch : Chan) (order : Nat) (s : State) : Result :=
  match s.ods.seen order with
  | some o => .next (if o.state = .verifying then s.orderState ch o .repairing else s)
  | none => .next s

/-- REPAIR_DONE_REPORT (R57): REPAIRING becomes VERIFYING. -/
def execRepairDoneReport (ch : Chan) (order : Nat) (s : State) : Result :=
  match s.ods.seen order with
  | some o => .next (if o.state = .repairing then s.orderState ch o .verifying else s)
  | none => .next s

/-! ## Ends -/

/-- ORDER_END_REPORT (R58): the unbind is sent; a report of another channel or for no such order is discarded. -/
def execOrderEndReport (ch : Chan) (order : Nat) (kind : EndKind) (s : State) : Result :=
  match s.ods.seen order with
  | some o =>
    if o.chan = some ch ∧ o.ending = none then
      .next ((s.setOrder { o with ending := some kind }).send .ods .cat [.unbindRequest o.clip order])
    else .next s
  | none => .next s

/-- Outcomes of an order (R58). -/
inductive Outcome | done | failed | aborted
  deriving DecidableEq, Repr

/-- The outcome of an order from its end kind and the clip state after the unbind (R58). -/
def outcomeOf (kind : EndKind) (st : ClipState) : Outcome × Option FailCause × Option Origin :=
  match kind with
  | .complete =>
    match st with
    | .verified => (.done, none, none)
    | .short => (.failed, some .short, none)
    | .listed | .unsupported | .queued | .reading | .checking => (.failed, some .refreshed, none)
  | .failed k => (.failed, some (failCause k), none)
  | .aborted => (.aborted, none, some .station)

/-- Raise an order's ENDED notice (R58, R59). 'Cause or origin' is sent as two optional fields, the cause and then the
origin, of which at most one is present (the model's choice, assumption 64). -/
def State.raiseEnded (s : State) (o : Order) (r : Outcome × Option FailCause × Option Origin) (st : ClipState) : State :=
  s.raise .ods (s.orderNotice .orderEnded o
    (fOpt [1] (fun ch : Chan => u8 ch.val) o.chan ++ fNamed r.1.ctorIdx ++ fOpt [1] (fun k => fNamed k.ctorIdx) r.2.1 ++
      fOpt [1] (fun k => fNamed k.ctorIdx) r.2.2 ++ fNamed st.ctorIdx))

/-- Change the part mode, with its MODE notice (R62, R63). -/
def State.changeMode (s : State) (m : PartMode) : State :=
  ({ s with ods := { s.ods with mode := m } }).raise .ods
    { sub := .modeChanged, fields := fNamed s.ods.mode.ctorIdx ++ fNamed m.ctorIdx }

/-- The HOLDING test (R63). -/
def State.holdingTest (s : State) : State :=
  if s.ods.mode = .holding ∧ ¬(s.ods.orders.any fun o => o.state.running) then s.changeMode .hold else s

/-- UNBIND_ANSWER (R58, R59, R61): a running order leaves the queue with its outcome, or a removed one raises its ENDED
notice. -/
def execUnbindAnswer (order _clip : Nat) (state : ClipState) (s : State) : Result :=
  match s.ods.leaving.find? fun l => l.order.id = order with
  | some l =>
    let t : State := { s with ods := { s.ods with leaving := s.ods.leaving.filter fun x => x.order.id ≠ order } }
    let t := t.raiseEnded l.order (.aborted, none, some l.origin) state
    .next (if l.pass then t.runPass else t)
  | none =>
    match s.ods.seen order with
    | none => .next s
    | some o =>
      match o.ending with
      | none => .next s
      | some kind =>
        let t := (s.dropOrder order).raiseEnded o (outcomeOf kind state) state
        let t := match o.chan with
          | some ch => { t with ods := { t.ods with chans := upd t.ods.chans ch fun _ => none } }
          | none => t
        .next (t.holdingTest.runPass)

/-! ## Aborts -/

/-- Remove a PENDING order and send its unbind (R59). -/
def State.removePending (s : State) (o : Order) (origin : Origin) (pass : Bool) : State :=
  let l : Leaving := { order := o, origin := origin, pass := pass }
  ({ s with ods := { (s.dropOrder o.id).ods with leaving := s.ods.leaving ++ [l] } }).send .ods .cat
    [.unbindRequest o.clip o.id]

/-- ABORT_ORDER (R59, R60). -/
def execAbortOrder (q : Req) (order : Nat) (s : State) : Result :=
  match s.ods.seen order with
  | none => .next (s.refuse .ods q .notFound)
  | some o =>
    if o.ending.isSome then .next (s.refuse .ods q .notFound)
    else if o.state = .pending then .next ((s.removePending o .station true).accept .ods q [])
    else if o.abort then .next (s.refuseState .ods q .already)
    else
      match o.chan with
      | some ch =>
        .next (((s.setOrder { o with abort := true }).accept .ods q []).send .ods (.cc ch) [.channelAbort ch order])
      | none => .next ((s.setOrder { o with abort := true }).accept .ods q [])

/-- CATALOG_REMOVAL_REQUEST (R59): a PENDING order is removed with origin CATALOG. -/
def execCatalogRemovalRequest (clip order : Nat) (serial : Serial) (made : Nat) (desc : Desc) (s : State) : Result :=
  let ans (t : State) (removed : Bool) : State :=
    t.send .ods .cat [.orderRemovalAnswer clip serial made desc removed]
  match s.ods.seen order with
  | some o => .next (if o.state = .pending then ans (s.removePending o .catalog true) true else ans s false)
  | none => .next (ans s false)

/-- ABORT_ALL (R61). -/
def execAbortAll (q : Req) (s : State) : Result :=
  let gone := s.ods.orders.filter fun o => o.state = .pending
  let t := gone.foldl (fun t o => t.removePending o .station false) s
  .next ((t.accept .ods q (u8 gone.length)).runPass)

/-! ## Part mode -/

/-- SET_MODE (R62): 1 is RUN and 3 is HOLD, by the order of the part mode's values. -/
def execSetMode (q : Req) (mode : Nat) (s : State) : Result :=
  let done (t : State) : State := t.accept .ods q (fNamed t.ods.mode.ctorIdx)
  if mode = 1 then
    if s.ods.mode = .run then .next (done s) else .next ((done (s.changeMode .run)).runPass)
  else if mode = 3 then
    if s.ods.mode = .run then
      let m := if s.ods.orders.any fun o => o.state.running then PartMode.holding else .hold
      let t := s.changeMode m
      .next (done { t with ods := t.ods.written fun _ => some .modeHold })
    else .next (done s)
  else .next (s.refuse .ods q .value)

/-! ## Queries -/

/-- An order record as QUERY ORDER reports it (R64). -/
def fOrder (o : Order) : List Field :=
  u16 o.id ++ u16 o.clip ++ fSerial o.serial ++ fLetter o.letter ++ fList (fun p : Port => u8 p.val) o.dests ++
  u8 o.priority ++ u8 o.passed ++ u8 o.station.val ++ fNamed o.state.ctorIdx ++
  fOpt [1] (fun ch : Chan => u8 ch.val) o.chan ++ fOpt [1] (fun k => fNamed k.ctorIdx) o.cause ++ fFlag o.abort

/-- QUERY_ORDER (R64). -/
def execQueryOrder (q : Req) (order : Nat) (s : State) : Result :=
  match s.ods.seen order with
  | none => .next (s.refuse .ods q .notFound)
  | some o => .next (s.accept .ods q (fOrder o ++ u8 o.effective))

/-- LIST_ORDERS (R64). An entry of the channel table is an optional order id, absent for a free channel (the model's choice,
assumption 117). -/
def execListOrders (q : Req) (s : State) : Result :=
  .next (s.accept .ods q (fNamed s.ods.mode.ctorIdx ++ s.ods.chans.toList.flatMap (fOpt [2] u16) ++
    fList (fun o : Order => u16 o.id ++ u16 o.clip ++ fSerial o.serial ++ fNamed o.state.ctorIdx ++ u8 o.priority ++
      u8 o.effective ++ u8 o.passed ++ fOpt [1] (fun ch : Chan => u8 ch.val) o.chan ++
      fOpt [1] (fun k => fNamed k.ctorIdx) o.cause) (s.ods.orders.filter fun o => o.state ≠ .reserved)))

end Sys2Proof.Machine
end

