-- ==== Sys2Proof/Machine/Outputs.lean ====
section
/-! DEFINITION. The Renderer and Outputs (Section 10): the look computation, routes, frame and group boundaries, the live
route, playback, sync groups and the query. -/

namespace Sys2Proof.Machine

/-! ## The look computation (R185 to R187) -/

/-- A stage result brought into 0 to 4095. -/
def clamp12 (v : Int) : Nat := (min 4095 (max 0 v)).toNat

/-- One row of the matrix stage (R185). -/
def matrixRow (c1 c2 c3 : Int) (x : Sample) : Nat :=
  clamp12 ((c1 * x.1 + c2 * x.2.1 + c3 * x.2.2 + 512) / 1024)

/-- The matrix stage (R185). -/
def matrixStage (m : Option (Vector Int 9)) (x : Sample) : Sample :=
  match m with
  | none => x
  | some m => (matrixRow m[0] m[1] m[2] x, matrixRow m[3] m[4] m[5] x, matrixRow m[6] m[7] m[8] x)

/-- The trim of one channel (R185). -/
def trimOne (t : Trim) (v : Nat) : Nat := clamp12 (((v * t.gain + 512) / 1024 : Nat) + t.offset)

/-- The trim stage (R185). -/
def trimStage (t : Option (Vector Trim 3)) (x : Sample) : Sample :=
  match t with
  | none => x
  | some t => (trimOne t[0] x.1, trimOne t[1] x.2.1, trimOne t[2] x.2.2)

/-- The curve of one channel (R186). -/
def curveOne (u : Vector Nat 33) (v : Nat) : Nat :=
  let i := v / 128
  let f := v % 128
  let a : Int := (u[i]?).getD 0
  let d : Int := (u[i + 1]?).getD 0 - a
  (a + (d * f + 64) / 128).toNat

/-- The curve stage (R186). -/
def curveStage (c : Option (Vector (Vector Nat 33) 3)) (x : Sample) : Sample :=
  match c with
  | none => x
  | some u => (curveOne u[0] x.1, curveOne u[1] x.2.1, curveOne u[2] x.2.2)

/-- The 10-bit code of a value (R187). -/
def encode10 (e : Encoding) (v : Nat) : Nat :=
  match e with
  | .legal => 64 + (v * 876 + 2047) / 4095
  | .full => min 1023 ((v + 2) / 4)

/-- The encoding stage (R187). -/
def encodeStage (e : Encoding) (x : Sample) : Rgb := ⟨encode10 e x.1, encode10 e x.2.1, encode10 e x.2.2⟩

/-- The look computation on one sample (10.1). -/
def renderSample (l : LookRec) (x : Sample) : Rgb :=
  encodeStage l.enc (curveStage l.curves (trimStage l.trim (matrixStage l.matrix x)))

/-- A frame of one code on every channel of every sample. -/
def flatFrame (v : Nat) : List Rgb := List.replicate Config.planeSamples ⟨v, v, v⟩

/-- The bars of the pattern from the left (R193). -/
def bars : List Sample :=
  [(3072, 3072, 3072), (3072, 3072, 0), (0, 3072, 3072), (0, 3072, 0), (3072, 0, 3072), (3072, 0, 0), (0, 0, 3072),
   (0, 0, 0)]

/-- One row of the pattern: eight bars of 120 samples (R193). -/
def patternRow (e : Encoding) : List Rgb := bars.flatMap fun x => List.replicate 120 (encodeStage e x)

/-- The pattern: 540 equal rows (R193). -/
def patternFrame (e : Encoding) : List Rgb := (List.replicate 540 (patternRow e)).flatten

/-- The frame store after a miss (R193). -/
def missFrame (m : MissState) (e : Encoding) (store : Option (List Rgb)) : List Rgb :=
  match m with
  | .black => flatFrame (match e with | .legal => 64 | .full => 0)
  | .holdLast => store.getD (flatFrame 64)
  | .pattern => patternFrame e

/-! ## Slots and notices of an output -/

/-- A notice of an output; `clip` when it is about the played clip (10.8). -/
def outNotice (sub : NoticeSub) (k : Outp) (clip : Option PlayClip) (fields : List Field) : Notice :=
  { sub := sub, clip := clip.map (·.clip), letter := clip.map (·.letter), fields := u8 k.val ++ fields }

/-- The states a GROUP notice carries (10.8). -/
inductive GroupState | cued | running | paused | stopped
  deriving DecidableEq, Repr

/-- A GROUP notice (10.8). -/
def groupNotice (g : Grp) (tc : Timecode) (st : GroupState) : Notice :=
  { sub := .outGroup, fields := u8 (g.val + 1) ++ fTc tc ++ fNamed st.ctorIdx }

/-- Drop slots of an output at the pool (R132). -/
def State.dropSlots (s : State) (k : Outp) (ns : List Nat) : State :=
  s.send .ro .pp (ns.map fun n => .slotDrop k n)

/-- The slot of an entry in PLACED. -/
def Prefetch.slot? (e : Prefetch) : Option Nat :=
  match e.status with
  | .placed n _ => some n
  | .requested | .late | .noPlane | .noSlot | .failed | .beyondEnd | .unparsable => none

/-- The answer to the entry's fetch is awaited (R196). -/
def Prefetch.waits (e : Prefetch) : Bool := e.status = .requested || e.status = .late

/-- Put another slot in the current slot's place; the old one waits for the release step (R192). -/
def Output.newCurrent (o : Output) (c : Option Current) : Output :=
  { o with current := c, stale := o.stale ++ (o.current.map (·.slot)).toList }

/-- Group clock. -/
def State.clock (s : State) (g : Grp) : Clock := s.ro.clocks[g]

/-- Store a group clock. -/
def State.setClock (s : State) (g : Grp) (c : Clock) : State :=
  { s with ro := { s.ro with clocks := upd s.ro.clocks g fun _ => c } }

/-- The group an output is synced to (R196, R201): none when it plays by its own position. -/
def Output.synced (o : Output) : Option Grp := if o.unsynced then none else o.group

/-! ## The prefetch list (R196, R201) -/

/-- The frame of a clip whose timecode is the group timecode plus an offset (R201). -/
def wantedFrame (rate : Nat) (tc : Timecode) (offset : Int) (start : Timecode) : Nat :=
  tcDiff rate (tcPlus rate tc offset) start

/-- The group timecode of the next group boundary (R191). -/
def Clock.nextTc (c : Clock) : Timecode :=
  if c.running && !c.first then tcNext (c.rate.getD 0) c.tc else c.tc

/-- The prefetch window of an output (R196, R201). -/
def State.window (s : State) (k : Outp) : List Nat :=
  let o := s.out k
  match o.clip with
  | none => []
  | some c =>
    if o.play = .stopped ∨ o.play = .ended then [] else
    let m := match o.synced with
      | none => o.pos
      | some g => wantedFrame ((s.clock g).rate.getD 0) (s.clock g).nextTc o.offset c.start
    [m, m + 1, m + 2].filter fun n => n < c.frames

/-- Insert an entry in its place by frame number. -/
def insertPrefetch (x : Prefetch) : List Prefetch → List Prefetch
  | [] => [x]
  | y :: ys => if x.frame < y.frame then x :: y :: ys else y :: insertPrefetch x ys

/-- Send a fetch for a window frame that has no entry, while fewer than 3 are outstanding (R196). -/
def State.fetchFrame (s : State) (k : Outp) (n : Nat) : State :=
  let o := s.out k
  if (o.prefetch.any fun e => e.frame = n) || (o.prefetch.filter (·.waits)).length ≥ 3 then s else
  (s.setOut k { o with prefetch := insertPrefetch { frame := n, run := o.run, src := o.src, status := .requested } o.prefetch }).send .ro .fx
    [.fetch k o.run n]

/-- An entry outside the window that is REQUESTED becomes LATE (R196). -/
def Prefetch.leave (w : List Nat) (e : Prefetch) : Prefetch :=
  if e.status = .requested ∧ e.frame ∉ w then { e with status := .late } else e

/-- Bring the prefetch list up to date (R196). -/
def State.updatePrefetch (s : State) (k : Outp) : State :=
  let o := s.out k
  let w := s.window k
  let es := o.prefetch.map (·.leave w)
  let stays (e : Prefetch) : Bool := e.status = .late || w.contains e.frame
  let gone := es.filter fun e => !stays e
  let t := (s.setOut k { o with prefetch := es.filter stays }).dropSlots k (gone.filterMap (·.slot?))
  w.foldl (fun t n => t.fetchFrame k n) t

/-- Bring every output's list up to date. -/
def State.updateAll (s : State) : State := (List.finRange 4).foldl (fun t k => t.updatePrefetch k) s

/-! ## Stopping and ending (R198, R199) -/

/-- The output lets go of what it was playing from: the playback context is cancelled, and the list emptied (R198, R199). -/
def State.leavePlayback (s : State) (k : Outp) : State :=
  let o := s.out k
  let t := s.send .ro .fx [.playbackCancel k]
  (t.setOut k { o with prefetch := [] }).dropSlots k (o.prefetch.filterMap (·.slot?))

/-- The current slot becomes absent and is dropped at the pool. -/
def State.dropCurrent (s : State) (k : Outp) : State :=
  let o := s.out k
  (s.setOut k { o with current := none }).dropSlots k (o.current.map (·.slot)).toList

/-- Stop an output whose play state is not STOPPED (R198); the frame store is kept. -/
def State.stopOutput (s : State) (k : Outp) : State :=
  let t := (s.leavePlayback k).dropCurrent k
  (t.setOut k { t.out k with play := .stopped, clip := none, src := none, pos := 0, unsynced := false, why := none }).raise
    .ro (outNotice .outStopped k none [])

/-- Playback ends with a cause (R199). -/
def State.endPlay (s : State) (k : Outp) (why : PlayEnd) : State :=
  let t := s.leavePlayback k
  let t := if why = .lastFrame then t else t.dropCurrent k
  let o := t.out k
  (t.setOut k { o with play := .ended, why := some why }).raise .ro
    (outNotice .outEnded k o.clip (fNamed why.ctorIdx))

/-- A SOURCE_LOST or PURGED event (R199). -/
def State.loseSource (s : State) (k : Outp) (why : PlayEnd) : State :=
  match (s.out k).play with
  | .stopped => s
  | .playing | .paused => s.endPlay k why
  | .ended => if (s.out k).why = some why then s else s.dropCurrent k

/-! ## Boundaries (R191 to R194, R196, R201) -/

/-- The late-frame count after one more late frame (R188). -/
def oneLate (n : Nat) : Nat := min 65535 (n + 1)

/-- The entries once a frame has been late in own-position play (R196). -/
def lateEntries (n : Nat) (es : List Prefetch) : List Prefetch :=
  es.filterMap fun e =>
    if e.frame ≠ n then some e else
    match e.status with
    | .requested => some { e with status := .late }
    | .noPlane | .noSlot | .failed => none
    | .late | .placed _ _ | .beyondEnd | .unparsable => some e

/-- Show frame `n`, PLACED in a slot: it becomes the current slot, and its entry is removed (R196). For a synced member R201
does not say so, and the model removes it too (assumption 79); the newest sequence number of a slot that came from playback
is 0 (the model's choice, assumption 80). -/
def Output.show (o : Output) (k : Outp) (n slot : Nat) (hdr : FrameHdr) : Output :=
  { o.newCurrent (some { slot := slot, hdr := hdr, src := .playback k, seq := 0, frame := n }) with
    prefetch := o.prefetch.filter fun e => e.frame ≠ n }

/-- The status of the entry for a frame. -/
def Output.statusOf (o : Output) (n : Nat) : Option FetchStatus :=
  (o.prefetch.find? fun e => e.frame = n).map fun e => e.status

/-- The play position after frame `n` (R188, R196). -/
def nextPos (n : Nat) : Nat := min 16777215 (n + 1)

/-- Selection in own-position play (R196). -/
def State.selectOwn (s : State) (k : Outp) : State × Selection :=
  let o := s.out k
  match o.play with
  | .stopped => (s, .miss)
  | .paused | .ended => (s, if o.current.isSome then .plane else .miss)
  | .playing =>
    let n := o.pos
    let last := decide (o.clip.any fun c => n + 1 = c.frames)
    let go (x : Output) (sel : Selection) : State × Selection :=
      if last then ((s.setOut k x).endPlay k .lastFrame, sel) else (s.setOut k { x with pos := nextPos n }, sel)
    match o.statusOf n with
    | some (.placed slot hdr) => go (o.show k n slot hdr) .plane
    | some .beyondEnd => (s.endPlay k .dataEnd, .miss)
    | some .unparsable => (s.endPlay k .unparsable, .miss)
    | some .requested | some .late | some .noPlane | some .noSlot | some .failed | none =>
      go { o with late := oneLate o.late, prefetch := lateEntries n o.prefetch } .miss

/-- Selection of a synced member at a group boundary (R201). Whatever it selects, a miss too (R192), the play position
becomes the one after the wanted frame (assumption 46). -/
def State.selectSynced (s : State) (k : Outp) (g : Grp) : State × Selection :=
  let o := s.out k
  match o.play, o.clip with
  | .ended, _ => (s, if o.current.isSome then .plane else .miss)
  | .playing, some c | .paused, some c =>
    let n := wantedFrame ((s.clock g).rate.getD 0) (s.clock g).tc o.offset c.start
    let go (x : Output) (sel : Selection) : State × Selection := (s.setOut k { x with pos := nextPos n }, sel)
    let ends (why : PlayEnd) : State × Selection := (State.endPlay (go o .miss).1 k why, .miss)
    if n ≥ c.frames then go o .miss
    else if o.current.any fun x => x.frame = n && x.src = .playback k && x.hdr.clip = c.clip then
      go o .plane
    else
      match o.statusOf n with
      | some (.placed slot hdr) => go (o.show k n slot hdr) .plane
      | some .beyondEnd => ends .dataEnd
      | some .unparsable => ends .unparsable
      | some .requested | some .late | some .noPlane | some .noSlot | some .failed | none =>
        go (if (s.clock g).running then { o with late := oneLate o.late } else o) .miss
  | .stopped, _ | .playing, none | .paused, none => (s, .miss)

/-- Choose the effective slot for a selection (R192 step 3). A miss makes the current slot absent (R193). -/
def State.choose (s : State) (k : Outp) (sel : Selection) : State :=
  let o := if sel = .miss then (s.out k).newCurrent none else s.out k
  match o.bnd with
  | none => s
  | some b =>
    let at_ (stage : BoundaryStage) : State := s.setOut k { o with bnd := some { b with sel := sel, stage := stage } }
    match o.override_, sel, o.current with
    | some i, _, _ => at_ (.ready i)
    | none, .plane, some c => (at_ .lookup).lookup .ro (.boundary k b.tok) c.hdr.clip
    | none, .plane, none | none, .pattern, _ | none, .miss, _ => at_ (.ready ((o.latched.map (·.slot)).getD 0))

/-- Send the frame store and select (R192 steps 1 and 2), at the boundary event of that number. -/
def State.beginBoundary (s : State) (k : Outp) (g : Option Grp) (event : Nat) : State :=
  let o := s.out k
  let b : Boundary := { tok := s.token, grp := g, event := event, sel := .miss, stage := .latching }
  let o' := { o with pins := some (o.store.getD (flatFrame 64)), bnd := some b }
  let t := s.tick.setOut k o'
  match o.route with
  | .none => t.choose k .miss
  | .pattern => t.choose k .pattern
  | .live c => (t.setOut k { o' with bnd := some { b with stage := .pool c } }).send .ro .pp [.takeNewest k c b.tok]
  | .playback =>
    let r := match g, o.synced with
      | some h, some _ => t.selectSynced k h
      | _, _ => t.selectOwn k
    r.1.choose k r.2

/-- The slot an output is ready to latch. -/
def Output.readySlot (o : Output) : Option LookIx :=
  match o.bnd with
  | some b =>
    match b.stage with
    | .ready i => some i
    | .pool _ | .lookup | .latching => none
  | none => none

/-- Send the latch read of outputs that take one boundary, once all of them are ready (R192 step 4). -/
def State.latchAll (s : State) (ks : List Outp) : State :=
  if ks.isEmpty || !(ks.all fun k => (s.out k).readySlot.isSome) then s else
  let t := ks.foldl (fun t k =>
    t.setOut k { t.out k with bnd := (t.out k).bnd.map fun b => { b with stage := .latching } }) s
  t.send .ro .lb [.latchRead (ks.map fun k =>
    (k, (((s.out k).bnd.map (·.tok)).getD 0), ((s.out k).readySlot.getD 0)))]

/-- The outputs at one boundary event of a group. An output that has left the group since an earlier event is still at that
one, and no member of a later event waits for it. -/
def State.taking (s : State) (g : Grp) (event : Nat) : List Outp :=
  (List.finRange 4).filter fun k => (s.out k).bnd.any fun b => b.grp = some g && b.event = event

/-- An output has become ready: latch, alone or with the others at its group's boundary event (R192 step 4). -/
def State.tryLatch (s : State) (k : Outp) : State :=
  match (s.out k).bnd with
  | none => s
  | some b =>
    match b.grp with
    | none => s.latchAll [k]
    | some g => s.latchAll (s.taking g b.event)

/-- FRAME_BOUNDARY (R191, R192): an output that is disabled or in a group has no boundary events of its own, and a boundary
comes only after the one before it is complete. The selection moves the window, so the prefetch list is brought up to date
(R196). -/
def execFrameBoundary (k : Outp) (s : State) : Result :=
  let o := s.out k
  if ¬o.enabled ∨ o.group.isSome ∨ o.bnd.isSome then .next s else
  .next (((s.beginBoundary k none s.token).updatePrefetch k).tryLatch k)

/-- The clock at a group boundary (R191). -/
def Clock.step (c : Clock) : Clock :=
  if !c.running then c else if c.first then { c with first := false } else { c with tc := tcNext (c.rate.getD 0) c.tc }

/-- Enabled members of a group, ascending (R189). -/
def State.members (s : State) (g : Grp) : List Outp :=
  (List.finRange 4).filter fun k => (s.out k).enabled && (s.out k).group = some g

/-- GROUP_BOUNDARY (R191, R192, R201): the stepped clock and the selections move the members' windows (R196). -/
def execGroupBoundary (g : Grp) (s : State) : Result :=
  let ks := s.members g
  if ks.isEmpty || (ks.any fun k => (s.out k).bnd.isSome) then .next s else
  let t := s.setClock g (s.clock g).step
  let t := ks.foldl (fun t k => t.beginBoundary k (some g) s.token) t
  .next ((ks.foldl (fun t k => t.updatePrefetch k) t).latchAll ks)

/-- TAKE_NEWEST_ANSWER (R194). -/
def execTakeNewestAnswer (k : Outp) (tok : Nat) (got : Option (Nat × FrameHdr × Nat)) (s : State) : Result :=
  let o := s.out k
  match o.bnd with
  | none => .next s
  | some b =>
    match decide (b.tok = tok), b.stage with
    | true, .pool c =>
      let mine (x : Current) : Bool := match x.src with | .live d _ => d = c | .playback _ | .reinspect => false
      match got with
      | none => .next ((s.choose k (if o.current.any mine then .plane else .miss)).tryLatch k)
      | some (n, hdr, seq) =>
        if o.current.any fun x => mine x && x.seq = seq then .next ((s.choose k .plane).tryLatch k)
        else
          let src := ((s.pp.slots.find? fun x => x.num = n).map (·.src)).getD (.live c 0)
          let cur : Current := { slot := n, hdr := hdr, src := src, seq := seq, frame := hdr.index }
          .next (((s.setOut k (o.newCurrent (some cur))).choose k .plane).tryLatch k)
    | true, .lookup | true, .ready _ | true, .latching | false, _ => .next s

/-- BOUNDARY_LOOKUP_ANSWER (R192 step 3): the clip's look slot, or slot 0 when its id is free. -/
def execBoundaryLookupAnswer (k : Outp) (tok : Nat) (rec : Option Clip) (s : State) : Result :=
  let o := s.out k
  match o.bnd with
  | none => .next s
  | some b =>
    if b.tok ≠ tok ∨ b.stage ≠ .lookup then .next s else
    let slot : LookIx := (rec.map (·.look)).getD 0
    .next ((s.setOut k { o with bnd := some { b with stage := .ready slot } }).tryLatch k)

/-- The plane in a preview slot. -/
def State.planeOf (s : State) (n : Nat) : List Byte :=
  ((s.pp.slots.find? fun x => x.num = n).map (·.plane)).getD []

/-- The frame store after the render step (R192 step 5). A plane whose slot has been given up meanwhile is a miss. -/
def State.rendered (s : State) (o : Output) (sel : Selection) (l : LookRec) : List Rgb :=
  match sel, o.current with
  | .plane, some c => (planeSamples (s.planeOf c.slot)).map (renderSample l)
  | .pattern, _ => patternFrame l.enc
  | .plane, none | .miss, _ => missFrame o.miss l.enc o.store

/-- An output after the release step of a boundary (R192 step 6, R193). -/
def Output.release (o : Output) (sel : Selection) : Output :=
  if sel = .pattern then
    if o.patternHeld then { o.newCurrent none with patternHeld := false } else { o with patternHeld := true }
  else { o with patternHeld := false }

/-- Latch, render and release (R192 steps 4 to 6), and bring the prefetch list up to date (R196). -/
def State.finishBoundary (s : State) (k : Outp) (sel : Selection) (slot : LookIx) (version : Nat) (l : LookRec) : State :=
  let o := s.out k
  let o' := { o with latched := some { slot := slot, version := version, look := l }
                     store := some (s.rendered o sel l), bnd := none }
  let o' := o'.release sel
  ((s.setOut k { o' with stale := [] }).dropSlots k o'.stale).updatePrefetch k

/-- LATCH_ANSWER (R192). -/
def execLatchAnswer (outs : List (Outp × Nat × LookIx × Nat × LookRec)) (s : State) : Result :=
  .next (outs.foldl (fun t x =>
    match (t.out x.1).bnd with
    | some b =>
      if b.tok = x.2.1 ∧ b.stage = .latching then t.finishBoundary x.1 b.sel x.2.2.1 x.2.2.2.1 x.2.2.2.2 else t
    | none => t) s)

/-! ## Routes and groups (R189, R190, R201) -/

/-- The unsynced flag an output should have (R201). -/
def State.judge (s : State) (o : Output) : Bool :=
  match o.group, o.clip with
  | some g, some c => (s.clock g).rate ≠ some c.rate || !tcValid c.rate c.start
  | _, _ => false

/-- Judge the unsynced flag of an output (R201). -/
def State.judgeOut (s : State) (k : Outp) : State :=
  let o := s.out k
  let u := s.judge o
  let t := s.setOut k { o with unsynced := u }
  if u && !o.unsynced then t.raise .ro (outNotice .outUnsynced k o.clip []) else t

/-- Bring a group clock up to date (R189). -/
def State.updateClock (s : State) (g : Grp) : State :=
  let c := s.clock g
  match s.members g with
  | [] =>
    let t := s.setClock g {}
    if c.running then t.raise .ro (groupNotice g {h := 0, m := 0, s := 0, f := 0} .stopped) else t
  | k :: _ =>
    let rate := (s.out k).rate
    if c.running ∧ c.rate ≠ some rate then
      (s.setClock g { rate := some rate, lead := some k }).raise .ro
        (groupNotice g {h := 0, m := 0, s := 0, f := 0} .stopped)
    else s.setClock g { c with rate := some rate, lead := some k }

/-- Enabled outputs routed LIVE `c` (R190). -/
def State.liveCount (s : State) (c : Chan) : Nat :=
  ((List.finRange 4).filter fun k => (s.out k).enabled && (s.out k).route = .live c).length

/-- A route source by its number (R216). -/
def routeOf (n : Nat) : Option Route :=
  match n with
  | 1 => some .none | 2 => some (.live 0) | 3 => some (.live 1) | 4 => some (.live 2) | 5 => some .playback
  | 6 => some .pattern | _ => none

/-- The number of a route source. -/
def routeNumber (r : Route) : Nat :=
  match r with
  | .none => 1 | .live c => 2 + c.val | .playback => 5 | .pattern => 6

/-- A miss state by its number (R216). -/
def missOf (n : Nat) : Option MissState :=
  match n with
  | 1 => some .black | 2 => some .holdLast | 3 => some .pattern | _ => none

/-- The items of SET ROUTE lie in their ranges (R190 test 1). -/
def routeItemsOk (i : RouteItems) : Bool :=
  (i.rate.all outputRate) && (i.route.all fun n => (routeOf n).isSome) && (i.miss.all fun n => (missOf n).isSome) &&
  (i.override_.all fun o => o.all fun n => n < 32) && (i.group.all fun n => n ≤ 2)

/-- An offset brought into −15 to +15 (R190 test 2). -/
def clampOffset (v : Int) : Int := min 15 (max (-15) v)

/-- A sync group by its number: 0 is none. -/
def groupOf (n : Nat) : Option Grp := if n = 0 then none else ix? 2 (n - 1)

/-- A context with the items of a request applied (R190). -/
def Output.withItems (o : Output) (i : RouteItems) : Output :=
  { o with enabled := i.enabled.getD o.enabled, rate := i.rate.getD o.rate
           route := (i.route.bind routeOf).getD o.route
           override_ := match i.override_ with
             | some x => x.bind (ix? 32)
             | none => o.override_
           miss := (i.miss.bind missOf).getD o.miss
           group := match i.group with
             | some n => groupOf n
             | none => o.group
           offset := (i.offset.map clampOffset).getD o.offset
           late := if i.clearLate then 0 else o.late }

/-- With the request applied an enabled member of a group would have a rate of its own (R190 test 3). -/
def State.rateMismatch (s : State) (k : Outp) (o : Output) : Bool :=
  match o.group with
  | some g => o.enabled && ((s.members g).any fun j => j ≠ k && (s.out j).rate ≠ o.rate)
  | none => false

/-- The settings of an output, as the acceptance of SET ROUTE and the ROUTE_SET notice carry them (R190): every item that
stands, so not the clear-late flag (the model's choice, assumption 110). -/
def fSettings (o : Output) : List Field :=
  fFlag o.enabled ++ u8 o.rate ++ u8 (routeNumber o.route) ++ fOpt [1] (fun i : LookIx => u8 i.val) o.override_ ++
  fNamed o.miss.ctorIdx ++ u8 ((o.group.map fun g => g.val + 1).getD 0) ++ fInt 1 o.offset

/-- The slots, look, store and pins of an output that is disabled (R190). -/
def State.silence (s : State) (k : Outp) : State :=
  let o := s.out k
  (s.setOut k { o with current := none, latched := none, store := none, pins := none, bnd := none, stale := []
                       patternHeld := false }).send .ro .pp [.dropAll k]

/-- Latch for the outputs left at a group's boundary event when a disabled one has left it (R192 step 4). -/
def State.latchRest (s : State) (left : Option Boundary) : State :=
  match left with
  | some b =>
    match b.grp with
    | some g => s.latchAll (s.taking g b.event)
    | none => s
  | none => s

/-- The effects of an accepted SET ROUTE (R190); `o` is the context before it. -/
def State.routeEffects (s : State) (k : Outp) (o : Output) (new : Output) : State :=
  let t := s.setOut k new
  let off := o.enabled && !new.enabled
  let leaves := off || (o.route = .playback && new.route ≠ .playback)
  let t := if leaves && o.play ≠ .stopped then t.stopOutput k else t
  let t := if off then (t.silence k).latchRest o.bnd else t
  let t := (List.finRange 3).foldl (fun u c =>
    if s.liveCount c = t.liveCount c then u else u.send .ro .pp [.liveCountReport c (t.liveCount c)]) t
  let t := (List.finRange 2).foldl (fun u g => u.updateClock g) t
  let t := (List.finRange 4).foldl (fun u j => u.judgeOut j) t
  t.updateAll

/-- SET_ROUTE (R190). -/
def execSetRoute (q : Req) (output : Nat) (items : RouteItems) (s : State) : Result :=
  match ix? 4 output with
  | none => .next (s.refuse .ro q .value)
  | some k =>
    if !routeItemsOk items then .next (s.refuse .ro q .value) else
    let o := s.out k
    let new := o.withItems items
    if s.rateMismatch k new then .next (s.refuseState .ro q .rateMismatch) else
    let t := s.routeEffects k o new
    let clamped := items.offset.any fun v => clampOffset v ≠ v
    .next ((t.reply .ro q (.accepted clamped (fSettings (t.out k)))).raise .ro
      (outNotice .outRouteSet k none (fSettings (t.out k))))

/-! ## Playing (R195, R197 to R200) -/

/-- The copies PLAY may read from, in copy-list order (R195). -/
def playable (c : Clip) : List Copy :=
  c.copies.filter fun x => x.state = .verified || x.state = .written || x.state = .verifying

/-- The tests of PLAY from the DISABLED row onward (R195). -/
def Output.playTests (o : Output) (rec : Option Clip) (start : Nat) : Option (Code × Option Reason) :=
  if !o.enabled then some (.state, some .disabled)
  else if o.route ≠ .playback then some (.state, some .notPlayback)
  else match rec with
    | none => some (.notFound, none)
    | some c => if start ≥ c.desc.frames then some (.value, none) else none

/-- PLAY without a clip id: resume (R195). -/
def State.resume (s : State) (q : Req) (k : Outp) : State :=
  let o := s.out k
  if o.play ≠ .paused then s.refuseState .ro q .notPaused else
  ((s.setOut k { o with play := .playing }).accept .ro q []).raise .ro
    { outNotice .outPlaying k o.clip [] with port := o.src.map (·.port) }

/-- PLAY (R195). -/
def execPlay (q : Req) (output : Nat) (clip : Option Nat) (start : Option Nat) (s : State) : Result :=
  match ix? 4 output, clip with
  | none, _ => .next (s.refuse .ro q .value)
  | some k, none => .next (s.resume q k)
  | some k, some id =>
    if id ≥ Config.clipRecords then .next (s.refuse .ro q .value) else
    let o := s.out k
    if o.locate.isSome then .next (s.refuse .ro q .busy) else
    let rec? := s.clip? id
    let first := start.getD 0
    match o.playTests rec? first, rec? with
    | some (code, reason), _ => .next (s.reply .ro q (.refused code reason []))
    | none, none => .next (s.refuse .ro q .notFound)
    | none, some c =>
      let cs := (playable c).map fun x =>
        ({ src := { port := x.port, vol := x.vol, hb := x.hb, span := Clip.span c } } : Candidate)
      if cs.isEmpty then .next (s.refuse .ro q .notFound) else
      .next ((s.setOut k { o with locate := some { q := q, clip := id, start := first, cands := cs } }).askAttached .ro
        (fun ix => .output k ix) cs)

/-- PLAY_ATTACHMENT_ANSWER (R195): with the last answer the clip is looked up again. -/
def execPlayAttachmentAnswer (k : Outp) (ix : Nat) (yes : Bool) (s : State) : Result :=
  let o := s.out k
  match o.locate with
  | none => .next s
  | some l =>
    let cs := answered l.cands ix yes
    let t := s.setOut k { o with locate := some { l with cands := cs } }
    .next (if allAnswered cs then t.lookup .ro (.play k) l.clip else t)

/-- The first copy on the lowest-numbered port. -/
def lowestPort (cs : List Copy) : Option Copy :=
  (List.finRange 4).findSome? fun p => cs.find? fun x => x.port = p

/-- The source PLAY chooses among the copies answered YES (R195). -/
def chooseSource (c : Clip) (cands : List Candidate) : Option Copy :=
  let yes := (playable c).filter fun x =>
    cands.any fun a => a.answer = some true && a.src.port = x.port && a.src.vol = x.vol && a.src.hb = x.hb
  (lowestPort (yes.filter fun x => x.state = .verified)).or (lowestPort (yes.filter fun x => x.state ≠ .verified))

/-- An accepted PLAY (R195). -/
def State.startPlay (s : State) (k : Outp) (q : Req) (c : Clip) (x : Copy) (start : Nat) : State :=
  let o := s.out k
  let src : Source := { port := x.port, vol := x.vol, hb := x.hb, span := Clip.span c }
  let t := if o.play = .playing ∨ o.play = .paused then s.send .ro .fx [.playbackCancel k] else s
  let t := t.dropSlots k (o.prefetch.filterMap (·.slot?))
  let clip : PlayClip :=
    { clip := c.id, frames := c.desc.frames, start := c.desc.start, rate := c.desc.rate, letter := c.desc.letter }
  let o' := { o with prefetch := (o.prefetch.filter (·.waits)).map fun e => { e with status := .late }
                     clip := some clip, src := some src, pos := start, play := .playing, why := none, run := s.token }
  let t := (t.tick.setOut k o').send .ro .fx [.playbackStart k c.id c.desc.dataLen c.desc.frames ⟨x.port, x.vol, x.hb⟩]
  let t := State.updatePrefetch (t.judgeOut k) k
  (t.accept .ro q (u8 x.port.val ++ fSerial x.vol ++ fNamed x.state.ctorIdx)).raise .ro
    { outNotice .outPlaying k (some clip) [] with port := some x.port }

/-- PLAY_LOOKUP_ANSWER (R195): the tests are made again, and the source is chosen. -/
def execPlayLookupAnswer (k : Outp) (rec : Option Clip) (s : State) : Result :=
  let o := s.out k
  match o.locate with
  | none => .next s
  | some l =>
    if !allAnswered l.cands then .next s else
    let t := s.setOut k { o with locate := none }
    match o.playTests rec l.start, rec with
    | some (code, reason), _ => .next (t.reply .ro l.q (.refused code reason []))
    | none, none => .next (t.refuse .ro l.q .notFound)
    | none, some c =>
      match chooseSource c l.cands with
      | none => .next (t.refuse .ro l.q .notFound)
      | some x => .next (t.startPlay k l.q c x l.start)

/-- The status a fetch answer leaves an entry in REQUESTED (R197): none when the entry is removed. -/
def fetchStatus (a : FetchAns) : Option FetchStatus :=
  match a with
  | .placed slot hdr => some (.placed slot hdr)
  | .noPlane _ => some .noPlane
  | .noSlot _ => some .noSlot
  | .failed => some .failed
  | .beyondEnd => some .beyondEnd
  | .unparsable => some .unparsable
  | .lost | .cancelled => none

/-- The slot a fetch answer brings. -/
def fetchSlot (a : FetchAns) : List Nat :=
  match a with
  | .placed slot _ => [slot]
  | .noPlane _ | .noSlot _ | .failed | .beyondEnd | .unparsable | .lost | .cancelled => []

/-- FETCH_ANSWER (R197): an answer of an earlier playback with no entry of its own is discarded. LOST ends the playback,
also for a fetch an earlier PLAY of the same source copy sent; with another source copy by now it is discarded (R199). LOST
that finds no entry, at an output ENDED for another cause, is discarded too, and the current slot stays (the model's choice,
assumption 120). -/
def execFetchAnswer (k : Outp) (run n : Nat) (ans : FetchAns) (s : State) : Result :=
  let o := s.out k
  let mine (e : Prefetch) : Bool := e.frame = n && e.run = run
  match o.prefetch.find? fun e => mine e && e.waits with
  | none => .next (s.dropSlots k (fetchSlot ans))
  | some e =>
    let without := o.prefetch.filter fun x => !mine x
    match decide (e.status = .requested), fetchStatus ans with
    | true, some st =>
      let es := o.prefetch.map fun x => if mine x then { x with status := st } else x
      .next ((s.setOut k { o with prefetch := es }).updatePrefetch k)
    | _, _ =>
      let t := (s.setOut k { o with prefetch := without }).dropSlots k (fetchSlot ans)
      let t := if ans = .lost ∧ e.src = o.src then t.loseSource k .sourceLost else t
      .next (t.updatePrefetch k)

/-- What PAUSE and STOP name, once in range (R198, R200). -/
inductive Target | output (k : Outp) | group (g : Grp)
  deriving DecidableEq, Repr

/-- An output 0 to 3, or group 1 or 2. -/
def targetOf (t : PlayTarget) : Option Target :=
  match t with
  | .output n => (ix? 4 n).map .output
  | .group n => (groupOf n).map .group

/-- PAUSE (R198, R200). -/
def execPause (q : Req) (target : PlayTarget) (s : State) : Result :=
  match targetOf target with
  | none => .next (s.refuse .ro q .value)
  | some (.output k) =>
    let o := s.out k
    if o.synced.isSome then .next (s.refuseState .ro q .grouped)
    else if o.play ≠ .playing then .next (s.refuseState .ro q .notPlaying)
    else .next (((s.setOut k { o with play := .paused }).accept .ro q []).raise .ro (outNotice .outPaused k o.clip []))
  | some (.group g) =>
    let c := s.clock g
    if !c.running then .next (s.refuseState .ro q .notRunning)
    else
      let t := (s.setClock g { c with running := false }).updateAll
      .next ((t.accept .ro q []).raise .ro (groupNotice g c.tc .paused))

/-- STOP (R198, R200), the members of a group ascending (the model's choice, assumption 116). -/
def execStop (q : Req) (target : PlayTarget) (s : State) : Result :=
  match targetOf target with
  | none => .next (s.refuse .ro q .value)
  | some (.output k) =>
    if (s.out k).play = .stopped then .next (s.refuseState .ro q .already)
    else .next ((s.accept .ro q []).stopOutput k)
  | some (.group g) =>
    let c := s.clock g
    let t := ((s.setClock g { c with running := false }).accept .ro q []).raise .ro (groupNotice g c.tc .stopped)
    .next ((List.finRange 4).foldl (fun t k =>
      if (t.out k).group = some g ∧ (t.out k).play ≠ .stopped then t.stopOutput k else t) t)

/-- OUTPUT_LOST_VOLUME (R199), the outputs ascending (the model's choice, assumption 116). -/
def execOutputLostVolume (_p : Port) (vol : Serial) (s : State) : Result :=
  .next ((List.finRange 4).foldl (fun t k =>
    if (t.out k).src.any (fun x => x.vol = vol) then t.loseSource k .sourceLost else t) s)

/-- OUTPUT_PURGE_LIST (R42, R199), the outputs ascending (the model's choice, assumption 116). -/
def execOutputPurgeList (clips : List Nat) (s : State) : Result :=
  .next ((List.finRange 4).foldl (fun t k =>
    if (t.out k).clip.any (fun c => clips.contains c.clip) then t.loseSource k .purged else t) s)

/-- PLAY_GROUP (R200). -/
def execPlayGroup (q : Req) (group : Nat) (start : Option Timecode) (cue : Bool) (s : State) : Result :=
  match groupOf group with
  | none => .next (s.refuse .ro q .value)
  | some g =>
    if cue && start.isNone then .next (s.refuse .ro q .value) else
    let c := s.clock g
    if (s.members g).isEmpty then .next (s.refuseState .ro q .noMembers)
    else if start.any fun t => !tcValid (c.rate.getD 0) t then .next (s.refuse .ro q .value)
    else
      let c' := match start with
        | some t => { c with tc := t, first := true, running := !cue }
        | none => { c with running := true }
      .next ((((s.setClock g c').updateAll).accept .ro q (fTc c'.tc)).raise .ro
        (groupNotice g c'.tc (if cue then .cued else .running)))

/-! ## Queries (10.7) -/

/-- The status of a prefetch entry as fields: its number, and the slot of PLACED as an optional field (the model's choice,
assumption 117). -/
def fStatus (st : FetchStatus) : List Field :=
  fNamed st.ctorIdx ++ fOpt [1] u8 (match st with | .placed n _ => some n | _ => none)

/-- A source copy as fields. -/
def fCopySource (x : Source) : List Field := u8 x.port.val ++ fSerial x.vol ++ u64 x.hb ++ u8 x.span

/-- A group clock as fields. -/
def fClock (c : Clock) : List Field :=
  fTc c.tc ++ fOpt [1] u8 c.rate ++ fFlag c.running ++ fFlag c.first ++ fOpt [1] (fun k : Outp => u8 k.val) c.lead

/-- A frame as fields: the codes of each sample in raster order. -/
def fFrame (l : List Rgb) : List Field := l.flatMap fun x => u16 x.r ++ u16 x.g ++ u16 x.b

/-- QUERY_OUTPUT (R202): every field of the context but the look record of the latched look, in the order of R188, where the
prefetch list stands too (the model's choice, assumption 111). -/
def execQueryOutput (q : Req) (output : Nat) (s : State) : Result :=
  match ix? 4 output with
  | none => .next (s.refuse .ro q .value)
  | some k =>
    let o := s.out k
    .next (s.accept .ro q (fSettings o ++ fNamed o.play.ctorIdx ++
      fOpt [2, 4, 1, 1, 1, 1, 1] (fun c : PlayClip => u16 c.clip ++ u32 c.frames ++ fTc c.start ++ u8 c.rate) o.clip ++
      u32 o.pos ++ fOpt [1, 8, 8, 1] fCopySource o.src ++ fFlag o.unsynced ++
      fList (fun e : Prefetch => u32 e.frame ++ fStatus e.status) o.prefetch ++
      fOpt [1, 2, 4, 1, 1, 1, 1, 4, 1, 1, 2, 2] (fun c : Current => u8 c.slot ++ u16 c.hdr.clip ++ u32 c.hdr.index ++
        fTc c.hdr.tc ++ u32 c.hdr.ordinal ++ fSource c.src ++ u16 c.seq) o.current ++
      fOpt [1, 2] (fun l : Latched => u8 l.slot.val ++ u16 l.version) o.latched ++
      fOpt (List.replicate (3 * Config.planeSamples) 2) fFrame o.store ++ u16 o.late ++
      fOpt [1, 1, 1, 1, 1, 1, 1, 1, 1, 1] (fun g => fClock (s.clock g)) o.group))

end Sys2Proof.Machine
end

