-- ==== Sys2Proof/Machine/Ports.lean ====
section
/-! DEFINITION. The destination ports (Section 5): scan, format, reservation, the request queue and its arbiter, drive
operations, detaching, removal and the soak test. -/

namespace Sys2Proof.Machine

/-! ## The soak pattern (R115, R117) -/

/-- The bit a pattern register gives next: the one 18 places before it exclusive-or the one 23 places before it. -/
def soakBit (r : BitVec 23) : Bool := r.getLsbD 17 ^^ r.getLsbD 22

/-- Shift a bit into a pattern register. -/
def soakShift (r : BitVec 23) (b : Bool) : BitVec 23 := (r <<< 1) ||| (if b then 1 else 0)

/-- The next `n` bits of the pattern, the earliest first, and the register after them. The register holds the next 23
bits, the earliest in its top bit. -/
def soakRun : Nat → BitVec 23 → List Bool × BitVec 23
  | 0, r => ([], r)
  | n + 1, r =>
    let rest := soakRun n (soakShift r (soakBit r))
    (r.getLsbD 22 :: rest.1, rest.2)

/-- A byte of eight bits, the earliest the most significant (R115). -/
def bitsByte (bs : List Bool) : Byte := bs.foldl (fun v b => v * 2 + (if b then 1 else 0)) 0

/-- The next `n` bytes of the pattern, and the register after them. -/
def soakBytes : Nat → BitVec 23 → List Byte × BitVec 23
  | 0, r => ([], r)
  | n + 1, r =>
    let one := soakRun 8 r
    let rest := soakBytes n one.2
    (bitsByte one.1 :: rest.1, rest.2)

/-- Feed one bit read back to the receiver (R117). -/
def Soak.feedBit (k : Soak) (b : Bool) : Soak :=
  if k.loaded then
    let want := soakBit k.rx
    { k with rx := soakShift k.rx want, errors := if b = want then k.errors else min 65535 (k.errors + 1) }
  else { k with rx := soakShift k.rx b, loading := k.loading + 1, loaded := k.loading + 1 = 23 }

/-- Feed one byte read back, its most significant bit first (R115, R117). -/
def Soak.feedByte (k : Soak) (b : Byte) : Soak :=
  [7, 6, 5, 4, 3, 2, 1, 0].foldl (fun k i => k.feedBit (b.getLsbD i)) k

/-! ## Answers -/

/-- Answer a write-class request (R75, R103 to R107). -/
def State.answerWrite (s : State) (p : Port) (r : WriteReq) (a : WriteAns) : State :=
  match r with
  | .header ch order _ _ _ _ => s.send (.dp p) (.cc ch) [.headerWriteAnswer ch order p a]
  | .rewrite ch order _ _ => s.send (.dp p) (.cc ch) [.headerRewriteAnswer ch order p a]
  | .extent ch order num _ => s.send (.dp p) (.cc ch) [.extentWriteAnswer ch order p num a]

/-- The channel a write-class request came from. -/
def WriteReq.chan (r : WriteReq) : Chan :=
  match r with
  | .header ch _ _ _ _ _ => ch
  | .rewrite ch _ _ _ => ch
  | .extent ch _ _ _ => ch

/-- The order a write-class request belongs to. -/
def WriteReq.order (r : WriteReq) : Nat :=
  match r with
  | .header _ order _ _ _ _ => order
  | .rewrite _ order _ _ => order
  | .extent _ order _ _ => order

/-- How a read ended, whatever kind it was. -/
inductive ReadEnd | failed | lost | withdrawn
  deriving DecidableEq, Repr

/-- Answer a read-class request that gave no data (R77, R103, R107, R109, R113). -/
def State.endRead (s : State) (p : Port) (r : ReadReq) (a : ReadEnd) : State :=
  match r with
  | .verify ch order ext _ _ _ =>
    s.send (.dp p) (.cc ch) [.verifyReadAnswer ch order p ext
      (match a with | .failed => .mismatch | .lost => .lost | .withdrawn => .withdrawn)]
  | .reinspect _ _ run =>
    s.send (.dp p) .ins [.reinspectReadAnswer run
      (match a with | .failed => .failed | .lost => .lost | .withdrawn => .withdrawn)]

/-- Answer a playback read (R106, R107, R109, R113). -/
def State.answerPlay (s : State) (p : Port) (r : PlayReq) (a : ReadAns) : State :=
  s.send (.dp p) .fx [.playbackReadAnswer r.k r.rtok a]

/-! ## Drive operations (R103 to R106) -/

/-- Blocks a soak operation covers: up to 2048, cut to the soak length (R117). -/
def Soak.opBlocks (k : Soak) : Nat := min 2048 (k.len - k.pos)

/-- The label raise a header write needs (R104): the recorded end it writes. -/
def PortCtx.raiseFor (c : PortCtx) (k : OpKind) : Option Nat :=
  match k with
  | .write (.header _ _ _ _ _ _) => if (c.recEnd.getD 0) < (c.alloc.getD 0) then c.alloc else none
  | _ => none

/-- The bytes of a label block on a port's drive. -/
def PortCtx.labelBlock (c : PortCtx) (serial : Serial) (recEnd : Nat) : List Byte :=
  padTo Config.blockBytes (labelBytes serial (c.capacity.getD 0) recEnd)

/-- The blocks a playback read covers once its bytes are known (R106, R133): of a frame whose header says it has no preview,
those through the header alone (assumption 34). -/
def PlayReq.blocks (r : PlayReq) (bytes : List Byte) : Nat :=
  match r.cut with
  | some off => if leAt bytes (off + 15) 4 = 0 then (off + 63) / Config.blockBytes + 1 else r.count
  | none => r.count

/-- What an operation puts on the drive's interface (R94 to R96, R100, R104 to R106, R117). A header rewrite whose header
block no index entry has writes nothing (the model's choice, assumption 97). -/
def State.driveCmd (s : State) (p : Port) (k : OpKind) : DriveCmd :=
  let c := s.port p
  let vol := c.vol.getD 0
  match k with
  | .ident => .identify
  | .label => .read 0 1
  | .walk pos => .read pos 1
  | .sumList pos e _ => .read (pos + 1) (spanOf (extentsOf e.len) - 1)
  | .format serial => .write [(0, c.labelBlock serial 1)]
  | .soakWrite blocks =>
    match c.soak with
    | some k => .write [(c.alloc.getD 0 + k.pos, (soakBytes (blocks * Config.blockBytes) k.tx).1)]
    | none => .none
  | .soakRead blocks => .read (c.alloc.getD 0 + (c.soak.map (·.pos)).getD 0) blocks
  | .play r =>
    match r.cut with
    | some off => .readFrame r.first r.count off
    | none => .read r.first r.count
  | .read (.verify _ _ _ block len _) => .read block (dataBlocks len)
  | .read (.reinspect first count _) => .read first count
  | .write (.header _ _ hb serial clipNo len) =>
    let label := match c.raiseFor k with
      | some e => [(0, c.labelBlock vol e)]
      | none => []
    .write (label ++ [(hb, padTo Config.blockBytes (clipHdrBytes vol .incomplete serial clipNo len 0))])
  | .write (.rewrite _ _ hb sums) =>
    match c.index.find? fun e => e.hb = hb with
    | some e =>
      let list := sumListBytes sums
      let head := padTo Config.blockBytes (clipHdrBytes vol .complete e.serial e.clipNo e.len (extentSum list))
      .write [(hb, padTo (spanOf (extentsOf e.len) * Config.blockBytes) (head ++ list))]
    | none => .write []
  | .write (.extent _ _ num block) =>
    let data := ((s.sts.bufs.find? fun b => b.num = num).map (·.data)).getD []
    .write [(block, padTo (dataBlocks data.length * Config.blockBytes) data)]
  | .discarded _ => .none

/-- Begin an attempt of an operation on the drive (R103). -/
def State.attemptOp (s : State) (p : Port) (k : OpKind) (attempt : Nat) : State :=
  let c := s.port p
  let op : DriveOp :=
    { kind := k, tok := s.token, attempt := attempt, raise := c.raiseFor k, cmd := s.driveCmd p k }
  s.tick.setPort p { c with op := some op }

/-- Begin an operation. -/
def State.startOp (s : State) (p : Port) (k : OpKind) : State := s.attemptOp p k 1

/-- The class the arbiter serves next, READ or WRITE (R108). -/
def PortCtx.nextClass (c : PortCtx) : Option ServedClass :=
  match c.reads.isEmpty, c.writes.isEmpty with
  | true, true => none
  | false, true => some .read
  | true, false => some .write
  | false, false => some (match c.lastClass with | .read => .write | .write => .read)

/-- The waiting write the round-robin takes: the oldest of the first channel after the last served (R108). -/
def PortCtx.nextWrite (c : PortCtx) : Option WriteReq :=
  [c.lastChan + 1, c.lastChan + 2, c.lastChan].findSome? fun ch => c.writes.find? fun w => w.chan = ch

/-- The arbiter (R108): with no current operation, choose the next. A format that has not begun comes first (R100). -/
def State.serve (s : State) (p : Port) : State :=
  let c := s.port p
  if c.op.isSome ∨ c.state = .absent ∨ c.state = .scanning then s else
  match c.format, c.soak with
  | some serial, _ => s.startOp p (.format serial)
  | none, some k =>
    s.startOp p (match k.phase with | .write => .soakWrite k.opBlocks | .read => .soakRead k.opBlocks)
  | none, none =>
    match c.plays with
    | r :: rest => (s.setPort p { c with plays := rest }).startOp p (.play r)
    | [] =>
      match c.nextClass with
      | none => s
      | some .read =>
        match c.reads with
        | r :: rest => (s.setPort p { c with reads := rest, lastClass := .read }).startOp p (.read r)
        | [] => s
      | some .write =>
        match c.nextWrite with
        | some w =>
          (s.setPort p { c with writes := c.writes.erase w, lastClass := .write, lastChan := w.chan }).startOp p (.write w)
        | none => s

/-- The running operation whose attempt `tok` numbers (R103). -/
def PortCtx.attempt (c : PortCtx) (tok : Nat) : Option DriveOp := c.op.filter fun o => o.tok = tok

/-- The drive becomes idle: the current operation has completed or spent its attempts. -/
def State.clearOp (s : State) (p : Port) : State := s.setPort p { s.port p with op := none }

/-- Take a completion of the current attempt (R103): of an operation whose result is discarded, nothing but the drive
becoming idle; otherwise what `f` does with it, `none` where the completion is of another kind than the operation. Then
the arbiter chooses (R108). -/
def State.complete (s : State) (p : Port) (tok : Nat) (f : DriveOp → State → Option State) : State :=
  match (s.port p).attempt tok with
  | none => s
  | some o =>
    let t := s.clearOp p
    let done := match o.kind with
      | .discarded _ => some t
      | _ => f o t
    match done with
    | some u => u.serve p
    | none => s

/-! ## Attach and scan (5.2) -/

/-- An attach event (R94): in a state other than ABSENT a drive shown is no new one. -/
def State.driveIn (s : State) (p : Port) : State :=
  let c := s.port p
  if c.state ≠ .absent then s else
  ((s.setPort p { state := .scanning, test := c.test }).raise (.dp p) (portNotice .destAttached p none [])).startOp p .ident

/-- DRIVE_ATTACH (R94). -/
def execDriveAttach (p : Port) (s : State) : Result :=
  .next (State.driveIn { s with pins := { s.pins with driveDetect := upd s.pins.driveDetect p fun _ => true } } p)

/-- A scan fails: the port becomes UNFORMATTED (R94, R95). -/
def State.scanFailed (s : State) (p : Port) (why : ScanCause) : State :=
  (s.setPort p { s.port p with state := .unformatted, vol := none }).raise (.dp p)
    (portNotice .destScanFailed p none (fNamed why.ctorIdx))

/-- A found offer of an entry (R97, R98). -/
def foundOfferOf (p : Port) (vol : Serial) (e : IndexEntry) : List Instr :=
  match e.sums with
  | some sums => [.foundOffer p vol e.hb e.serial e.clipNo e.len sums]
  | none => []

/-- The scan completes (R97). -/
def State.scanComplete (s : State) (p : Port) : State :=
  let c := { s.port p with state := .ready, alloc := (s.port p).recEnd }
  ((s.setPort p c).raise (.dp p) (portNotice .destScanned p c.vol
    (u16 c.index.length ++ u16 (c.index.filter fun e => e.sums.isSome).length ++ u64 c.free))).send (.dp p) .cat
    (c.index.flatMap fun e => foundOfferOf p (c.vol.getD 0) e)

/-- Go on with the walk from a position (R96): the scan completes at the recorded end or with the index full. -/
def State.walkFrom (s : State) (p : Port) (pos : Nat) : State :=
  let c := s.port p
  if c.recEnd.getD 0 ≤ pos ∨ c.indexFull then s.scanComplete p else s.startOp p (.walk pos)

/-- A valid header adds its entry, and the walk moves past its copy (R96). -/
def State.walkEntry (s : State) (p : Port) (pos : Nat) (e : IndexEntry) : State :=
  let c := s.port p
  (s.setPort p { c with index := c.index ++ [e] }).walkFrom p (pos + spanOf (extentsOf e.len) + dataBlocks e.len)

/-- IDENTIFICATION_READ_DONE (R94). -/
def execIdentificationReadDone (p : Port) (tok capacity : Nat) (s : State) : Result :=
  .next (s.complete p tok fun o t =>
    match o.kind with
    | .ident => some ((t.setPort p { t.port p with capacity := some capacity }).startOp p .label)
    | _ => none)

/-- LABEL_READ_DONE (R95). -/
def execLabelReadDone (p : Port) (tok : Nat) (bytes : List Byte) (s : State) : Result :=
  .next (s.complete p tok fun o t =>
    match o.kind with
    | .label =>
      match readLabel ((t.port p).capacity.getD 0) bytes with
      | .error why => some (t.scanFailed p why)
      | .ok (serial, recEnd) =>
        some ((t.setPort p { t.port p with vol := some serial, recEnd := some recEnd }).walkFrom p 1)
    | _ => none)

/-- WALK_READ_DONE (R96): the block at a position, or the rest of a COMPLETE header's span. -/
def execWalkReadDone (p : Port) (tok : Nat) (bytes : List Byte) (s : State) : Result :=
  .next (s.complete p tok fun o t =>
    let c := t.port p
    match o.kind with
    | .walk pos =>
      match readClipHdr (c.vol.getD 0) (c.recEnd.getD 0) pos bytes with
      | none => some (t.walkFrom p (pos + 1))
      | some h => some (if h.complete then t.startOp p (.sumList pos h.entry h.check) else t.walkEntry p pos h.entry)
    | .sumList pos e check =>
      let n := extentsOf e.len
      let list := padTo (4 * n) (bytes.take (4 * n))
      let sums := if extentSum list = check then some (readSumList n list) else none
      some (t.walkEntry p pos { e with sums := sums })
    | _ => none)

/-- FOUND_COPY_SEARCH (R93, R98). -/
def execFoundCopySearch (p : Port) (serial : Serial) (clipNo dataLen : Nat) (s : State) : Result :=
  let c := s.port p
  if c.state = .ready ∨ c.state = .soaking ∨ c.state = .detaching then
    .next (s.send (.dp p) .cat
      ((c.index.filter fun e => e.serial = serial ∧ e.clipNo = clipNo ∧ e.len = dataLen).flatMap fun e =>
        foundOfferOf p (c.vol.getD 0) e))
  else .next s

/-! ## Holders (5.4) -/

/-- RESERVATION_REQUEST (R93, R101). -/
def execReservationRequest (ch : Chan) (p : Port) (order : Nat) (vol : Serial) (blocks : Nat) (s : State) : Result :=
  let c := s.port p
  let ans (t : State) (a : ReserveAns) : State := t.send (.dp p) (.cc ch) [.reservationAnswer ch order p a]
  if c.state = .absent then .next (ans s (.refused .absent))
  else if c.state ≠ .ready ∨ c.format.isSome then .next (ans s (.refused .notReady))
  else if c.vol ≠ some vol then .next (ans s (.refused .volumeChanged))
  else if c.indexFull then .next (ans s (.refused .indexFull))
  else if c.free < blocks then .next (ans s (.refused .noSpace))
  else
    let hb := c.alloc.getD 0
    .next (ans (s.setPort p { c with
      alloc := some (hb + blocks)
      holders := upd c.holders ch fun _ => some (order, hb)
      test := c.test.map fun t => { t with failed := true } }) (.reserved hb))

/-- Remove a channel's holder element, if it names that order (R102). -/
def PortCtx.closed (c : PortCtx) (ch : Chan) (order : Nat) : PortCtx :=
  { c with holders := upd c.holders ch fun h => h.filter fun x => x.1 ≠ order }

/-- The channels with a holder element. -/
def PortCtx.holding (c : PortCtx) : List Chan := (List.finRange 3).filter fun ch => (c.holders[ch]).isSome

/-- The holder elements, each as the channel and the order it names: the watches DETACHING sends (R111). -/
def PortCtx.watchList (c : PortCtx) : List (Chan × Nat) :=
  (List.finRange 3).filterMap fun ch => (c.holders[ch]).map fun h => (ch, h.1)

/-- State tests of FORMAT VOLUME (R99). -/
def PortCtx.formatRefusal (c : PortCtx) : Option Reason :=
  match c.state with
  | .absent | .scanning | .soaking | .detaching | .detached => some .notReady
  | .unformatted | .ready =>
    if c.capacity.getD 0 < 2 then some .noCapacity
    else if c.format.isSome then some .already
    else if c.state = .ready ∧ ¬c.index.isEmpty then some .volumeInUse
    else none

/-- State tests of START SOAK (R114). -/
def PortCtx.soakRefusal (c : PortCtx) : Option Reason :=
  if c.state ≠ .ready ∨ c.format.isSome then some .notReady
  else if c.alloc = c.capacity then some .noRoom
  else none

/-- Begin an accepted FORMAT VOLUME (R100); requests waiting in the port have lost their volume. The report to the dispatcher
is that of `State.setPort`: none where the five values stay as they are (the model's choice, assumption 114). -/
def State.beginFormat (s : State) (p : Port) (q : Req) (serial : Serial) : State :=
  let c := s.port p
  let t := c.plays.foldl (fun t r => t.answerPlay p r .lost) s
  let t := c.reads.foldl (fun t r => t.endRead p r .lost) t
  let t := c.writes.foldl (fun t r => t.answerWrite p r .lost) t
  let c' := { c with state := .unformatted, vol := none, index := [], alloc := none, format := some serial
                     plays := [], reads := [], writes := [] }
  ((t.setPort p c').accept (.dp p) q []).serve p

/-- Begin an accepted START SOAK (R116). -/
def State.beginSoak (s : State) (p : Port) (q : Req) (len limit : Nat) (clamped : Bool) : State :=
  let c := s.port p
  let blocks := min (len * 256) c.free
  let c' := { c with state := .soaking, qual := .untested, soak := some { len := blocks, limit := limit } }
  (((s.setPort p c').raise (.dp p) (portNotice .destSoakStarted p c.vol (u32 blocks ++ u16 limit))).reply (.dp p) q
    (.accepted clamped (u32 blocks))).serve p

/-- The test a port made for a request has passed: the state tests are made again, and the request is answered
(R112). -/
def State.testPassed (s : State) (p : Port) (q : Req) (w : TestFor) : State :=
  match w with
  | .soak len limit clamped =>
    match (s.port p).soakRefusal with
    | some r => s.refuseState (.dp p) q r
    | none => s.beginSoak p q len limit clamped
  | .format serial =>
    match (s.port p).formatRefusal with
    | some r => s.refuseState (.dp p) q r
    | none => s.beginFormat p q serial

/-- The holder test of R112, where none is outstanding. -/
def State.holderTest (s : State) (p : Port) (q : Req) (w : TestFor) : State :=
  let c := s.port p
  match c.holding with
  | [] => s.testPassed p q w
  | chs =>
    chs.foldl (fun t ch =>
      match c.holders[ch] with
      | some h => t.send (.dp p) (.cc ch) [.statusQuery p ch h.1]
      | none => t) (s.setPort p { c with test := some { q := q, what := w, awaiting := chs, failed := false } })

/-- STATUS_QUERY_ANSWER (R102, R112). -/
def execStatusQueryAnswer (p : Port) (ch : Chan) (order : Nat) (alive : Bool) (s : State) : Result :=
  let c := if alive then s.port p else (s.port p).closed ch order
  match c.test with
  | none => .next (s.setPort p c)
  | some x =>
    if ch ∉ x.awaiting then .next (s.setPort p c) else
    let x := { x with awaiting := x.awaiting.filter fun y => y ≠ ch, failed := x.failed || alive }
    if ¬x.awaiting.isEmpty then .next (s.setPort p { c with test := some x }) else
    let t := s.setPort p { c with test := none }
    .next (if x.failed then t.refuse (.dp p) x.q .busy else t.testPassed p x.q x.what)

/-- FORMAT_VOLUME (R99, R112). While a holder test is outstanding a request that names the port is refused BUSY, once its
own operands have passed their tests and before those of the port's state (assumption 29). -/
def execFormatVolume (q : Req) (port : Nat) (serial : Serial) (s : State) : Result :=
  match ix? 4 port with
  | none => .next (s.refuse (.dp 0) q .value)
  | some p =>
    let c := s.port p
    if serial = 0 ∨ c.vol = some serial then .next (s.refuse (.dp p) q .value)
    else if c.test.isSome then .next (s.refuse (.dp p) q .busy) else
    match c.formatRefusal with
    | some r => .next (s.refuseState (.dp p) q r)
    | none =>
      if c.state = .ready then .next (s.holderTest p q (.format serial))
      else .next (s.beginFormat p q serial)

/-- FORMAT_WRITE_DONE (R100). -/
def execFormatWriteDone (p : Port) (tok : Nat) (s : State) : Result :=
  .next (s.complete p tok fun o t =>
    match o.kind with
    | .format serial =>
      let c := t.port p
      let c' := { c with state := .ready, vol := some serial, recEnd := some 1, alloc := some 1, index := []
                         qual := .untested, holders := Vector.replicate 3 none, format := none }
      some ((t.setPort p c').raise (.dp p) (portNotice .destFormatted p (some serial) (fSerial serial)))
    | _ => none)

/-! ## Requests (5.6) -/

/-- A write-class request arrives (R107). -/
def State.takeWrite (s : State) (p : Port) (vol : Serial) (r : WriteReq) : State :=
  let c := s.port p
  if c.current ≠ some vol then s.answerWrite p r .lost
  else if c.state = .soaking ∨ c.state = .detached then s.answerWrite p r .failed
  else (s.setPort p { c with writes := c.writes ++ [r] }).serve p

/-- HEADER_WRITE (R104, R107). -/
def execHeaderWrite (ch : Chan) (p : Port) (order : Nat) (vol : Serial) (hb : Nat) (serial : Serial)
    (clipNo dataLen : Nat) (s : State) : Result :=
  .next (s.takeWrite p vol (.header ch order hb serial clipNo dataLen))

/-- HEADER_REWRITE (R105, R107). -/
def execHeaderRewrite (ch : Chan) (p : Port) (order : Nat) (vol : Serial) (hb : Nat) (sums : List Sum32) (s : State) :
    Result :=
  .next (s.takeWrite p vol (.rewrite ch order hb sums))

/-- EXTENT_WRITE (R106, R107). -/
def execExtentWrite (ch : Chan) (p : Port) (order : Nat) (vol : Serial) (num block : Nat) (s : State) : Result :=
  .next (s.takeWrite p vol (.extent ch order num block))

/-- VERIFY_READ (R106, R107). -/
def execVerifyRead (ch : Chan) (p : Port) (order : Nat) (vol : Serial) (ext block len : Nat) (sum : Sum32) (s : State) :
    Result :=
  let c := s.port p
  let r : ReadReq := .verify ch order ext block len sum
  if c.current ≠ some vol then .next (s.endRead p r .lost)
  else if c.state = .detached then .next (s.endRead p r .failed)
  else .next ((s.setPort p { c with reads := c.reads ++ [r] }).serve p)

/-- REINSPECTION_READ (R106, R107). -/
def execReinspectionRead (p : Port) (vol : Serial) (first count run : Nat) (s : State) : Result :=
  let c := s.port p
  let r : ReadReq := .reinspect first count run
  if c.current ≠ some vol then .next (s.endRead p r .lost)
  else .next ((s.setPort p { c with reads := c.reads ++ [r] }).serve p)

/-- PLAYBACK_READ (R106, R107). -/
def execPlaybackRead (k : Outp) (p : Port) (vol : Serial) (first : Nat) (span : ReadSpan) (rtok : Nat) (s : State) : Result :=
  let c := s.port p
  let r : PlayReq := { k := k, first := first, count := span.count, cut := span.cut, rtok := rtok }
  if c.current ≠ some vol then .next (s.answerPlay p r .lost)
  else .next ((s.setPort p { c with plays := c.plays ++ [r] }).serve p)

/-- Insert an entry in its ascending place (R104). -/
def insertEntry (e : IndexEntry) : List IndexEntry → List IndexEntry
  | [] => [e]
  | x :: xs => if e.hb < x.hb then e :: x :: xs else if e.hb = x.hb then e :: xs else x :: insertEntry e xs

/-- The recorded end after an attempt that raised the label (R104). -/
def PortCtx.raised (c : PortCtx) (o : DriveOp) : PortCtx :=
  match o.raise with
  | some e => { c with recEnd := some e }
  | none => c

/-- HEADER_WRITE_DONE (R104). -/
def execHeaderWriteDone (p : Port) (tok : Nat) (s : State) : Result :=
  .next (s.complete p tok fun o t =>
    match o.kind with
    | .write (.header ch order hb serial clipNo len) =>
      let c := (t.port p).raised o
      let r : WriteReq := .header ch order hb serial clipNo len
      if c.indexFull then some ((t.setPort p c).answerWrite p r .failed)
      else
        let e : IndexEntry := { hb := hb, serial := serial, clipNo := clipNo, len := len, sums := none }
        some ((t.setPort p { c with index := insertEntry e c.index }).answerWrite p r .done)
    | _ => none)

/-- HEADER_REWRITE_DONE (R105). -/
def execHeaderRewriteDone (p : Port) (tok : Nat) (s : State) : Result :=
  .next (s.complete p tok fun o t =>
    match o.kind with
    | .write (.rewrite ch order hb sums) =>
      let c := t.port p
      let r : WriteReq := .rewrite ch order hb sums
      if c.index.any fun e => e.hb = hb then
        let index := c.index.map fun e => if e.hb = hb then { e with sums := some sums } else e
        let holders := upd c.holders ch fun h => h.filter fun x => x.2 ≠ hb
        some ((t.setPort p { c with index := index, holders := holders }).answerWrite p r .done)
      else some (t.answerWrite p r .failed)
    | _ => none)

/-- EXTENT_WRITE_DONE (R106). -/
def execExtentWriteDone (p : Port) (tok : Nat) (s : State) : Result :=
  .next (s.complete p tok fun o t =>
    match o.kind with
    | .write (.extent ch order num block) => some (t.answerWrite p (.extent ch order num block) .done)
    | _ => none)

/-- VERIFY_READ_DONE (R106). -/
def execVerifyReadDone (p : Port) (tok : Nat) (bytes : List Byte) (s : State) : Result :=
  .next (s.complete p tok fun o t =>
    match o.kind with
    | .read (.verify ch order ext _ len sum) =>
      some (t.send (.dp p) (.cc ch) [.verifyReadAnswer ch order p ext
        (if extentSum (padTo len (bytes.take len)) = sum then .matched else .mismatch)])
    | _ => none)

/-- PLAYBACK_READ_DONE (R106). -/
def execPlaybackReadDone (p : Port) (tok : Nat) (bytes : List Byte) (s : State) : Result :=
  .next (s.complete p tok fun o t =>
    match o.kind with
    | .play r =>
      let n := r.blocks bytes * Config.blockBytes
      some (t.answerPlay p r (.done (padTo n (bytes.take n))))
    | _ => none)

/-- REINSPECTION_READ_DONE (R106): the bytes go to the parse context, and the read is answered. -/
def execReinspectionReadDone (p : Port) (tok : Nat) (bytes : List Byte) (s : State) : Result :=
  .next (s.complete p tok fun o t =>
    match o.kind with
    | .read (.reinspect _ count run) =>
      let n := count * Config.blockBytes
      some ((t.send (.dp p) .fx [.reinspectBytes run (padTo n (bytes.take n))]).send (.dp p) .ins
        [.reinspectReadAnswer run .done])
    | _ => none)

/-! ## Failures (R103) -/

/-- Attempts an operation has (R103). One whose result is to be discarded has no further attempt once the one in progress
fails or expires (the model's choice, assumption 87). -/
def OpKind.attempts (k : OpKind) : Nat :=
  match k with
  | .play _ => 1
  | .ident | .label | .walk _ | .sumList _ _ _ | .format _ | .soakWrite _ | .soakRead _ | .read _ | .write _ => 3
  | .discarded _ => 0

/-- The soak ends with a result (R118). -/
def State.soakEnds (s : State) (p : Port) (errors limit : Nat) : State :=
  let c := s.port p
  let qual := if errors ≤ limit then Qual.passed else .failed
  (s.setPort p { c with state := .ready, qual := qual, soak := none }).raise (.dp p)
    (portNotice .destSoakDone p c.vol (u16 errors ++ u16 limit ++ fNamed qual.ctorIdx))

/-- What follows the last failed attempt of an operation (R94 to R96, R100, R103, R118). A COMPLETE header whose sum list
cannot be read is taken as INCOMPLETE, as one whose list fails its check value is (the model's choice, assumption 69). -/
def State.opFailed (s : State) (p : Port) (k : OpKind) : State :=
  match k with
  | .ident => s.scanFailed p .noIdentity
  | .label => s.scanFailed p .labelUnreadable
  | .walk pos => s.walkFrom p (pos + 1)
  | .sumList pos e _ => s.walkEntry p pos e
  | .format _ =>
    (s.setPort p { s.port p with format := none }).raise (.dp p) (portNotice .destFormatFailed p none [])
  | .soakWrite _ | .soakRead _ =>
    let limit := ((s.port p).soak.map (·.limit)).getD 0
    let c := s.port p
    (s.setPort p { c with state := .ready, qual := .failed, soak := none }).raise (.dp p)
      (portNotice .destSoakDone p c.vol (u16 65535 ++ u16 limit ++ fNamed Qual.failed.ctorIdx))
  | .play r => s.answerPlay p r .failed
  | .read r => s.endRead p r .failed
  | .write r => s.answerWrite p r .failed
  | .discarded _ => s

/-- A failed attempt (R103): a retry as the port's next operation, or what follows the last one. A label that had
already been raised stays raised (R104). -/
def State.attemptFailed (s : State) (p : Port) (tok : Nat) (labelRaised : Bool) : State :=
  match (s.port p).attempt tok with
  | none => s
  | some o =>
    let c := s.port p
    let t := s.setPort p { (if labelRaised then c.raised o else c) with op := none }
    if o.attempt < o.kind.attempts then t.attemptOp p o.kind (o.attempt + 1)
    else (t.opFailed p o.kind).serve p

/-- DRIVE_ERROR (R103). -/
def execDriveError (p : Port) (tok : Nat) (labelRaised : Bool) (s : State) : Result :=
  .next (s.attemptFailed p tok labelRaised)

/-- DRIVE_ATTEMPT_EXPIRY (R103): 10 s have passed from the attempt's start. -/
def execDriveAttemptExpiry (p : Port) (tok : Nat) (labelRaised : Bool) (s : State) : Result :=
  .next (s.attemptFailed p tok labelRaised)

/-! ## Withdrawals and questions (R109, R151, R195) -/

/-- A read-class request of a channel's order (R109). -/
def ReadReq.ofOrder (r : ReadReq) (ch : Chan) (order : Nat) : Bool :=
  match r with
  | .verify c o _ _ _ _ => c = ch && o = order
  | .reinspect _ _ _ => false

/-- WITHDRAWAL (R109). The writes are answered first and then the reads, each in queue order (the model's choice, assumption
116). -/
def execWithdrawal (ch : Chan) (p : Port) (order : Nat) (s : State) : Result :=
  let c := s.port p
  let mine (w : WriteReq) : Bool := w.chan = ch && w.order = order
  let t := s.setPort p { c with writes := c.writes.filter fun w => !mine w
                                reads := c.reads.filter fun r => !r.ofOrder ch order }
  let t := (c.writes.filter mine).foldl (fun t w => t.answerWrite p w .withdrawn) t
  .next ((c.reads.filter fun r => r.ofOrder ch order).foldl (fun t r => t.endRead p r .withdrawn) t)

/-- A re-inspection read. -/
def ReadReq.isReinspect (r : ReadReq) : Bool :=
  match r with
  | .verify _ _ _ _ _ _ => false
  | .reinspect _ _ _ => true

/-- READ_CANCEL (R109). -/
def execReadCancel (who : Canceller) (p : Port) (s : State) : Result :=
  let c := s.port p
  match who with
  | .output k =>
    .next ((c.plays.filter fun r => r.k = k).foldl (fun t r => t.answerPlay p r .withdrawn)
      (s.setPort p { c with plays := c.plays.filter fun r => r.k ≠ k }))
  | .inspector =>
    .next ((c.reads.filter ReadReq.isReinspect).foldl (fun t r => t.endRead p r .withdrawn)
      (s.setPort p { c with reads := c.reads.filter fun r => !r.isReinspect }))

/-- ATTACHMENT_QUESTION (R92, R151, R195). -/
def execAttachmentQuestion (who : VolAsker) (p : Port) (vol : Serial) (s : State) : Result :=
  let c := s.port p
  let yes := c.state.attached && c.vol = some vol
  match who with
  | .reader ix => .next (s.send (.dp p) .ins [.reinspectAttachmentAnswer ix yes])
  | .output k ix => .next (s.send (.dp p) .ro [.playAttachmentAnswer k ix yes])

/-! ## Detaching and removal (5.7) -/

/-- The port becomes DETACHED, with its notice (R110, R111). The requests already in its queue stay there to be served (the
model's choice, assumption 108). -/
def State.detached (s : State) (p : Port) : State :=
  let c := { s.port p with state := .detached, watching := [] }
  (s.setPort p c).raise (.dp p) (portNotice .destDetached p c.vol [])

/-- The soak ends without result (R119). -/
def State.soakStopped (s : State) (p : Port) (st : PortState) (cause : Nat) : State :=
  let c := s.port p
  let op := c.op.map fun o =>
    match o.kind with
    | .soakWrite _ | .soakRead _ => { o with kind := .discarded o.kind }
    | _ => o
  (s.setPort p { c with state := st, soak := none, op := op }).raise (.dp p)
    (portNotice .destSoakEnded p c.vol (fNamed cause))

/-- DETACH (R110, R111). The result discarded is the scan's, the format's or the soak's; another operation on the drive, begun
before the FORMAT VOLUME or START SOAK, is answered as ever (the model's choice, assumption 96). In SCANNING the serial and
the port state change in one report to the dispatcher (the model's choice, assumption 121). -/
def execDetach (q : Req) (port : Nat) (s : State) : Result :=
  match ix? 4 port with
  | none => .next (s.refuse (.dp 0) q .value)
  | some p =>
    let c := s.port p
    match c.state with
    | .absent => .next (s.refuseState (.dp p) q .noDrive)
    | .detaching | .detached => .next (s.refuseState (.dp p) q .already)
    | .ready =>
      let ws := c.watchList
      let t := ((s.setPort p { c with state := .detaching, watching := ws }).accept (.dp p) q []).raise (.dp p)
        (portNotice .destDetaching p c.vol [])
      let t := ws.foldl (fun t w => t.send (.dp p) (.cc w.1) [.watch p w.1 w.2]) t
      .next (if ws.isEmpty then t.detached p else t)
    | .scanning =>
      let op := c.op.map fun o => { o with kind := .discarded o.kind }
      let e := { c with state := .detached, index := [], vol := none, alloc := none, op := op }
      .next (((s.setPort p e).accept (.dp p) q []).detached p)
    | .unformatted =>
      let op := c.op.map fun o =>
        match o.kind with
        | .format _ => { o with kind := .discarded o.kind }
        | _ => o
      .next (((s.setPort p { c with format := none, op := op }).accept (.dp p) q []).detached p)
    | .soaking => .next ((((s.soakStopped p .detached 1).accept (.dp p) q []).detached p).serve p)

/-- WATCH_ANSWER (R111): the holder has closed; with the last one the port becomes DETACHED. The answer of a watch of another
order, sent before the drive was last removed, ends no watch of this volume. -/
def execWatchAnswer (p : Port) (ch : Chan) (order : Nat) (s : State) : Result :=
  let c := (s.port p).closed ch order
  if c.state = .detaching ∧ (ch, order) ∈ c.watching then
    let left := c.watching.filter fun x => x ≠ (ch, order)
    let t := s.setPort p { c with watching := left }
    .next (if left.isEmpty then t.detached p else t)
  else .next (s.setPort p c)

/-- Answer LOST the request an operation performs (R113). -/
def State.loseOp (s : State) (p : Port) (k : OpKind) : State :=
  match k with
  | .play r => s.answerPlay p r .lost
  | .read r => s.endRead p r .lost
  | .write r => s.answerWrite p r .lost
  | .ident | .label | .walk _ | .sumList _ _ _ | .format _ | .soakWrite _ | .soakRead _ | .discarded _ => s

/-- Tell everyone that a volume is lost (R113 step 2), the holders in ascending channel number (the model's
choice, assumption 116). -/
def State.loseVolume (s : State) (p : Port) (vol : Serial) (chs : List Chan) : State :=
  let t := s.send (.dp p) .cat [.lostVolumeReport p vol]
  let t := chs.foldl (fun t ch => t.send (.dp p) (.cc ch) [.channelLostVolume ch p vol]) t
  (t.send (.dp p) .ro [.outputLostVolume p vol]).send (.dp p) .ins [.reinspectLostVolume p vol]

/-- DRIVE_REMOVED (R113). The requests are answered LOST in the order: the one in progress, playback, reads, writes (the
model's choice, assumption 116). -/
def execDriveRemoved (p : Port) (s : State) : Result :=
  let s := { s with pins := { s.pins with driveDetect := upd s.pins.driveDetect p fun _ => false } }
  let c := s.port p
  if c.state = .absent then .next s else
  let t := match c.op with
    | some o => s.loseOp p o.kind
    | none => s
  let t := c.plays.foldl (fun t r => t.answerPlay p r .lost) t
  let t := c.reads.foldl (fun t r => t.endRead p r .lost) t
  let t := c.writes.foldl (fun t r => t.answerWrite p r .lost) t
  let t := match c.vol with
    | some vol => t.loseVolume p vol c.holding
    | none => t
  .next ((t.setPort p { test := c.test }).raise (.dp p) (portNotice .destRemoved p c.vol (fNamed c.state.ctorIdx)))

/-! ## The soak test (5.8) -/

/-- START_SOAK (R112, R114, R116). While a holder test is outstanding it is refused BUSY (assumption 29). -/
def execStartSoak (q : Req) (port len threshold : Nat) (s : State) : Result :=
  match ix? 4 port with
  | none => .next (s.refuse (.dp 0) q .value)
  | some p =>
    if (s.port p).test.isSome then .next (s.refuse (.dp p) q .busy) else
    match (s.port p).soakRefusal with
    | some r => .next (s.refuseState (.dp p) q r)
    | none =>
      .next (s.holderTest p q (.soak (min 4096 (if len = 0 then 256 else len)) (min 65535 threshold)
        (decide (len > 4096 ∨ threshold > 65535))))

/-- SOAK_WRITE_DONE (R117). -/
def execSoakWriteDone (p : Port) (tok : Nat) (s : State) : Result :=
  .next (s.complete p tok fun o t =>
    let c := t.port p
    match o.kind, c.soak with
    | .soakWrite blocks, some k =>
      let tx := (soakBytes (blocks * Config.blockBytes) k.tx).2
      let pos := k.pos + blocks
      let k' : Soak := if pos ≥ k.len then { k with tx := tx, phase := .read, pos := 0 } else { k with tx := tx, pos := pos }
      some (t.setPort p { c with soak := some k' })
    | _, _ => none)

/-- SOAK_READ_DONE (R117, R118). -/
def execSoakReadDone (p : Port) (tok : Nat) (bytes : List Byte) (s : State) : Result :=
  .next (s.complete p tok fun o t =>
    let c := t.port p
    match o.kind, c.soak with
    | .soakRead blocks, some k =>
      let n := blocks * Config.blockBytes
      let k' := (padTo n (bytes.take n)).foldl Soak.feedByte k
      let pos := k.pos + blocks
      some (if pos ≥ k.len then t.soakEnds p k'.errors k'.limit
        else t.setPort p { c with soak := some { k' with pos := pos } })
    | _, _ => none)

/-- STOP_SOAK (R119). -/
def execStopSoak (q : Req) (port : Nat) (s : State) : Result :=
  match ix? 4 port with
  | none => .next (s.refuse (.dp 0) q .value)
  | some p =>
    if (s.port p).state ≠ .soaking then .next (s.refuseState (.dp p) q .notSoaking)
    else .next (((s.soakStopped p .ready 0).accept (.dp p) q []).serve p)

/-! ## Queries (5.9) -/

/-- The kind of an operation, in the order of R103's table, and its requester, as QUERY PORT reports them (assumption 9):
channel, output or none. The read of a header's remaining blocks is one of the walk (R96), and an operation whose result is
to be discarded is still of its kind. -/
def OpKind.report : OpKind → Nat × Option Nat
  | .write (.extent ch _ _ _) => (0, some ch.val)
  | .write (.header ch _ _ _ _ _) => (1, some ch.val)
  | .write (.rewrite ch _ _ _) => (2, some ch.val)
  | .read (.verify ch _ _ _ _ _) => (3, some ch.val)
  | .read (.reinspect _ _ _) => (4, none)
  | .play r => (5, some r.k.val)
  | .ident => (6, none)
  | .label => (7, none)
  | .walk _ | .sumList _ _ _ => (8, none)
  | .format _ => (9, none)
  | .soakWrite _ => (10, none)
  | .soakRead _ => (11, none)
  | .discarded was => was.report

/-- A soak operation waits for the drive to finish another operation. -/
def PortCtx.soakWaiting (c : PortCtx) : Bool :=
  c.soak.isSome && !(c.op.any fun o => match o.kind with | .soakWrite _ | .soakRead _ => true | _ => false)

/-- QUERY_PORT (R120). By the bounds of R107 at most 4 outputs' reads, 4 reads of the read class and one soak operation wait,
and up to 256 writes, one for each buffer (R71). The recorded end, the allocation pointer, each holder, the operation and the
soak have a presence byte each (the model's choice, assumption 117). -/
def execQueryPort (q : Req) (port : Nat) (s : State) : Result :=
  match ix? 4 port with
  | none => .next (s.refuse (.dp 0) q .value)
  | some p =>
    let c := s.port p
    .next (s.accept (.dp p) q (fNamed c.state.ctorIdx ++ fOpt [8] u64 c.capacity ++ fOpt [8] fSerial c.vol ++
      fOpt [8] u64 c.recEnd ++ fOpt [8] u64 c.alloc ++ u64 c.free ++ fNamed c.qual.ctorIdx ++
      u16 c.index.length ++ u16 (c.index.filter fun e => e.sums.isSome).length ++ fFlag c.indexFull ++
      c.holders.toList.flatMap (fOpt [2, 8] fun h => u16 h.1 ++ u64 h.2) ++
      u8 c.plays.length ++ u8 c.reads.length ++ u16 c.writes.length ++ u8 (if c.soakWaiting then 1 else 0) ++
      fOpt [1, 1, 1, 1] (fun o : DriveOp => fNamed o.kind.report.1 ++ fOpt [1] u8 o.kind.report.2 ++ u8 o.attempt) c.op ++
      fFlag c.format.isSome ++
      fOpt [1, 4, 4, 2] (fun k : Soak => fNamed k.phase.ctorIdx ++ u32 k.pos ++ u32 k.len ++ u16 k.errors) c.soak))

/-- QUERY_INDEX (R120). Entries are numbered from 0 (the model's choice, assumption 102). -/
def execQueryIndex (q : Req) (port first : Nat) (s : State) : Result :=
  match ix? 4 port with
  | none => .next (s.refuse (.dp 0) q .value)
  | some p =>
    let c := s.port p
    if c.vol = none then .next (s.refuse (.dp p) q .notFound) else
    .next (s.accept (.dp p) q (fList (fun e : IndexEntry => u64 e.hb ++ fSerial e.serial ++ u16 e.clipNo ++ u64 e.len ++
      u8 (if e.sums.isSome then 2 else 1)) ((c.index.drop first).take 64) ++ u16 c.index.length))

end Sys2Proof.Machine
end

