-- ==== Sys2Proof/Machine/Stations.lean ====
section
/-! DEFINITION. The Station Ports (Section 11): straps and resets, links, requests and responses, notices and filters,
RESET PART and the query. -/

namespace Sys2Proof.Machine

/-! ## Straps and resets (11.1, 11.5) -/

/-- The ports strapped supervisor, ascending. -/
def Pins.supers (p : Pins) : List Stn := (List.finRange 4).filter fun st => p.superStrap[st]

/-- A station context with its straps sampled (R203). -/
def Station.sampled (x : Station) (p : Pins) (st : Stn) : Station :=
  { x with role := p.roleStrap[st], sup := Pins.supers p = [st], strapFault := (Pins.supers p).length > 1 }

/-- Every block at its reset values with those pins, and the Station Ports as given (R203, R213). The queue of commands
and the counters of the model stay (assumption 3). -/
def State.blank (s : State) (p : Pins) (sp : StationPorts) : State :=
  { State.reset with sp := sp, pins := p, token := s.token, arrivals := s.arrivals, pending := s.pending }

/-- The insertion and attach events of the cards and drives present (R1, R2, R91, R94). -/
def State.detect (s : State) (p : Pins) : State :=
  let t := ((List.finRange 6).filter fun b => p.cardDetect[b]).foldl (fun t b => t.cardIn b p.writeProt[b]) s
  ((List.finRange 4).filter fun d => p.driveDetect[d]).foldl (fun t d => t.driveIn d) t

/-- A reset of every block, which then takes the events of what is present (R203, R213). -/
def State.restart (s : State) (p : Pins) (sp : StationPorts) : State := (s.blank p sp).detect p

/-- POWER_ON_RESET (R203): every link is DOWN, and no RESET notice is raised. -/
def execPowerOnReset (pins : Pins) (s : State) : Result :=
  .next (s.restart pins
    { stations := Vector.ofFn fun st => Station.sampled {} pins st, seq := 0, rid := s.sp.rid })

/-! ## Notices (11.4) -/

/-- A filter passes a notice (R210). -/
def Filter.passes (f : Filter) (n : Notice) : Bool :=
  f.enabled && f.kinds.contains (subKind n.sub) &&
  (f.letter.all fun l => n.letter = some l) && (f.bay.all fun b => n.bay = some b) &&
  (subKind n.sub ≠ .finding || n.cls.all fun c => f.minClass.rank ≤ c.rank)

/-- The tests of R211: is the notice for this station? -/
def Station.wants (x : Station) (st : Stn) (n : Notice) : Bool :=
  if x.link = .down then false
  else match n.only with
    | some sts => sts.contains st
    | none => x.role = .observer || x.filters.toList.any fun f => f.passes n

/-- Deliver a numbered notice to a station (R211). -/
def Station.deliver (x : Station) (seq : Nat) (n : Notice) : Station :=
  if x.fifo.length < Config.notices then
    { x with fifo := x.fifo ++ [{ seq := seq, gap := x.gap, notice := n }], gap := false }
  else { x with gap := true }

/-- Number a notice and test it for each station in turn (R209, R211). -/
def State.takeNotice (s : State) (n : Notice) : State :=
  let deliver (st : Stn) (x : Station) : Station := if x.wants st n then x.deliver s.sp.seq n else x
  { s with sp := { s.sp with
      stations := Vector.ofFn fun st => deliver st s.sp.stations[st], seq := (s.sp.seq + 1) % 4294967296 } }

/-- A START_FAULT notice: the ports strapped supervisor (R204, R213), in ascending order (the model's choice, assumption
113). -/
def startFault (p : Pins) (only : List Stn) : Notice :=
  { sub := .linkStartFault, fields := fList (fun st : Stn => u8 st.val) (Pins.supers p), only := some only }

/-- NOTICE_TAKEN (R209, R211). -/
def execNoticeTaken (n : Notice) (s : State) : Result := .next (s.takeNotice n)

/-- NOTICE_SENT (R212): the link takes the notice at the head of the FIFO. -/
def execNoticeSent (st : Stn) (s : State) : Result :=
  let x := s.station st
  match x.link, x.fifo with
  | .up, d :: rest => .next (s.setStation st { x with fifo := rest, sent := .notice (noticeMessage d) })
  | .up, [] | .down, _ => .next s

/-! ## Links (11.2) -/

/-- LINK_UP (R204). -/
def execLinkUp (st : Stn) (s : State) : Result :=
  let x := s.station st
  if x.link = .up then .next s else
  let t := s.setStation st
    { x with link := .up, responses := [], unanswered := 0, fifo := [], gap := false, backlog := [] }
  .next (if x.strapFault then t.takeNotice (startFault s.pins [st]) else t)

/-- LINK_DOWN (R205). -/
def execLinkDown (st : Stn) (s : State) : Result :=
  let x := s.station st
  if x.link = .down then .next s else
  let t := s.setStation st
    { x with link := .down, responses := [], unanswered := 0, fifo := [], gap := false, backlog := [] }
  .next (t.send .sp .lb [.linkDownReport st])

/-! ## Requests and responses (11.3) -/

/-- Append an entry to a station's response list. -/
def State.append (s : State) (st : Stn) (e : Response) : State :=
  let x := s.station st
  let t := s.setStation st
    { x with responses := x.responses ++ [e], unanswered := x.unanswered + (if e.admitted then 1 else 0) }
  { t with sp := { t.sp with rid := t.sp.rid + 1 } }

/-- The test of an arriving request that refuses it, if any (R206, R216). A message cut short is refused with the unknown
codes (assumption 9). -/
def State.refusal (s : State) (st : Stn) (m : Message) : Option Code :=
  let x := s.station st
  let code := m.code.toNat
  let anySup := s.sp.stations.toList.any (·.sup)
  if x.unanswered ≥ Config.unanswered then some .overrun
  else if code = 0 ∨ code > lastCode ∨ m.oplen.toNat > m.bytes.length then some .value
  else if !allowed code x.role x.sup anySup then some .rights
  else none

/-- An accepted message: refused by the SP, or admitted and passed to its block (R206). Operands too short are answered
VALUE by the owning block (R216). -/
def State.acceptMessage (s : State) (st : Stn) (m : Message) : State :=
  let rid := s.sp.rid
  match s.refusal st m with
  | some code => s.append st { tag := m.tag, rid := rid, admitted := false, answer := some (.refused code none []) }
  | none =>
    let q : Req := { st := st, rid := rid }
    let ops := m.bytes.take m.oplen.toNat
    let dst := owner m.code.toNat ops
    let t := s.append st { tag := m.tag, rid := rid, admitted := true, answer := none }
    match readRequest m.code.toNat q (s.station st).sup ops with
    | some i => t.send (.station st) dst [i]
    | none => t.send dst .sp [.blockAnswer q (.refused .value none [])]

/-- REQUEST_MESSAGE (R206): the link holds a message back while 48 entries stand in the list. -/
def execRequestMessage (st : Stn) (msg : Message) (s : State) : Result :=
  let x := s.station st
  if x.link = .down then .next s
  else if x.responses.length ≥ Config.responses ∨ !x.backlog.isEmpty then
    .next (s.setStation st { x with backlog := x.backlog ++ [msg] })
  else .next (s.acceptMessage st msg)

/-- Mark the entry of a request ready (R208); the answer of a request no longer in its list is discarded (R205, R213). -/
def State.markReady (s : State) (q : Req) (a : Answer) (reset : Bool) : State :=
  let x := s.station q.st
  let mark (e : Response) : Response :=
    if e.rid = q.rid ∧ e.admitted ∧ e.answer = none then { e with answer := some a, reset := reset } else e
  s.setStation q.st { x with responses := x.responses.map mark }

/-- BLOCK_ANSWER (R208). -/
def execBlockAnswer (q : Req) (ans : Answer) (s : State) : Result := .next (s.markReady q ans false)

/-- The messages the link holds back arrive while the list has room (R206). -/
def State.drain (st : Stn) : List Message → State → State
  | [], s => s.setStation st { s.station st with backlog := [] }
  | m :: ms, s =>
    if (s.station st).responses.length ≥ Config.responses then s.setStation st { s.station st with backlog := m :: ms }
    else State.drain st ms (s.acceptMessage st m)

/-- Let a station's held messages arrive. -/
def State.letIn (s : State) (st : Stn) : State := State.drain st (s.station st).backlog s

/-- A station context after RESET PART (R213): its link state, its last message and what its link holds back are kept. -/
def Station.afterReset (x : Station) (p : Pins) (st : Stn) : Station :=
  Station.sampled { link := x.link, backlog := x.backlog, sent := x.sent } p st

/-- What the RESET notice carries to a station: the discarded tags, the role and the supervisor flag (R213). -/
def resetNotice (old new : Station) : Notice :=
  { sub := .linkReset
    fields := fList (fun e : Response => u32 e.tag.toNat) old.responses ++ fNamed new.role.ctorIdx ++ fFlag new.sup }

/-- The reset of RESET PART (R213). -/
def State.partReset (s : State) (p : Pins) : State :=
  let station (st : Stn) : Station :=
    let old := s.sp.stations[st]
    let new := old.afterReset p st
    if new.link = .up then new.deliver 0 { resetNotice old new with only := some [st] } else new
  let t := s.restart p { stations := Vector.ofFn station, seq := 1, rid := s.sp.rid }
  let t := if (Pins.supers p).length > 1 then t.takeNotice (startFault p (List.finRange 4)) else t
  (List.finRange 4).foldl (fun t st => t.letIn st) t

/-- RESPONSE_SENT (R208, R212, R213): the link takes the ready response at the head. -/
def execResponseSent (st : Stn) (pins : Pins) (s : State) : Result :=
  let x := s.station st
  match x.link, x.responses with
  | .up, e :: rest =>
    match e.answer with
    | none => .next s
    | some a =>
      let t := s.setStation st
        { x with responses := rest, unanswered := x.unanswered - (if e.admitted then 1 else 0)
                 sent := .response (responseMessage e.tag a) }
      .next (if e.reset then t.partReset pins else t.letIn st)
  | .up, [] | .down, _ => .next s

/-! ## Requests of the Station Ports themselves (R210, R213, R214) -/

/-- A notice kind by its number (R216): LINK is not among the nine. -/
def noticeKindOf (n : Nat) : Option NoticeKind :=
  match n with
  | 1 => some .card | 2 => some .catalog | 3 => some .order | 4 => some .copy | 5 => some .finding | 6 => some .look
  | 7 => some .output | 8 => some .dest | 9 => some .mode | _ => none

/-- A class by its number (R216). -/
def classNumber (n : Nat) : Option FindingClass :=
  match n with
  | 1 => some .advisory | 2 => some .warning | 3 => some .blocking | _ => none

/-- The filter a SET FILTER describes (R210); `none` when a field is out of its set. Its kinds stand in the request's order,
each once (the model's choice, assumption 112). -/
def filterOf (i : FilterItems) : Option Filter :=
  let kinds := i.kinds.filterMap noticeKindOf
  let letter := i.letter.bind letterOf
  let bay := i.bay.bind (ix? 6)
  if kinds.length ≠ i.kinds.length ∨ letter.isSome ≠ i.letter.isSome ∨ bay.isSome ≠ i.bay.isSome then none else
  (classNumber i.minClass).map fun c =>
    { enabled := i.enabled, kinds := kinds.eraseDups, letter := letter, bay := bay, minClass := c }

/-- SET_FILTER (R210). -/
def execSetFilter (q : Req) (number : Nat) (items : FilterItems) (s : State) : Result :=
  match ix? 4 number, filterOf items with
  | some n, some f =>
    let x := s.station q.st
    .next ((s.setStation q.st { x with filters := upd x.filters n fun _ => f }).markReady q (.accepted false []) false)
  | _, _ => .next (s.markReady q (.refused .value none []) false)

/-- RESET_PART (R213): the acceptance is ready at once, and the reset waits until it is sent. -/
def execResetPart (q : Req) (s : State) : Result := .next (s.markReady q (.accepted false []) true)

/-- A filter as fields. -/
def fFilter (f : Filter) : List Field :=
  fFlag f.enabled ++ fList (fun k : NoticeKind => fNamed k.ctorIdx) f.kinds ++ fOpt [1] fLetter f.letter ++
  fOpt [1] (fun b : Bay => u8 b.val) f.bay ++ fNamed f.minClass.ctorIdx

/-- QUERY_STATION (R214). -/
def execQueryStation (q : Req) (port : Nat) (s : State) : Result :=
  match ix? 4 port with
  | none => .next (s.markReady q (.refused .value none []) false)
  | some st =>
    let x := s.station st
    .next (s.markReady q (.accepted false (fNamed x.link.ctorIdx ++ fNamed x.role.ctorIdx ++ fFlag x.sup ++
      fFlag x.strapFault ++ u8 x.responses.length ++ u8 x.unanswered ++ u8 x.fifo.length ++ fFlag x.gap ++
      x.filters.toList.flatMap fFilter ++ u32 s.sp.seq)) false)

end Sys2Proof.Machine
end

