-- ==== Sys2Proof/Machine/Dispatch.lean ====
section
/-! DEFINITION. The effect of each command on everything but the queue: one arm per row of the opcode table. -/

namespace Sys2Proof.Machine

def exec (i : Instr) (s : State) : Host.Outcome State Fault Refusal :=
  match i with
  | .powerOnReset pins => Sys2Proof.Machine.execPowerOnReset pins s
  | .cardInserted b wp => Sys2Proof.Machine.execCardInserted b wp s
  | .identificationTimeout b tok => Sys2Proof.Machine.execIdentificationTimeout b tok s
  | .headerReadComplete b tok bytes => Sys2Proof.Machine.execHeaderReadComplete b tok bytes s
  | .requiredCopiesQuery b ins serial => Sys2Proof.Machine.execRequiredCopiesQuery b ins serial s
  | .requiredCopiesAnswer b ins highest => Sys2Proof.Machine.execRequiredCopiesAnswer b ins highest s
  | .directoryReadComplete b tok bytes => Sys2Proof.Machine.execDirectoryReadComplete b tok bytes s
  | .listingReadFailed b tok => Sys2Proof.Machine.execListingReadFailed b tok s
  | .listingAnswer b ins ans => Sys2Proof.Machine.execListingAnswer b ins ans s
  | .claim ch serial tag => Sys2Proof.Machine.execClaim ch serial tag s
  | .handBack ch serial => Sys2Proof.Machine.execHandBack ch serial s
  | .burstRequest ch serial clipNo ext burst room => Sys2Proof.Machine.execBurstRequest ch serial clipNo ext burst room s
  | .burstGrantReport ch serial => Sys2Proof.Machine.execBurstGrantReport ch serial s
  | .burstCompletion b tok bytes => Sys2Proof.Machine.execBurstCompletion b tok bytes s
  | .burstMediaError b tok => Sys2Proof.Machine.execBurstMediaError b tok s
  | .burstTimeout b tok => Sys2Proof.Machine.execBurstTimeout b tok s
  | .cardRemoved b => Sys2Proof.Machine.execCardRemoved b s
  | .releaseCard q bay => Sys2Proof.Machine.execReleaseCard q bay s
  | .releaseTest q b ins serial => Sys2Proof.Machine.execReleaseTest q b ins serial s
  | .releaseTestAnswer q b ins ans => Sys2Proof.Machine.execReleaseTestAnswer q b ins ans s
  | .forceRelease q bay => Sys2Proof.Machine.execForceRelease q bay s
  | .queryBay q bay => Sys2Proof.Machine.execQueryBay q bay s
  | .bayViewReport b view => Sys2Proof.Machine.execBayViewReport b view s
  | .listingRequest b ins serial clipNo required desc => Sys2Proof.Machine.execListingRequest b ins serial clipNo required desc s
  | .cameraDefaultAnswer job slot => Sys2Proof.Machine.execCameraDefaultAnswer job slot s
  | .orderRemovalAnswer clip serial made desc removed => Sys2Proof.Machine.execOrderRemovalAnswer clip serial made desc removed s
  | .foundCopySearch p serial clipNo dataLen => Sys2Proof.Machine.execFoundCopySearch p serial clipNo dataLen s
  | .foundOffer p vol hb serial clipNo dataLen sums => Sys2Proof.Machine.execFoundOffer p vol hb serial clipNo dataLen sums s
  | .copyCreationRequest ch clip order p vol hb => Sys2Proof.Machine.execCopyCreationRequest ch clip order p vol hb s
  | .headerWrittenReport clip vol => Sys2Proof.Machine.execHeaderWrittenReport clip vol s
  | .extentWrittenReport clip vol => Sys2Proof.Machine.execExtentWrittenReport clip vol s
  | .verifyBegunReport clip vol => Sys2Proof.Machine.execVerifyBegunReport clip vol s
  | .mismatchReport clip vol ext => Sys2Proof.Machine.execMismatchReport clip vol ext s
  | .verifyEndedReport clip vol => Sys2Proof.Machine.execVerifyEndedReport clip vol s
  | .rewriteDoneReport clip vol => Sys2Proof.Machine.execRewriteDoneReport clip vol s
  | .copyEndReport clip vol final cause => Sys2Proof.Machine.execCopyEndReport clip vol final cause s
  | .lostVolumeReport p vol => Sys2Proof.Machine.execLostVolumeReport p vol s
  | .startReadRequest ch clip order => Sys2Proof.Machine.execStartReadRequest ch clip order s
  | .storedSumsRequest ch clip order => Sys2Proof.Machine.execStoredSumsRequest ch clip order s
  | .sumReport ch clip order ext sum pass => Sys2Proof.Machine.execSumReport ch clip order ext sum pass s
  | .bindRequest clip order named => Sys2Proof.Machine.execBindRequest clip order named s
  | .candidatesRequest q serial => Sys2Proof.Machine.execCandidatesRequest q serial s
  | .unbindRequest clip order => Sys2Proof.Machine.execUnbindRequest clip order s
  | .blockingCountReport clip n => Sys2Proof.Machine.execBlockingCountReport clip n s
  | .overflowHoldSet clip => Sys2Proof.Machine.execOverflowHoldSet clip s
  | .overflowHoldClear clip => Sys2Proof.Machine.execOverflowHoldClear clip s
  | .inspectionCountReport clip rep => Sys2Proof.Machine.execInspectionCountReport clip rep s
  | .setCopies q serial count => Sys2Proof.Machine.execSetCopies q serial count s
  | .setCopiesForwarded q serial count held inBay => Sys2Proof.Machine.execSetCopiesForwarded q serial count held inBay s
  | .assignLook q clip slot => Sys2Proof.Machine.execAssignLook q clip slot s
  | .stampLook q clip => Sys2Proof.Machine.execStampLook q clip s
  | .stampVersionAnswer q clip serial made slot version => Sys2Proof.Machine.execStampVersionAnswer q clip serial made slot version s
  | .purgeCard q serial => Sys2Proof.Machine.execPurgeCard q serial s
  | .purgeReaderQuery q serial clips => Sys2Proof.Machine.execPurgeReaderQuery q serial clips s
  | .purgeReaderAnswer q serial holds => Sys2Proof.Machine.execPurgeReaderAnswer q serial holds s
  | .purgeBayQuery q serial => Sys2Proof.Machine.execPurgeBayQuery q serial s
  | .purgeBayAnswer q serial held => Sys2Proof.Machine.execPurgeBayAnswer q serial held s
  | .queryClip q clip => Sys2Proof.Machine.execQueryClip q clip s
  | .listCard q serial => Sys2Proof.Machine.execListCard q serial s
  | .findClip q serial clipNo => Sys2Proof.Machine.execFindClip q serial clipNo s
  | .clipLookup who clip => Sys2Proof.Machine.execClipLookup who clip s
  | .postOrder q clip dests priority => Sys2Proof.Machine.execPostOrder q clip dests priority s
  | .bindAnswer order ans => Sys2Proof.Machine.execBindAnswer order ans s
  | .postCardOrder q serial dests priority => Sys2Proof.Machine.execPostCardOrder q serial dests priority s
  | .candidatesAnswer q clips => Sys2Proof.Machine.execCandidatesAnswer q clips s
  | .destViewReport p view => Sys2Proof.Machine.execDestViewReport p view s
  | .catalogDispatchReport clip => Sys2Proof.Machine.execCatalogDispatchReport clip s
  | .readDoneReport ch order => Sys2Proof.Machine.execReadDoneReport ch order s
  | .repairBegunReport ch order => Sys2Proof.Machine.execRepairBegunReport ch order s
  | .repairDoneReport ch order => Sys2Proof.Machine.execRepairDoneReport ch order s
  | .orderEndReport ch order kind => Sys2Proof.Machine.execOrderEndReport ch order kind s
  | .unbindAnswer order clip state => Sys2Proof.Machine.execUnbindAnswer order clip state s
  | .abortOrder q order => Sys2Proof.Machine.execAbortOrder q order s
  | .catalogRemovalRequest clip order serial made desc => Sys2Proof.Machine.execCatalogRemovalRequest clip order serial made desc s
  | .abortAll q => Sys2Proof.Machine.execAbortAll q s
  | .setMode q mode => Sys2Proof.Machine.execSetMode q mode s
  | .queryOrder q order => Sys2Proof.Machine.execQueryOrder q order s
  | .listOrders q => Sys2Proof.Machine.execListOrders q s
  | .startMessage ch order clip serial dests => Sys2Proof.Machine.execStartMessage ch order clip serial dests s
  | .clipLengthAnswer ch order rec => Sys2Proof.Machine.execClipLengthAnswer ch order rec s
  | .reservationAnswer ch order p ans => Sys2Proof.Machine.execReservationAnswer ch order p ans s
  | .creationAnswer ch order p ans => Sys2Proof.Machine.execCreationAnswer ch order p ans s
  | .headerWriteAnswer ch order p ans => Sys2Proof.Machine.execHeaderWriteAnswer ch order p ans s
  | .startReadAnswer ch order info => Sys2Proof.Machine.execStartReadAnswer ch order info s
  | .storedSumsAnswer ch order sums => Sys2Proof.Machine.execStoredSumsAnswer ch order sums s
  | .claimAnswer ch tag ans => Sys2Proof.Machine.execClaimAnswer ch tag ans s
  | .bufferRequest ch tag clip ext pass len => Sys2Proof.Machine.execBufferRequest ch tag clip ext pass len s
  | .bufferWithdrawal ch => Sys2Proof.Machine.execBufferWithdrawal ch s
  | .bufferGrant ch tag num => Sys2Proof.Machine.execBufferGrant ch tag num s
  | .burstAnswer ch ans => Sys2Proof.Machine.execBurstAnswer ch ans s
  | .sumAnswer ch order ext pass ans => Sys2Proof.Machine.execSumAnswer ch order ext pass ans s
  | .extentWriteAnswer ch order p num ans => Sys2Proof.Machine.execExtentWriteAnswer ch order p num ans s
  | .verifyReadAnswer ch order p ext ans => Sys2Proof.Machine.execVerifyReadAnswer ch order p ext ans s
  | .headerRewriteAnswer ch order p ans => Sys2Proof.Machine.execHeaderRewriteAnswer ch order p ans s
  | .channelLostVolume ch p vol => Sys2Proof.Machine.execChannelLostVolume ch p vol s
  | .channelAbort ch order => Sys2Proof.Machine.execChannelAbort ch order s
  | .statusQuery p ch order => Sys2Proof.Machine.execStatusQuery p ch order s
  | .watch p ch order => Sys2Proof.Machine.execWatch p ch order s
  | .queryChannel q ch => Sys2Proof.Machine.execQueryChannel q ch s
  | .queryStore q => Sys2Proof.Machine.execQueryStore q s
  | .driveAttach p => Sys2Proof.Machine.execDriveAttach p s
  | .identificationReadDone p tok capacity => Sys2Proof.Machine.execIdentificationReadDone p tok capacity s
  | .labelReadDone p tok bytes => Sys2Proof.Machine.execLabelReadDone p tok bytes s
  | .walkReadDone p tok bytes => Sys2Proof.Machine.execWalkReadDone p tok bytes s
  | .driveError p tok labelRaised => Sys2Proof.Machine.execDriveError p tok labelRaised s
  | .driveAttemptExpiry p tok labelRaised => Sys2Proof.Machine.execDriveAttemptExpiry p tok labelRaised s
  | .formatVolume q port serial => Sys2Proof.Machine.execFormatVolume q port serial s
  | .formatWriteDone p tok => Sys2Proof.Machine.execFormatWriteDone p tok s
  | .reservationRequest ch p order vol blocks => Sys2Proof.Machine.execReservationRequest ch p order vol blocks s
  | .statusQueryAnswer p ch order alive => Sys2Proof.Machine.execStatusQueryAnswer p ch order alive s
  | .watchAnswer p ch order => Sys2Proof.Machine.execWatchAnswer p ch order s
  | .headerWrite ch p order vol hb serial clipNo dataLen => Sys2Proof.Machine.execHeaderWrite ch p order vol hb serial clipNo dataLen s
  | .headerWriteDone p tok => Sys2Proof.Machine.execHeaderWriteDone p tok s
  | .headerRewrite ch p order vol hb sums => Sys2Proof.Machine.execHeaderRewrite ch p order vol hb sums s
  | .headerRewriteDone p tok => Sys2Proof.Machine.execHeaderRewriteDone p tok s
  | .extentWrite ch p order vol num block => Sys2Proof.Machine.execExtentWrite ch p order vol num block s
  | .extentWriteDone p tok => Sys2Proof.Machine.execExtentWriteDone p tok s
  | .verifyRead ch p order vol ext block len sum => Sys2Proof.Machine.execVerifyRead ch p order vol ext block len sum s
  | .verifyReadDone p tok bytes => Sys2Proof.Machine.execVerifyReadDone p tok bytes s
  | .playbackRead k p vol first span rtok => Sys2Proof.Machine.execPlaybackRead k p vol first span rtok s
  | .playbackReadDone p tok bytes => Sys2Proof.Machine.execPlaybackReadDone p tok bytes s
  | .reinspectionRead p vol first count run => Sys2Proof.Machine.execReinspectionRead p vol first count run s
  | .reinspectionReadDone p tok bytes => Sys2Proof.Machine.execReinspectionReadDone p tok bytes s
  | .withdrawal ch p order => Sys2Proof.Machine.execWithdrawal ch p order s
  | .readCancel who p => Sys2Proof.Machine.execReadCancel who p s
  | .attachmentQuestion who p vol => Sys2Proof.Machine.execAttachmentQuestion who p vol s
  | .detach q port => Sys2Proof.Machine.execDetach q port s
  | .driveRemoved p => Sys2Proof.Machine.execDriveRemoved p s
  | .startSoak q port len threshold => Sys2Proof.Machine.execStartSoak q port len threshold s
  | .soakWriteDone p tok => Sys2Proof.Machine.execSoakWriteDone p tok s
  | .soakReadDone p tok bytes => Sys2Proof.Machine.execSoakReadDone p tok bytes s
  | .stopSoak q port => Sys2Proof.Machine.execStopSoak q port s
  | .queryPort q port => Sys2Proof.Machine.execQueryPort q port s
  | .queryIndex q port first => Sys2Proof.Machine.execQueryIndex q port first s
  | .livePassBegin ch clip desc => Sys2Proof.Machine.execLivePassBegin ch clip desc s
  | .liveInspectionStateAnswer ch pass rec => Sys2Proof.Machine.execLiveInspectionStateAnswer ch pass rec s
  | .liveBytes ch bytes => Sys2Proof.Machine.execLiveBytes ch bytes s
  | .livePassEndOfData ch => Sys2Proof.Machine.execLivePassEndOfData ch s
  | .livePassCutOff ch => Sys2Proof.Machine.execLivePassCutOff ch s
  | .analysisDoneReport slot => Sys2Proof.Machine.execAnalysisDoneReport slot s
  | .liveCountReport c n => Sys2Proof.Machine.execLiveCountReport c n s
  | .takeNewest k c tok => Sys2Proof.Machine.execTakeNewest k c tok s
  | .slotDrop k slot => Sys2Proof.Machine.execSlotDrop k slot s
  | .dropAll k => Sys2Proof.Machine.execDropAll k s
  | .playbackStart k clip dataLen frames copy => Sys2Proof.Machine.execPlaybackStart k clip dataLen frames copy s
  | .fetch k run n => Sys2Proof.Machine.execFetch k run n s
  | .playbackReadAnswer k rtok ans => Sys2Proof.Machine.execPlaybackReadAnswer k rtok ans s
  | .playbackCancel k => Sys2Proof.Machine.execPlaybackCancel k s
  | .reinspectContextStart run clip dataLen frames src => Sys2Proof.Machine.execReinspectContextStart run clip dataLen frames src s
  | .reinspectBytes run bytes => Sys2Proof.Machine.execReinspectBytes run bytes s
  | .reinspectPlaneResume free => Sys2Proof.Machine.execReinspectPlaneResume free s
  | .reinspectContextCancel run => Sys2Proof.Machine.execReinspectContextCancel run s
  | .reinspectReadLost run => Sys2Proof.Machine.execReinspectReadLost run s
  | .queryPool q => Sys2Proof.Machine.execQueryPool q s
  | .frameHeader ch pass hdr => Sys2Proof.Machine.execFrameHeader ch pass hdr s
  | .continuityEnd ch pass how => Sys2Proof.Machine.execContinuityEnd ch pass how s
  | .analysisComplete tok => Sys2Proof.Machine.execAnalysisComplete tok s
  | .clearSites q => Sys2Proof.Machine.execClearSites q s
  | .setThresholds q items => Sys2Proof.Machine.execSetThresholds q items s
  | .passResult clip skipped superseded => Sys2Proof.Machine.execPassResult clip skipped superseded s
  | .reinspect q clip => Sys2Proof.Machine.execReinspect q clip s
  | .reinspectAttachmentAnswer ix yes => Sys2Proof.Machine.execReinspectAttachmentAnswer ix yes s
  | .reinspectLookupAnswer rec => Sys2Proof.Machine.execReinspectLookupAnswer rec s
  | .reinspectReadAnswer run ans => Sys2Proof.Machine.execReinspectReadAnswer run ans s
  | .reinspectReadConsumed run => Sys2Proof.Machine.execReinspectReadConsumed run s
  | .reinspectContextReport run rep => Sys2Proof.Machine.execReinspectContextReport run rep s
  | .reinspectLostVolume p vol => Sys2Proof.Machine.execReinspectLostVolume p vol s
  | .queryInspector q => Sys2Proof.Machine.execQueryInspector q s
  | .querySites q first => Sys2Proof.Machine.execQuerySites q first s
  | .occurrence occ => Sys2Proof.Machine.execOccurrence occ s
  | .occurrenceLookupAnswer tok rec => Sys2Proof.Machine.execOccurrenceLookupAnswer tok rec s
  | .setKindClass q kind cls => Sys2Proof.Machine.execSetKindClass q kind cls s
  | .clearOverflowHold q clip => Sys2Proof.Machine.execClearOverflowHold q clip s
  | .clearHoldLookupAnswer q tok clip rec => Sys2Proof.Machine.execClearHoldLookupAnswer q tok clip rec s
  | .ackFinding q finding => Sys2Proof.Machine.execAckFinding q finding s
  | .clearFinding q finding sup => Sys2Proof.Machine.execClearFinding q finding sup s
  | .verifiedCopyReport clip vol => Sys2Proof.Machine.execVerifiedCopyReport clip vol s
  | .verifiedReportLookupAnswer tok rec => Sys2Proof.Machine.execVerifiedReportLookupAnswer tok rec s
  | .reinspectionRemoval clip => Sys2Proof.Machine.execReinspectionRemoval clip s
  | .purgeList serial clips => Sys2Proof.Machine.execPurgeList serial clips s
  | .queryFinding q finding => Sys2Proof.Machine.execQueryFinding q finding s
  | .listFindings q clip states minClass first => Sys2Proof.Machine.execListFindings q clip states minClass first s
  | .queryClasses q => Sys2Proof.Machine.execQueryClasses q s
  | .holdLook q slot => Sys2Proof.Machine.execHoldLook q slot s
  | .writeLook q slot items => Sys2Proof.Machine.execWriteLook q slot items s
  | .commitLook q slot keep => Sys2Proof.Machine.execCommitLook q slot keep s
  | .cancelLook q slot => Sys2Proof.Machine.execCancelLook q slot s
  | .linkDownReport st => Sys2Proof.Machine.execLinkDownReport st s
  | .bankFill q first last preset => Sys2Proof.Machine.execBankFill q first last preset s
  | .fillSlotWriteDone tok => Sys2Proof.Machine.execFillSlotWriteDone tok s
  | .cancelFill q => Sys2Proof.Machine.execCancelFill q s
  | .setCameraLook q letter slot => Sys2Proof.Machine.execSetCameraLook q letter slot s
  | .defaultRequest letter job => Sys2Proof.Machine.execDefaultRequest letter job s
  | .latchRead outs => Sys2Proof.Machine.execLatchRead outs s
  | .versionRequest q clip serial made slot => Sys2Proof.Machine.execVersionRequest q clip serial made slot s
  | .queryLook q slot => Sys2Proof.Machine.execQueryLook q slot s
  | .queryBank q => Sys2Proof.Machine.execQueryBank q s
  | .setRoute q output items => Sys2Proof.Machine.execSetRoute q output items s
  | .frameBoundary k => Sys2Proof.Machine.execFrameBoundary k s
  | .groupBoundary g => Sys2Proof.Machine.execGroupBoundary g s
  | .latchAnswer outs => Sys2Proof.Machine.execLatchAnswer outs s
  | .takeNewestAnswer k tok got => Sys2Proof.Machine.execTakeNewestAnswer k tok got s
  | .play q output clip start => Sys2Proof.Machine.execPlay q output clip start s
  | .playAttachmentAnswer k ix yes => Sys2Proof.Machine.execPlayAttachmentAnswer k ix yes s
  | .fetchAnswer k run n ans => Sys2Proof.Machine.execFetchAnswer k run n ans s
  | .pause q target => Sys2Proof.Machine.execPause q target s
  | .stop q target => Sys2Proof.Machine.execStop q target s
  | .outputLostVolume p vol => Sys2Proof.Machine.execOutputLostVolume p vol s
  | .outputPurgeList clips => Sys2Proof.Machine.execOutputPurgeList clips s
  | .playGroup q group start cue => Sys2Proof.Machine.execPlayGroup q group start cue s
  | .queryOutput q output => Sys2Proof.Machine.execQueryOutput q output s
  | .linkUp st => Sys2Proof.Machine.execLinkUp st s
  | .linkDown st => Sys2Proof.Machine.execLinkDown st s
  | .requestMessage st msg => Sys2Proof.Machine.execRequestMessage st msg s
  | .blockAnswer q ans => Sys2Proof.Machine.execBlockAnswer q ans s
  | .noticeTaken n => Sys2Proof.Machine.execNoticeTaken n s
  | .noticeSent st => Sys2Proof.Machine.execNoticeSent st s
  | .setFilter q number items => Sys2Proof.Machine.execSetFilter q number items s
  | .resetPart q => Sys2Proof.Machine.execResetPart q s
  | .queryStation q port => Sys2Proof.Machine.execQueryStation q port s
  | .cardIdentificationResponse b tok advertised capacity => Sys2Proof.Machine.execCardIdentificationResponse b tok advertised capacity s
  | .responseSent st pins => Sys2Proof.Machine.execResponseSent st pins s
  | .dispatchLookupAnswer order rec => Sys2Proof.Machine.execDispatchLookupAnswer order rec s
  | .analysisLookupAnswer tok rec => Sys2Proof.Machine.execAnalysisLookupAnswer tok rec s
  | .boundaryLookupAnswer k tok rec => Sys2Proof.Machine.execBoundaryLookupAnswer k tok rec s
  | .playLookupAnswer k rec => Sys2Proof.Machine.execPlayLookupAnswer k rec s

end Sys2Proof.Machine
end

