-- ==== Sys2Proof/Machine/Step.lean ====
section
/-! DEFINITION. One step of the BX-640: the command at the front of the queue, or on an empty queue the arrival of one
message between two blocks. -/

namespace Sys2Proof.Machine

/-- The places of the messages that may arrive next: those no earlier one must arrive before (0.6, R141). -/
def State.arrivable (s : State) : List Nat :=
  (List.range s.wire.length).filter fun i =>
    match s.wire[i]? with
    | some w => !((s.wire.take i).any fun x => goesBefore x w)
    | none => false

/-- The place of the message that arrives next; which it is where several may is a free value (assumption 2). -/
def State.nextArrival (s : State) : Nat :=
  let l := s.arrivable
  if l.length ≤ 1 then 0 else (l[Config.arrival s.arrivals % l.length]?).getD 0

/-- The message at place `n` has been taken off the wire. -/
def State.takeWire (s : State) (n : Nat) : State :=
  { s with wire := s.wire.eraseIdx n, arrivals := s.arrivals + 1 }

/-- Deliver the message that arrives next, or idle when none is on its way (assumption 1). -/
def State.deliver (s : State) : Result :=
  match s.wire[s.nextArrival]? with
  | some w => exec w.msg (s.takeWire s.nextArrival)
  | none => .next s

/-- Take the command at the front of the queue and run it with the queue's rest; on an empty queue, deliver. -/
def step (s : State) : Host.Outcome State Fault Refusal :=
  match s.pending with
  | c :: rest => exec c { s with pending := rest }
  | [] => s.deliver

/-- The state with a word's command at the front of its queue; unchanged where the word spells none. -/
def State.withFetchWord (s : State) (nbits w : Nat) : State :=
  match decodeTableWord nbits w with
  | some c => { s with pending := c :: s.pending }
  | none => s

end Sys2Proof.Machine
end

