-- ==== Sys2Proof/Safety.lean ====
section
/-! DEFINITION. The terms statements use: which part of the state a command leaves alone, what a run counts as safe, and the
rules that every step keeps. -/

namespace Sys2Proof.Machine

/-! ## Frames -/

/-- Only messages have been sent. -/
def onlyWire (s t : State) : Prop := t = { s with wire := t.wire }

/-- Only the card table, messages and attempt numbers differ. -/
def onlyCi (s t : State) : Prop := t = { s with ci := t.ci, wire := t.wire, token := t.token }

/-- Only the Catalog and messages differ. -/
def onlyCat (s t : State) : Prop := t = { s with cat := t.cat, wire := t.wire }

/-- Only the Catalog, messages and attempt numbers differ: a new record takes a number (assumption 58). -/
def onlyListed (s t : State) : Prop := t = { s with cat := t.cat, wire := t.wire, token := t.token }

/-- Only the Order Dispatcher and messages differ. -/
def onlyOds (s t : State) : Prop := t = { s with ods := t.ods, wire := t.wire }

/-- Only the channels, the Staging Store, messages and attempt numbers differ. -/
def onlyCc (s t : State) : Prop := t = { s with cc := t.cc, sts := t.sts, wire := t.wire, token := t.token }

/-- Only the destination ports, messages and attempt numbers differ. -/
def onlyDp (s t : State) : Prop := t = { s with dp := t.dp, wire := t.wire, token := t.token }

/-- Only the Frame Extractor, the Preview Pool, the Inspector, messages and attempt numbers differ: a placed plane may be
taken at once by the engine (R141), and a live pass starts its continuity context (R137). -/
def onlyFrames (s t : State) : Prop :=
  t = { s with fx := t.fx, pp := t.pp, ins := t.ins, wire := t.wire, token := t.token }

/-- Only the Fault List, messages and attempt numbers differ. -/
def onlyFl (s t : State) : Prop := t = { s with fl := t.fl, wire := t.wire, token := t.token }

/-- Only the Look Bank, messages and attempt numbers differ. -/
def onlyLb (s t : State) : Prop := t = { s with lb := t.lb, wire := t.wire, token := t.token }

/-- Only the outputs and group clocks, messages and attempt numbers differ. -/
def onlyRo (s t : State) : Prop := t = { s with ro := t.ro, wire := t.wire, token := t.token }

/-- Only the Station Ports and messages differ. -/
def onlySp (s t : State) : Prop := t = { s with sp := t.sp, wire := t.wire }

/-- Every bay but one is as it was. -/
def otherBays (b : Bay) (s t : State) : Prop := ∀ x, x ≠ b → t.bay x = s.bay x

/-- Every clip record but one is as it was, and no record is added or removed. -/
def otherClips (id : Nat) (s t : State) : Prop :=
  (∀ x, x ≠ id → t.clip? x = s.clip? x) ∧ t.cat.clips.map (·.id) = s.cat.clips.map (·.id)

/-- Every channel but one is as it was. -/
def otherChans (ch : Chan) (s t : State) : Prop := ∀ x, x ≠ ch → t.chan x = s.chan x

/-- Every port but one is as it was. -/
def otherPorts (p : Port) (s t : State) : Prop := ∀ x, x ≠ p → t.port x = s.port x

/-- Every output but one is as it was. -/
def otherOuts (k : Outp) (s t : State) : Prop := ∀ x, x ≠ k → t.out x = s.out x

/-- Every station but one is as it was. -/
def otherStations (st : Stn) (s t : State) : Prop := ∀ x, x ≠ st → t.station x = s.station x

/-- Every look slot but one is as it was. -/
def otherLooks (i : LookIx) (s t : State) : Prop := ∀ x, x ≠ i → t.look x = s.look x

/-! ## One record changes -/

/-- A clip record becomes `c`, every other record is as it was, and apart from messages nothing else changes. -/
def clipBecomes (c : Clip) (s t : State) : Prop := t.clip? c.id = some c ∧ otherClips c.id s t ∧ onlyCat s t

/-- A channel's context becomes `c`, every other channel and the Staging Store are as they were, and apart from messages and
attempt numbers nothing else changes. The watches of ports are not constrained (R102). -/
def chanBecomes (ch : Chan) (c : Channel) (s t : State) : Prop :=
  t.chan ch = c ∧ otherChans ch s t ∧ t.sts = s.sts ∧ onlyCc s t

/-- The element of a port in a channel's destination list becomes `e`, its other elements are as they were, `n` requests to
that port are outstanding, and an element that is DROPPED is no member of the repair pass. Everything else of the channel's
context is as it was, and so are the other channels; apart from the Staging Store and messages nothing else changes. The
watches of ports are not constrained (R102). -/
def elemBecomes (ch : Chan) (p : Port) (e : Elem) (n : Nat) (s t : State) : Prop :=
  t.chan ch = { s.chan ch with
    dests := (t.chan ch).dests
    outstanding := upd (s.chan ch).outstanding p fun _ => n
    repair := if e.phase = .dropped then (s.chan ch).repair.map fun r => { r with members := r.members.filter fun x => x ≠ p }
      else (s.chan ch).repair } ∧
  (t.chan ch).dests.map (·.port) = (s.chan ch).dests.map (·.port) ∧ (t.chan ch).elem? p = some e ∧
  (∀ x, x ≠ p → (t.chan ch).elem? x = (s.chan ch).elem? x) ∧ otherChans ch s t ∧ t.token = s.token ∧ onlyCc s t

/-- A port's context becomes `c`, every other port is as it was, and apart from messages and attempt numbers nothing else
changes. -/
def portBecomes (p : Port) (c : PortCtx) (s t : State) : Prop := t.port p = c ∧ otherPorts p s t ∧ onlyDp s t

/-- A live context becomes `x`, the other contexts of the Frame Extractor are as they were, and apart from messages nothing
else changes. -/
def liveBecomes (c : Chan) (x : LiveCtx) (s t : State) : Prop :=
  t.liveCtx c = x ∧ (∀ d, d ≠ c → t.liveCtx d = s.liveCtx d) ∧
  t = { s with fx := { s.fx with live := t.fx.live }, wire := t.wire }

/-- A playback context becomes `x`, the other contexts of the Frame Extractor are as they were, and apart from messages and
attempt numbers nothing else changes. -/
def playBecomes (k : Outp) (x : PlayCtx) (s t : State) : Prop :=
  t.playCtx k = x ∧ (∀ j, j ≠ k → t.playCtx j = s.playCtx j) ∧
  t = { s with fx := { s.fx with play := t.fx.play }, wire := t.wire, token := t.token }

/-- The re-inspection context becomes `x`, and apart from messages nothing else changes. -/
def reBecomes (x : ReCtx) (s t : State) : Prop := t = { s with fx := { s.fx with re := x }, wire := t.wire }

/-- A continuity context becomes `c`, the others are as they were, and apart from messages nothing else changes. -/
def contBecomes (ch : Chan) (c : Continuity) (s t : State) : Prop :=
  t.ins.conts[ch] = c ∧ (∀ d : Chan, d ≠ ch → t.ins.conts[d] = s.ins.conts[d]) ∧
  t = { s with ins := { s.ins with conts := t.ins.conts }, wire := t.wire }

/-- The re-inspection reader becomes `r`, and apart from messages nothing else changes. -/
def readerBecomes (r : Reader) (s t : State) : Prop := t = { s with ins := { s.ins with reader := r }, wire := t.wire }

/-- An output's context becomes `o`, every other output and both clocks are as they were, and apart from messages and attempt
numbers nothing else changes. -/
def outBecomes (k : Outp) (o : Output) (s t : State) : Prop :=
  t.out k = o ∧ otherOuts k s t ∧ t.ro.clocks = s.ro.clocks ∧ onlyRo s t

/-- The settings of an output: the items SET ROUTE changes, but for the late-frame count (R190). -/
def Output.settings (o : Output) : Bool × Nat × Route × Option LookIx × MissState × Option Grp × Int :=
  (o.enabled, o.rate, o.route, o.override_, o.miss, o.group, o.offset)

/-- What an output sends for a chosen plane: the Catalog lookup of its clip, or with a look override the latch read at
once (R192). -/
def lookRequest (k : Outp) (tok : Nat) (o : Output) (clip : Nat) : Wire :=
  match o.override_ with
  | some i => ⟨.ro, .lb, .latchRead [(k, tok, i)]⟩
  | none => ⟨.ro, .cat, .clipLookup (.boundary k tok) clip⟩

/-- What an output sends for a miss or the pattern: the latch read of the override, or else of the slot latched last, or
else of slot 0 (R192). -/
def missRequest (k : Outp) (tok : Nat) (o : Output) : Wire :=
  ⟨.ro, .lb, .latchRead [(k, tok, o.override_.getD ((o.latched.map (·.slot)).getD 0))]⟩

/-- A station's context becomes `x`, every other station and both counters are as they were, and apart from messages nothing
else changes. -/
def stationBecomes (st : Stn) (x : Station) (s t : State) : Prop :=
  t.station st = x ∧ otherStations st s t ∧ t.sp.seq = s.sp.seq ∧ t.sp.rid = s.sp.rid ∧ onlySp s t

/-- A look slot becomes `x`, every other slot, the camera defaults and the fill are as they were, and apart from messages
nothing else changes. -/
def lookBecomes (i : LookIx) (x : LookSlot) (s t : State) : Prop :=
  t.look i = x ∧ otherLooks i s t ∧ t.lb.defaults = s.lb.defaults ∧ t.lb.fill = s.lb.fill ∧ t.token = s.token ∧ onlyLb s t

/-! ## Messages a command sends -/

/-- A notice on its way to the Station Ports. -/
def noticeOf (src : Node) (n : Notice) : Wire := ⟨src, .sp, .noticeTaken n⟩

/-- The answer to a request on its way to the Station Ports. -/
def answerOf (src : Node) (q : Req) (a : Answer) : Wire := ⟨src, .sp, .blockAnswer q a⟩

/-- An acceptance that carries values, none of them clamped. -/
def acceptOf (src : Node) (q : Req) (vals : List Field) : Wire := answerOf src q (.accepted false vals)

/-- A refusal with a code that carries no reason. -/
def refuseOf (src : Node) (q : Req) (c : Code) : Wire := answerOf src q (.refused c none [])

/-- A refusal STATE with its reason. -/
def refuseStateOf (src : Node) (q : Req) (r : Reason) : Wire := answerOf src q (.refused .state (some r) [])

/-- What the Order Dispatcher is told when a bay's entry becomes `e`: nothing while state, serial and reading stay (R50). -/
def bayReport (s : State) (b : Bay) (e : BayEntry) : List Wire :=
  if e.view = (s.bay b).view then [] else [⟨.ci, .ods, .bayViewReport b e.view⟩]

/-- What the Order Dispatcher is told when a port's context becomes `c`: nothing while its five values stay (R92). -/
def portReport (s : State) (p : Port) (c : PortCtx) : List Wire :=
  if c.view = (s.port p).view then [] else [⟨.dp p, .ods, .destViewReport p c.view⟩]

/-- The answer to a watch (R102). -/
def isWatchAnswer (w : Wire) : Bool :=
  match w.msg with
  | .watchAnswer _ _ _ => true
  | _ => false

/-- The messages a command of a channel has sent, but for the answers to the watches it has closed (R102). -/
def sends (s t : State) (l : List Wire) : Prop :=
  s.wire <+: t.wire ∧ (t.wire.drop s.wire.length).filter (fun w => !isWatchAnswer w) = l

/-- The notice of a change of clip state, when the state is another (R37). -/
def clipStateReport (c : Clip) (order : Option Nat) (new : ClipState) : List Wire :=
  if new = c.state then [] else [noticeOf .cat (stateNotice c order new)]

/-- The searches for found copies of a record: one to each port that is READY, SOAKING or DETACHING, none for an UNSUPPORTED
record (R27). -/
def searchesOf (s : State) (c : Clip) : List Wire :=
  if c.state = .unsupported then [] else
  ((List.finRange 4).filter fun p =>
    (s.port p).state = .ready || (s.port p).state = .soaking || (s.port p).state = .detaching).map
    fun p => ⟨.cat, .dp p, .foundCopySearch p c.serial c.clipNo c.desc.dataLen⟩

/-- An occurrence of count 1 with no span, on its way to the Fault List. -/
def filedOf (src : Node) (clip : Nat) (kind : FindingKind) (qual : Option Qualifier) : Wire :=
  ⟨src, .fl, .occurrence { clip := clip, kind := kind, count := 1, span := none, qual := qual }⟩

/-- The finding UNSUPPORTED_CLIP, for a record that is UNSUPPORTED (R24, R26). -/
def unsupportedOf (c : Clip) : List Wire :=
  if c.state = .unsupported then [filedOf .cat c.id .unsupportedClip none] else []

/-- The notice of a copy's new state, and the finding a FAILED copy's cause calls for (R30). -/
def copyReport (c : Clip) (x : Copy) : List Wire :=
  noticeOf .cat (copyStateNotice c x) ::
    (match x.state, x.cause.bind failKind with
      | .failed, some k => [filedOf .cat c.id k (some (.volume x.vol))]
      | _, _ => [])

/-- A port's answer to a write-class request (R107). -/
def writeAnswerOf (p : Port) (r : WriteReq) (a : WriteAns) : Wire :=
  match r with
  | .header ch order _ _ _ _ => ⟨.dp p, .cc ch, .headerWriteAnswer ch order p a⟩
  | .rewrite ch order _ _ => ⟨.dp p, .cc ch, .headerRewriteAnswer ch order p a⟩
  | .extent ch order num _ => ⟨.dp p, .cc ch, .extentWriteAnswer ch order p num a⟩

/-- A port's answer to a read-class request that gives no data: a verify read that fails is a mismatch (R103, R107). -/
def readAnswerOf (p : Port) (r : ReadReq) (a : ReadEnd) : Wire :=
  match r with
  | .verify ch order ext _ _ _ => ⟨.dp p, .cc ch, .verifyReadAnswer ch order p ext
      (match a with | .failed => .mismatch | .lost => .lost | .withdrawn => .withdrawn)⟩
  | .reinspect _ _ run => ⟨.dp p, .ins, .reinspectReadAnswer run
      (match a with | .failed => .failed | .lost => .lost | .withdrawn => .withdrawn)⟩

/-- A port's answer to a playback read (R106, R107). -/
def playAnswerOf (p : Port) (r : PlayReq) (a : ReadAns) : Wire := ⟨.dp p, .fx, .playbackReadAnswer r.k r.rtok a⟩

/-- The LOST answers of all the requests that wait in a port: playback, read and write class (R100, R113). -/
def lostAnswersOf (p : Port) (c : PortCtx) : List Wire :=
  (c.plays.map fun r => playAnswerOf p r .lost) ++ (c.reads.map fun r => readAnswerOf p r .lost) ++
    c.writes.map fun r => writeAnswerOf p r .lost

/-- The LOST answer of the request a drive operation performs, where it performs one (R113). -/
def lostOpOf (p : Port) (k : OpKind) : List Wire :=
  match k with
  | .play r => [playAnswerOf p r .lost]
  | .read r => [readAnswerOf p r .lost]
  | .write r => [writeAnswerOf p r .lost]
  | .ident | .label | .walk _ | .sumList _ _ _ | .format _ | .soakWrite _ | .soakRead _ | .discarded _ => []

/-- The hot-site table after a live frame's candidates have been offered in their order, and the findings filed (R147). -/
def sitesOffered (letter : Letter) (clip : Nat) (cs : List (Nat × Nat)) (sites : List Site) : List Site × List Wire :=
  cs.foldl (fun acc c =>
    let r := offerSite acc.1 letter c.1 c.2 clip
    (r.1, acc.2 ++ if r.2 then [filedOf .ins clip .hotSite (some (.site c.1 c.2))] else [])) (sites, [])

/-- A position of a frame comes before another in raster order (R146). -/
def rasterBefore (a b : Nat × Nat) : Prop := a.2 < b.2 ∨ a.2 = b.2 ∧ a.1 < b.1

/-- A position of a frame's luma values is a hot-site candidate (R146). -/
def isHot (ys : List Nat) (hot : Nat) (a : Nat × Nat) : Prop :=
  1 ≤ a.1 ∧ a.1 ≤ 958 ∧ 1 ≤ a.2 ∧ a.2 ≤ 538 ∧ hot ≤ ys.getD (a.2 * 960 + a.1) 0 ∧
  ys.getD (a.2 * 960 + a.1 - 1) 0 < hot / 2 ∧ ys.getD (a.2 * 960 + a.1 + 1) 0 < hot / 2 ∧
  ys.getD ((a.2 - 1) * 960 + a.1) 0 < hot / 2 ∧ ys.getD ((a.2 + 1) * 960 + a.1) 0 < hot / 2

/-- An occurrence with a span, on its way to the Fault List from the Inspector. -/
def spanFiled (clip : Nat) (kind : FindingKind) (first last : Nat) : Wire :=
  ⟨.ins, .fl, .occurrence { clip := clip, kind := kind, count := 1, span := some (first, last), qual := none }⟩

/-- A soak's own operation is finished with its result discarded; any other goes on (R119). -/
def discardSoak (o : DriveOp) : DriveOp :=
  match o.kind with
  | .soakWrite _ | .soakRead _ => { o with kind := .discarded o.kind }
  | .ident | .label | .walk _ | .sumList _ _ _ | .format _ | .play _ | .read _ | .write _ | .discarded _ => o

/-- A format's own operation is finished with its result discarded; any other goes on (R110, assumption 96). -/
def discardFormat (o : DriveOp) : DriveOp :=
  match o.kind with
  | .format _ => { o with kind := .discarded o.kind }
  | .ident | .label | .walk _ | .sumList _ _ _ | .soakWrite _ | .soakRead _ | .play _ | .read _ | .write _ | .discarded _ => o

/-! ## What becomes of a copy list -/

/-- What a found offer makes of a clip's copy list (R32): `x`, at place `i` of the list `l`, is a new copy record, or the
only one of its volume, FOUND or STALE, re-pointed from a lower header block. -/
def offered (c : Clip) (p : Port) (vol : Serial) (hb : Nat) (sums : List Sum32) (x : Copy) (i : Nat) (l : List Copy) :
    Prop :=
  ((∀ y ∈ c.copies, y.vol ≠ vol) ∧
    x = { port := p, vol := vol, hb := hb, state := .found, cause := none, written := c.extents, passes := 0
          mismatch := none, recorded := some sums } ∧
    placeCopy c.copies x = some l ∧ i = l.length - 1) ∨
  ∃ y, (c.copies.filter fun z => z.vol = vol) = [y] ∧ (y.state = .found ∨ y.state = .stale) ∧ y.hb < hb ∧
    x = { y with hb := hb, port := p, recorded := some sums, state := .found, cause := none } ∧
    i = (c.copies.findIdx fun z => z.vol = vol) ∧ l = c.copies.set i x

/-- A copy after its clip's source sums have become complete: a FOUND one is resolved (R33). -/
def resolvedCopy (sums : List Sum32) (x : Copy) : Copy :=
  if x.state = .found then
    if x.recorded = some sums then { x with state := .verified, recorded := none }
    else { x with state := .stale, cause := none, recorded := none }
  else x

/-- What the resolution of a copy tells: the stations, and the Fault List and the Order Dispatcher of a VERIFIED copy or the
Fault List of a mismatch (R30, R33). -/
def resolveReport (c : Clip) (sums : List Sum32) (x : Copy) : List Wire :=
  if x.state = .found then
    noticeOf .cat (copyStateNotice c (resolvedCopy sums x)) ::
      if x.recorded = some sums then
        [⟨.cat, .fl, .verifiedCopyReport c.id x.vol⟩, ⟨.cat, .ods, .catalogDispatchReport c.id⟩]
      else [filedOf .cat c.id .foundMismatch (some (.volume x.vol))]
  else []

/-- The state of a clip after it has been computed again: only that of a clip with no order that is VERIFIED or SHORT is
(R37). -/
def settledState (c : Clip) : ClipState :=
  if c.order = none ∧ c.state ≠ .unsupported ∧ c.state ≠ .listed then c.settled else c.state

/-! ## Outputs and resets -/

/-- The slot an output latches at a miss or the pattern: its override, or else the slot latched last, or else slot 0
(R192). -/
def missSlot (o : Output) : LookIx := o.override_.getD ((o.latched.map (·.slot)).getD 0)

/-- How far an output's boundary has got once it has chosen a plane: ready with its override, or awaiting the plane's clip
(R192). -/
def planeStage (o : Output) : BoundaryStage :=
  match o.override_ with
  | some i => .ready i
  | none => .lookup

/-- The Catalog lookup an output without an override sends for the clip of a chosen plane (R192). -/
def planeLookup (k : Outp) (tok : Nat) (o : Output) (clip : Nat) : List Wire :=
  match o.override_ with
  | some _ => []
  | none => [⟨.ro, .cat, .clipLookup (.boundary k tok) clip⟩]

/-- The drops an output sends for the slots it holds when its playing is stopped or ends: those placed in its prefetch list,
then the current one (R198, R199). -/
def slotDrops (k : Outp) (o : Output) : List Wire :=
  ((o.prefetch.filterMap (·.slot?)) ++ (o.current.map (·.slot)).toList).map fun n => ⟨.ro, .pp, .slotDrop k n⟩

/-- Every block but the Station Ports holds its reset values, and has then taken the insertion of each card and the attach
of each drive that the pins show: the bays in ascending order, then the ports (R1, R2, R91, R94, R203, R213). -/
def restarted (p : Pins) (s t : State) : Prop :=
  ∀ l m, l = (List.finRange 6).filter (fun b : Bay => p.cardDetect[b]) →
    m = (List.finRange 4).filter (fun d : Port => p.driveDetect[d]) →
    t = { State.reset with ci := t.ci, dp := t.dp, sp := t.sp, pins := p, wire := t.wire, token := t.token
                           arrivals := s.arrivals, pending := s.pending } ∧
    (∀ b, b ∉ l → t.bay b = {}) ∧ (∀ d, d ∉ m → t.port d = {}) ∧
    (∀ i b n, l[i]? = some b → n = s.token + i →
      t.bay b = { state := .listing, wp := p.writeProt[b], ins := n, listing := some { phase := .ident, tok := n } }) ∧
    (∀ i d n, m[i]? = some d → n = s.token + l.length + i →
      t.port d = { state := .scanning
                   op := some { kind := .ident, tok := n, attempt := 1, raise := none, cmd := .identify } }) ∧
    t.token = s.token + l.length + m.length ∧
    t.wire = liveZero ++
      l.flatMap (fun b => [⟨.ci, .ods, .bayViewReport b { state := .listing, serial := none, reading := false }⟩,
        noticeOf .ci { sub := .cardInserted, bay := some b }]) ++
      m.flatMap fun d => [⟨.dp d, .ods, .destViewReport d { state := .scanning, vol := none, qual := .untested
                                                            indexFull := false, free := 0 }⟩,
        noticeOf (.dp d) (portNotice .destAttached d none [])]

/-! ## What a request carries -/

/-- An item of WRITE LOOK as a station sends it: an optional field whose value is an optional part (R216, assumption 9). -/
def fItem {α : Type} (widths : List Nat) (f : α → List Field) (x : Item α) : List Field :=
  fOpt (1 :: widths) (fOpt widths f)
    (match x with | .notCarried => none | .absent => some none | .values a => some (some a))

/-- What PAUSE and STOP name, as a station sends it: 1 and an output, or 2 and a group (R216, assumption 9). -/
def fTarget (x : PlayTarget) : List Field :=
  match x with
  | .output n => u8 1 ++ u8 n
  | .group n => u8 2 ++ u8 n

/-- The items of WRITE LOOK as a station sends them (R175, R216, assumption 9). -/
def fLookItems (x : LookItems) : List Field :=
  fItem (List.replicate 9 2) (fun m => m.toList.flatMap (fInt 2)) x.matrix ++ fItem (List.replicate 6 2) fTrim x.trim ++
  fItem (List.replicate 99 2) (fun c => c.toList.flatMap fun v => v.toList.flatMap u16) x.curves ++
  fItem [1] u8 x.enc ++ fOpt [1] fName x.name

/-- Every number of WRITE LOOK's items lies in the bytes it is sent in. -/
def lookItemsFit (x : LookItems) : Prop :=
  (∀ m, x.matrix = .values m → ∀ v ∈ m.toList, -32768 ≤ v ∧ v < 32768) ∧
  (∀ t, x.trim = .values t → ∀ c ∈ t.toList, c.gain < 65536 ∧ -32768 ≤ c.offset ∧ c.offset < 32768) ∧
  (∀ u, x.curves = .values u → ∀ v ∈ u.toList, ∀ n ∈ v.toList, n < 65536) ∧
  (∀ n, x.enc = .values n → n < 256) ∧ ∀ l, x.name = some l → l.length < 256 ∧ ∀ n ∈ l, n < 256

/-- The items of SET ROUTE as a station sends them; the clear-late flag is an optional one, absent when it is not set (R190,
R216, assumption 9). -/
def fRouteItems (x : RouteItems) : List Field :=
  fOpt [1] fFlag x.enabled ++ fOpt [1] u8 x.rate ++ fOpt [1] u8 x.route ++ fOpt [1, 1] (fOpt [1] u8) x.override_ ++
  fOpt [1] u8 x.miss ++ fOpt [1] u8 x.group ++ fOpt [1] (fInt 1) x.offset ++
  fOpt [1] fFlag (if x.clearLate then some true else none)

/-- Every number of SET ROUTE's items lies in the byte it is sent in. -/
def routeItemsFit (x : RouteItems) : Prop :=
  (∀ n, x.rate = some n ∨ x.route = some n ∨ x.override_ = some (some n) ∨ x.miss = some n ∨ x.group = some n → n < 256) ∧
  ∀ v, x.offset = some v → -128 ≤ v ∧ v < 128

/-- The items of SET THRESHOLDS as a station sends them (R149, R216). -/
def fThresholdItems (x : ThresholdItems) : List Field :=
  fOpt [2] u16 x.clipLevel ++ fOpt [4] u32 x.clipArea ++ fOpt [1] u8 x.clipRun ++ fOpt [2] u16 x.blackLevel ++
  fOpt [2] u16 x.darkLimit ++ fOpt [2] u16 x.hotLevel

/-- Every number of SET THRESHOLDS's items lies in the bytes it is sent in. -/
def thresholdItemsFit (x : ThresholdItems) : Prop :=
  (∀ n, x.clipLevel = some n ∨ x.blackLevel = some n ∨ x.darkLimit = some n ∨ x.hotLevel = some n → n < 65536) ∧
  (∀ n, x.clipArea = some n → n < 4294967296) ∧ ∀ n, x.clipRun = some n → n < 256

/-- The fields of SET FILTER as a station sends them (R210, R216, assumption 9). -/
def fFilterItems (x : FilterItems) : List Field :=
  fFlag x.enabled ++ fList u8 x.kinds ++ fOpt [1] u8 x.letter ++ fOpt [1] u8 x.bay ++ u8 x.minClass

/-- Every number of SET FILTER's fields lies in the bytes it is sent in. -/
def filterItemsFit (x : FilterItems) : Prop :=
  x.kinds.length < 65536 ∧ (∀ n, n ∈ x.kinds ∨ x.letter = some n ∨ x.bay = some n → n < 256) ∧ x.minClass < 256

/-! ## What a query's response carries -/

/-- A query is accepted with values, and changes no state. -/
def answers (c : Instr) (s : State) (src : Node) (q : Req) (vals : List Field) : Prop :=
  ∃ t, exec c s = .next t ∧ onlyWire s t ∧ t.wire = s.wire ++ [acceptOf src q vals]

/-- A number in 1 byte: a named value by its place, counted from 1 (R216). -/
def fPlace (n : Nat) : List Field := [⟨1, n + 1⟩]

/-- What QUERY BAY carries of an entry (R22). -/
def bayValues (e : BayEntry) : List Field :=
  fPlace e.state.ctorIdx ++ fOpt [8] fSerial e.serial ++ fOpt [1] fLetter e.letter ++ fOpt [2] u16 e.body ++ fFlag e.wp ++
  u8 e.cls ++ fFlag e.listed ++ u8 e.required ++ fOpt [1] (fun c => fPlace c.ctorIdx) e.cause ++
  fOpt [1] (fun c : Chan => u8 c.val) e.reader ++ fList (fun c : Chan => u8 c.val) e.claims ++ u16 e.map.length

/-- What QUERY CLIP carries of a copy: all but the recorded sums (R43). -/
def copyValues (x : Copy) : List Field :=
  u8 x.port.val ++ fSerial x.vol ++ u64 x.hb ++ fPlace x.state.ctorIdx ++ fOpt [1] (fun k => fPlace k.ctorIdx) x.cause ++
  u16 x.written ++ u8 x.passes ++ fOpt [2] (fList u16) x.mismatch

/-- What QUERY CLIP carries: all but the sum lists, of which it gives the number held and whether they are complete, and
whether a description is held (R43). -/
def clipValues (c : Clip) : List Field :=
  u16 c.id ++ fSerial c.serial ++ u16 c.clipNo ++ fLetter c.desc.letter ++ u16 c.desc.reel ++ fTc c.desc.start ++
  u8 c.desc.rate ++ fFlag c.desc.drop ++ u32 c.desc.frames ++ u64 c.desc.dataLen ++ u16 c.extents ++ u8 c.required ++
  fPlace c.state.ctorIdx ++ u16 (c.sums.getD []).length ++ fFlag (c.sums.any fun l => l.length = c.extents) ++
  fList copyValues c.copies ++ u8 c.look.val ++ fOpt [1, 2] (fun x => u8 x.1.val ++ u16 x.2) c.stamp ++ u32 c.inspected ++
  u32 c.skipped ++ fPlace c.insp.ctorIdx ++ u16 c.blocking ++ fFlag c.overflow ++ fOpt [2] u16 c.order ++ fFlag c.held.isSome

/-- What LIST CARD carries of a clip (R44). -/
def cardClipValues (c : Clip) : List Field :=
  u16 c.id ++ u16 c.clipNo ++ fPlace c.state.ctorIdx ++ u8 c.required ++
  u8 (c.copies.filter fun x => x.state = .verified).length ++ u16 c.blocking ++ fFlag c.overflow

/-- The effective priority of an order (R54, assumption 63). -/
def effectiveValue (o : Order) : List Field := u8 (if 4 ≤ o.passed then 3 else o.priority)

/-- What QUERY ORDER carries (R64). -/
def orderValues (o : Order) : List Field :=
  u16 o.id ++ u16 o.clip ++ fSerial o.serial ++ fLetter o.letter ++ fList (fun p : Port => u8 p.val) o.dests ++
  u8 o.priority ++ u8 o.passed ++ u8 o.station.val ++ fPlace o.state.ctorIdx ++
  fOpt [1] (fun c : Chan => u8 c.val) o.chan ++ fOpt [1] (fun k => fPlace k.ctorIdx) o.cause ++ fFlag o.abort ++
  effectiveValue o

/-- What LIST ORDERS carries of an order (R64). -/
def listedOrderValues (o : Order) : List Field :=
  u16 o.id ++ u16 o.clip ++ fSerial o.serial ++ fPlace o.state.ctorIdx ++ u8 o.priority ++ effectiveValue o ++ u8 o.passed ++
  fOpt [1] (fun c : Chan => u8 c.val) o.chan ++ fOpt [1] (fun c => fPlace c.ctorIdx) o.cause

/-- What LIST ORDERS carries: an entry whose bind is outstanding is not in it (R48, R64). -/
def orderListValues (d : Dispatcher) : List Field :=
  fPlace d.mode.ctorIdx ++ d.chans.toList.flatMap (fOpt [2] u16) ++
  fList listedOrderValues (d.orders.filter fun o => o.state ≠ .reserved)

/-- What QUERY CHANNEL carries (R90). -/
def channelValues (s : State) (ch : Chan) (c : Channel) : List Field :=
  fPlace c.phase.ctorIdx ++ fOpt [2] u16 c.order ++ fOpt [2] u16 c.clip ++ fSerial c.serial ++
  fOpt [1] (fun m => fPlace m.ctorIdx) c.mode ++ u16 c.sums.length ++ u16 c.next ++ fPlace c.claim.ctorIdx ++
  fFlag c.bufferWait ++ u8 (s.sts.bufs.filter fun x => x.owner = ch).length ++
  fList (fun e : Elem => u8 e.port.val ++ fPlace e.phase.ctorIdx ++ u16 e.written ++ u16 e.nextVerify ++
    fList u16 e.repairList) c.dests ++
  fOpt [2] (fun r : RepairPass => fList u16 r.exts) c.repair ++ fFlag c.abort ++ fOpt [1, 1, 1] fEnd c.ended

/-- What QUERY STORE carries: the buffers FREE, FILLING and DRAINING, the same of each channel and whether it waits, and the
channel granted last (R90). -/
def storeValues (t : Staging) : List Field :=
  u16 (256 - t.bufs.length) ++ u16 (t.bufs.filter fun b => b.pend = []).length ++
  u16 (t.bufs.filter fun b => b.pend ≠ []).length ++
  ((List.finRange 3).flatMap fun ch => u8 (t.bufs.filter fun b => b.owner = ch ∧ b.pend = []).length ++
    u8 (t.bufs.filter fun b => b.owner = ch ∧ b.pend ≠ []).length ++ fFlag (decide (∃ w ∈ t.waits, w.ch = ch))) ++
  u8 t.last.val

/-- What QUERY PORT carries (R120). -/
def portValues (c : PortCtx) : List Field :=
  fPlace c.state.ctorIdx ++ fOpt [8] u64 c.capacity ++ fOpt [8] fSerial c.vol ++ fOpt [8] u64 c.recEnd ++
  fOpt [8] u64 c.alloc ++ u64 c.free ++ fPlace c.qual.ctorIdx ++ u16 c.index.length ++
  u16 (c.index.filter fun e => e.sums.isSome).length ++ fFlag (decide (4096 ≤ c.index.length)) ++
  c.holders.toList.flatMap (fOpt [2, 8] fun h => u16 h.1 ++ u64 h.2) ++ u8 c.plays.length ++ u8 c.reads.length ++
  u16 c.writes.length ++ u8 (if c.soakWaiting then 1 else 0) ++
  fOpt [1, 1, 1, 1] (fun o : DriveOp => fPlace o.kind.report.1 ++ fOpt [1] u8 o.kind.report.2 ++ u8 o.attempt) c.op ++
  fFlag c.format.isSome ++
  fOpt [1, 4, 4, 2] (fun x : Soak => fPlace x.phase.ctorIdx ++ u32 x.pos ++ u32 x.len ++ u16 x.errors) c.soak

/-- What QUERY INDEX carries: up to 64 entries from the first, and how many there are (R120). -/
def indexValues (l : List IndexEntry) (first : Nat) : List Field :=
  fList (fun e : IndexEntry => u64 e.hb ++ fSerial e.serial ++ u16 e.clipNo ++ u64 e.len ++
    u8 (if e.sums.isSome then 2 else 1)) ((l.drop first).take 64) ++ u16 l.length

/-- What QUERY POOL carries (R136). -/
def poolValues (s : State) : List Field :=
  u8 (64 - s.pp.slots.length) ++
  fList (fun x : Slot => u8 x.num ++ fSource x.src ++ u16 x.hdr.clip ++ u32 x.hdr.index ++ fList fHolder x.holders)
    s.pp.slots ++ fList u8 s.pp.queue ++
  ((List.finRange 3).flatMap fun c => u8 s.fx.steps[c] ++ u16 s.pp.seqs[c] ++ fOpt [1] (fun x : Slot => u8 x.num)
    (s.pp.slots.find? fun x => decide (Holder.newest c ∈ x.holders))) ++
  fList (fun e : Settle => u16 e.pass ++ u16 e.clip ++ u32 e.skipped ++ u8 e.left) s.fx.settle ++
  s.fx.live.toList.flatMap (fun x => fParse x.parse ++ u32 x.placed ++ u32 x.skipped) ++
  s.fx.play.toList.flatMap (fun x => fParse x.parse) ++ fParse s.fx.re.parse ++ u32 s.fx.re.placed ++ u32 s.fx.re.skipped

/-- What QUERY INSPECTOR carries (R156). -/
def inspectorValues (i : Inspector) (x : Reader) : List Field :=
  fLimits i.limits ++ u8 (if i.engine = none then 1 else 2) ++
  fOpt [1, 1, 1, 2, 2, 4] (fun a : Analysis => u8 a.slot ++ fSource a.src ++ u16 a.hdr.clip ++ u32 a.hdr.index) i.engine ++
  i.conts.toList.flatMap (fun c => u8 (if c.checking then 2 else 1) ++ fOpt [2] u16 c.clip ++ fOpt [4] u32 c.lastIndex ++
    fOpt [1, 1, 1, 1] fTc c.lastTc) ++
  i.ctxs.toList.flatMap (fun c => u16 c.pass ++ fOpt [2] u16 c.clip ++ u8 c.run ++ fOpt [4] u32 c.runFirst ++
    fFlag c.filed) ++
  fPlace x.state.ctorIdx ++ fOpt [2] u16 x.clip ++
  fOpt [1, 8] (fun y : Source => u8 y.port.val ++ fSerial y.vol) x.src ++ u64 x.next ++ u32 x.left ++ u32 x.placed ++
  u32 x.anal ++ fOpt [1] (fun k => fPlace k.ctorIdx) x.ended ++ u16 i.sites.length

/-- What QUERY SITES carries (R156). -/
def siteValues (l : List Site) (first : Nat) : List Field :=
  fList (fun e : Site => fLetter e.letter ++ u16 e.x ++ u16 e.y ++ u8 e.hits ++ fFlag e.reported ++ u16 e.clip)
    ((l.drop first).take 64) ++ u16 l.length

/-- What QUERY FINDING carries of a finding (R171). -/
def findingValues (f : Finding) : List Field :=
  u16 f.id ++ u16 f.clip ++ fSerial f.serial ++ fLetter f.letter ++ fPlace f.kind.ctorIdx ++ fPlace f.cls.ctorIdx ++
  fQualifier f.qual ++ fSpan f.span ++ u16 f.count ++ fPlace f.state.ctorIdx ++ fOpt [1] (fun x : Stn => u8 x.val) f.ackBy ++
  fOpt [1, 1] fClearedBy f.clearBy

/-- A finding passes the selectors of LIST FINDINGS (R171). -/
def selected (clip : Option Nat) (states : List Nat) (cls : Nat) (f : Finding) : Bool :=
  clip.all (fun c => f.clip = c) && (states.isEmpty || states.contains (f.state.ctorIdx + 1)) && cls ≤ f.cls.ctorIdx + 1

/-- What LIST FINDINGS carries: up to 64 of the findings that pass, how many pass, how many are held, and the id counter
(R171). -/
def findingListValues (l : FaultList) (pass : List Finding) (first : Nat) : List Field :=
  fList (fun f : Finding => u16 f.id ++ u16 f.clip ++ fSerial f.serial ++ fLetter f.letter ++ fPlace f.kind.ctorIdx ++
    fPlace f.cls.ctorIdx ++ fPlace f.state.ctorIdx ++ fSpanQual f.span f.qual ++ u16 f.count) ((pass.drop first).take 64) ++
  u16 pass.length ++ u16 l.list.length ++ u16 l.counter

/-- What QUERY LOOK carries of a slot (R184). -/
def lookValues (b : LookBank) (i : LookIx) (x : LookSlot) : List Field :=
  fLook x.active ++ u16 x.version ++ fName x.name ++ fOpt [1] (fun h : Stn => u8 h.val) x.holder ++
  fOpt ((fLook identityLook).map (·.size)) fLook x.pending ++ fOpt [1] fName x.pendingName ++ fFlag (b.covered i) ++
  fOpt [1] fFlag (b.fill.bind fun f =>
    if f.first ≤ i.val ∧ i.val ≤ f.last then some (decide (i.val < f.next)) else none)

/-- What QUERY BANK carries (R184). -/
def bankValues (b : LookBank) : List Field :=
  b.slots.toList.flatMap (fun x => u16 x.version ++ fName x.name ++ fOpt [1] (fun h : Stn => u8 h.val) x.holder ++
    fFlag x.pending.isSome) ++
  b.defaults.toList.flatMap (fun i => u8 i.val) ++
  fOpt [1, 1, 1, 1, 1, 1, 1] (fun f : Fill => u8 f.first ++ u8 f.last ++ u8 f.next ++ fPreset f.preset ++ u8 f.st.val) b.fill

/-- What QUERY OUTPUT carries: every field of the context but the latched look record, and the clock of its group (R202). -/
def outputValues (s : State) (o : Output) : List Field :=
  fSettings o ++ fPlace o.play.ctorIdx ++
  fOpt [2, 4, 1, 1, 1, 1, 1] (fun c : PlayClip => u16 c.clip ++ u32 c.frames ++ fTc c.start ++ u8 c.rate) o.clip ++
  u32 o.pos ++ fOpt [1, 8, 8, 1] (fun x : Source => u8 x.port.val ++ fSerial x.vol ++ u64 x.hb ++ u8 x.span) o.src ++
  fFlag o.unsynced ++ fList (fun e : Prefetch => u32 e.frame ++ fStatus e.status) o.prefetch ++
  fOpt [1, 2, 4, 1, 1, 1, 1, 4, 1, 1, 2, 2] (fun c : Current => u8 c.slot ++ u16 c.hdr.clip ++ u32 c.hdr.index ++
    fTc c.hdr.tc ++ u32 c.hdr.ordinal ++ fSource c.src ++ u16 c.seq) o.current ++
  fOpt [1, 2] (fun l : Latched => u8 l.slot.val ++ u16 l.version) o.latched ++
  fOpt (List.replicate 1555200 2) (fun l : List Rgb => l.flatMap fun x => u16 x.r ++ u16 x.g ++ u16 x.b) o.store ++
  u16 o.late ++ fOpt [1, 1, 1, 1, 1, 1, 1, 1, 1, 1] (fun g => fTc (s.clock g).tc ++ fOpt [1] u8 (s.clock g).rate ++
    fFlag (s.clock g).running ++ fFlag (s.clock g).first ++ fOpt [1] (fun j : Outp => u8 j.val) (s.clock g).lead) o.group

/-- What QUERY STATION carries (R214). -/
def stationValues (x : Station) (seq : Nat) : List Field :=
  fPlace x.link.ctorIdx ++ fPlace x.role.ctorIdx ++ fFlag x.sup ++ fFlag x.strapFault ++ u8 x.responses.length ++
  u8 x.unanswered ++ u8 x.fifo.length ++ fFlag x.gap ++
  x.filters.toList.flatMap (fun f => fFlag f.enabled ++ fList (fun k : NoticeKind => fPlace k.ctorIdx) f.kinds ++
    fOpt [1] fLetter f.letter ++ fOpt [1] (fun b : Bay => u8 b.val) f.bay ++ fPlace f.minClass.ctorIdx) ++ u32 seq

/-! ## Which commands reset the part -/

/-- A command after which every block may hold its reset values (R203, R213). -/
def resets (c : Instr) : Bool :=
  match c with
  | .powerOnReset _ | .responseSent _ _ => true
  | _ => false

/-! ## A safe outcome -/

/-- A step is safe when it answers a next state: neither a fault nor a refusal. -/
def safe (r : Result) : Prop := ∃ t, r = .next t

/-! ## Rules that every step keeps -/

/-- A bay in LISTING, PRESENT or RELEASED (R4). -/
def liveBay (b : BayState) : Bool := b = .listing || b = .present || b = .released

/-- Reading rights (1.4): claims wait only behind a reader, each channel once and never the reader itself, only a PRESENT
bay has a reader, and only a LISTING bay is being listed. -/
def bayRights (e : BayEntry) : Prop :=
  (e.reader = none → e.claims = []) ∧ e.claims.Nodup ∧ (∀ r, e.reader = some r → r ∉ e.claims ∧ e.state = .present) ∧
  ∀ l, e.listing = some l → e.state = .listing

/-- The card table: reading rights, and no two bays in LISTING, PRESENT or RELEASED hold one serial (R4). -/
def cardTableOk (s : State) : Prop :=
  (∀ b, bayRights (s.bay b)) ∧
  ∀ a b serial, liveBay (s.bay a).state = true → liveBay (s.bay b).state = true → (s.bay a).serial = some serial →
    (s.bay b).serial = some serial → a = b

/-- The Catalog: records ascending by id, ids 0 to 1023, at most 6 copies each, and one record for each card serial and
clip number (R23, R28). -/
def catalogOk (s : State) : Prop :=
  (s.cat.clips.map (·.id)).Pairwise (· < ·) ∧ (∀ c ∈ s.cat.clips, c.id < 1024 ∧ c.copies.length ≤ 6) ∧
  (s.cat.clips.map fun c => (c.serial, c.clipNo)).Nodup

/-- One to three distinct destination ports (R47). -/
def destsOk (l : List Port) : Prop := 1 ≤ l.length ∧ l.length ≤ 3 ∧ l.Nodup

/-- An entry of the order queue (R45 to R48, R54, R58): its values in their ranges, a channel exactly while it runs, a
posting exactly while its bind is outstanding, and an end kind only of a running order. -/
def orderOk (o : Order) : Prop :=
  o.id < 65536 ∧ destsOk o.dests ∧ o.priority ≤ 3 ∧ o.passed ≤ 4 ∧ (o.chan = none ↔ o.state = .reserved ∨ o.state = .pending) ∧
  (o.posting ≠ none ↔ o.state = .reserved) ∧ (o.ending ≠ none → o.chan ≠ none)

/-- The order queue (R45, R46, R49, R53): at most 64 entries, ids of their own and none that a removed order still has, and
each channel taken by the one entry that runs on it. -/
def queueOk (s : State) : Prop :=
  s.ods.orders.length ≤ 64 ∧ (s.ods.orders.map (·.id) ++ s.ods.leaving.map (·.order.id)).Nodup ∧
  (∀ o ∈ s.ods.orders, orderOk o) ∧ (∀ x ∈ s.ods.posts, destsOk x.dests ∧ x.prio ≤ 3) ∧
  ∀ ch id, s.ods.chans[ch] = some id ↔ ∃ o ∈ s.ods.orders, o.id = id ∧ o.chan = some ch

/-- A channel context (R65, R66, R69, R80, R88): empty while IDLE, of one order and clip otherwise; an end kind exactly in
ENDING; the claim, the bursts and the sums only after the live pass has begun, and a repair pass only in FINISHING or
ENDING. -/
def channelOk (c : Channel) : Prop :=
  (c.phase = .idle → c = {}) ∧ (c.phase ≠ .idle → c.order ≠ none ∧ c.clip ≠ none) ∧
  (c.ended ≠ none ↔ c.phase = .ending) ∧ c.ended ≠ some .complete ∧ (c.abort = true → c.ended = some .aborted) ∧
  (c.lookup = true → c.phase = .starting ∧ c.asked = false) ∧ (c.begun = true → c.asked = true) ∧
  (c.begun = true ↔ c.mode ≠ none) ∧ (c.claimAsked = true ∨ c.claim ≠ .none → c.begun = true) ∧
  (c.claim = .held ∨ c.burstOut = true ∨ c.fill ≠ none ∨ c.summing ≠ [] ∨ c.phase = .reading ∨ c.phase = .finishing →
    c.begun = true ∧ c.phase ≠ .starting) ∧
  (c.repair ≠ none → c.phase = .finishing ∨ c.phase = .ending)

/-- The channels, and no watch left whose element is no longer ALIVE (R102). -/
def channelsOk (s : State) : Prop :=
  (∀ ch, channelOk (s.chan ch)) ∧ ∀ w ∈ s.cc.watches, (s.chan w.2.1).aliveFor w.1 w.2.2 = true

/-- The Staging Store: buffers ascending by number, numbers 0 to 255, and at most 96 of each channel (R71). -/
def stagingOk (s : State) : Prop :=
  (s.sts.bufs.map (·.num)).Pairwise (· < ·) ∧ (∀ b ∈ s.sts.bufs, b.num < 256) ∧ ∀ ch, s.sts.held ch ≤ 96

/-- A port's pointers stay within its drive (R91, R101): the allocation pointer and the recorded end never pass the
capacity, a format has room for its label and one block more, and what an operation in progress will write keeps so. -/
def portOk (c : PortCtx) : Prop :=
  c.alloc.getD 0 ≤ c.capacity.getD 0 ∧ c.recEnd.getD 0 ≤ c.capacity.getD 0 ∧
  (c.format.isSome = true → 2 ≤ c.capacity.getD 0) ∧
  ∀ o, c.op = some o → o.raise.getD 0 ≤ c.capacity.getD 0 ∧
    (o.kind = .ident →
      c.state = .scanning ∧ c.alloc = none ∧ c.recEnd = none ∧ c.format = none ∧ o.raise = none) ∧
    ∀ serial, o.kind = .format serial → 1 ≤ c.capacity.getD 0

/-- The destination ports (R101). -/
def portsOk (s : State) : Prop := ∀ p, portOk (s.port p)

/-- The Preview Pool: held slots ascending by number, numbers 0 to 63, each with a holder, and at most one slot NEWEST for
each channel (R129, R131). -/
def poolOk (s : State) : Prop :=
  (s.pp.slots.map (·.num)).Pairwise (· < ·) ∧ (∀ x ∈ s.pp.slots, x.num < 64 ∧ x.holders ≠ []) ∧
  ∀ c, (s.pp.slots.filter fun x => Holder.newest c ∈ x.holders).length ≤ 1

/-- The Fault List: at most 512 findings, each with an id of its own below 65536 (R157), and for every clip the count last
sent to the Catalog is the number of its BLOCKING findings that are not CLEARED (R170). -/
def faultListOk (s : State) : Prop :=
  s.fl.list.length ≤ 512 ∧ (s.fl.list.map (·.id)).Nodup ∧ (∀ f ∈ s.fl.list, f.id < 65536) ∧
  ∀ clip, s.fl.lastSent clip = s.fl.blocking clip

/-- The parts of a look lie in their ranges (R173). -/
def lookOk (l : LookRec) : Prop :=
  (∀ m, l.matrix = some m → ∀ c ∈ m.toList, -4096 ≤ c ∧ c ≤ 4095) ∧
  (∀ t, l.trim = some t → ∀ c ∈ t.toList, c.gain ≤ 4095 ∧ -2048 ≤ c.offset ∧ c.offset ≤ 2047) ∧
  ∀ v, l.curves = some v → ∀ c ∈ v.toList, ∀ n ∈ c.toList, n ≤ 4095

/-- A look slot: its looks and names in range, its version of 16 bits, a pending name only while it is held, and while it is
held a pending look and a pending name (R172 to R174). -/
def lookSlotOk (x : LookSlot) : Prop :=
  lookOk x.active ∧ (∀ l, x.pending = some l → lookOk l) ∧ x.version < 65536 ∧ (x.holder = none → x.pendingName = none) ∧
  (x.holder ≠ none → x.pending ≠ none ∧ x.pendingName ≠ none) ∧
  ∀ n, n = x.name ∨ x.pendingName = some n → n.length ≤ 16 ∧ ∀ c ∈ n, 32 ≤ c ∧ c ≤ 126

/-- The Look Bank: every slot is right; a pending look stands in a slot only while a station holds it or a running fill has
written it, and there it is the fill's; and a running fill covers only slots that no station holds (R172, R174, R179,
R180). -/
def lookBankOk (s : State) : Prop :=
  (∀ i, lookSlotOk (s.look i)) ∧
  (∀ i, (s.look i).pending ≠ none → (s.look i).holder ≠ none ∨
    ∃ f, s.lb.fill = some f ∧ f.first ≤ i.val ∧ i.val < f.next) ∧
  (∀ f (i : LookIx), s.lb.fill = some f → f.first ≤ i.val → i.val < f.next → (s.look i).pending = some f.look) ∧
  ∀ f, s.lb.fill = some f → lookOk f.look ∧ f.first ≤ f.next ∧ f.next ≤ f.last ∧ f.last < 32 ∧
    ∀ i : LookIx, f.first ≤ i.val → i.val ≤ f.last → (s.look i).holder = none

/-- An output that is disabled holds and sends nothing, and one that is STOPPED plays nothing (R190, R198). -/
def outputOk (o : Output) : Prop :=
  (o.enabled = false → o.play = .stopped ∧ o.current = none ∧ o.latched = none ∧ o.store = none ∧ o.pins = none ∧
    o.bnd = none) ∧
  (o.play = .stopped → o.prefetch = [] ∧ o.clip = none ∧ o.src = none)

/-- The outputs (R188, R190, R198). -/
def outputsOk (s : State) : Prop := ∀ k, outputOk (s.out k)

/-- A station: at most 48 responses and 64 notices, at most 16 unanswered requests, counted right, and nothing waiting while
its link is DOWN (R205, R206, R211). -/
def stationOk (x : Station) : Prop :=
  x.responses.length ≤ 48 ∧ x.fifo.length ≤ 64 ∧ x.unanswered ≤ 16 ∧
  x.unanswered = (x.responses.filter (·.admitted)).length ∧
  (x.link = .down → x.responses = [] ∧ x.fifo = [] ∧ x.gap = false ∧ x.backlog = [])

/-- The Station Ports (R203, R209). -/
def stationsOk (s : State) : Prop := (∀ st, stationOk (s.station st)) ∧ s.sp.seq < 4294967296

end Sys2Proof.Machine
end

