-- ==== Sys2Proof/Certificates/Slice0/Obligations.lean ====
section
/-! DEFINITION. The statements for the provers: what each command does, what queries and reads leave alone, what reset leaves,
the rules that every step keeps, and the arithmetic and layouts. -/

open Sys2Proof Sys2Proof.Machine

/-! ## Card Interface (Section 1) -/

/-- A card put into an EMPTY bay starts a listing (R2): the bay is LISTING with the write-protected flag sampled, the
Order Dispatcher and the stations are told, and every other bay is as it was; in any other state only the pins follow. The
identification response fixes the transfer class at the smaller of the advertised class and 7 and begins the header phase;
with no response the bay is UNREADABLE with READ_FAILED (R6). An answer of an earlier attempt does nothing (the model's
choice, assumption 3), and a header read that succeeds sets the error count to 0 (the model's choice, assumption 13). The
header phase (R3, R4): an accepted header that no other bay in LISTING, PRESENT or RELEASED has recorded gives the bay its
serial, letter and body number and asks the Catalog for the required copies; a rejected one makes the bay UNREADABLE with
HEADER_DAMAGED, a duplicate with DUPLICATE_CARD, and neither records a serial. The Catalog's answer begins the directory
phase with the copies of the serial's records. What a SET COPIES taken before the Catalog's answer leaves of its count is
the model's choice (assumption 93). -/
def Obligations.CardInsertionAndHeader : Prop :=
  ((∀ b wp s, (s.bay b).state = .empty → ∃ t, exec (.cardInserted b wp) s = .next t ∧
    t.bay b = { state := .listing, wp := wp, ins := s.token, listing := some { phase := .ident, tok := s.token } } ∧
    otherBays b s t ∧ t.token = s.token + 1 ∧
    t.pins = { s.pins with cardDetect := upd s.pins.cardDetect b fun _ => true
                           writeProt := upd s.pins.writeProt b fun _ => wp } ∧
    t.wire = s.wire ++ [⟨.ci, .ods, .bayViewReport b { state := .listing, serial := none, reading := false }⟩,
      noticeOf .ci { sub := .cardInserted, bay := some b }] ∧
    t = { s with ci := t.ci, pins := t.pins, wire := t.wire, token := t.token }) ∧
  (∀ b wp s, (s.bay b).state ≠ .empty → exec (.cardInserted b wp) s =
    .next { s with pins := { s.pins with cardDetect := upd s.pins.cardDetect b fun _ => true
                                         writeProt := upd s.pins.writeProt b fun _ => wp } }) ∧
  (∀ b tok adv capacity s l, (s.bay b).listing = some l → l.phase = .ident → l.tok = tok →
    ∃ t, exec (.cardIdentificationResponse b tok adv capacity) s = .next t ∧
      t.bay b = { s.bay b with cls := min adv 7
                               listing := some { l with phase := .header, tok := s.token, capacity := capacity } } ∧
      otherBays b s t ∧ t.token = s.token + 1 ∧ t.wire = s.wire ∧ onlyCi s t) ∧
  (∀ b tok s l, (s.bay b).listing = some l → l.phase = .ident → l.tok = tok →
    ∃ t e, exec (.identificationTimeout b tok) s = .next t ∧
      e = { s.bay b with state := .unreadable, cause := some .readFailed, listing := none } ∧ t.bay b = e ∧
      otherBays b s t ∧ t.token = s.token ∧ onlyCi s t ∧
      t.wire = s.wire ++ bayReport s b e ++ [noticeOf .ci (bayNotice .cardUnreadable b e (u8 4))]) ∧
  ∀ b tok adv capacity s l, (s.bay b).listing = some l → l.tok ≠ tok →
    exec (.cardIdentificationResponse b tok adv capacity) s = .next s ∧ exec (.identificationTimeout b tok) s = .next s) ∧
  (∀ b tok bytes s l h, (s.bay b).listing = some l → l.phase = .header → l.tok = tok →
    readCardHdr l.capacity bytes = some h → s.duplicate b h.serial = false →
    ∃ t e, exec (.headerReadComplete b tok bytes) s = .next t ∧
      e = { s.bay b with errors := 0, serial := some h.serial, letter := some h.letter, body := some h.body
                         listing := some { l with phase := .copies, dirFirst := h.dirFirst, dirCount := h.dirCount
                                                  dirSum := h.dirSum } } ∧
      t.bay b = e ∧ otherBays b s t ∧ t.token = s.token ∧ onlyCi s t ∧
      t.wire = s.wire ++ bayReport s b e ++ [⟨.ci, .cat, .requiredCopiesQuery b e.ins h.serial⟩]) ∧
  (∀ b tok bytes s l, (s.bay b).listing = some l → l.phase = .header → l.tok = tok → readCardHdr l.capacity bytes = none →
    ∃ t e, exec (.headerReadComplete b tok bytes) s = .next t ∧
      e = { s.bay b with state := .unreadable, errors := 0, cause := some .headerDamaged, listing := none } ∧
      t.bay b = e ∧ otherBays b s t ∧ t.token = s.token ∧ onlyCi s t ∧
      t.wire = s.wire ++ bayReport s b e ++ [noticeOf .ci (bayNotice .cardUnreadable b e (u8 1))]) ∧
  (∀ b tok bytes s l h, (s.bay b).listing = some l → l.phase = .header → l.tok = tok →
    readCardHdr l.capacity bytes = some h → s.duplicate b h.serial = true →
    ∃ t e, exec (.headerReadComplete b tok bytes) s = .next t ∧
      e = { s.bay b with state := .unreadable, errors := 0, cause := some .duplicateCard, listing := none } ∧
      t.bay b = e ∧ otherBays b s t ∧ t.token = s.token ∧ onlyCi s t ∧
      t.wire = s.wire ++ bayReport s b e ++ [noticeOf .ci (bayNotice .cardUnreadable b e (u8 3))]) ∧
  ∀ b ins highest s l, (s.bay b).listing = some l → l.phase = .copies → (s.bay b).ins = ins →
    ∃ t, exec (.requiredCopiesAnswer b ins highest) s = .next t ∧
      t.bay b = { s.bay b with required := highest.getD (s.bay b).required
                               listing := some { l with phase := .directory, tok := s.token } } ∧
      otherBays b s t ∧ t.token = s.token + 1 ∧ t.wire = s.wire ∧ onlyCi s t

/-- The directory phase and the hand-over (R5, R7, R8). While directory blocks are left the next one is read; a directory
rejected as a whole makes the bay UNREADABLE with DIRECTORY_DAMAGED; an accepted one fills the clip map, offers its first
entry to the Catalog, or ends the listing at once when it has no entry: the bay is PRESENT, listed whole, with an empty
clip map. That each block of the directory is one completion, an empty directory ending at its first, is the model's
choice (assumption 14); so is that a read which succeeds sets the error count to 0 (assumption 13). A MADE or RELINKED
answer files UNLOCKED_CARD where the card is not write-protected and offers the next entry, or ends the listing: the bay
is PRESENT, listed whole. FULL ends it with the listing-complete flag as it was. Which bytes the directory's check value
covers is the model's choice (assumption 77). -/
def Obligations.DirectoryAndHandOver : Prop :=
  (∀ b tok bytes s l, (s.bay b).listing = some l → l.phase = .directory → l.tok = tok →
    l.reads + 1 < ceilDiv l.dirCount 64 →
    ∃ t, exec (.directoryReadComplete b tok bytes) s = .next t ∧
      t.bay b = { s.bay b with errors := 0, listing := some { l with
        got := l.got ++ bytes.take 4096, reads := l.reads + 1, tok := s.token } } ∧
      otherBays b s t ∧ t.token = s.token + 1 ∧ t.wire = s.wire ∧ onlyCi s t) ∧
  (∀ b tok bytes s l, (s.bay b).listing = some l → l.phase = .directory → l.tok = tok →
    ¬ l.reads + 1 < ceilDiv l.dirCount 64 →
    checkDirectory l.capacity l.dirCount l.dirSum (l.got ++ bytes.take 4096) = none →
    ∃ t e, exec (.directoryReadComplete b tok bytes) s = .next t ∧
      e = { s.bay b with state := .unreadable, errors := 0, cause := some .directoryDamaged, listing := none } ∧
      t.bay b = e ∧ otherBays b s t ∧ t.token = s.token ∧ onlyCi s t ∧
      t.wire = s.wire ++ bayReport s b e ++ [noticeOf .ci (bayNotice .cardUnreadable b e (u8 2))]) ∧
  (∀ b tok bytes s l d es, (s.bay b).listing = some l → l.phase = .directory → l.tok = tok →
    ¬ l.reads + 1 < ceilDiv l.dirCount 64 →
    checkDirectory l.capacity l.dirCount l.dirSum (l.got ++ bytes.take 4096) = some (d :: es) →
    ∃ t, exec (.directoryReadComplete b tok bytes) s = .next t ∧
      t.bay b = { s.bay b with
        errors := 0, map := (d :: es).map fun x => ⟨x.clipNo, x.first, x.count, x.len⟩
        listing := some { l with phase := .handOver, got := [], reads := l.reads + 1, entries := d :: es, next := 0 } } ∧
      otherBays b s t ∧ t.token = s.token ∧ onlyCi s t ∧
      t.wire = s.wire ++ [⟨.ci, .cat, .listingRequest b (s.bay b).ins ((s.bay b).serial.getD 0) d.clipNo (s.bay b).required
        { letter := (s.bay b).letter.getD 0, reel := d.reel, start := d.start, rate := d.rate, drop := d.drop
          frames := d.frames, dataLen := d.len }⟩]) ∧
  (∀ b tok bytes s l, (s.bay b).listing = some l → l.phase = .directory → l.tok = tok →
    ¬ l.reads + 1 < ceilDiv l.dirCount 64 →
    checkDirectory l.capacity l.dirCount l.dirSum (l.got ++ bytes.take 4096) = some [] →
    ∃ t e, exec (.directoryReadComplete b tok bytes) s = .next t ∧
      e = { s.bay b with state := .present, errors := 0, map := [], listed := true, listing := none } ∧
      t.bay b = e ∧ otherBays b s t ∧ t.token = s.token ∧ onlyCi s t ∧
      t.wire = s.wire ++ bayReport s b e ++ [noticeOf .ci (bayNotice .cardListed b e [])]) ∧
  (∀ b ins clip s l d ans, (s.bay b).listing = some l → l.phase = .handOver → (s.bay b).ins = ins →
    l.entries[l.next + 1]? = some d → ans = .made clip ∨ ans = .relinked clip →
    ∃ t, exec (.listingAnswer b ins ans) s = .next t ∧
      t.bay b = { s.bay b with listing := some { l with next := l.next + 1 } } ∧ otherBays b s t ∧ t.token = s.token ∧
      onlyCi s t ∧
      t.wire = s.wire ++
        (if (s.bay b).wp then [] else [⟨.ci, .fl, .occurrence { clip := clip, kind := .unlockedCard, count := 1
                                                                span := none, qual := none }⟩]) ++
        [⟨.ci, .cat, .listingRequest b ins ((s.bay b).serial.getD 0) d.clipNo (s.bay b).required
          { letter := (s.bay b).letter.getD 0, reel := d.reel, start := d.start, rate := d.rate, drop := d.drop
            frames := d.frames, dataLen := d.len }⟩]) ∧
  (∀ b ins clip s l ans, (s.bay b).listing = some l → l.phase = .handOver → (s.bay b).ins = ins →
    l.entries.length ≤ l.next + 1 → ans = .made clip ∨ ans = .relinked clip →
    ∃ t e, exec (.listingAnswer b ins ans) s = .next t ∧
      e = { s.bay b with state := .present, listed := true, listing := none } ∧ t.bay b = e ∧ otherBays b s t ∧
      t.token = s.token ∧ onlyCi s t ∧
      t.wire = s.wire ++
        (if (s.bay b).wp then [] else [⟨.ci, .fl, .occurrence { clip := clip, kind := .unlockedCard, count := 1
                                                                span := none, qual := none }⟩]) ++
        bayReport s b e ++ [noticeOf .ci (bayNotice .cardListed b e [])]) ∧
  ∀ b ins s l d, (s.bay b).listing = some l → l.phase = .handOver → (s.bay b).ins = ins → l.entries[l.next]? = some d →
    ∃ t e, exec (.listingAnswer b ins .full) s = .next t ∧
      e = { s.bay b with state := .present, listing := none } ∧ t.bay b = e ∧ otherBays b s t ∧ t.token = s.token ∧
      onlyCi s t ∧ t.wire = s.wire ++ bayReport s b e ++ [noticeOf .ci (bayNotice .cardListedPartial b e (u16 d.clipNo))]

/-- Reading rights (R10, R11): a claim for a card of no PRESENT or RELEASED bay is answered CARD_GONE; one for a card that
nobody reads makes its channel the reader, the bay PRESENT and the error count 0, and a RELEASED bay raises RETURNED; a
claim behind another reader waits its turn. The reader's hand-back passes the card to the head of the claim queue, or to
nobody; any other channel's hand-back takes its claim out of the queue. -/
def Obligations.ReadingRights : Prop :=
  (∀ ch serial tag s, s.bayOf serial = none → ∃ t, exec (.claim ch serial tag) s = .next t ∧ onlyWire s t ∧
    t.wire = s.wire ++ [⟨.ci, .cc ch, .claimAnswer ch tag .cardGone⟩] ∧
    exec (.handBack ch serial) s = .next s) ∧
  (∀ ch serial tag s b, s.bayOf serial = some b → (s.bay b).reader = none →
    ∃ t e, exec (.claim ch serial tag) s = .next t ∧
      e = { s.bay b with reader := some ch, errors := 0, state := .present
                         tags := upd (s.bay b).tags ch fun _ => tag } ∧
      t.bay b = e ∧ otherBays b s t ∧ t.token = s.token ∧ onlyCi s t ∧
      t.wire = s.wire ++ [⟨.ci, .ods, .bayViewReport b e.view⟩, ⟨.ci, .cc ch, .claimAnswer ch tag .granted⟩] ++
        (if (s.bay b).state = .released then [noticeOf .ci (bayNotice .cardReturned b e (u8 ch.val))] else [])) ∧
  (∀ ch serial tag s b r, s.bayOf serial = some b → (s.bay b).reader = some r → r ≠ ch → ch ∉ (s.bay b).claims →
    ∃ t, exec (.claim ch serial tag) s = .next t ∧
      t.bay b = { s.bay b with claims := (s.bay b).claims ++ [ch], tags := upd (s.bay b).tags ch fun _ => tag } ∧
      otherBays b s t ∧ t.token = s.token ∧ onlyCi s t ∧
      t.wire = s.wire ++ [⟨.ci, .cc ch, .claimAnswer ch tag .waiting⟩]) ∧
  (∀ ch serial s b, s.bayOf serial = some b → (s.bay b).reader = some ch → (s.bay b).claims = [] →
    ∃ t e, exec (.handBack ch serial) s = .next t ∧ e = { s.bay b with reader := none, errors := 0 } ∧ t.bay b = e ∧
      otherBays b s t ∧ t.token = s.token ∧ onlyCi s t ∧ t.wire = s.wire ++ [⟨.ci, .ods, .bayViewReport b e.view⟩]) ∧
  (∀ ch serial s b c cs, s.bayOf serial = some b → (s.bay b).reader = some ch → (s.bay b).claims = c :: cs →
    ∃ t, exec (.handBack ch serial) s = .next t ∧ t.bay b = { s.bay b with reader := some c, claims := cs, errors := 0 } ∧
      otherBays b s t ∧ t.token = s.token ∧ onlyCi s t ∧
      t.wire = s.wire ++ [⟨.ci, .cc c, .claimAnswer c (s.bay b).tags[c] .granted⟩]) ∧
  ∀ ch serial s b, s.bayOf serial = some b → (s.bay b).reader ≠ some ch →
    ∃ t, exec (.handBack ch serial) s = .next t ∧
      t.bay b = { s.bay b with claims := (s.bay b).claims.filter fun c => c ≠ ch } ∧ otherBays b s t ∧
      t.token = s.token ∧ t.wire = s.wire ∧ onlyCi s t

/-- Bursts (R12, R13): a request of the reading channel for a clip of the card becomes the bay's burst, RUNNING when the
channel has room for it and PAUSED otherwise; one of another channel is answered NOT_BOUND, one for an absent card
CARD_GONE. A grant sets a PAUSED burst running. The running attempt's completion empties the burst context, sets the
error count to 0 and answers DONE with the burst's bytes; any other completion is discarded. The read-error ladder (R14,
R15). A failed attempt at a burst (a media error, or 2 s of RUNNING) adds one to the error count: below the limit of the
class it is retried as a new attempt, at the limit of a class above 0 the class falls by one, the count returns to 0,
CLASS_DROPPED is raised and the burst is retried, and at class 0 the third failure empties the burst context and answers
READ_ERROR. A failed header or directory read does the same, and ends with the bay UNREADABLE with READ_FAILED. A burst
that starts at or past the data length of the bay's clip map has length 0, and its completion no bytes (the model's
choice, assumption 81). A request for a clip number that the bay's clip map does not hold is answered NOT_BOUND (R12). A
completion, an error or a time-out of a bay with an empty burst context or another attempt, and a grant where no PAUSED
burst of that channel is, do nothing. A burst has 262,144 bytes, the last of a clip those that are left (R13). -/
def Obligations.BurstsAndReadErrors : Prop :=
  (((∀ ch serial clipNo ext burst room s b m, s.bayOf serial = some b → (s.bay b).reader = some ch →
    (s.bay b).map.find? (fun m => m.clipNo = clipNo) = some m →
    ∃ t, exec (.burstRequest ch serial clipNo ext burst room) s = .next t ∧
      t.bay b = { s.bay b with burst := some { ch := ch, clipNo := clipNo, ext := ext, burst := burst
                                               first := m.first + ext * 2048 + burst * 64
                                               len := min 262144 (m.len - (ext * 8388608 + burst * 262144))
                                               running := room, tok := s.token } } ∧
      otherBays b s t ∧ t.token = s.token + 1 ∧ t.wire = s.wire ∧ onlyCi s t) ∧
  (∀ ch serial clipNo ext burst room s b, s.bayOf serial = some b → (s.bay b).reader ≠ some ch →
    ∃ t, exec (.burstRequest ch serial clipNo ext burst room) s = .next t ∧ onlyWire s t ∧
      t.wire = s.wire ++ [⟨.ci, .cc ch, .burstAnswer ch .notBound⟩]) ∧
  (∀ ch serial clipNo ext burst room s, s.bayOf serial = none →
    ∃ t, exec (.burstRequest ch serial clipNo ext burst room) s = .next t ∧ onlyWire s t ∧
      t.wire = s.wire ++ [⟨.ci, .cc ch, .burstAnswer ch .cardGone⟩]) ∧
  (∀ ch serial s b x, s.bayOf serial = some b → (s.bay b).burst = some x → x.ch = ch → x.running = false →
    ∃ t, exec (.burstGrantReport ch serial) s = .next t ∧
      t.bay b = { s.bay b with burst := some { x with running := true, tok := s.token } } ∧ otherBays b s t ∧
      t.token = s.token + 1 ∧ t.wire = s.wire ∧ onlyCi s t) ∧
  (∀ b tok bytes s x, (s.bay b).burst = some x → x.running = true → x.tok = tok → bytes.length = x.len →
    ∃ t, exec (.burstCompletion b tok bytes) s = .next t ∧ t.bay b = { s.bay b with burst := none, errors := 0 } ∧
      otherBays b s t ∧ t.token = s.token ∧ onlyCi s t ∧
      t.wire = s.wire ++ [⟨.ci, .cc x.ch, .burstAnswer x.ch (.done bytes)⟩]) ∧
  ∀ b tok bytes s x, (s.bay b).burst = some x → (x.running = false ∨ x.tok ≠ tok) →
    exec (.burstCompletion b tok bytes) s = .next s) ∧
  (∀ b tok s x c, (s.bay b).burst = some x → x.running = true → x.tok = tok →
    c = .burstMediaError b tok ∨ c = .burstTimeout b tok →
    ((s.bay b).cls = 0 ∧ (s.bay b).errors < 2 ∨ (s.bay b).cls ≠ 0 ∧ (s.bay b).errors < 1) →
    ∃ t, exec c s = .next t ∧
      t.bay b = { s.bay b with errors := (s.bay b).errors + 1, burst := some { x with tok := s.token } } ∧
      otherBays b s t ∧ t.token = s.token + 1 ∧ t.wire = s.wire ∧ onlyCi s t) ∧
  (∀ b tok s x c, (s.bay b).burst = some x → x.running = true → x.tok = tok →
    c = .burstMediaError b tok ∨ c = .burstTimeout b tok → (s.bay b).cls ≠ 0 → 1 ≤ (s.bay b).errors →
    ∃ t e, exec c s = .next t ∧
      e = { s.bay b with cls := (s.bay b).cls - 1, errors := 0, burst := some { x with tok := s.token } } ∧ t.bay b = e ∧
      otherBays b s t ∧ t.token = s.token + 1 ∧ onlyCi s t ∧
      t.wire = s.wire ++ [noticeOf .ci (bayNotice .cardClassDropped b e (u8 e.cls))]) ∧
  (∀ b tok s x c, (s.bay b).burst = some x → x.running = true → x.tok = tok →
    c = .burstMediaError b tok ∨ c = .burstTimeout b tok → (s.bay b).cls = 0 → 2 ≤ (s.bay b).errors →
    ∃ t, exec c s = .next t ∧ t.bay b = { s.bay b with burst := none, errors := 0 } ∧ otherBays b s t ∧
      t.token = s.token ∧ onlyCi s t ∧ t.wire = s.wire ++ [⟨.ci, .cc x.ch, .burstAnswer x.ch .readError⟩]) ∧
  (∀ b tok s l, (s.bay b).listing = some l → l.phase = .header ∨ l.phase = .directory → l.tok = tok →
    ((s.bay b).cls = 0 ∧ (s.bay b).errors < 2 ∨ (s.bay b).cls ≠ 0 ∧ (s.bay b).errors < 1) →
    ∃ t, exec (.listingReadFailed b tok) s = .next t ∧
      t.bay b = { s.bay b with errors := (s.bay b).errors + 1, listing := some { l with tok := s.token } } ∧
      otherBays b s t ∧ t.token = s.token + 1 ∧ t.wire = s.wire ∧ onlyCi s t) ∧
  (∀ b tok s l, (s.bay b).listing = some l → l.phase = .header ∨ l.phase = .directory → l.tok = tok →
    (s.bay b).cls ≠ 0 → 1 ≤ (s.bay b).errors →
    ∃ t e, exec (.listingReadFailed b tok) s = .next t ∧
      e = { s.bay b with cls := (s.bay b).cls - 1, errors := 0, listing := some { l with tok := s.token } } ∧
      t.bay b = e ∧ otherBays b s t ∧ t.token = s.token + 1 ∧ onlyCi s t ∧
      t.wire = s.wire ++ [noticeOf .ci (bayNotice .cardClassDropped b e (u8 e.cls))]) ∧
  ∀ b tok s l, (s.bay b).listing = some l → l.phase = .header ∨ l.phase = .directory → l.tok = tok →
    (s.bay b).cls = 0 → 2 ≤ (s.bay b).errors →
    ∃ t e, exec (.listingReadFailed b tok) s = .next t ∧
      e = { s.bay b with state := .unreadable, errors := 0, cause := some .readFailed, listing := none } ∧ t.bay b = e ∧
      otherBays b s t ∧ t.token = s.token ∧ onlyCi s t ∧
      t.wire = s.wire ++ bayReport s b e ++ [noticeOf .ci (bayNotice .cardUnreadable b e (u8 4))]) ∧
  (∀ ch serial clipNo ext burst room s b, s.bayOf serial = some b → (s.bay b).reader = some ch →
    (∀ m ∈ (s.bay b).map, m.clipNo ≠ clipNo) →
    ∃ t, exec (.burstRequest ch serial clipNo ext burst room) s = .next t ∧ onlyWire s t ∧
      t.wire = s.wire ++ [⟨.ci, .cc ch, .burstAnswer ch .notBound⟩]) ∧
  (∀ b tok bytes s, (s.bay b).burst = none ∨ (∃ x, (s.bay b).burst = some x ∧ (x.running = false ∨ x.tok ≠ tok)) →
    ∀ c ∈ [Instr.burstCompletion b tok bytes, .burstMediaError b tok, .burstTimeout b tok], exec c s = .next s) ∧
  (∀ ch serial s, s.bayOf serial = none ∨ (∃ b, s.bayOf serial = some b ∧ ((s.bay b).burst = none ∨
      ∃ x, (s.bay b).burst = some x ∧ (x.ch ≠ ch ∨ x.running = true))) →
    exec (.burstGrantReport ch serial) s = .next s)

/-- Removal (R16 to R18): the bay returns to its EMPTY values, whatever it was doing, the other bays and the Catalog are
as they were, and REMOVED is raised; in PRESENT or RELEASED the reader, the burst and each waiting channel are answered
CARD_GONE. An EMPTY bay stays as it is. Release (R19 to R21). RELEASE CARD for a PRESENT bay that is listed whole and
read by nobody asks the Catalog for its release test, and for any other bay is refused with the reason of the first
condition that fails. A test passed for the card that is still there releases it: the bay is RELEASED, the request
accepted and RELEASED raised; a test failed refuses with the Catalog's reason and clip (that the clip id stands there
without a presence byte is the model's choice, assumption 118). FORCE RELEASE needs neither the test nor a whole
listing. No release changes a clip record (onlyCi). The Catalog's test (R19) is passed when every record of the serial
is VERIFIED with no BLOCKING finding and no overflow hold; otherwise it fails with the first failing record in ascending
clip id, and with CLIP_NOT_VERIFIED, CLIP_BLOCKED or OVERFLOW_HOLD in that order. An answer for another insertion, or
for a bay no longer PRESENT, refuses NO_CARD or ALREADY (the model's choice, assumption 16). A bay number of 6 or more
is refused VALUE (R20, R21; that bay 0's block answers is assumption 20). -/
def Obligations.CardRemovalAndRelease : Prop :=
  (((∀ b s, (s.bay b).state = .listing ∨ (s.bay b).state = .unreadable →
    ∃ t, exec (.cardRemoved b) s = .next t ∧ t.bay b = {} ∧ otherBays b s t ∧ t.token = s.token ∧
      t = { s with ci := t.ci, pins := t.pins, wire := t.wire } ∧
      t.pins = { s.pins with cardDetect := upd s.pins.cardDetect b fun _ => false } ∧
      t.wire = s.wire ++ [⟨.ci, .ods, .bayViewReport b { state := .empty, serial := none, reading := false }⟩,
        noticeOf .ci (bayNotice .cardRemoved b (s.bay b) (u8 ((s.bay b).state.ctorIdx + 1)))]) ∧
  (∀ b s, (s.bay b).state = .present ∨ (s.bay b).state = .released →
    ∃ t, exec (.cardRemoved b) s = .next t ∧ t.bay b = {} ∧ otherBays b s t ∧ t.token = s.token ∧
      t = { s with ci := t.ci, pins := t.pins, wire := t.wire } ∧
      t.pins = { s.pins with cardDetect := upd s.pins.cardDetect b fun _ => false } ∧
      t.wire = s.wire ++
        (match (s.bay b).reader with
          | some r => [⟨.ci, .cc r, .claimAnswer r (s.bay b).tags[r] .cardGone⟩]
          | none => []) ++
        (match (s.bay b).burst with
          | some x => [⟨.ci, .cc x.ch, .burstAnswer x.ch .cardGone⟩]
          | none => []) ++
        (s.bay b).claims.map (fun c => ⟨.ci, .cc c, .claimAnswer c (s.bay b).tags[c] .cardGone⟩) ++
        [⟨.ci, .ods, .bayViewReport b { state := .empty, serial := none, reading := false }⟩,
          noticeOf .ci (bayNotice .cardRemoved b (s.bay b) (u8 ((s.bay b).state.ctorIdx + 1)))]) ∧
  ∀ b s, (s.bay b).state = .empty → exec (.cardRemoved b) s =
    .next { s with pins := { s.pins with cardDetect := upd s.pins.cardDetect b fun _ => false } }) ∧
  (∀ q (b : Bay) s, (s.bay b).state = .present → (s.bay b).listed = true → (s.bay b).reader = none →
    ∃ t, exec (.releaseCard q b.val) s = .next t ∧ onlyWire s t ∧
      t.wire = s.wire ++ [⟨.ci, .cat, .releaseTest q b (s.bay b).ins ((s.bay b).serial.getD 0)⟩]) ∧
  (∀ q (b : Bay) s r, r = (match (s.bay b).state with
      | .released => some Reason.already
      | .empty | .listing | .unreadable => some .noCard
      | .present => if (s.bay b).listed = false then some .listingIncomplete
                    else if (s.bay b).reader.isSome then some .cardBusy else none) →
    ∀ why, r = some why → ∃ t, exec (.releaseCard q b.val) s = .next t ∧ onlyWire s t ∧
      t.wire = s.wire ++ [refuseStateOf .ci q why]) ∧
  (∀ q b ins s, (s.bay b).ins = ins → (s.bay b).state = .present → (s.bay b).reader = none →
    ∃ t e, exec (.releaseTestAnswer q b ins .passed) s = .next t ∧ e = { s.bay b with state := .released } ∧ t.bay b = e ∧
      otherBays b s t ∧ t.token = s.token ∧ onlyCi s t ∧
      t.wire = s.wire ++ [⟨.ci, .ods, .bayViewReport b e.view⟩, acceptOf .ci q [],
        noticeOf .ci (bayNotice .cardReleased b e (u8 0))]) ∧
  (∀ q b ins s clip why, (s.bay b).ins = ins → (s.bay b).state = .present → (s.bay b).reader = none →
    ∃ t, exec (.releaseTestAnswer q b ins (.fails clip why)) s = .next t ∧ onlyWire s t ∧
      t.wire = s.wire ++ [answerOf .ci q (.refused .state (some why) (u16 clip))]) ∧
  (∀ q b ins s ans, (s.bay b).ins = ins → (s.bay b).state = .present → (s.bay b).reader.isSome →
    ∃ t, exec (.releaseTestAnswer q b ins ans) s = .next t ∧ onlyWire s t ∧
      t.wire = s.wire ++ [refuseStateOf .ci q .cardBusy]) ∧
  (∀ q (b : Bay) s, (s.bay b).state = .present → (s.bay b).reader = none →
    ∃ t e, exec (.forceRelease q b.val) s = .next t ∧ e = { s.bay b with state := .released } ∧ t.bay b = e ∧
      otherBays b s t ∧ t.token = s.token ∧ onlyCi s t ∧
      t.wire = s.wire ++ [⟨.ci, .ods, .bayViewReport b e.view⟩, acceptOf .ci q [],
        noticeOf .ci (bayNotice .cardReleased b e (u8 1))]) ∧
  ∀ q (b : Bay) s why, (match (s.bay b).state with
      | .released => some Reason.already
      | .empty | .listing | .unreadable => some .noCard
      | .present => if (s.bay b).reader.isSome then some .cardBusy else none) = some why →
    ∃ t, exec (.forceRelease q b.val) s = .next t ∧ onlyWire s t ∧ t.wire = s.wire ++ [refuseStateOf .ci q why]) ∧
  (∀ q b ins serial s, catalogOk s → ∃ t ans, exec (.releaseTest q b ins serial) s = .next t ∧ onlyWire s t ∧
      t.wire = s.wire ++ [⟨.cat, .ci, .releaseTestAnswer q b ins ans⟩] ∧
      (ans = .passed ↔ ∀ c ∈ s.cat.clips, c.serial = serial → c.state = .verified ∧ c.blocking = 0 ∧ c.overflow = false) ∧
      ∀ c ∈ s.cat.clips, c.serial = serial → ¬(c.state = .verified ∧ c.blocking = 0 ∧ c.overflow = false) →
        (∀ x ∈ s.cat.clips, x.serial = serial → x.id < c.id → x.state = .verified ∧ x.blocking = 0 ∧ x.overflow = false) →
        ans = .fails c.id (if c.state ≠ .verified then .clipNotVerified else if c.blocking ≠ 0 then .clipBlocked
          else .overflowHold)) ∧
  (∀ q b ins s ans why, ((s.bay b).ins ≠ ins ∧ why = .noCard ∨
      (s.bay b).ins = ins ∧ (s.bay b).state = .released ∧ why = .already ∨
      (s.bay b).ins = ins ∧ ((s.bay b).state = .empty ∨ (s.bay b).state = .listing ∨ (s.bay b).state = .unreadable) ∧
        why = .noCard) →
    ∃ t, exec (.releaseTestAnswer q b ins ans) s = .next t ∧ onlyWire s t ∧ t.wire = s.wire ++ [refuseStateOf .ci q why]) ∧
  (∀ q bay s, 6 ≤ bay → ∀ c ∈ [Instr.releaseCard q bay, .forceRelease q bay],
    ∃ t, exec c s = .next t ∧ onlyWire s t ∧ t.wire = s.wire ++ [refuseOf .ci q .value])

/-! ## Catalog (Section 2) -/

/-- Listing requests (R24 to R27). A serial and clip number with no record take the lowest free id, make a record and
ask the Look Bank for the letter's default, or are answered FULL where no id is free. A record with the same description
is relinked and searched for; one with another description and no order is refreshed; a QUEUED one asks the Order
Dispatcher to remove its order; any other holds the description. The answers a listing waits for (R24, R26). The
letter's default slot goes into the record it was asked for: a created record is then answered MADE and a refreshed one
noticed, and either is searched for. A removed order's answer refreshes a record that no order binds and holds the
description for one that an order binds. Where the record is no longer there, nothing happens. The model's choices: a
new record's look slot is 0 until the answer (assumption 17), which notices a refresh raises (assumption 18), that an
answer is matched by the record's card and number of creation and dropped where a purge has removed it (assumption 58),
that a record bound meanwhile under any order id holds the description (assumption 59), that a refreshed record keeps
its slot until the answer, which replaces the slot it then has (assumption 70), and that the notices carry the state the
record has at the answer (assumption 82). So is the order of the COPY notices of a refresh (assumption 116). The lowest
free id is the least below 1024 that no record has, and there is none when 1024 are held; records stand in ascending id.
A new record holds the description, the extents of its data length and the bay's required copies, LISTED, or UNSUPPORTED
for a data length above 64 GB or an unknown rate, and is otherwise empty (R24). A refreshed record takes the
description, its extents and its state anew, loses its sums, counts, stamp, held description and VERIFIED copies, and
its FOUND copies become STALE (R26). -/
def Obligations.CatalogListing : Prop :=
  (((∀ b ins serial clipNo required desc s id c, s.clipOf serial clipNo = none → s.cat.freeId = some id →
    c = newClip id s.token serial clipNo required desc →
    ∃ t, exec (.listingRequest b ins serial clipNo required desc) s = .next t ∧ onlyListed s t ∧ t.token = s.token + 1 ∧
      t.cat.clips = insertClip c s.cat.clips ∧
      t.wire = s.wire ++ unsupportedOf c ++ [⟨.cat, .lb, .defaultRequest desc.letter
        { clip := id, serial := serial, made := s.token, create := some (b, ins) }⟩]) ∧
  (∀ b ins serial clipNo required desc s, s.clipOf serial clipNo = none → s.cat.freeId = none →
    ∃ t, exec (.listingRequest b ins serial clipNo required desc) s = .next t ∧ onlyWire s t ∧
      t.wire = s.wire ++ [⟨.cat, .ci, .listingAnswer b ins .full⟩]) ∧
  (∀ b ins serial clipNo required desc s c, s.clipOf serial clipNo = some c → c.desc = desc →
    ∃ t, exec (.listingRequest b ins serial clipNo required desc) s = .next t ∧ onlyWire s t ∧
      t.wire = s.wire ++ [⟨.cat, .ci, .listingAnswer b ins (.relinked c.id)⟩, noticeOf .cat (clipNotice .catRelinked c none [])] ++
        searchesOf s c) ∧
  (∀ b ins serial clipNo required desc s c, catalogOk s → s.clipOf serial clipNo = some c → c.desc ≠ desc → c.order = none →
    ∃ t, exec (.listingRequest b ins serial clipNo required desc) s = .next t ∧ clipBecomes (refreshed c desc) s t ∧
      t.wire = s.wire ++ [⟨.cat, .ci, .listingAnswer b ins (.relinked c.id)⟩] ++
        ((c.copies.filter fun x => x.state = .found).map fun x =>
          noticeOf .cat (copyStateNotice (refreshed c desc) { x with state := .stale, cause := none })) ++
        unsupportedOf (refreshed c desc) ++ [⟨.cat, .lb, .defaultRequest desc.letter
          { clip := c.id, serial := c.serial, made := c.made, create := none }⟩]) ∧
  (∀ b ins serial clipNo required desc s c o, s.clipOf serial clipNo = some c → c.desc ≠ desc → c.order = some o →
    c.state = .queued →
    ∃ t, exec (.listingRequest b ins serial clipNo required desc) s = .next t ∧ onlyWire s t ∧
      t.wire = s.wire ++ [⟨.cat, .ci, .listingAnswer b ins (.relinked c.id)⟩,
        ⟨.cat, .ods, .catalogRemovalRequest c.id o c.serial c.made desc⟩]) ∧
  ∀ b ins serial clipNo required desc s c o, catalogOk s → s.clipOf serial clipNo = some c → c.desc ≠ desc →
    c.order = some o → c.state ≠ .queued →
    ∃ t, exec (.listingRequest b ins serial clipNo required desc) s = .next t ∧
      clipBecomes { c with held := some desc } s t ∧
      t.wire = s.wire ++ [⟨.cat, .ci, .listingAnswer b ins (.relinked c.id)⟩,
        noticeOf .cat (clipNotice .catDescriptionHeld c (some o) [])]) ∧
  (∀ job slot s c b ins, s.sameClip job.clip job.serial job.made = some c → job.create = some (b, ins) →
    ∃ t, exec (.cameraDefaultAnswer job slot) s = .next t ∧ clipBecomes { c with look := slot } s t ∧
      t.wire = s.wire ++ [⟨.cat, .ci, .listingAnswer b ins (.made c.id)⟩,
        noticeOf .cat (clipNotice .catCreated c none (u8 (c.state.ctorIdx + 1)))] ++ searchesOf s c) ∧
  (∀ job slot s c, s.sameClip job.clip job.serial job.made = some c → job.create = none →
    ∃ t, exec (.cameraDefaultAnswer job slot) s = .next t ∧ clipBecomes { c with look := slot } s t ∧
      t.wire = s.wire ++ [noticeOf .cat (clipNotice .catRefreshed c none (u8 (c.state.ctorIdx + 1)))] ++ searchesOf s c) ∧
  (∀ clip serial made desc removed s c, s.sameClip clip serial made = some c → c.order = none →
    ∃ t, exec (.orderRemovalAnswer clip serial made desc removed) s = .next t ∧ clipBecomes (refreshed c desc) s t ∧
      t.wire = s.wire ++ ((c.copies.filter fun x => x.state = .found).map fun x =>
          noticeOf .cat (copyStateNotice (refreshed c desc) { x with state := .stale, cause := none })) ++
        unsupportedOf (refreshed c desc) ++ [⟨.cat, .lb, .defaultRequest desc.letter
          { clip := c.id, serial := c.serial, made := c.made, create := none }⟩]) ∧
  (∀ clip serial made desc removed s c, s.sameClip clip serial made = some c → c.order ≠ none →
    ∃ t, exec (.orderRemovalAnswer clip serial made desc removed) s = .next t ∧
      clipBecomes { c with held := some desc } s t ∧
      t.wire = s.wire ++ [noticeOf .cat (clipNotice .catDescriptionHeld c c.order [])]) ∧
  (∀ job slot s, s.sameClip job.clip job.serial job.made = none → exec (.cameraDefaultAnswer job slot) s = .next s) ∧
  ∀ clip serial made desc removed s, s.sameClip clip serial made = none →
    exec (.orderRemovalAnswer clip serial made desc removed) s = .next s) ∧
  (∀ (k : Catalog) id, k.freeId = some id ↔ id < 1024 ∧ (∀ c ∈ k.clips, c.id ≠ id) ∧ ∀ j < id, ∃ c ∈ k.clips, c.id = j) ∧
  (∀ s, catalogOk s → (s.cat.freeId = none ↔ s.cat.clips.length = 1024)) ∧
  (∀ (s : State) c, catalogOk s → (∀ x ∈ s.cat.clips, x.id ≠ c.id) → (insertClip c s.cat.clips).Perm (c :: s.cat.clips) ∧
    ((insertClip c s.cat.clips).map (·.id)).Pairwise (· < ·)) ∧
  (∀ id made serial clipNo required (d : Desc), newClip id made serial clipNo required d =
    { id := id, serial := serial, clipNo := clipNo, desc := d
      extents := if 68719476736 < d.dataLen then 0 else (d.dataLen + 8388607) / 8388608
      required := required
      state := if 68719476736 < d.dataLen ∨ d.rate = 0 ∨ 6 < d.rate then .unsupported else .listed
      sums := none, copies := [], look := 0, stamp := none, inspected := 0, skipped := 0, insp := .none, blocking := 0
      overflow := false, order := none, held := none, made := made }) ∧
  (∀ (c : Clip) d, refreshed c d = { c with
      desc := d, sums := none, inspected := 0, skipped := 0, insp := .none, stamp := none, held := none
      extents := if 68719476736 < d.dataLen then 0 else (d.dataLen + 8388607) / 8388608
      copies := (c.copies.filter fun x => x.state ≠ .verified).map fun x =>
        if x.state = .found then { x with state := .stale, cause := none, recorded := none } else x
      state := if 68719476736 < d.dataLen ∨ d.rate = 0 ∨ 6 < d.rate then .unsupported else .listed })

/-- Copy creation (R29) and found copies (R32, R33). A creation for the binding order adds a RESERVED copy and is
answered MADE, where the clip has a free record or one that slot reuse may remove; it is answered NOT_BOUND for any
other order, BUSY while the volume holds a copy in progress, and FULL otherwise. An offer for a record with no copy on
that volume adds a FOUND copy, and one for a record whose only copy there is FOUND or STALE at a lower header block
re-points that copy and makes it FOUND again (`offered`): ADDED is noticed and the Order Dispatcher told, and the copy
is resolved at once where the source sums are complete. The offer is noticed FOUND_UNLINKED where no record is free, and
discarded where no record of that serial, clip number and data length is supported or a copy on that volume is in any
other state or place. A FOUND copy is resolved against complete source sums (R33): with the same sums it becomes
VERIFIED, the stations, the Fault List and the Order Dispatcher are told, and the clip's state follows; with others it
becomes STALE, and FOUND_MISMATCH is filed. Either way the sums it carried are dropped. A copy is placed (R29) at the
end of a list of fewer than 6, or else in place of the first FAILED, ABANDONED or STALE record, which leaves; with none
of them there is no place. -/
def Obligations.CopiesMadeAndFound : Prop :=
  (((∀ ch clip order p vol hb s c x l, s.clip? clip = some c → c.order = some order →
    (∀ y ∈ c.copies, y.vol = vol → y.state.final = true) →
    x = { port := p, vol := vol, hb := hb, state := .reserved, cause := none, written := 0, passes := 0
          mismatch := none, recorded := none } → placeCopy c.copies x = some l →
    ∃ t, exec (.copyCreationRequest ch clip order p vol hb) s = .next t ∧ clipBecomes { c with copies := l } s t ∧
      t.wire = s.wire ++ [⟨.cat, .cc ch, .creationAnswer ch order p .made⟩,
        noticeOf .cat (copyNotice .copyAdded c x (u8 2))]) ∧
  (∀ ch clip order p vol hb s ans, ((∀ c, s.clip? clip = some c → c.order ≠ some order) ∧ ans = .notBound ∨
      (∃ c, s.clip? clip = some c ∧ c.order = some order ∧ (∃ y ∈ c.copies, y.vol = vol ∧ y.state.final = false)) ∧
        ans = .busy) →
    ∃ t, exec (.copyCreationRequest ch clip order p vol hb) s = .next t ∧ onlyWire s t ∧
      t.wire = s.wire ++ [⟨.cat, .cc ch, .creationAnswer ch order p ans⟩]) ∧
  (∀ ch clip order p vol hb s c, s.clip? clip = some c → c.order = some order → 6 ≤ c.copies.length →
    (∀ y ∈ c.copies, y.state.reusable = false ∧ (y.vol = vol → y.state.final = true)) →
    ∃ t, exec (.copyCreationRequest ch clip order p vol hb) s = .next t ∧ onlyWire s t ∧
      t.wire = s.wire ++ [⟨.cat, .cc ch, .creationAnswer ch order p .full⟩]) ∧
  (∀ p vol hb serial clipNo dataLen sums s c x i l, catalogOk s → s.clipOf serial clipNo = some c → c.state ≠ .unsupported →
    c.desc.dataLen = dataLen → offered c p vol hb sums x i l → c.complete = false →
    ∃ t, exec (.foundOffer p vol hb serial clipNo dataLen sums) s = .next t ∧ clipBecomes { c with copies := l } s t ∧
      t.wire = s.wire ++ [noticeOf .cat (copyNotice .copyAdded c x (u8 1)), ⟨.cat, .ods, .catalogDispatchReport c.id⟩]) ∧
  (∀ p vol hb serial clipNo dataLen sums s c, s.clipOf serial clipNo = some c → c.state ≠ .unsupported →
    c.desc.dataLen = dataLen → (∀ y ∈ c.copies, y.vol ≠ vol) → 6 ≤ c.copies.length →
    (∀ y ∈ c.copies, y.state.reusable = false) →
    ∃ t n, exec (.foundOffer p vol hb serial clipNo dataLen sums) s = .next t ∧ onlyWire s t ∧
      n = { clipNotice .catFoundUnlinked c none [] with port := some p } ∧ t.wire = s.wire ++ [noticeOf .cat n]) ∧
  (∀ p vol hb serial clipNo dataLen sums s,
    (∀ c, s.clipOf serial clipNo = some c → c.state = .unsupported ∨ c.desc.dataLen ≠ dataLen) →
    exec (.foundOffer p vol hb serial clipNo dataLen sums) s = .next s) ∧
  ∀ p vol hb serial clipNo dataLen sums s c, s.clipOf serial clipNo = some c →
    2 ≤ (c.copies.filter fun y => y.vol = vol).length ∨
      (∃ y ∈ c.copies, y.vol = vol ∧ (y.state ≠ .found ∧ y.state ≠ .stale ∨ hb ≤ y.hb)) →
    exec (.foundOffer p vol hb serial clipNo dataLen sums) s = .next s) ∧
  (∀ p vol hb serial clipNo dataLen sums s c x x' i l r, catalogOk s → s.clipOf serial clipNo = some c →
    c.state ≠ .unsupported → c.desc.dataLen = dataLen → offered c p vol hb sums x i l → c.complete = true →
    c.sums = some sums → x' = { x with state := .verified, recorded := none } → r = { c with copies := l.set i x' } →
    ∃ t, exec (.foundOffer p vol hb serial clipNo dataLen sums) s = .next t ∧
      clipBecomes { r with state := settledState r } s t ∧
      t.wire = s.wire ++ [noticeOf .cat (copyNotice .copyAdded c x (u8 1)), ⟨.cat, .ods, .catalogDispatchReport c.id⟩,
        noticeOf .cat (copyStateNotice c x'), ⟨.cat, .fl, .verifiedCopyReport c.id vol⟩,
        ⟨.cat, .ods, .catalogDispatchReport c.id⟩] ++ clipStateReport c none (settledState r)) ∧
  ∀ p vol hb serial clipNo dataLen sums s c x i l, catalogOk s → s.clipOf serial clipNo = some c → c.state ≠ .unsupported →
    c.desc.dataLen = dataLen → offered c p vol hb sums x i l → c.complete = true → c.sums ≠ some sums →
    ∃ t x', exec (.foundOffer p vol hb serial clipNo dataLen sums) s = .next t ∧
      x' = { x with state := .stale, recorded := none } ∧ clipBecomes { c with copies := l.set i x' } s t ∧
      t.wire = s.wire ++ [noticeOf .cat (copyNotice .copyAdded c x (u8 1)), ⟨.cat, .ods, .catalogDispatchReport c.id⟩,
        noticeOf .cat (copyStateNotice { c with copies := l } x'), filedOf .cat c.id .foundMismatch (some (.volume vol))]) ∧
  (∀ (l : List Copy) x, l.length < 6 → placeCopy l x = some (l ++ [x])) ∧
  (∀ (pre post : List Copy) y x, 6 ≤ (pre ++ y :: post).length →
    (∀ z ∈ pre, z.state ≠ .failed ∧ z.state ≠ .abandoned ∧ z.state ≠ .stale) →
    y.state = .failed ∨ y.state = .abandoned ∨ y.state = .stale → placeCopy (pre ++ y :: post) x = some (pre ++ post ++ [x])) ∧
  (∀ (l : List Copy) x, 6 ≤ l.length → (∀ z ∈ l, z.state ≠ .failed ∧ z.state ≠ .abandoned ∧ z.state ≠ .stale) →
    placeCopy l x = none)

/-- Progress reports (R30): each moves the copy it names, in the states its rule gives, and a report for no such copy, or
for one in another state, is discarded, and so is an end report with a state and a cause that do not go together. The last
extent makes the copy WRITTEN; a verify with mismatches starts a repair pass, and after two passes fails the copy with
MISMATCH; a rewritten header makes it VERIFIED, and the clip's state follows where no order binds it; an end report stores
its final state and cause. A lost volume (R31): every copy of it that a channel is making becomes FAILED with LOST_DRIVE,
in every clip, with its notice and finding, clip by clip and copy by copy; no other copy and no other field of a record
changes. That order, the clips in ascending clip id and the copies in copy-list order, is the model's choice (assumption
116). -/
def Obligations.ProgressReportsAndLoss : Prop :=
  ((∀ clip vol s c i x, s.reported clip vol (fun k => k = .reserved) = some (c, i, x) →
    ∃ t x', exec (.headerWrittenReport clip vol) s = .next t ∧ x' = { x with state := .writing } ∧
      clipBecomes { c with copies := c.copies.set i x' } s t ∧ t.wire = s.wire ++ copyReport c x') ∧
  (∀ clip vol s c i x, s.reported clip vol (fun k => k = .writing) = some (c, i, x) → c.extents ≤ x.written + 1 →
    ∃ t x', exec (.extentWrittenReport clip vol) s = .next t ∧ x' = { x with written := c.extents, state := .written } ∧
      clipBecomes { c with copies := c.copies.set i x' } s t ∧ t.wire = s.wire ++ copyReport c x') ∧
  (∀ clip vol s c i x, s.reported clip vol (fun k => k = .writing) = some (c, i, x) → x.written + 1 < c.extents →
    ∃ t, exec (.extentWrittenReport clip vol) s = .next t ∧
      clipBecomes { c with copies := c.copies.set i { x with written := x.written + 1 } } s t ∧ t.wire = s.wire) ∧
  (∀ clip vol s c i x, s.reported clip vol (fun k => k = .written || k = .repairing) = some (c, i, x) →
    ∃ t x', exec (.verifyBegunReport clip vol) s = .next t ∧
      x' = { x with state := (if x.state = .written then .verifying else x.state), mismatch := none } ∧
      clipBecomes { c with copies := c.copies.set i x' } s t ∧
      t.wire = s.wire ++ (if x.state = .written then copyReport c x' else [])) ∧
  (∀ clip vol ext s c i x, s.reported clip vol (fun k => k = .verifying || k = .repairing) = some (c, i, x) →
    ∃ t, exec (.mismatchReport clip vol ext) s = .next t ∧ t.wire = s.wire ∧
      clipBecomes { c with copies := c.copies.set i { x with mismatch := some (insertAsc ext (x.mismatch.getD [])) } } s t) ∧
  (∀ clip vol s c i x, s.reported clip vol (fun k => k = .verifying || k = .repairing) = some (c, i, x) →
    x.mismatch.getD [] = [] → exec (.verifyEndedReport clip vol) s = .next s) ∧
  (∀ clip vol s c i x, s.reported clip vol (fun k => k = .verifying || k = .repairing) = some (c, i, x) →
    x.mismatch.getD [] ≠ [] → x.passes < 2 →
    ∃ t x', exec (.verifyEndedReport clip vol) s = .next t ∧ x' = { x with passes := x.passes + 1, state := .repairing } ∧
      clipBecomes { c with copies := c.copies.set i x' } s t ∧
      t.wire = s.wire ++ (if x.state = .repairing then [] else copyReport c x')) ∧
  (∀ clip vol s c i x, s.reported clip vol (fun k => k = .verifying || k = .repairing) = some (c, i, x) →
    x.mismatch.getD [] ≠ [] → 2 ≤ x.passes →
    ∃ t x', exec (.verifyEndedReport clip vol) s = .next t ∧ x' = { x with state := .failed, cause := some .mismatch } ∧
      clipBecomes { c with copies := c.copies.set i x' } s t ∧ t.wire = s.wire ++ copyReport c x') ∧
  (∀ clip vol s c i x r, s.reported clip vol (fun k => k = .verifying || k = .repairing) = some (c, i, x) →
    r = { c with copies := c.copies.set i { x with state := .verified, mismatch := none } } →
    ∃ t new, exec (.rewriteDoneReport clip vol) s = .next t ∧
      new = (if c.order = none ∧ c.state ≠ .unsupported ∧ c.state ≠ .listed then r.settled else c.state) ∧
      clipBecomes { r with state := new } s t ∧
      t.wire = s.wire ++ copyReport c { x with state := .verified, mismatch := none } ++
        [⟨.cat, .fl, .verifiedCopyReport c.id x.vol⟩, ⟨.cat, .ods, .catalogDispatchReport c.id⟩] ++
        clipStateReport c none new) ∧
  (∀ clip vol final cause s c i x, s.reported clip vol CopyState.inProgress = some (c, i, x) →
    endPairOk final cause = true →
    ∃ t x', exec (.copyEndReport clip vol final cause) s = .next t ∧
      x' = { x with state := final, cause := some cause } ∧ clipBecomes { c with copies := c.copies.set i x' } s t ∧
      t.wire = s.wire ++ copyReport c x') ∧
  ∀ clip vol ext final cause s, s.reported clip vol CopyState.inProgress = none →
    ∀ r ∈ [Instr.headerWrittenReport clip vol, .extentWrittenReport clip vol, .verifyBegunReport clip vol,
      .mismatchReport clip vol ext, .verifyEndedReport clip vol, .rewriteDoneReport clip vol,
      .copyEndReport clip vol final cause], exec r s = .next s) ∧
  (∀ p vol s, (s.cat.clips.map (·.id)).Nodup →
    ∃ t, exec (.lostVolumeReport p vol) s = .next t ∧ onlyCat s t ∧
      t.wire = s.wire ++ (s.cat.clips.flatMap fun c =>
        (c.copies.filter fun x => x.vol = vol && x.state.inProgress).flatMap fun x =>
          copyReport c { x with state := .failed, cause := some .lostDrive }) ∧
      t.cat.clips = s.cat.clips.map fun c => { c with copies := c.copies.map fun x =>
        if x.vol = vol ∧ x.state.inProgress = true then { x with state := .failed, cause := some .lostDrive } else x }) ∧
  (∀ clip vol ext final cause s r, (
      r = Instr.headerWrittenReport clip vol ∧ s.reported clip vol (fun k => k = .reserved) = none ∨
      r = .extentWrittenReport clip vol ∧ s.reported clip vol (fun k => k = .writing) = none ∨
      r = .verifyBegunReport clip vol ∧ s.reported clip vol (fun k => k = .written || k = .repairing) = none ∨
      (r = .mismatchReport clip vol ext ∨ r = .verifyEndedReport clip vol ∨ r = .rewriteDoneReport clip vol) ∧
        s.reported clip vol (fun k => k = .verifying || k = .repairing) = none ∨
      r = .copyEndReport clip vol final cause ∧ endPairOk final cause = false) → exec r s = .next s)

/-- The read of a clip (R34, R35). A start-read of the binding order makes the clip READING and is answered with what
the read needs, COMPARE where the source sums are complete, RECORD with an empty list where they are not; any other is
answered NOT_BOUND. In RECORD the next sum is stored and answered STORED, the last one making the clip CHECKING; in
COMPARE and in a repair an equal sum is answered EQUAL and another UNEQUAL, which changes nothing. The last sum of the
read, stored or equal, makes the clip CHECKING and resolves its FOUND copies, each of which is told of (R33). That a
READ sum is compared once the record's sums are complete is the model's choice (assumption 60), and so is the order in
which several FOUND copies are resolved and told of, that of the copy list (assumption 116). A READ sum of an incomplete
list for an extent that is not the number of sums stored is answered NOT_BOUND (R35). -/
def Obligations.SourceSums : Prop :=
  ((∀ ch clip order s c new, s.clip? clip = some c → c.order = some order →
    new = { c with state := .reading, sums := if c.complete then c.sums else some [] } →
    ∃ t, exec (.startReadRequest ch clip order) s = .next t ∧ clipBecomes new s t ∧
      t.wire = s.wire ++ clipStateReport c (some order) .reading ++ [⟨.cat, .cc ch, .startReadAnswer ch order (some
        { serial := c.serial, clipNo := c.clipNo, extents := c.extents, desc := c.desc
          mode := if c.complete then .compare else .record })⟩]) ∧
  (∀ ch clip order ext sum pass s, (∀ c, s.clip? clip = some c → c.order ≠ some order) →
    (∃ t, exec (.startReadRequest ch clip order) s = .next t ∧ onlyWire s t ∧
      t.wire = s.wire ++ [⟨.cat, .cc ch, .startReadAnswer ch order none⟩]) ∧
    ∃ t, exec (.sumReport ch clip order ext sum pass) s = .next t ∧ onlyWire s t ∧
      t.wire = s.wire ++ [⟨.cat, .cc ch, .sumAnswer ch order ext pass .notBound⟩]) ∧
  (∀ ch clip order ext sum s c l, s.clip? clip = some c → c.order = some order → c.complete = false →
    l = c.sums.getD [] → ext = l.length → ext + 1 < c.extents →
    ∃ t, exec (.sumReport ch clip order ext sum .read) s = .next t ∧ clipBecomes { c with sums := some (l ++ [sum]) } s t ∧
      t.wire = s.wire ++ [⟨.cat, .cc ch, .sumAnswer ch order ext .read .stored⟩]) ∧
  (∀ ch clip order ext sum s c l, s.clip? clip = some c → c.order = some order → c.complete = false →
    l = c.sums.getD [] → ext = l.length → ext + 1 = c.extents → c.copies.length ≤ 6 →
    ∃ t, exec (.sumReport ch clip order ext sum .read) s = .next t ∧
      clipBecomes { c with sums := some (l ++ [sum]), state := .checking
                           copies := c.copies.map (resolvedCopy (l ++ [sum])) } s t ∧
      t.wire = s.wire ++ clipStateReport c (some order) .checking ++ c.copies.flatMap (resolveReport c (l ++ [sum])) ++
        [⟨.cat, .cc ch, .sumAnswer ch order ext .read .stored⟩]) ∧
  (∀ ch clip order ext sum s c l, s.clip? clip = some c → c.order = some order → c.complete = true → c.sums = some l →
    l[ext]? = some sum → ext + 1 = c.extents → c.copies.length ≤ 6 →
    ∃ t, exec (.sumReport ch clip order ext sum .read) s = .next t ∧
      clipBecomes { c with state := .checking, copies := c.copies.map (resolvedCopy l) } s t ∧
      t.wire = s.wire ++ clipStateReport c (some order) .checking ++ c.copies.flatMap (resolveReport c l) ++
        [⟨.cat, .cc ch, .sumAnswer ch order ext .read .equal⟩]) ∧
  (∀ ch clip order ext sum s c pass, s.clip? clip = some c → c.order = some order →
    c.complete = true ∨ pass = .repair → (c.sums.getD [])[ext]? = some sum → ¬(pass = .read ∧ ext + 1 = c.extents) →
    ∃ t, exec (.sumReport ch clip order ext sum pass) s = .next t ∧ onlyWire s t ∧
      t.wire = s.wire ++ [⟨.cat, .cc ch, .sumAnswer ch order ext pass .equal⟩]) ∧
  ∀ ch clip order ext sum s c pass, s.clip? clip = some c → c.order = some order →
    c.complete = true ∨ pass = .repair → (c.sums.getD [])[ext]? ≠ some sum →
    ∃ t, exec (.sumReport ch clip order ext sum pass) s = .next t ∧ onlyWire s t ∧
      t.wire = s.wire ++ [⟨.cat, .cc ch, .sumAnswer ch order ext pass .unequal⟩]) ∧
  (∀ ch clip order ext sum s c, s.clip? clip = some c → c.order = some order → c.complete = false →
    ext ≠ (c.sums.getD []).length →
    ∃ t, exec (.sumReport ch clip order ext sum .read) s = .next t ∧ onlyWire s t ∧
      t.wire = s.wire ++ [⟨.cat, .cc ch, .sumAnswer ch order ext .read .notBound⟩])

/-- Binding (R36, R37). A bind of a clip that no order binds, with room for the named copies, makes it QUEUED and is
answered with its serial and letter; each refusal changes nothing. An unbind of the binding order takes the order id and
an incomplete sum list away and gives the clip the state its sums and VERIFIED copies call for; with a description held
the record is refreshed instead, and the state that gives it is noticed and answered too. An unbind of any other order
does nothing. That the STATE notice of an unbind carries the id of the order just unbound is the model's choice
(assumption 61), and so is the new letter it carries after a refresh (assumption 18). So is the order of the COPY
notices (assumption 116). A clip with no order is LISTED without complete sums, VERIFIED with at least the required
number of VERIFIED copies and SHORT with fewer (R37, `Clip.settled`). -/
def Obligations.BindAndUnbind : Prop :=
  ((∀ clip order named s c, s.clip? clip = some c → c.state ≠ .unsupported → c.order = none →
    named ≤ (6 - c.copies.length) + (c.copies.filter fun x => x.state.reusable).length →
    ∃ t, exec (.bindRequest clip order named) s = .next t ∧
    clipBecomes { c with order := some order, state := .queued } s t ∧
      t.wire = s.wire ++ clipStateReport c (some order) .queued ++
        [⟨.cat, .ods, .bindAnswer order (.bound c.serial c.desc.letter)⟩]) ∧
  (∀ clip order named s ans, (s.clip? clip = none ∧ ans = .notFound ∨
      (∃ c, s.clip? clip = some c ∧ c.state = .unsupported) ∧ ans = .unsupported ∨
      (∃ c, s.clip? clip = some c ∧ c.state ≠ .unsupported ∧ c.order ≠ none) ∧ ans = .busy ∨
      (∃ c, s.clip? clip = some c ∧ c.state ≠ .unsupported ∧ c.order = none ∧
        (6 - c.copies.length) + (c.copies.filter fun x => x.state.reusable).length < named) ∧ ans = .full) →
    ∃ t, exec (.bindRequest clip order named) s = .next t ∧ onlyWire s t ∧
      t.wire = s.wire ++ [⟨.cat, .ods, .bindAnswer order ans⟩]) ∧
  (∀ clip order s c r, s.clip? clip = some c → c.order = some order → c.held = none →
    r = { c with order := none, sums := if c.complete then c.sums else none } →
    ∃ t, exec (.unbindRequest clip order) s = .next t ∧ clipBecomes { r with state := r.settled } s t ∧
      t.wire = s.wire ++ clipStateReport r (some order) r.settled ++ [⟨.cat, .ods, .unbindAnswer order clip r.settled⟩]) ∧
  (∀ clip order s c d r, s.clip? clip = some c → c.order = some order → c.held = some d →
    r = refreshed { c with order := none } d →
    ∃ t, exec (.unbindRequest clip order) s = .next t ∧ clipBecomes r s t ∧
      t.wire = s.wire ++ ((c.copies.filter fun x => x.state = .found).map fun x =>
          noticeOf .cat (copyStateNotice r { x with state := .stale, cause := none })) ++ unsupportedOf r ++
        [⟨.cat, .lb, .defaultRequest d.letter { clip := c.id, serial := c.serial, made := c.made, create := none }⟩] ++
        clipStateReport { r with state := c.state } (some order) r.state ++ [⟨.cat, .ods, .unbindAnswer order clip r.state⟩]) ∧
  ∀ clip order s, (∀ c, s.clip? clip = some c → c.order ≠ some order) → exec (.unbindRequest clip order) s = .next s) ∧
  (∀ c : Clip, (c.sums = none → c.settled = .listed) ∧
    (c.sums ≠ none → c.required ≤ (c.copies.filter fun x => x.state = .verified).length → c.settled = .verified) ∧
    (c.sums ≠ none → (c.copies.filter fun x => x.state = .verified).length < c.required → c.settled = .short))

/-- Fields kept for other blocks (R38), required copies (R39), looks (R40, R41) and purging (R42). The blocking count
and the overflow hold are stored, with HOLDS only when one of them changes; inspection counts add up to at most
16,777,215; a forwarded SET COPIES writes every record of the serial; an assigned look slot and a stamp with its version
are stored and noticed. Reports for a free id do nothing; requests for one are refused NOT_FOUND. SET COPIES (R39): a
count of 1 to 3 is written into every bay that has recorded the serial and every record of it; each clip's change of
state is noticed, the clips whose count changed are reported to the dispatcher, the request is accepted and
REQUIRED_COPIES raised (with the camera letter of assumption 19, the model's choice; so is that several records' notices
and reports ascend by clip id, assumption 116); any other count is refused VALUE. A serial that neither a bay nor a
record knows is refused NOT_FOUND. Purging (R42). A serial with no record is refused NOT_FOUND; one with an order, or
with none but a re-inspection, is refused with that reason, before the Inspector is asked and again at the end; a held
reader or card is refused as answered. A purge removes every record of the serial and no other, and hands the ids to the
Fault List and the outputs. The version answer for a record purged meanwhile is discarded and the stamp refused
NOT_FOUND (R41). The model's choices: that a purge whose records are gone by the time of its end is accepted with none
removed (assumption 62), and that the version answer is matched by the record's card and number of creation (assumption
58). That the version of the LOOK notice is an optional field, absent for ASSIGN LOOK, is the model's choice (assumption
118). That a reported state is written by the LIVE test alone, also where a clip had two passes, is the model's choice
(assumption 73). A clip id above 1023 or a slot above 31 is refused VALUE (R40, R41). -/
def Obligations.RecordFieldsAndPurge : Prop :=
  ((((∀ clip n s c, s.clip? clip = some c → n ≠ c.blocking →
    ∃ t, exec (.blockingCountReport clip n) s = .next t ∧ clipBecomes { c with blocking := n } s t ∧
      t.wire = s.wire ++ [noticeOf .cat (clipNotice .catHolds c none (u16 n ++ fFlag c.overflow))]) ∧
  (∀ clip s c, s.clip? clip = some c → c.overflow = false →
    ∃ t, exec (.overflowHoldSet clip) s = .next t ∧ clipBecomes { c with overflow := true } s t ∧
      t.wire = s.wire ++ [noticeOf .cat (clipNotice .catHolds c none (u16 c.blocking ++ fFlag true))]) ∧
  (∀ clip s c, s.clip? clip = some c → c.overflow = true →
    ∃ t, exec (.overflowHoldClear clip) s = .next t ∧ clipBecomes { c with overflow := false } s t ∧
      t.wire = s.wire ++ [noticeOf .cat (clipNotice .catHolds c none (u16 c.blocking ++ fFlag false))]) ∧
  (∀ clip s c, s.clip? clip = some c → exec (.blockingCountReport clip c.blocking) s = .next s ∧
    (c.overflow = true → exec (.overflowHoldSet clip) s = .next s) ∧
    (c.overflow = false → exec (.overflowHoldClear clip) s = .next s)) ∧
  (∀ clip rep s c new, s.clip? clip = some c →
    new = (match rep with
      | .addInspected n => { c with inspected := min (c.inspected + n) 16777215 }
      | .addSkipped n => { c with skipped := min (c.skipped + n) 16777215 }
      | .start st => { c with inspected := 0, skipped := 0, insp := st }
      | .setState st only => if only = none ∨ only = some c.insp then { c with insp := st } else c) →
    ∃ t, exec (.inspectionCountReport clip rep) s = .next t ∧ clipBecomes new s t ∧ t.wire = s.wire) ∧
  (∀ clip n rep s, s.clip? clip = none → ∀ r ∈ [Instr.blockingCountReport clip n, .overflowHoldSet clip,
    .overflowHoldClear clip, .inspectionCountReport clip rep], exec r s = .next s) ∧
  (∀ q clip (slot : LookIx) s c, clip < 1024 → s.clip? clip = some c →
    ∃ t, exec (.assignLook q clip slot.val) s = .next t ∧ clipBecomes { c with look := slot } s t ∧
      t.wire = s.wire ++ [acceptOf .cat q [], noticeOf .cat (clipNotice .catLook c none (u8 slot.val ++ fOpt [2] u16 none))]) ∧
  (∀ q clip s c, clip < 1024 → s.clip? clip = some c →
    ∃ t, exec (.stampLook q clip) s = .next t ∧ onlyWire s t ∧
      t.wire = s.wire ++ [⟨.cat, .lb, .versionRequest q clip c.serial c.made c.look⟩]) ∧
  (∀ q clip serial made slot version s, s.sameClip clip serial made = none →
    ∃ t, exec (.stampVersionAnswer q clip serial made slot version) s = .next t ∧ onlyWire s t ∧
      t.wire = s.wire ++ [refuseOf .cat q .notFound]) ∧
  (∀ q clip serial made slot version s c, s.sameClip clip serial made = some c →
    ∃ t, exec (.stampVersionAnswer q clip serial made slot version) s = .next t ∧
      clipBecomes { c with stamp := some (slot, version) } s t ∧
      t.wire = s.wire ++ [acceptOf .cat q (u8 slot.val ++ u16 version),
        noticeOf .cat (clipNotice .catLook c none (u8 slot.val ++ fOpt [2] u16 (some version)))]) ∧
  ∀ q clip (slot : LookIx) s, clip < 1024 → s.clip? clip = none →
  ∀ r ∈ [Instr.assignLook q clip slot.val, .stampLook q clip],
    ∃ t, exec r s = .next t ∧ onlyWire s t ∧ t.wire = s.wire ++ [refuseOf .cat q .notFound]) ∧
  (∀ q serial count s, 1 ≤ count → count ≤ 3 →
    ∃ t, exec (.setCopies q serial count) s = .next t ∧ onlyCi s t ∧ t.token = s.token ∧
      (∀ b, t.bay b = if (s.bay b).serial = some serial then { s.bay b with required := count } else s.bay b) ∧
      t.wire = s.wire ++ [⟨.ci, .cat, .setCopiesForwarded q serial count
        (((List.finRange 6).find? fun b => (s.bay b).serial = some serial).bind fun b => (s.bay b).letter)
        (decide (∃ b, (s.bay b).serial = some serial))⟩]) ∧
  (∀ q serial count s, count < 1 ∨ 3 < count →
    ∃ t, exec (.setCopies q serial count) s = .next t ∧ onlyWire s t ∧ t.wire = s.wire ++ [refuseOf .ci q .value]) ∧
  (∀ q serial count s held, (∀ c ∈ s.cat.clips, c.serial ≠ serial) →
    ∃ t, exec (.setCopiesForwarded q serial count held false) s = .next t ∧ onlyWire s t ∧
      t.wire = s.wire ++ [refuseOf .cat q .notFound]) ∧
  ∀ q serial count s held inBay, (s.cat.clips.map (·.id)).Nodup →
    inBay = true ∨ (∃ c ∈ s.cat.clips, c.serial = serial) →
    ∃ t, exec (.setCopiesForwarded q serial count held inBay) s = .next t ∧ onlyCat s t ∧
      t.cat.clips = (s.cat.clips.map fun c =>
        if c.serial = serial then
          { c with required := count, state := settledState { c with required := count } }
        else c) ∧
      t.wire = s.wire ++ ((s.clipsOf serial).flatMap fun c =>
          clipStateReport c none (settledState { c with required := count }) ++
            if c.required = count then [] else [⟨.cat, .ods, .catalogDispatchReport c.id⟩]) ++
        [acceptOf .cat q [], noticeOf .cat
          { sub := .catRequiredCopies, serial := some serial
            letter := match (s.clipsOf serial).head? with
              | some c => some c.desc.letter
              | none => held
            fields := u8 count }]) ∧
  (∀ q serial s, s.clipsOf serial = [] →
    ∃ t, exec (.purgeCard q serial) s = .next t ∧ onlyWire s t ∧ t.wire = s.wire ++ [refuseOf .cat q .notFound]) ∧
  (∀ q serial s, s.clipsOf serial ≠ [] → (∀ c ∈ s.cat.clips, c.serial = serial → c.order = none ∧ c.insp ≠ .reinspecting) →
    ∃ t, exec (.purgeCard q serial) s = .next t ∧ onlyWire s t ∧
      t.wire = s.wire ++ [⟨.cat, .ins, .purgeReaderQuery q serial ((s.clipsOf serial).map (·.id))⟩]) ∧
  (∀ q serial s c, c ∈ s.cat.clips → c.serial = serial → c.order ≠ none →
    ∀ r ∈ [Instr.purgeCard q serial, .purgeBayAnswer q serial false], ∃ t, exec r s = .next t ∧ onlyWire s t ∧
      t.wire = s.wire ++ [refuseStateOf .cat q .orderOpen]) ∧
  (∀ q serial s c, c ∈ s.cat.clips → c.serial = serial → c.insp = .reinspecting →
    (∀ d ∈ s.cat.clips, d.serial = serial → d.order = none) →
    ∀ r ∈ [Instr.purgeCard q serial, .purgeBayAnswer q serial false], ∃ t, exec r s = .next t ∧ onlyWire s t ∧
      t.wire = s.wire ++ [refuseStateOf .cat q .reinspecting]) ∧
  (∀ q serial s, (∃ t, exec (.purgeReaderAnswer q serial true) s = .next t ∧ onlyWire s t ∧
      t.wire = s.wire ++ [refuseStateOf .cat q .reinspecting]) ∧
    (∃ t, exec (.purgeReaderAnswer q serial false) s = .next t ∧ onlyWire s t ∧
      t.wire = s.wire ++ [⟨.cat, .ci, .purgeBayQuery q serial⟩]) ∧
    ∃ t, exec (.purgeBayAnswer q serial true) s = .next t ∧ onlyWire s t ∧
      t.wire = s.wire ++ [refuseStateOf .cat q .cardPresent]) ∧
  ∀ q serial s ids, (∀ c ∈ s.cat.clips, c.serial = serial → c.order = none ∧ c.insp ≠ .reinspecting) →
    ids = (s.clipsOf serial).map (·.id) →
    ∃ t, exec (.purgeBayAnswer q serial false) s = .next t ∧ onlyCat s t ∧
      t.cat.clips = (s.cat.clips.filter fun c => c.serial ≠ serial) ∧
      t.wire = s.wire ++ [⟨.cat, .fl, .purgeList serial ids⟩, ⟨.cat, .ro, .outputPurgeList ids⟩,
        acceptOf .cat q (u16 ids.length),
        noticeOf .cat { sub := .catPurged, serial := some serial, fields := u16 ids.length }]) ∧
  (∀ q clip slot s, 1024 ≤ clip ∨ 32 ≤ slot →
    ∃ t, exec (.assignLook q clip slot) s = .next t ∧ onlyWire s t ∧ t.wire = s.wire ++ [refuseOf .cat q .value]) ∧
  (∀ q clip s, 1024 ≤ clip →
    ∃ t, exec (.stampLook q clip) s = .next t ∧ onlyWire s t ∧ t.wire = s.wire ++ [refuseOf .cat q .value])

/-! ## Order Dispatcher (Section 3) -/

/-- Posting (R46 to R49). A POST ORDER with a clip id below 1024 and one to three distinct ports reserves the last entry
of the queue under a fresh id, takes a priority above 3 as 3 and sends the bind; other values are refused VALUE, a full
queue FULL. A POST CARD ORDER asks for the candidates of its serial, and takes them up one at a time. BOUND makes the
entry PENDING with the answer's serial and letter, raises POSTED, accepts and runs a dispatch pass; any other answer
takes the entry out and refuses. For an entry of a POST CARD ORDER the one counts a candidate posted, the other a
candidate skipped, and the next candidate follows: with none left the answer carries both counts, and a queue full by
then ends the request FULL with the count of the posted. A fresh order id lies below 65,536 and is held by no entry, and
no id between the counter and it was free (R46). That a posting of an UNSUPPORTED clip is refused with the reason
UNSUPPORTED is the model's choice (assumption 21). The destinations of a POST CARD ORDER that are none, more than three,
repeated or past port 3 are refused VALUE (R49). -/
def Obligations.Posting : Prop :=
  (((∀ q clip (ps : List Port) prio s o, clip < 1024 → 1 ≤ ps.length → ps.length ≤ 3 → ps.Nodup → s.ods.orders.length < 64 →
    o = { id := s.ods.freshId, clip := clip, dests := ps, priority := min 3 prio, station := q.st
          posting := some (.single q (decide (prio > 3))) } →
    ∃ t, exec (.postOrder q clip (ps.map (·.val)) prio) s = .next t ∧ onlyOds s t ∧
      t.ods = { s.ods with orders := s.ods.orders ++ [o], counter := (s.ods.freshId + 1) % 65536 } ∧
      t.wire = s.wire ++ [⟨.ods, .cat, .bindRequest clip s.ods.freshId ps.length⟩]) ∧
  (∀ q clip dests prio s, 1024 ≤ clip ∨ dests.length < 1 ∨ 3 < dests.length ∨ ¬dests.Nodup ∨ (∃ d ∈ dests, 4 ≤ d) →
    ∃ t, exec (.postOrder q clip dests prio) s = .next t ∧ onlyWire s t ∧ t.wire = s.wire ++ [refuseOf .ods q .value]) ∧
  (∀ q clip (ps : List Port) prio s, clip < 1024 → 1 ≤ ps.length → ps.length ≤ 3 → ps.Nodup → 64 ≤ s.ods.orders.length →
    ∃ t, exec (.postOrder q clip (ps.map (·.val)) prio) s = .next t ∧ onlyWire s t ∧
      t.wire = s.wire ++ [refuseOf .ods q .full]) ∧
  (∀ q serial (ps : List Port) prio s x, 1 ≤ ps.length → ps.length ≤ 3 → ps.Nodup →
    x = { q := q, dests := ps, prio := min 3 prio, clamped := decide (prio > 3) } →
    ∃ t, exec (.postCardOrder q serial (ps.map (·.val)) prio) s = .next t ∧ onlyOds s t ∧
      t.ods = { s.ods with posts := s.ods.posts ++ [x] } ∧ t.wire = s.wire ++ [⟨.ods, .cat, .candidatesRequest q serial⟩]) ∧
  (∀ q s x, s.ods.post? q = some x →
    ∃ t, exec (.candidatesAnswer q []) s = .next t ∧ onlyOds s t ∧ t.ods.orders = s.ods.orders ∧
      t.wire = s.wire ++ [answerOf .ods q (.accepted x.clamped (u16 x.posted ++ u16 x.skipped))]) ∧
  (∀ q c cs s x o, s.ods.post? q = some x → s.ods.orders.length < 64 →
    o = { id := s.ods.freshId, clip := c, dests := x.dests, priority := x.prio, station := q.st
          posting := some (.card q) } →
    ∃ t, exec (.candidatesAnswer q (c :: cs)) s = .next t ∧ onlyOds s t ∧ t.ods.orders = s.ods.orders ++ [o] ∧
      t.ods.counter = (s.ods.freshId + 1) % 65536 ∧
      t.wire = s.wire ++ [⟨.ods, .cat, .bindRequest c s.ods.freshId x.dests.length⟩]) ∧
  (∀ order serial letter s o o' q clamped, s.ods.orders.find? (fun o => o.id = order && o.state = .reserved) = some o →
    o.posting = some (.single q clamped) →
    o' = { o with serial := serial, letter := letter, state := .pending, posting := none } →
    ∃ u, exec (.bindAnswer order (.bound serial letter)) s = .next u.runPass ∧ onlyOds s u ∧
      u.ods = { s.ods with orders := s.ods.orders.map fun x => if x.id = order then o' else x } ∧
      u.wire = s.wire ++ [noticeOf .ods (u.orderNotice .orderPosted o'
        (u8 o.priority ++ fList (fun p : Port => u8 p.val) o.dests ++ u8 o.station.val)),
        answerOf .ods q (.accepted clamped (u16 order))]) ∧
  (∀ order ans s o q clamped a, s.ods.orders.find? (fun o => o.id = order && o.state = .reserved) = some o →
    o.posting = some (.single q clamped) → (ans, a) ∈ [(BindAns.notFound, Answer.refused .notFound none []),
      (.unsupported, .refused .state (some .unsupported) []), (.busy, .refused .busy none []), (.full, .refused .full none [])] →
    ∃ t, exec (.bindAnswer order ans) s = .next t ∧ onlyOds s t ∧
      t.ods = { s.ods with orders := s.ods.orders.filter fun x => x.id ≠ order } ∧ t.wire = s.wire ++ [answerOf .ods q a]) ∧
  ∀ order ans s, s.ods.orders.find? (fun o => o.id = order && o.state = .reserved) = none →
    exec (.bindAnswer order ans) s = .next s) ∧
  (∀ d : Dispatcher, d.counter < 65536 → d.orders.length + d.leaving.length < 65536 →
    ∃ i, d.freshId = (d.counter + i) % 65536 ∧ (∀ o ∈ d.orders, o.id ≠ d.freshId) ∧
      (∀ l ∈ d.leaving, l.order.id ≠ d.freshId) ∧
      ∀ j < i, (∃ o ∈ d.orders, o.id = (d.counter + j) % 65536) ∨ ∃ l ∈ d.leaving, l.order.id = (d.counter + j) % 65536) ∧
  (∀ order serial letter s o o' q x, s.ods.orders.find? (fun o => o.id = order && o.state = .reserved) = some o →
    o.posting = some (.card q) → s.ods.post? q = some x →
    o' = { o with serial := serial, letter := letter, state := .pending, posting := none } →
    ∃ u, exec (.bindAnswer order (.bound serial letter)) s =
        .next (u.runPass.nextCandidate { x with posted := x.posted + 1 }) ∧ onlyOds s u ∧
      u.ods = { s.ods with orders := s.ods.orders.map fun y => if y.id = order then o' else y } ∧
      u.wire = s.wire ++ [noticeOf .ods (u.orderNotice .orderPosted o'
        (u8 o.priority ++ fList (fun p : Port => u8 p.val) o.dests ++ u8 o.station.val))]) ∧
  (∀ order ans s o q x, s.ods.orders.find? (fun o => o.id = order && o.state = .reserved) = some o →
    o.posting = some (.card q) → s.ods.post? q = some x → (∀ serial letter, ans ≠ .bound serial letter) →
    exec (.bindAnswer order ans) s = .next
      ({ s with ods := { s.ods with orders := s.ods.orders.filter fun y => y.id ≠ order } }.nextCandidate
        { x with skipped := x.skipped + 1 })) ∧
  (∀ (s : State) x, x.left = [] → s.nextCandidate x =
    { s with ods := { s.ods with posts := s.ods.posts.filter fun y => y.q ≠ x.q }
             wire := s.wire ++ [answerOf .ods x.q (.accepted x.clamped (u16 x.posted ++ u16 x.skipped))] }) ∧
  (∀ (s : State) x c rest, x.left = c :: rest → 64 ≤ s.ods.orders.length → s.nextCandidate x =
    { s with ods := { s.ods with posts := s.ods.posts.filter fun y => y.q ≠ x.q }
             wire := s.wire ++ [answerOf .ods x.q (.refused .full none (u16 x.posted))] }) ∧
  (∀ (s : State) x c rest o, x.left = c :: rest → s.ods.orders.length < 64 →
    o = { id := s.ods.freshId, clip := c, dests := x.dests, priority := x.prio, station := x.q.st
          posting := some (.card x.q) } → s.nextCandidate x =
    { s with ods := { s.ods with posts := s.ods.posts.map fun y => if y.q = x.q then { x with left := rest } else y
                                 orders := s.ods.orders ++ [o], counter := (s.ods.freshId + 1) % 65536 }
             wire := s.wire ++ [⟨.ods, .cat, .bindRequest c s.ods.freshId x.dests.length⟩] })) ∧
  (∀ q serial dests prio s, dests.length < 1 ∨ 3 < dests.length ∨ ¬dests.Nodup ∨ (∃ d ∈ dests, 4 ≤ d) →
    ∃ t, exec (.postCardOrder q serial dests prio) s = .next t ∧ onlyWire s t ∧ t.wire = s.wire ++ [refuseOf .ods q .value])

/-- The views (R50) and the events that run a dispatch pass (R53). A report replaces its element of a view; a bay that
becomes PRESENT or RELEASED or loses its reader runs a pass, as does any change of a port and a Catalog report that names
a PENDING order's clip. The part mode (R62, R63). RUN from another mode is noticed, answered and followed by a pass; HOLD
from RUN becomes HOLDING while an order runs and HOLD otherwise, and gives every PENDING order the cause MODE_HOLD; a mode
asked for again changes nothing, and a value other than RUN and HOLD is refused VALUE. In HOLDING the last running order's
end makes the mode HOLD. That a pass writes the causes of tests 1 to 3 at once and evaluates with its last read in is the
model's choice (assumption 23), and so are the numbers of the modes, RUN 1, HOLDING 2 and HOLD 3 (assumption 55). -/
def Obligations.ViewsPassesAndModes : Prop :=
  ((∀ b view s u, u = { s with ods := { s.ods with bays := upd s.ods.bays b fun _ => view } } →
    exec (.bayViewReport b view) s = .next
      (if (view.state ≠ s.ods.bays[b].state ∧ (view.state = .present ∨ view.state = .released)) ∨
          (s.ods.bays[b].reading = true ∧ view.reading = false) then u.runPass else u)) ∧
  (∀ p view s u, u = { s with ods := { s.ods with dests := upd s.ods.dests p fun _ => view } } →
    exec (.destViewReport p view) s = .next (if view = s.ods.dests[p] then u else u.runPass)) ∧
  (∀ clip s, exec (.catalogDispatchReport clip) s = .next
    (if ∃ o ∈ s.ods.orders, o.state = .pending ∧ o.clip = clip then s.runPass else s)) ∧
  (∀ s : State, s.ods.mode ≠ .run → s.runPass = { s with ods := { s.ods with orders := s.ods.orders.map fun o =>
    if o.state = .pending then { o with cause := some .modeHold } else o } }) ∧
  (∀ s : State, s.ods.mode = .run → s.ods.pass = none →
    s.runPass.wire = s.wire ++ (s.ods.orders.filter fun o => o.state = .pending && s.ods.early o = none).map fun o =>
      ⟨.ods, .cat, .clipLookup (.dispatch o.id) o.clip⟩) ∧
  (∀ order rec s, (∀ p, s.ods.pass = some p → order ∉ p.awaiting) → exec (.dispatchLookupAnswer order rec) s = .next s) ∧
  (∀ order rec s p, s.ods.pass = some p → order ∈ p.awaiting → (∃ n ∈ p.awaiting, n ≠ order) →
    exec (.dispatchLookupAnswer order rec) s = .next { s with ods := { s.ods with pass := some { p with
      awaiting := p.awaiting.filter fun n => n ≠ order, reads := p.reads ++ [(order, rec)] } } }) ∧
  ∀ order rec s p t, s.ods.pass = some p → order ∈ p.awaiting → (∀ n ∈ p.awaiting, n = order) →
    t = State.passLoop (p.reads ++ [(order, rec)]) 4 { s with ods := { s.ods with pass := none } } →
    exec (.dispatchLookupAnswer order rec) s = .next (if p.again then t.runPass else t)) ∧
  (∀ q s, s.ods.mode ≠ .run →
    ∃ u, exec (.setMode q 1) s = .next u.runPass ∧ onlyOds s u ∧ u.ods = { s.ods with mode := .run } ∧
      u.wire = s.wire ++ [noticeOf .ods { sub := .modeChanged, fields := u8 (s.ods.mode.ctorIdx + 1) ++ u8 1 },
        acceptOf .ods q (u8 1)]) ∧
  (∀ q s m, s.ods.mode = .run → m = (if ∃ o ∈ s.ods.orders, o.state.running = true then PartMode.holding else .hold) →
    ∃ t, exec (.setMode q 3) s = .next t ∧ onlyOds s t ∧
      t.ods = { s.ods with mode := m, orders := s.ods.orders.map fun o =>
        if o.state = .pending then { o with cause := some .modeHold } else o } ∧
      t.wire = s.wire ++ [noticeOf .ods { sub := .modeChanged, fields := u8 1 ++ u8 (m.ctorIdx + 1) },
        acceptOf .ods q (u8 (m.ctorIdx + 1))]) ∧
  (∀ q mode s, mode = 1 ∧ s.ods.mode = .run ∨ mode = 3 ∧ s.ods.mode ≠ .run →
    ∃ t, exec (.setMode q mode) s = .next t ∧ onlyWire s t ∧
      t.wire = s.wire ++ [acceptOf .ods q (u8 (s.ods.mode.ctorIdx + 1))]) ∧
  (∀ q mode s, mode ≠ 1 → mode ≠ 3 →
    ∃ t, exec (.setMode q mode) s = .next t ∧ onlyWire s t ∧ t.wire = s.wire ++ [refuseOf .ods q .value]) ∧
  ∀ s : State, (s.ods.mode = .holding → (∀ o ∈ s.ods.orders, o.state.running = false) →
      s.holdingTest.ods = { s.ods with mode := .hold } ∧
      s.holdingTest.wire = s.wire ++ [noticeOf .ods { sub := .modeChanged, fields := u8 2 ++ u8 3 }]) ∧
    (s.ods.mode ≠ .holding ∨ (∃ o ∈ s.ods.orders, o.state.running = true) → s.holdingTest = s)

/-- Dispatch passes (R51 to R56). A destination falls under the first disposition of R51 whose condition holds, and a
PENDING order takes the cause of the first test of R52 it fails. A pass in another mode than RUN gives every PENDING order
MODE_HOLD and starts nothing; one in RUN writes the causes of tests 1 to 3 and reads the records of the other PENDING
orders, or is noted while reads are outstanding (that it evaluates with its last read in is the model's choice, assumption
23). With the records read, a round of a pass with a free channel and a dispatchable order starts, on the lowest-numbered
free channel, the order that is first in posting order among those of the highest effective priority: it becomes ACTIVE
there with no waiting cause, its channel is sent the start message and STARTED is raised, and every other dispatchable
order before it is passed over once more, up to 4; no other order changes. A pass ends only when no channel is free or no
order is dispatchable, every PENDING order then having the cause its tests give. -/
def Obligations.DispatchPasses : Prop :=
  ((∀ v c, disposition v c =
    if (v.state = .ready ∨ v.state = .soaking ∨ v.state = .detaching ∨ v.state = .detached) ∧
        (∃ x ∈ c.copies, (x.state = .found ∨ x.state = .verified) ∧ v.vol = some x.vol) then .holdsCopy
    else if v.state = .absent then .absent
    else if v.state = .scanning ∨ v.state = .unformatted ∨ v.state = .detaching ∨ v.state = .detached then .notReady
    else if v.state = .soaking then .masked
    else if v.qual = .failed then .qualificationFailed
    else if v.indexFull = true then .indexFull
    else if v.free < 1 + ceilDiv c.extents 1024 + ceilDiv c.desc.dataLen 4096 then .noSpace
    else .write) ∧
  (∀ (d : Dispatcher) serial, (∀ b, d.bayOf serial = some b → d.bays[b].serial = some serial ∧
      (d.bays[b].state = .present ∨ d.bays[b].state = .released)) ∧
    (d.bayOf serial = none → ∀ b : Bay, d.bays[b].serial = some serial →
      d.bays[b].state ≠ .present ∧ d.bays[b].state ≠ .released)) ∧
  (∀ (d : Dispatcher) reads o, d.mode ≠ .run → d.causeOf reads o = some .modeHold) ∧
  (∀ (d : Dispatcher) reads o, d.mode = .run → d.bayOf o.serial = none → d.causeOf reads o = some .cardAbsent) ∧
  (∀ (d : Dispatcher) reads o b, d.mode = .run → d.bayOf o.serial = some b →
    d.bays[b].reading = true ∨ (∃ x ∈ d.orders, x.state = .active ∧ x.serial = o.serial) →
    d.causeOf reads o = some .bayBusy) ∧
  (∀ (d : Dispatcher) reads o b c (n : Disposition → Nat), d.mode = .run → d.bayOf o.serial = some b →
    d.bays[b].reading = false → (∀ x ∈ d.orders, ¬(x.state = .active ∧ x.serial = o.serial)) → readOf reads o = some c →
    n = (fun k => (o.dests.filter fun p => disposition d.dests[p] c = k).length) →
    d.causeOf reads o = if 0 < n .masked then some .destinationMasked
      else if n .write + n .holdsCopy < c.required ∨ n .write + n .holdsCopy = 0 then some .tooFewDestinations else none) ∧
  (∀ (d : Dispatcher) reads o, d.dispatchable reads o = true ↔
    o.state = .pending ∧ (readOf reads o).isSome = true ∧ d.causeOf reads o = none)) ∧
  ((∀ s : State, s.ods.mode ≠ .run → s.runPass = { s with ods := { s.ods with orders := s.ods.orders.map fun o =>
    if o.state = .pending then { o with cause := some .modeHold } else o } }) ∧
  (∀ (s : State) p, s.ods.mode = .run → s.ods.pass = some p →
    s.runPass = { s with ods := { s.ods with pass := some { p with again := true } } }) ∧
  (∀ (s : State) asks, s.ods.mode = .run → s.ods.pass = none →
    asks = s.ods.orders.filter (fun o => o.state = .pending && s.ods.early o = none) →
    onlyOds s s.runPass ∧
    s.runPass.wire = s.wire ++ asks.map (fun o => ⟨.ods, .cat, .clipLookup (.dispatch o.id) o.clip⟩) ∧
    s.runPass.ods = { s.ods with
      orders := s.ods.orders.map fun o => if o.state = .pending then { o with cause := (s.ods.early o).or o.cause } else o
      pass := if asks = [] then none else some { awaiting := asks.map (·.id), reads := [], again := false } }) ∧
  (∀ (s : State) reads n u, u = { s with ods := { s.ods with orders := s.ods.orders.map fun o =>
      if o.state = .pending then { o with cause := s.ods.causeOf reads o } else o } } →
    (u.ods.freeChan = none ∨ (∀ o ∈ u.ods.orders, u.ods.dispatchable reads o = false) →
      State.passLoop reads (n + 1) s = u) ∧
    ∀ ch o c, u.ods.freeChan = some ch → bestOrder (u.ods.orders.filter (u.ods.dispatchable reads)) = some o →
      readOf reads o = some c → State.passLoop reads (n + 1) s =
        State.passLoop reads n (u.startOrder ch o c ((u.ods.orders.filter (u.ods.dispatchable reads)).map (·.id)))) ∧
  ∀ (s t : State) reads, t = State.passLoop reads 4 s →
    onlyOds s t ∧ t.ods.orders.map (·.id) = s.ods.orders.map (·.id) ∧
    (t.ods.freeChan = none ∨ ∀ o ∈ t.ods.orders, t.ods.dispatchable reads o = false) ∧
    ∀ o ∈ t.ods.orders, o.state = .pending → o.cause = t.ods.causeOf reads o) ∧
  (∀ l o, bestOrder l = some o ↔ ∃ a b, l = a ++ o :: b ∧ (∀ x ∈ a, x.effective < o.effective) ∧
    ∀ x ∈ b, x.effective ≤ o.effective) ∧
  (∀ (d : Dispatcher) ch, d.freeChan = some ch ↔ d.chans[ch] = none ∧ ∀ c < ch, d.chans[c] ≠ none) ∧
  (∀ (s : State) ch o c ready x, (s.ods.orders.map (·.id)).Nodup → o ∈ s.ods.orders → x ∈ s.ods.orders → x.id ≠ o.id →
    (if x.id ∈ ready ∧ x.id ∈ ordersBefore o.id s.ods.orders then { x with passed := min 4 (x.passed + 1) } else x) ∈
      (s.startOrder ch o c ready).ods.orders) ∧
  ∀ (s : State) ch o c ready o', o ∈ s.ods.orders → o' = { o with state := .active, chan := some ch, cause := none } →
    o' ∈ (s.startOrder ch o c ready).ods.orders ∧ (s.startOrder ch o c ready).ods.chans[ch] = some o.id ∧
    (∀ y, y ≠ ch → (s.startOrder ch o c ready).ods.chans[y] = s.ods.chans[y]) ∧
    (s.startOrder ch o c ready).wire = s.wire ++
      [⟨.ods, .cc ch, .startMessage ch o.id o.clip o.serial (s.ods.judge o c)⟩,
        noticeOf .ods (s.orderNotice .orderStarted o' (u8 ch.val ++
          fList (fun x : Dest => u8 x.port.val ++ u8 (x.disp.ctorIdx + 1)) (s.ods.judge o c)))] ∧
    (∀ x ∈ s.ods.judge o c, x.disp = disposition s.ods.dests[x.port] c ∧
      x.vol = if x.disp = .write then s.ods.dests[x.port].vol else none) ∧
    (s.ods.judge o c).map (·.port) = o.dests ∧
    onlyOds s (s.startOrder ch o c ready)

/-- Progress and ends (R57, R58). Phase reports move a running order between ACTIVE, VERIFYING and REPAIRING, each with
its STATE notice; a report that does not match the order's state is discarded. An end report of the order's own channel
sends the unbind; its answer takes the order out of the queue, frees its channel, raises ENDED with the outcome that the
end kind and the clip state give (a clip LISTED or UNSUPPORTED after COMPLETE was refreshed), runs the HOLDING test and
a pass. Aborts (R59 to R61). An abort of a PENDING order takes it out of the queue, sends its unbind and accepts, and
its unbind answer raises ENDED; one of a running order sets its flag and sends its channel an abort; a second is refused
ALREADY, and one of no such order NOT_FOUND. A removal the Catalog asks for takes a PENDING order out and leaves any
other. ABORT ALL removes every PENDING order in posting order, accepts with their number and runs one pass. The model's
choices: that ENDED carries the channel first (assumption 54) and the cause and the origin as two fields (assumption
64), how a pass reads the Catalog (assumption 23), that the entry of an order that ended or was removed keeps its id
until its unbind is answered and an abort of it is refused (assumption 24), and which bay an ORDER notice names
(assumption 65). An abort of an order that ends, its unbind not yet answered, is refused NOT_FOUND (assumption 24). -/
def Obligations.OrderProgressAndAborts : Prop :=
  (((∀ ch order s o o', s.ods.seen order = some o → o.state = .active → o' = { o with state := .verifying } →
    ∃ u, exec (.readDoneReport ch order) s = .next u.runPass ∧ onlyOds s u ∧
      u.ods = { s.ods with orders := s.ods.orders.map fun x => if x.id = order then o' else x } ∧
      u.wire = s.wire ++ [noticeOf .ods (s.orderNotice .orderState o' (u8 ch.val ++ u8 3))]) ∧
  (∀ ch order s o o', s.ods.seen order = some o → o.state = .verifying → o' = { o with state := .repairing } →
    ∃ t, exec (.repairBegunReport ch order) s = .next t ∧ onlyOds s t ∧
      t.ods = { s.ods with orders := s.ods.orders.map fun x => if x.id = order then o' else x } ∧
      t.wire = s.wire ++ [noticeOf .ods (s.orderNotice .orderState o' (u8 ch.val ++ u8 4))]) ∧
  (∀ ch order s o o', s.ods.seen order = some o → o.state = .repairing → o' = { o with state := .verifying } →
    ∃ t, exec (.repairDoneReport ch order) s = .next t ∧ onlyOds s t ∧
      t.ods = { s.ods with orders := s.ods.orders.map fun x => if x.id = order then o' else x } ∧
      t.wire = s.wire ++ [noticeOf .ods (s.orderNotice .orderState o' (u8 ch.val ++ u8 3))]) ∧
  (∀ ch order s, (∀ o, s.ods.seen order = some o → o.state ≠ .active) → exec (.readDoneReport ch order) s = .next s) ∧
  (∀ ch order s, (∀ o, s.ods.seen order = some o → o.state ≠ .verifying) → exec (.repairBegunReport ch order) s = .next s) ∧
  (∀ ch order s, (∀ o, s.ods.seen order = some o → o.state ≠ .repairing) → exec (.repairDoneReport ch order) s = .next s) ∧
  (∀ ch order kind s o, s.ods.seen order = some o → o.chan = some ch → o.ending = none →
    ∃ t, exec (.orderEndReport ch order kind) s = .next t ∧ onlyOds s t ∧
      t.ods = { s.ods with orders := s.ods.orders.map fun x => if x.id = order then { o with ending := some kind } else x } ∧
      t.wire = s.wire ++ [⟨.ods, .cat, .unbindRequest o.clip order⟩]) ∧
  (∀ ch order kind s, (∀ o, s.ods.seen order = some o → o.chan ≠ some ch ∨ o.ending ≠ none) →
    exec (.orderEndReport ch order kind) s = .next s) ∧
  (∀ order clip st s o kind ch, s.ods.leaving.find? (fun l => l.order.id = order) = none → s.ods.seen order = some o →
    o.ending = some kind → o.chan = some ch →
    ∃ u, exec (.unbindAnswer order clip st) s = .next u.holdingTest.runPass ∧ onlyOds s u ∧
      u.ods = { s.ods with orders := s.ods.orders.filter fun x => x.id ≠ order
                           chans := upd s.ods.chans ch fun _ => none } ∧
      u.wire = s.wire ++ [noticeOf .ods (s.orderNotice .orderEnded o (fOpt [1] (fun ch : Chan => u8 ch.val) (some ch) ++
        u8 ((outcomeOf kind st).1.ctorIdx + 1) ++ fOpt [1] (fun k => u8 (k.ctorIdx + 1)) (outcomeOf kind st).2.1 ++
        fOpt [1] (fun k => u8 (k.ctorIdx + 1)) (outcomeOf kind st).2.2 ++ u8 (st.ctorIdx + 1)))]) ∧
  (outcomeOf .complete .verified = (.done, none, none) ∧ outcomeOf .complete .short = (.failed, some .short, none) ∧
    outcomeOf .complete .listed = (.failed, some .refreshed, none) ∧
    outcomeOf .complete .unsupported = (.failed, some .refreshed, none) ∧
    ∀ st, outcomeOf (.failed .cardGone) st = (.failed, some .cardGone, none) ∧
      outcomeOf (.failed .readError) st = (.failed, some .readError, none) ∧
      outcomeOf (.failed .sourceUnstable) st = (.failed, some .sourceUnstable, none) ∧
      outcomeOf .aborted st = (.aborted, none, some .station)) ∧
  ∀ order clip st s, s.ods.leaving.find? (fun l => l.order.id = order) = none →
    (∀ o, s.ods.seen order = some o → o.ending = none) → exec (.unbindAnswer order clip st) s = .next s) ∧
  (∀ q order s o, s.ods.seen order = some o → o.ending = none → o.state = .pending →
    ∃ t, exec (.abortOrder q order) s = .next t ∧ onlyOds s t ∧
      t.ods = { s.ods with orders := s.ods.orders.filter fun x => x.id ≠ order
                           leaving := s.ods.leaving ++ [⟨o, .station, true⟩] } ∧
      t.wire = s.wire ++ [⟨.ods, .cat, .unbindRequest o.clip order⟩, acceptOf .ods q []]) ∧
  (∀ q order s o ch, s.ods.seen order = some o → o.ending = none → o.state ≠ .pending → o.abort = false → o.chan = some ch →
    ∃ t, exec (.abortOrder q order) s = .next t ∧ onlyOds s t ∧
      t.ods = { s.ods with orders := s.ods.orders.map fun x => if x.id = order then { o with abort := true } else x } ∧
      t.wire = s.wire ++ [acceptOf .ods q [], ⟨.ods, .cc ch, .channelAbort ch order⟩]) ∧
  (∀ q order s o, s.ods.seen order = some o → o.ending = none → o.state ≠ .pending → o.abort = true →
    ∃ t, exec (.abortOrder q order) s = .next t ∧ onlyWire s t ∧ t.wire = s.wire ++ [refuseStateOf .ods q .already]) ∧
  (∀ q order s, s.ods.seen order = none →
    ∃ t, exec (.abortOrder q order) s = .next t ∧ onlyWire s t ∧ t.wire = s.wire ++ [refuseOf .ods q .notFound]) ∧
  (∀ order clip st s l, s.ods.leaving.find? (fun l => l.order.id = order) = some l →
    ∃ u, exec (.unbindAnswer order clip st) s = .next (if l.pass then u.runPass else u) ∧ onlyOds s u ∧
      u.ods = { s.ods with leaving := s.ods.leaving.filter fun x => x.order.id ≠ order } ∧
      u.wire = s.wire ++ [noticeOf .ods (s.orderNotice .orderEnded l.order
        (fOpt [1] (fun ch : Chan => u8 ch.val) l.order.chan ++ u8 3 ++ fOpt [1] (fun k : FailCause => u8 (k.ctorIdx + 1)) none ++
          fOpt [1] (fun k : Origin => u8 (k.ctorIdx + 1)) (some l.origin) ++ u8 (st.ctorIdx + 1)))]) ∧
  (∀ clip order serial made desc s o, s.ods.seen order = some o → o.state = .pending →
    ∃ t, exec (.catalogRemovalRequest clip order serial made desc) s = .next t ∧ onlyOds s t ∧
      t.ods = { s.ods with orders := s.ods.orders.filter fun x => x.id ≠ order
                           leaving := s.ods.leaving ++ [⟨o, .catalog, true⟩] } ∧
      t.wire = s.wire ++ [⟨.ods, .cat, .unbindRequest o.clip order⟩,
        ⟨.ods, .cat, .orderRemovalAnswer clip serial made desc true⟩]) ∧
  (∀ clip order serial made desc s, (∀ o, s.ods.seen order = some o → o.state ≠ .pending) →
    ∃ t, exec (.catalogRemovalRequest clip order serial made desc) s = .next t ∧ onlyWire s t ∧
      t.wire = s.wire ++ [⟨.ods, .cat, .orderRemovalAnswer clip serial made desc false⟩]) ∧
  ∀ q s gone, (s.ods.orders.map (·.id)).Nodup → gone = s.ods.orders.filter (fun o => o.state = .pending) →
    ∃ u, exec (.abortAll q) s = .next u.runPass ∧ onlyOds s u ∧
      u.ods = { s.ods with orders := s.ods.orders.filter fun o => o.state ≠ .pending
                           leaving := s.ods.leaving ++ gone.map fun o => ⟨o, .station, false⟩ } ∧
      u.wire = s.wire ++ gone.map (fun o => ⟨.ods, .cat, .unbindRequest o.clip o.id⟩) ++
        [acceptOf .ods q (u8 gone.length)]) ∧
  (∀ q order s o, s.ods.seen order = some o → o.ending ≠ none →
    ∃ t, exec (.abortOrder q order) s = .next t ∧ onlyWire s t ∧ t.wire = s.wire ++ [refuseOf .ods q .notFound])

/-! ## Channels and Staging Store (Section 4) -/

/-- The start of an order (R66 to R68). An IDLE channel takes a start message, with its WRITE ports RESERVING and the
others SKIPPED, and looks its clip up; with the record it sends each WRITE port a reservation of header span and data
blocks. A reservation granted in STARTING asks the Catalog for the copy, one refused drops the destination with its
cause; a copy made begins the header write, one answered FULL or BUSY drops the destination; NOT_BOUND drops the element
and ends the order as a lost card does, in ENDING the element alone. A copy made in ENDING ends at once with the state
the end kind gives, and one whose drive was lost meanwhile FAILED with LOST_DRIVE. A header written makes the copy
WRITING; one answered LOST drops the element, one WITHDRAWN, or DONE in ENDING, only counts as answered. The start of
the read (R69, R80, R85). In STARTING, once no element is RESERVING, CREATING or HEADER, the start-read request goes to
the Catalog, once; while one is, or the clip is being looked up, nothing is sent. The answer begins the live pass; in
RECORD the claim follows, in COMPARE the stored sums are asked for first. A claim granted makes the channel READING with
its first extent requested; one that waits is noted; one answered CARD_GONE, like a clip no longer bound, ends the
order. An answer to a claim given up is discarded. The model's choices: a reservation counts among the outstanding port
requests (assumption 26), a refusal in ENDING is noticed (27), a clip id free at the length answer ends the order as a
lost card does (28), a claim answered CARD_GONE is NONE at once (67), next extent stays while its extent is read (25), a
copy both lost and made in ENDING ends as the lost one (66), a dropped element's repair list is empty (83), and
DESTINATION_DROPPED names the bay the card stands in at that moment, read in the same step (65 and 8). A grant counts at
once and after WAITING alike (R69). -/
def Obligations.ChannelAndReadStart : Prop :=
  ((∀ ch order clip serial dests s, (s.chan ch).phase = .idle →
    ∃ t, exec (.startMessage ch order clip serial dests) s = .next t ∧
      chanBecomes ch { phase := .starting, order := some order, clip := some clip, serial := serial, lookup := true
                       dests := dests.map fun d => { port := d.port, disp := d.disp, vol := d.vol
                                                     phase := if d.disp = .write then .reserving else .skipped } } s t ∧
      sends s t [⟨.cc ch, .cat, .clipLookup (.channel ch order) clip⟩]) ∧
  (∀ ch order clip serial dests s, (s.chan ch).phase ≠ .idle →
    exec (.startMessage ch order clip serial dests) s = .next s) ∧
  (∀ ch order s r c, c = s.chan ch → c.phase = .starting → c.order = some order → c.lookup = true →
    ∃ u, exec (.clipLengthAnswer ch order (some r)) s = .next (u.settle ch) ∧
      chanBecomes ch { c with lookup := false, clipNo := r.clipNo, dataLen := r.desc.dataLen, extents := r.extents
                              letter := some r.desc.letter, outstanding := (u.chan ch).outstanding } s u ∧
      sends s u ((c.dests.filter fun e => e.phase = .reserving).map fun e => ⟨.cc ch, .dp e.port,
        .reservationRequest ch e.port order (e.vol.getD 0) (spanOf r.extents + dataBlocks r.desc.dataLen)⟩)) ∧
  (∀ ch order s c, c = s.chan ch → c.phase = .starting → c.order = some order → c.lookup = true →
    exec (.clipLengthAnswer ch order none) s = .next (s.enterEnding ch (.failed .cardGone))) ∧
  (∀ ch order p hb s c e, c = s.chan ch → c.phase = .starting → c.order = some order → c.elem? p = some e →
    e.phase = .reserving →
    ∃ t, exec (.reservationAnswer ch order p (.reserved hb)) s = .next t ∧
      elemBecomes ch p { e with hb := some hb, phase := .creating } (c.outstanding[p] - 1) s t ∧ t.sts = s.sts ∧
      (t.chan ch).outstanding[p] = c.outstanding[p] - 1 ∧
      sends s t [⟨.cc ch, .cat, .copyCreationRequest ch (c.clip.getD 0) order p (e.vol.getD 0) hb⟩]) ∧
  (∀ ch order p why s c e, c = s.chan ch → c.phase ≠ .idle → c.order = some order → c.elem? p = some e →
    e.phase = .reserving →
    ∃ u n, exec (.reservationAnswer ch order p (.refused why)) s = .next (u.settle ch) ∧
      elemBecomes ch p { e with phase := .dropped, repairList := [], newList := [], toWrite := [] }
        (c.outstanding[p] - 1) s u ∧ u.sts = s.sts ∧
      n = { sub := .orderDestinationDropped, serial := some c.serial, bay := s.ods.bayOf c.serial, clip := c.clip
            order := some order, letter := c.letter, port := some p, fields := u8 ch.val ++ u8 (why.ctorIdx + 1) } ∧
      sends s u [noticeOf (.cc ch) n]) ∧
  (∀ ch order p s c e, c = s.chan ch → c.phase = .starting → c.order = some order → c.elem? p = some e →
    e.phase = .creating → e.lossSeen = false →
    ∃ t, exec (.creationAnswer ch order p .made) s = .next t ∧ elemBecomes ch p { e with phase := .header }
        (c.outstanding[p] + 1) s t ∧
      t.sts = s.sts ∧ (t.chan ch).outstanding[p] = c.outstanding[p] + 1 ∧
      sends s t [⟨.cc ch, .dp p, .headerWrite ch p order (e.vol.getD 0) (e.hb.getD 0) c.serial c.clipNo c.dataLen⟩]) ∧
  (∀ ch order p s c e ans why, c = s.chan ch → c.phase ≠ .idle → c.order = some order → c.elem? p = some e →
    e.phase = .creating → (ans, why) ∈ [(CreateAns.full, DropCause.full), (.busy, .busy)] →
    ∃ u n, exec (.creationAnswer ch order p ans) s = .next (u.settle ch) ∧
      elemBecomes ch p { e with phase := .dropped, repairList := [], newList := [], toWrite := [] }
        c.outstanding[p] s u ∧ u.sts = s.sts ∧
      n = { sub := .orderDestinationDropped, serial := some c.serial, bay := s.ods.bayOf c.serial, clip := c.clip
            order := some order, letter := c.letter, port := some p, fields := u8 ch.val ++ u8 (why.ctorIdx + 1) } ∧
      sends s u [noticeOf (.cc ch) n]) ∧
  ∀ ch order p s c e, c = s.chan ch → c.phase ≠ .idle → c.phase ≠ .ending → c.order = some order → c.elem? p = some e →
    e.phase = .header →
    ∃ u, exec (.headerWriteAnswer ch order p .done) s = .next (u.settle ch) ∧
      elemBecomes ch p { e with phase := .writing } (c.outstanding[p] - 1) s u ∧ u.sts = s.sts ∧
      (u.chan ch).outstanding[p] = c.outstanding[p] - 1 ∧
      sends s u [⟨.cc ch, .cat, .headerWrittenReport (c.clip.getD 0) (e.vol.getD 0)⟩]) ∧
  (∀ ch order s c i, c = s.chan ch → c.phase = .starting → c.order = some order → c.asked = true → c.begun = false →
    i.mode = .record →
    ∃ t, exec (.startReadAnswer ch order (some i)) s = .next t ∧
      chanBecomes ch { c with clipNo := i.clipNo, dataLen := i.desc.dataLen, extents := i.extents, mode := some .record
                              sums := [], begun := true, claimAsked := true, claimTag := s.token } s t ∧
      t.token = s.token + 1 ∧
      sends s t [⟨.cc ch, .fx, .livePassBegin ch (c.clip.getD 0) i.desc⟩, ⟨.cc ch, .ci, .claim ch c.serial s.token⟩]) ∧
  (∀ ch order s c i, c = s.chan ch → c.phase = .starting → c.order = some order → c.asked = true → c.begun = false →
    i.mode = .compare →
    ∃ t, exec (.startReadAnswer ch order (some i)) s = .next t ∧
      chanBecomes ch { c with clipNo := i.clipNo, dataLen := i.desc.dataLen, extents := i.extents, mode := some .compare
                              sums := [], begun := true } s t ∧ t.token = s.token ∧
      sends s t [⟨.cc ch, .fx, .livePassBegin ch (c.clip.getD 0) i.desc⟩,
        ⟨.cc ch, .cat, .storedSumsRequest ch (c.clip.getD 0) order⟩]) ∧
  (∀ ch order s c, c = s.chan ch → c.phase = .starting → c.order = some order → c.asked = true → c.begun = false →
    exec (.startReadAnswer ch order none) s = .next (s.enterEnding ch (.failed .cardGone))) ∧
  (∀ ch order sums s c, c = s.chan ch → c.phase = .starting → c.order = some order → c.mode = some .compare →
    c.claimAsked = false → c.claim = .none →
    ∃ t, exec (.storedSumsAnswer ch order sums) s = .next t ∧
      chanBecomes ch { c with sums := sums, claimAsked := true, claimTag := s.token } s t ∧ t.token = s.token + 1 ∧
      sends s t [⟨.cc ch, .ci, .claim ch c.serial s.token⟩]) ∧
  (∀ ch tag s c, c = s.chan ch → c.claimTag = tag → c.claimAsked = true ∨ c.claim = .waiting → c.claim ≠ .held →
    c.phase = .starting →
    ∃ t, exec (.claimAnswer ch tag .granted) s = .next t ∧
      chanBecomes ch { c with claimAsked := false, claim := .held, phase := .reading
                              fill := some { ext := c.next, pass := .read, tag := s.token }
                              bufferWait := true, burstOut := true } s t ∧
      t.token = s.token + 1 ∧
      sends s t [⟨.cc ch, .sts, .bufferRequest ch s.token (c.clip.getD 0) c.next .read (extentLen c.dataLen c.next)⟩,
        ⟨.cc ch, .ci, .burstRequest ch c.serial c.clipNo c.next 0 false⟩]) ∧
  (∀ ch tag s c, c = s.chan ch → c.claimTag = tag → c.claimAsked = true → c.claim = .none → c.phase = .starting →
    ∃ t, exec (.claimAnswer ch tag .waiting) s = .next t ∧
      chanBecomes ch { c with claimAsked := false, claim := .waiting } s t ∧ t.token = s.token ∧ sends s t []) ∧
  (∀ ch tag s c, c = s.chan ch → c.claimTag = tag → c.claimAsked = true ∨ c.claim ≠ .none →
    c.phase = .starting ∨ c.phase = .reading →
    ∃ u, exec (.claimAnswer ch tag .cardGone) s = .next (u.enterEnding ch (.failed .cardGone)) ∧
      chanBecomes ch { c with claimAsked := false, claim := .none } s u) ∧
  (∀ ch tag ans s c, c = s.chan ch → c.claimTag ≠ tag ∨ (c.claimAsked = false ∧ c.claim = .none) →
    exec (.claimAnswer ch tag ans) s = .next s) ∧
  (∀ ch order p s c e, c = s.chan ch → c.phase ≠ .idle → c.order = some order → c.elem? p = some e → e.phase = .creating →
    ∃ u, exec (.creationAnswer ch order p .notBound) s =
        .next (if c.phase = .ending then u.settle ch else u.enterEnding ch (.failed .cardGone)) ∧
      elemBecomes ch p { e with phase := .dropped, repairList := [], newList := [], toWrite := [] }
        c.outstanding[p] s u ∧ u.sts = s.sts ∧
      sends s u []) ∧
  (∀ ch order p s c e x, c = s.chan ch → c.phase ≠ .idle → c.order = some order → c.elem? p = some e →
    e.phase = .creating → (e.lossSeen = true ∧ x = (CopyState.failed, CopyCause.lostDrive) ∨
      e.lossSeen = false ∧ c.phase = .ending ∧ x = endState (c.ended.getD .aborted)) →
    ∃ u, exec (.creationAnswer ch order p .made) s = .next (u.settle ch) ∧
      elemBecomes ch p { e with phase := .dropped, repairList := [], newList := [], toWrite := [] }
        c.outstanding[p] s u ∧ u.sts = s.sts ∧
      sends s u [⟨.cc ch, .cat, .copyEndReport (c.clip.getD 0) (e.vol.getD 0) x.1 x.2⟩]) ∧
  (∀ ch order p s c e ans, c = s.chan ch → c.phase ≠ .idle → c.order = some order → c.elem? p = some e →
    e.phase = .header → ans = WriteAns.withdrawn ∨ ans = .done ∧ c.phase = .ending →
    ∃ u, exec (.headerWriteAnswer ch order p ans) s = .next (u.settle ch) ∧
      chanBecomes ch { c with outstanding := upd c.outstanding p (· - 1) } s u ∧ sends s u []) ∧
  (∀ ch order p s c e, c = s.chan ch → c.phase ≠ .idle → c.order = some order → c.elem? p = some e → e.phase = .header →
    (∀ b ∈ s.sts.bufs, b.owner = ch → p ∉ b.pend) →
    ∃ u, exec (.headerWriteAnswer ch order p .lost) s = .next (u.settle ch) ∧
      elemBecomes ch p { e with phase := .dropped, repairList := [], newList := [], toWrite := [] }
        (c.outstanding[p] - 1) s u ∧ u.sts = s.sts ∧
      (u.chan ch).outstanding[p] = c.outstanding[p] - 1 ∧ sends s u []) ∧
  (∀ (s : State) ch c, c = s.chan ch → c.phase = .starting → c.lookup = false → c.asked = false →
    (∀ e ∈ c.dests, e.phase ≠ .reserving ∧ e.phase ≠ .creating ∧ e.phase ≠ .header) →
    ∃ t, s.settle ch = t ∧ chanBecomes ch { c with asked := true } s t ∧ t.token = s.token ∧
      sends s t [⟨.cc ch, .cat, .startReadRequest ch (c.clip.getD 0) (c.order.getD 0)⟩]) ∧
  (∀ (s : State) ch c, c = s.chan ch → c.phase = .starting → (c.lookup = true ∨ c.asked = true ∨
      ∃ e ∈ c.dests, e.phase = .reserving ∨ e.phase = .creating ∨ e.phase = .header) → s.settle ch = s)

/-- The Staging Store (R71, R72). A request of a channel below its share takes the lowest-numbered FREE buffer; any other
waits at the end of the list, and a withdrawal takes the channel out of it. A grant the channel still wants is kept and
reported to the Card Interface; any other frees its buffer. A port that has answered leaves a buffer's pending set, and
the last one to leave it frees the buffer; a buffer that was freed and granted to another channel is left alone. A freed
buffer goes to the first waiting channel below its share after the one served last, which leaves the wait list, is the
last served and is told the buffer's number; where no waiting channel is below its share the buffer is FREE. -/
def Obligations.StagingStore : Prop :=
  (∀ ch tag clip ext pass len s n, s.sts.lowestFree = some n → s.sts.held ch < 96 →
    ∃ t, exec (.bufferRequest ch tag clip ext pass len) s = .next t ∧ t.cc = s.cc ∧ t.token = s.token ∧ onlyCc s t ∧
      t.sts = { s.sts with bufs := insertBuffer { num := n, owner := ch, clip := clip, ext := ext, pass := pass, len := len }
                                     s.sts.bufs, last := ch } ∧
      t.wire = s.wire ++ [⟨.sts, .cc ch, .bufferGrant ch tag n⟩]) ∧
  (∀ ch tag clip ext pass len s, s.sts.lowestFree = none ∨ 96 ≤ s.sts.held ch →
    exec (.bufferRequest ch tag clip ext pass len) s =
      .next { s with sts := { s.sts with waits := s.sts.waits ++ [⟨ch, tag, clip, ext, pass, len⟩] } }) ∧
  (∀ ch s, exec (.bufferWithdrawal ch) s =
    .next { s with sts := { s.sts with waits := s.sts.waits.filter fun w => w.ch ≠ ch } }) ∧
  (∀ ch tag num s c f, c = s.chan ch → c.fill = some f → f.tag = tag → f.num = none →
    ∃ t, exec (.bufferGrant ch tag num) s = .next t ∧
      chanBecomes ch { c with fill := some { f with num := some num }, bufferWait := false } s t ∧ t.token = s.token ∧
      sends s t [⟨.cc ch, .ci, .burstGrantReport ch c.serial⟩]) ∧
  (∀ ch tag num s c, c = s.chan ch → (∀ f, c.fill = some f → f.tag ≠ tag ∨ f.num ≠ none) →
    exec (.bufferGrant ch tag num) s = .next ((s.freeBuffer num).settle ch)) ∧
  (∀ (s : State) n x, (s.sts.buf? n).isSome → x = { s.sts with bufs := s.sts.bufs.filter fun b => b.num ≠ n } →
    x.winner = none → s.freeBuffer n = { s with sts := x }) ∧
  (∀ (s : State) n x w, (s.sts.buf? n).isSome → x = { s.sts with bufs := s.sts.bufs.filter fun b => b.num ≠ n } →
    x.winner = some w → s.freeBuffer n =
      { s with sts := { bufs := insertBuffer { num := n, owner := w.ch, clip := w.clip, ext := w.ext, pass := w.pass
                                               len := w.len } x.bufs
                        waits := s.sts.waits.filter fun v => v.ch ≠ w.ch, last := w.ch }
               wire := s.wire ++ [⟨.sts, .cc w.ch, .bufferGrant w.ch w.tag n⟩] }) ∧
  (∀ (s : State) ch p n b, s.sts.buf? n = some b → b.owner = ch → p ∈ b.pend → (∃ x ∈ b.pend, x ≠ p) →
    s.drained ch p n = { s with sts := { s.sts with bufs := s.sts.bufs.map fun x =>
      if x.num = n then { x with pend := b.pend.filter fun y => y ≠ p } else x } }) ∧
  (∀ (s : State) ch p n b, s.sts.buf? n = some b → b.owner = ch → p ∈ b.pend → (∀ x ∈ b.pend, x = p) →
    s.drained ch p n = s.freeBuffer n) ∧
  (∀ (s : State) ch p n, (∀ b, s.sts.buf? n = some b → b.owner ≠ ch ∨ p ∉ b.pend) → s.drained ch p n = s) ∧
  (∀ (x : Staging) n, x.lowestFree = some n ↔ n < 256 ∧ (∀ b ∈ x.bufs, b.num ≠ n) ∧ ∀ m < n, ∃ b ∈ x.bufs, b.num = m) ∧
  (∀ x : Staging, x.winner = none ↔ ∀ v ∈ x.waits, 96 ≤ x.held v.ch) ∧
  ∀ (x : Staging) w, x.winner = some w → w ∈ x.waits ∧ x.held w.ch < 96 ∧
    ∀ v ∈ x.waits, x.held v.ch < 96 → (w.ch - x.last - 1 : Chan).val ≤ (v.ch - x.last - 1 : Chan).val

/-- Reading (R73, R74, R76, R83 to R85). A burst's bytes are appended to the extent's buffer and, in a READ, handed to the
Frame Extractor; then the next burst is requested, or with the extent full its sum goes to the Catalog and the next
extent, if any, is requested. A sum accepted hands the buffer to every copy WRITING, and frees it where there is none; the
last one first gives up the claim, ends the live pass and reports the read done. An UNEQUAL sum files SOURCE_UNSTABLE and
a read error files READ_ERROR, and either ends the order, as do a card that is gone and a clip no longer bound; the
refused sum's buffer is freed at once, the one of a clip no longer bound in the wind-down. That next extent stays as it is
while its extent is read and rises by one when it is full is the model's choice (assumption 25), and so is that an extent
is full by its bytes alone (assumption 86). -/
def Obligations.ChannelReads : Prop :=
  (∀ ch bytes s c f num, c = s.chan ch → c.burstOut = true → c.phase = .reading → c.fill = some f → f.num = some num →
    f.pass = .read → f.bytes + bytes.length < extentLen c.dataLen f.ext →
    ∃ t, exec (.burstAnswer ch (.done bytes)) s = .next t ∧
      t.chan ch = { c with fill := some { f with bytes := f.bytes + bytes.length, burst := f.burst + 1 } } ∧
      otherChans ch s t ∧ onlyCc s t ∧ t.token = s.token ∧
      t.sts = { s.sts with bufs := s.sts.bufs.map fun b => if b.num = num then { b with data := b.data ++ bytes } else b } ∧
      sends s t [⟨.cc ch, .fx, .liveBytes ch bytes⟩,
        ⟨.cc ch, .ci, .burstRequest ch c.serial c.clipNo f.ext (f.burst + 1) true⟩]) ∧
  (∀ ch bytes s c f num b, c = s.chan ch → c.burstOut = true → c.phase = .reading → c.fill = some f → f.num = some num →
    f.pass = .read → extentLen c.dataLen f.ext ≤ f.bytes + bytes.length → c.extents ≤ c.next + 1 →
    s.sts.buf? num = some b →
    ∃ t, exec (.burstAnswer ch (.done bytes)) s = .next t ∧
      t.chan ch = { c with burstOut := false, fill := none, summing := c.summing ++ [(num, f.ext, .read)]
                           next := c.next + 1 } ∧
      otherChans ch s t ∧ onlyCc s t ∧ t.token = s.token ∧
      t.sts = { s.sts with bufs := s.sts.bufs.map fun b => if b.num = num then { b with data := b.data ++ bytes } else b } ∧
      sends s t [⟨.cc ch, .fx, .liveBytes ch bytes⟩,
        ⟨.cc ch, .cat, .sumReport ch (c.clip.getD 0) (c.order.getD 0) f.ext (extentSum (b.data ++ bytes)) .read⟩]) ∧
  (∀ ch s c, c = s.chan ch → c.burstOut = true → c.phase ≠ .ending →
    ∃ u, exec (.burstAnswer ch .readError) s = .next (u.enterEnding ch (.failed .readError)) ∧
      chanBecomes ch { c with burstOut := false } s u ∧ sends s u [filedOf (.cc ch) (c.clip.getD 0) .readError none]) ∧
  (∀ ch s c ans, c = s.chan ch → c.burstOut = true → c.phase ≠ .ending → ans = .cardGone ∨ ans = .notBound →
    ∃ u, exec (.burstAnswer ch ans) s = .next (u.enterEnding ch (.failed .cardGone)) ∧
      chanBecomes ch { c with burstOut := false } s u ∧ sends s u []) ∧
  (∀ ch ans s, (s.chan ch).burstOut = false → exec (.burstAnswer ch ans) s = .next s) ∧
  (∀ ch order ext s c num b ans es, c = s.chan ch → c.phase = .reading → c.order = some order →
    c.summing.find? (fun x => x.2.1 = ext && x.2.2 = .read) = some (num, ext, .read) → ans = .stored ∨ ans = .equal →
    ext + 1 ≠ c.extents → s.sts.buf? num = some b → es = c.dests.filter (fun e => e.phase = .writing) → es ≠ [] →
    ∃ u, exec (.sumAnswer ch order ext .read ans) s = .next u ∧
      chanBecomes ch { c with summing := c.summing.filter fun x => ¬(x.2.1 = ext ∧ x.2.2 = .read)
                              sums := if ans = .stored then c.sums ++ [extentSum b.data] else c.sums
                              outstanding := (u.chan ch).outstanding } { s with sts := u.sts } u ∧
      u.sts = { s.sts with bufs := s.sts.bufs.map fun x => if x.num = num then { x with pend := es.map (·.port) } else x } ∧
      sends s u (es.map fun e => ⟨.cc ch, .dp e.port, .extentWrite ch e.port order (e.vol.getD 0) num
        (e.hb.getD 0 + spanOf c.extents + 2048 * ext)⟩)) ∧
  (∀ ch order ext s c num b ans es, c = s.chan ch → c.phase = .reading → c.order = some order → c.claim = .held →
    c.summing.find? (fun x => x.2.1 = ext && x.2.2 = .read) = some (num, ext, .read) → ans = .stored ∨ ans = .equal →
    ext + 1 = c.extents → s.sts.buf? num = some b →
    es = c.dests.filter (fun e => e.phase = .writing) →
    ∃ u, exec (.sumAnswer ch order ext .read ans) s = .next (u.settle ch) ∧
      chanBecomes ch { c with summing := c.summing.filter fun x => ¬(x.2.1 = ext ∧ x.2.2 = .read)
                              sums := if ans = .stored then c.sums ++ [extentSum b.data] else c.sums
                              claim := .none, phase := .finishing, outstanding := (u.chan ch).outstanding }
        { s with sts := u.sts } u ∧
      (es = [] → u.sts = (s.freeBuffer num).sts ∧
        sends s u ([⟨.cc ch, .ci, .handBack ch c.serial⟩, ⟨.cc ch, .fx, .livePassEndOfData ch⟩,
          ⟨.cc ch, .ods, .readDoneReport ch order⟩] ++ (s.freeBuffer num).wire.drop s.wire.length)) ∧
      (es ≠ [] → u.sts = { s.sts with bufs := s.sts.bufs.map fun x =>
          if x.num = num then { x with pend := es.map (·.port) } else x } ∧
        sends s u ([⟨.cc ch, .ci, .handBack ch c.serial⟩, ⟨.cc ch, .fx, .livePassEndOfData ch⟩,
          ⟨.cc ch, .ods, .readDoneReport ch order⟩] ++ es.map fun e => ⟨.cc ch, .dp e.port, .extentWrite ch e.port order
            (e.vol.getD 0) num (e.hb.getD 0 + spanOf c.extents + 2048 * ext)⟩))) ∧
  (∀ ch order ext pass s c num, c = s.chan ch → c.phase ≠ .idle → c.phase ≠ .ending → c.order = some order →
    c.summing.find? (fun x => x.2.1 = ext && x.2.2 = pass) = some (num, ext, pass) →
    ∃ u, exec (.sumAnswer ch order ext pass .unequal) s = .next (u.enterEnding ch (.failed .sourceUnstable)) ∧
      chanBecomes ch { c with summing := c.summing.filter fun x => ¬(x.2.1 = ext ∧ x.2.2 = pass) }
        { s with sts := u.sts } u ∧ u.sts = (s.freeBuffer num).sts ∧
      sends s u (filedOf (.cc ch) (c.clip.getD 0) .sourceUnstable none :: (s.freeBuffer num).wire.drop s.wire.length)) ∧
  (∀ ch bytes s c f num b, c = s.chan ch → c.burstOut = true → c.phase = .reading → c.fill = some f → f.num = some num →
    f.pass = .read → extentLen c.dataLen f.ext ≤ f.bytes + bytes.length → c.next + 1 < c.extents →
    s.sts.buf? num = some b →
    ∃ t, exec (.burstAnswer ch (.done bytes)) s = .next t ∧
      t.chan ch = { c with fill := some { ext := c.next + 1, pass := .read, tag := s.token }, bufferWait := true
                           summing := c.summing ++ [(num, f.ext, .read)], next := c.next + 1 } ∧
      otherChans ch s t ∧ onlyCc s t ∧ t.token = s.token + 1 ∧
      t.sts = { s.sts with bufs := s.sts.bufs.map fun b => if b.num = num then { b with data := b.data ++ bytes } else b } ∧
      sends s t [⟨.cc ch, .fx, .liveBytes ch bytes⟩,
        ⟨.cc ch, .cat, .sumReport ch (c.clip.getD 0) (c.order.getD 0) f.ext (extentSum (b.data ++ bytes)) .read⟩,
        ⟨.cc ch, .sts, .bufferRequest ch s.token (c.clip.getD 0) (c.next + 1) .read (extentLen c.dataLen (c.next + 1))⟩,
        ⟨.cc ch, .ci, .burstRequest ch c.serial c.clipNo (c.next + 1) 0 false⟩]) ∧
  (∀ ch order ext s c num b ans, c = s.chan ch → c.phase = .reading → c.order = some order →
    c.summing.find? (fun x => x.2.1 = ext && x.2.2 = .read) = some (num, ext, .read) → ans = .stored ∨ ans = .equal →
    ext + 1 ≠ c.extents → s.sts.buf? num = some b → (∀ e ∈ c.dests, e.phase ≠ .writing) →
    ∃ u, exec (.sumAnswer ch order ext .read ans) s = .next u ∧
      chanBecomes ch { c with summing := c.summing.filter fun x => ¬(x.2.1 = ext ∧ x.2.2 = .read)
                              sums := if ans = .stored then c.sums ++ [extentSum b.data] else c.sums }
        { s with sts := u.sts } u ∧
      u.sts = (s.freeBuffer num).sts ∧ sends s u ((s.freeBuffer num).wire.drop s.wire.length)) ∧
  (∀ ch order ext pass s c num, c = s.chan ch → c.phase ≠ .idle → c.phase ≠ .ending → c.order = some order →
    c.summing.find? (fun x => x.2.1 = ext && x.2.2 = pass) = some (num, ext, pass) →
    exec (.sumAnswer ch order ext pass .notBound) s = .next (s.enterEnding ch (.failed .cardGone)))

/-- Writing, verifying, repairing and rewriting (R75, R77 to R82, R86). An extent written is counted and reported, and
its port leaves the buffer's pending set (`State.drained`, whose last port frees the buffer). Verification begins with a
report and the first extent, in FINISHING, for every copy WRITING whose extents are all written, before a repair pass or
the order's completion. In VERIFY each extent read back asks for the next, and in REVERIFY those of the repair list; a
mismatch is reported and kept, and the last one ends the round: with none kept the header is rewritten COMPLETE, and
otherwise the copy waits for repair, or after two passes leaves the order. A repair pass takes in every copy that waits,
over the union of their repair lists, and claims the card: GRANTED or WAITING is reported and the re-reading begins at
the grant; CARD_GONE at once fails the members and ends the pass, and later ends the order. A full re-read extent goes
on to the next of the union; found EQUAL, it is written to the members that need it, or frees its buffer where none
does; the last hands the card back and ends the pass. A member all rewritten is verified again. A rewritten header is
reported and the copy leaves the order. A FAILED write drops the copy with WRITE_FAILED and withdraws its other
requests; a LOST answer and the volume's loss drop it, take its port out of every pending set, or mark a copy being
made. An answer WITHDRAWN, one DONE in ENDING, and one of a copy no longer ALIVE only count as answered. The model's
choices: a failed write ends its copy in ENDING too (assumption 27), a claim answered CARD_GONE is NONE at once (67), a
dropped element's repair list is empty (83), next extent to verify rises with each answer and keeps its last value (84),
an extent is full by its bytes alone (86), and the order of the end reports of a pass that could not be begun (116). -/
def Obligations.CopiesAreWrittenAndVerified : Prop :=
  ((∀ ch order p num s c e b, c = s.chan ch → c.phase ≠ .idle → c.phase ≠ .ending → c.order = some order →
    c.elem? p = some e → e.phase = .writing → b = s.drained ch p num →
    ∃ u, exec (.extentWriteAnswer ch order p num .done) s = .next (u.settle ch) ∧
      elemBecomes ch p { e with written := e.written + 1 }
        (c.outstanding[p] - 1) s u ∧ (u.chan ch).outstanding[p] = c.outstanding[p] - 1 ∧
      u.sts = b.sts ∧ sends s u (b.wire.drop s.wire.length ++
        [⟨.cc ch, .cat, .extentWrittenReport (c.clip.getD 0) (e.vol.getD 0)⟩])) ∧
  (∀ ch order p num s c e b, c = s.chan ch → c.phase ≠ .idle → c.order = some order → c.elem? p = some e →
    e.phase.alive = true → c.outstanding[p] ≤ 1 → b = s.drained ch p num →
    ∃ u, exec (.extentWriteAnswer ch order p num .failed) s = .next (u.settle ch) ∧
      elemBecomes ch p { e with phase := .dropped, repairList := [], newList := [], toWrite := [] }
        (c.outstanding[p] - 1) s u ∧ u.sts = b.sts ∧
      sends s u (b.wire.drop s.wire.length ++
        [⟨.cc ch, .cat, .copyEndReport (c.clip.getD 0) (e.vol.getD 0) .failed .writeFailed⟩])) ∧
  (∀ (s : State) ch p c e, c = s.chan ch → c.elem? p = some e →
    elemBecomes ch p { e with phase := .verify, nextVerify := 0, repairList := [] }
        (c.outstanding[p] + 1) s (s.beginVerify ch e) ∧
    (s.beginVerify ch e).sts = s.sts ∧
    sends s (s.beginVerify ch e) [⟨.cc ch, .cat, .verifyBegunReport (c.clip.getD 0) (e.vol.getD 0)⟩,
      ⟨.cc ch, .dp p, .verifyRead ch p (c.order.getD 0) (e.vol.getD 0) 0 (e.hb.getD 0 + spanOf c.extents)
        (extentLen c.dataLen 0) (c.sums.getD 0 0)⟩]) ∧
  (∀ ch order p ext ans s c e l, c = s.chan ch → c.phase ≠ .idle → c.phase ≠ .ending → c.order = some order →
    c.elem? p = some e → e.phase = .verify → ans = .matched ∨ ans = .mismatch →
    l = (if ans = .mismatch then insertAsc ext e.repairList else e.repairList) → e.nextVerify + 1 < c.extents →
    ∃ u, exec (.verifyReadAnswer ch order p ext ans) s = .next (u.settle ch) ∧
      elemBecomes ch p { e with repairList := l, nextVerify := e.nextVerify + 1 }
        (c.outstanding[p] - 1 + 1) s u ∧ u.sts = s.sts ∧
      sends s u ((if ans = .mismatch then [⟨.cc ch, .cat, .mismatchReport (c.clip.getD 0) (e.vol.getD 0) ext⟩] else []) ++
        [⟨.cc ch, .dp p, .verifyRead ch p order (e.vol.getD 0) (e.nextVerify + 1)
          (e.hb.getD 0 + spanOf c.extents + 2048 * (e.nextVerify + 1)) (extentLen c.dataLen (e.nextVerify + 1))
          (c.sums.getD (e.nextVerify + 1) 0)⟩])) ∧
  (∀ ch order p ext s c e, c = s.chan ch → c.phase ≠ .idle → c.phase ≠ .ending → c.order = some order →
    c.elem? p = some e → e.phase = .verify → e.repairList = [] → c.extents ≤ e.nextVerify + 1 →
    ∃ u, exec (.verifyReadAnswer ch order p ext .matched) s = .next (u.settle ch) ∧
      elemBecomes ch p { e with phase := .rewrite, newList := [], nextVerify := e.nextVerify + 1 }
        (c.outstanding[p] - 1 + 1) s u ∧ u.sts = s.sts ∧
      sends s u [⟨.cc ch, .cat, .verifyEndedReport (c.clip.getD 0) (e.vol.getD 0)⟩,
        ⟨.cc ch, .dp p, .headerRewrite ch p order (e.vol.getD 0) (e.hb.getD 0) c.sums⟩]) ∧
  (∀ ch order p ext s c e l, c = s.chan ch → c.phase ≠ .idle → c.phase ≠ .ending → c.order = some order →
    c.elem? p = some e → e.phase = .verify → l = insertAsc ext e.repairList → c.extents ≤ e.nextVerify + 1 → e.passes < 2 →
    ∃ u, exec (.verifyReadAnswer ch order p ext .mismatch) s = .next (u.settle ch) ∧
      elemBecomes ch p { e with phase := .repairWait, passes := e.passes + 1, repairList := l, newList := []
                                nextVerify := e.nextVerify + 1 } (c.outstanding[p] - 1) s u ∧ u.sts = s.sts ∧
      sends s u [⟨.cc ch, .cat, .mismatchReport (c.clip.getD 0) (e.vol.getD 0) ext⟩,
        ⟨.cc ch, .cat, .verifyEndedReport (c.clip.getD 0) (e.vol.getD 0)⟩]) ∧
  (∀ ch order p s c e, c = s.chan ch → c.phase ≠ .idle → c.order = some order → c.elem? p = some e → e.phase = .rewrite →
    ∃ u, exec (.headerRewriteAnswer ch order p .done) s = .next (u.settle ch) ∧
      elemBecomes ch p { e with phase := .dropped, repairList := [], newList := [], toWrite := [] }
        (c.outstanding[p] - 1) s u ∧ u.sts = s.sts ∧
      sends s u [⟨.cc ch, .cat, .rewriteDoneReport (c.clip.getD 0) (e.vol.getD 0)⟩]) ∧
  (∀ ch order p s c e r, c = s.chan ch → c.phase ≠ .idle → c.order = some order → c.elem? p = some e →
    c.outstanding[p] ≤ 1 → (r = .headerWriteAnswer ch order p .failed ∧ e.phase = .header ∨
      r = .headerRewriteAnswer ch order p .failed ∧ e.phase = .rewrite) →
    ∃ u, exec r s = .next (u.settle ch) ∧
      elemBecomes ch p { e with phase := .dropped, repairList := [], newList := [], toWrite := [] }
        (c.outstanding[p] - 1) s u ∧ u.sts = s.sts ∧
      sends s u [⟨.cc ch, .cat, .copyEndReport (c.clip.getD 0) (e.vol.getD 0) .failed .writeFailed⟩]) ∧
  (∀ ch p vol s e, (s.chan ch).elem? p = some e → e.vol = some vol → e.phase.alive = true →
    (∀ b ∈ s.sts.bufs, b.owner = ch → p ∉ b.pend) →
    ∃ u, exec (.channelLostVolume ch p vol) s = .next (u.settle ch) ∧
      elemBecomes ch p { e with phase := .dropped, repairList := [], newList := [], toWrite := [] }
        (s.chan ch).outstanding[p] s u ∧ u.sts = s.sts ∧
      sends s u []) ∧
  (∀ ch p vol s, (∀ e, (s.chan ch).elem? p = some e → e.vol ≠ some vol) → exec (.channelLostVolume ch p vol) s = .next s) ∧
  ((∀ (s : State) ch c ms, c = s.chan ch → c.phase = .finishing → c.repair = none →
    (∀ e ∈ c.dests, ¬(e.phase = .writing ∧ e.written = c.extents)) →
    ms = c.dests.filter (fun e => e.phase = .repairWait) → ms ≠ [] →
    ∃ t exts, s.settle ch = t ∧ exts.Pairwise (· < ·) ∧ (∀ n, n ∈ exts ↔ ∃ e ∈ ms, n ∈ e.repairList) ∧
      chanBecomes ch { c with repair := some { exts := exts, members := ms.map (·.port) }, claimAsked := true
                              claimTag := s.token
                              dests := c.dests.map fun e =>
                                if e.phase = .repairWait then { e with phase := .repair, toWrite := e.repairList } else e } s t ∧
      t.token = s.token + 1 ∧ sends s t [⟨.cc ch, .ci, .claim ch c.serial s.token⟩]) ∧
  (∀ ch tag s c r ext, c = s.chan ch → c.claimTag = tag → c.claimAsked = true ∨ c.claim = .waiting → c.claim ≠ .held →
    c.phase = .finishing → c.repair = some r → r.exts[r.done]? = some ext →
    ∃ t, exec (.claimAnswer ch tag .granted) s = .next t ∧
      chanBecomes ch { c with claimAsked := false, claim := .held
                              repair := some { r with granted := true }
                              fill := some { ext := ext, pass := .repair, tag := s.token }
                              bufferWait := true, burstOut := true } s t ∧
      t.token = s.token + 1 ∧
      sends s t ((if c.claimAsked then [⟨.cc ch, .ods, .repairBegunReport ch (c.order.getD 0)⟩] else []) ++
        [⟨.cc ch, .sts, .bufferRequest ch s.token (c.clip.getD 0) ext .repair (extentLen c.dataLen ext)⟩,
          ⟨.cc ch, .ci, .burstRequest ch c.serial c.clipNo ext 0 false⟩])) ∧
  (∀ ch tag s c, c = s.chan ch → c.claimTag = tag → c.claimAsked = true → c.claim = .none → c.phase = .finishing →
    ∃ t, exec (.claimAnswer ch tag .waiting) s = .next t ∧
      chanBecomes ch { c with claimAsked := false, claim := .waiting } s t ∧ t.token = s.token ∧
      sends s t [⟨.cc ch, .ods, .repairBegunReport ch (c.order.getD 0)⟩]) ∧
  (∀ ch tag s c, c = s.chan ch → c.claimTag = tag → c.claimAsked = true → c.phase = .finishing →
    (c.dests.map (·.port)).Nodup →
    ∃ u, exec (.claimAnswer ch tag .cardGone) s = .next (u.settle ch) ∧
      chanBecomes ch { c with claimAsked := false, claim := .none, repair := none
                              dests := c.dests.map fun e => if c.member e then
                                { e with phase := .dropped, repairList := [], newList := [], toWrite := [] } else e } s u ∧
      u.token = s.token ∧
      sends s u ((c.dests.filter c.member).map fun e =>
        ⟨.cc ch, .cat, .copyEndReport (c.clip.getD 0) (e.vol.getD 0) .failed .cardGone⟩)) ∧
  (∀ ch tag s c, c = s.chan ch → c.claimTag = tag → c.claimAsked = false → c.claim ≠ .none → c.phase = .finishing →
    ∃ u, exec (.claimAnswer ch tag .cardGone) s = .next (u.enterEnding ch (.failed .cardGone)) ∧
      chanBecomes ch { c with claim := .none } s u) ∧
  (∀ ch bytes s c f num, c = s.chan ch → c.burstOut = true → c.phase ≠ .ending → c.fill = some f → f.num = some num →
    f.pass = .repair → f.bytes + bytes.length < extentLen c.dataLen f.ext →
    ∃ t, exec (.burstAnswer ch (.done bytes)) s = .next t ∧
      t.chan ch = { c with fill := some { f with bytes := f.bytes + bytes.length, burst := f.burst + 1 } } ∧
      otherChans ch s t ∧ onlyCc s t ∧ t.token = s.token ∧
      t.sts = { s.sts with bufs := s.sts.bufs.map fun b => if b.num = num then { b with data := b.data ++ bytes } else b } ∧
      sends s t [⟨.cc ch, .ci, .burstRequest ch c.serial c.clipNo f.ext (f.burst + 1) true⟩]) ∧
  (∀ ch bytes s c f num b r, c = s.chan ch → c.burstOut = true → c.phase ≠ .ending → c.fill = some f → f.num = some num →
    f.pass = .repair → extentLen c.dataLen f.ext ≤ f.bytes + bytes.length → c.repair = some r →
    r.exts.length ≤ r.done + 1 → s.sts.buf? num = some b →
    ∃ t, exec (.burstAnswer ch (.done bytes)) s = .next t ∧
      t.chan ch = { c with burstOut := false, fill := none, summing := c.summing ++ [(num, f.ext, .repair)]
                           repair := some { r with done := r.done + 1 } } ∧
      otherChans ch s t ∧ onlyCc s t ∧ t.token = s.token ∧
      t.sts = { s.sts with bufs := s.sts.bufs.map fun b => if b.num = num then { b with data := b.data ++ bytes } else b } ∧
      sends s t [⟨.cc ch, .cat, .sumReport ch (c.clip.getD 0) (c.order.getD 0) f.ext (extentSum (b.data ++ bytes)) .repair⟩]) ∧
  (∀ ch order ext s c num r es, c = s.chan ch → c.phase ≠ .idle → c.phase ≠ .ending → c.order = some order →
    c.summing.find? (fun x => x.2.1 = ext && x.2.2 = .repair) = some (num, ext, .repair) → c.repair = some r →
    es = c.dests.filter (fun e => c.member e && e.repairList.contains ext) → es ≠ [] →
    r.exts.getLast? = some ext → r.done = r.exts.length → c.claim = .held →
    ∃ u, exec (.sumAnswer ch order ext .repair .equal) s = .next (u.settle ch) ∧
      chanBecomes ch { c with summing := c.summing.filter fun x => ¬(x.2.1 = ext ∧ x.2.2 = .repair)
                              outstanding := (u.chan ch).outstanding, claim := .none, repair := none } { s with sts := u.sts } u ∧
      u.sts = { s.sts with bufs := s.sts.bufs.map fun x => if x.num = num then { x with pend := es.map (·.port) } else x } ∧
      sends s u ((es.map fun e => ⟨.cc ch, .dp e.port, .extentWrite ch e.port order (e.vol.getD 0) num
        (e.hb.getD 0 + spanOf c.extents + 2048 * ext)⟩) ++
        [⟨.cc ch, .ci, .handBack ch c.serial⟩, ⟨.cc ch, .ods, .repairDoneReport ch order⟩])) ∧
  (∀ ch order ext s c num r es, c = s.chan ch → c.phase ≠ .idle → c.phase ≠ .ending → c.order = some order →
    c.summing.find? (fun x => x.2.1 = ext && x.2.2 = .repair) = some (num, ext, .repair) → c.repair = some r →
    es = c.dests.filter (fun e => c.member e && e.repairList.contains ext) → r.exts.getLast? ≠ some ext →
    ∃ u, exec (.sumAnswer ch order ext .repair .equal) s = .next (u.settle ch) ∧
      chanBecomes ch { c with summing := c.summing.filter fun x => ¬(x.2.1 = ext ∧ x.2.2 = .repair)
                              outstanding := (u.chan ch).outstanding } { s with sts := u.sts } u ∧
      (es = [] → u.sts = (s.freeBuffer num).sts ∧ sends s u ((s.freeBuffer num).wire.drop s.wire.length)) ∧
      (es ≠ [] → u.sts = { s.sts with bufs := s.sts.bufs.map fun x =>
          if x.num = num then { x with pend := es.map (·.port) } else x } ∧
        sends s u (es.map fun e => ⟨.cc ch, .dp e.port, .extentWrite ch e.port order (e.vol.getD 0) num
          (e.hb.getD 0 + spanOf c.extents + 2048 * ext)⟩))) ∧
  (∀ ch order p num ext s c e b, c = s.chan ch → c.phase ≠ .idle → c.phase ≠ .ending → c.order = some order →
    c.elem? p = some e → e.phase = .repair → (s.sts.buf? num).map (·.ext) = some ext → (∃ n ∈ e.toWrite, n ≠ ext) →
    b = s.drained ch p num →
    ∃ u, exec (.extentWriteAnswer ch order p num .done) s = .next (u.settle ch) ∧
      elemBecomes ch p { e with toWrite := e.toWrite.filter fun n => n ≠ ext }
        (c.outstanding[p] - 1) s u ∧ u.sts = b.sts ∧
      sends s u (b.wire.drop s.wire.length)) ∧
  (∀ ch order p num ext s c e b n l, c = s.chan ch → c.phase ≠ .idle → c.phase ≠ .ending → c.order = some order →
    c.elem? p = some e → e.phase = .repair → (s.sts.buf? num).map (·.ext) = some ext → (∀ n ∈ e.toWrite, n = ext) →
    e.repairList = n :: l → b = s.drained ch p num →
    ∃ u, exec (.extentWriteAnswer ch order p num .done) s = .next (u.settle ch) ∧
      elemBecomes ch p { e with phase := .reverify, toWrite := [], newList := [], repairList := l }
        (c.outstanding[p] - 1 + 1) s u ∧ u.sts = b.sts ∧
      sends s u (b.wire.drop s.wire.length ++ [⟨.cc ch, .cat, .verifyBegunReport (c.clip.getD 0) (e.vol.getD 0)⟩,
        ⟨.cc ch, .dp p, .verifyRead ch p order (e.vol.getD 0) n (e.hb.getD 0 + spanOf c.extents + 2048 * n)
          (extentLen c.dataLen n) (c.sums.getD n 0)⟩])) ∧
  (∀ ch order p ext ans s c e l n rest, c = s.chan ch → c.phase ≠ .idle → c.phase ≠ .ending → c.order = some order →
    c.elem? p = some e → e.phase = .reverify → ans = .matched ∨ ans = .mismatch →
    l = (if ans = .mismatch then insertAsc ext e.newList else e.newList) → e.repairList = n :: rest →
    ∃ u, exec (.verifyReadAnswer ch order p ext ans) s = .next (u.settle ch) ∧
      elemBecomes ch p { e with repairList := rest, newList := l } (c.outstanding[p] - 1 + 1) s u ∧ u.sts = s.sts ∧
      sends s u ((if ans = .mismatch then [⟨.cc ch, .cat, .mismatchReport (c.clip.getD 0) (e.vol.getD 0) ext⟩] else []) ++
        [⟨.cc ch, .dp p, .verifyRead ch p order (e.vol.getD 0) n (e.hb.getD 0 + spanOf c.extents + 2048 * n)
          (extentLen c.dataLen n) (c.sums.getD n 0)⟩])) ∧
  (∀ ch order p ext ans s c e l, c = s.chan ch → c.phase ≠ .idle → c.phase ≠ .ending → c.order = some order →
    c.elem? p = some e → e.phase = .reverify → ans = .matched ∨ ans = .mismatch →
    l = (if ans = .mismatch then insertAsc ext e.newList else e.newList) → e.repairList = [] →
    ∃ u, exec (.verifyReadAnswer ch order p ext ans) s = .next (u.settle ch) ∧ u.sts = s.sts ∧
      elemBecomes ch p (if l = [] then { e with phase := .rewrite, newList := [] }
        else if e.passes < 2 then
          { e with phase := .repairWait, passes := e.passes + 1, repairList := l, newList := [] }
        else { e with phase := .dropped, newList := [], toWrite := [] })
        (if l = [] then c.outstanding[p] - 1 + 1 else c.outstanding[p] - 1) s u ∧
      sends s u ((if ans = .mismatch then [⟨.cc ch, .cat, .mismatchReport (c.clip.getD 0) (e.vol.getD 0) ext⟩] else []) ++
        [⟨.cc ch, .cat, .verifyEndedReport (c.clip.getD 0) (e.vol.getD 0)⟩] ++
        if l = [] then [⟨.cc ch, .dp p, .headerRewrite ch p order (e.vol.getD 0) (e.hb.getD 0) c.sums⟩] else [])) ∧
  ∀ ch order p ext s c e, c = s.chan ch → c.phase ≠ .idle → c.phase ≠ .ending → c.order = some order →
    c.elem? p = some e → e.phase = .verify → c.extents ≤ e.nextVerify + 1 → 2 ≤ e.passes →
    ∃ u, exec (.verifyReadAnswer ch order p ext .mismatch) s = .next (u.settle ch) ∧
      elemBecomes ch p { e with phase := .dropped, repairList := [], newList := [], toWrite := []
                                nextVerify := e.nextVerify + 1 } (c.outstanding[p] - 1) s u ∧ u.sts = s.sts ∧
      sends s u [⟨.cc ch, .cat, .mismatchReport (c.clip.getD 0) (e.vol.getD 0) ext⟩,
        ⟨.cc ch, .cat, .verifyEndedReport (c.clip.getD 0) (e.vol.getD 0)⟩]) ∧
  (∀ ch p vol s e, (s.chan ch).elem? p = some e → e.vol = some vol → e.phase.alive = false → e.phase ≠ .creating →
    exec (.channelLostVolume ch p vol) s = .next (s.settle ch)) ∧
  (∀ ch p vol s e, (s.chan ch).elem? p = some e → e.vol = some vol → e.phase = .creating →
    ∃ u, exec (.channelLostVolume ch p vol) s = .next (u.settle ch) ∧ elemBecomes ch p { e with lossSeen := true }
        (s.chan ch).outstanding[p] s u ∧
      u.sts = s.sts ∧ sends s u []) ∧
  (∀ (s : State) ch c es, c = s.chan ch → c.phase = .finishing → (c.dests.map (·.port)).Nodup →
    es = c.dests.filter (fun e => e.phase = .writing ∧ e.written = c.extents) →
    ∃ u, s.settle ch = u.settle ch ∧ u.token = s.token ∧
      chanBecomes ch { c with
        outstanding := (u.chan ch).outstanding
        dests := c.dests.map fun e => if e.phase = .writing ∧ e.written = c.extents then
          { e with phase := .verify, nextVerify := 0, repairList := [] } else e } s u ∧
      (∀ p : Port, (u.chan ch).outstanding[p] = c.outstanding[p] + if p ∈ es.map (·.port) then 1 else 0) ∧
      sends s u (es.flatMap fun e => [⟨.cc ch, .cat, .verifyBegunReport (c.clip.getD 0) (e.vol.getD 0)⟩,
        ⟨.cc ch, .dp e.port, .verifyRead ch e.port (c.order.getD 0) (e.vol.getD 0) 0 (e.hb.getD 0 + spanOf c.extents)
          (extentLen c.dataLen 0) (c.sums.getD 0 0)⟩])) ∧
  (∀ ch order p ext s c e, c = s.chan ch → c.phase ≠ .idle → c.phase ≠ .ending → c.order = some order →
    c.elem? p = some e → e.phase = .verify → e.repairList ≠ [] → c.extents ≤ e.nextVerify + 1 →
    ∃ u, exec (.verifyReadAnswer ch order p ext .matched) s = .next (u.settle ch) ∧ u.sts = s.sts ∧
      elemBecomes ch p (if e.passes < 2 then
        { e with phase := .repairWait, passes := e.passes + 1, newList := [], nextVerify := e.nextVerify + 1 }
        else { e with phase := .dropped, repairList := [], newList := [], toWrite := []
                      nextVerify := e.nextVerify + 1 }) (c.outstanding[p] - 1) s u ∧
      sends s u [⟨.cc ch, .cat, .verifyEndedReport (c.clip.getD 0) (e.vol.getD 0)⟩])) ∧
  (∀ ch order p num ans s c e b, c = s.chan ch → c.phase ≠ .idle → c.order = some order → c.elem? p = some e →
    (ans = WriteAns.withdrawn ∨ ans = .done ∧ c.phase = .ending ∨ ans = .failed ∧ e.phase.alive = false ∨
      ans = .lost ∧ e.phase.alive = false ∧ e.phase ≠ .creating) → b = s.drained ch p num →
    ∃ u, exec (.extentWriteAnswer ch order p num ans) s = .next (u.settle ch) ∧
      chanBecomes ch { c with outstanding := upd c.outstanding p (· - 1) } { s with sts := u.sts } u ∧
      u.sts = b.sts ∧ u.token = s.token ∧ sends s u (b.wire.drop s.wire.length)) ∧
  (∀ ch order p num s c e b0 b, c = s.chan ch → c.phase ≠ .idle → c.order = some order → c.elem? p = some e →
    e.phase.alive = true → b0 = s.drained ch p num →
    b = ((b0.sts.bufs.filter fun x => x.owner = ch && p ∈ x.pend).map (·.num)).foldl (fun t n => t.drained ch p n) b0 →
    ∃ u, exec (.extentWriteAnswer ch order p num .lost) s = .next (u.settle ch) ∧
      elemBecomes ch p { e with phase := .dropped, repairList := [], newList := [], toWrite := [] }
        (c.outstanding[p] - 1) s u ∧ u.sts = b.sts ∧ sends s u (b.wire.drop s.wire.length)) ∧
  (∀ ch order p ext vol s c e b r n, c = s.chan ch → c.phase ≠ .idle → c.order = some order → c.elem? p = some e →
    e.phase.alive = true →
    b = ((s.sts.bufs.filter fun x => x.owner = ch && p ∈ x.pend).map (·.num)).foldl (fun t n => t.drained ch p n) s →
    (r = .verifyReadAnswer ch order p ext .lost ∧ n = c.outstanding[p] - 1 ∨
      r = .headerWriteAnswer ch order p .lost ∧ e.phase = .header ∧ n = c.outstanding[p] - 1 ∨
      r = .headerRewriteAnswer ch order p .lost ∧ e.phase = .rewrite ∧ n = c.outstanding[p] - 1 ∨
      r = .channelLostVolume ch p vol ∧ e.vol = some vol ∧ n = c.outstanding[p]) →
    ∃ u, exec r s = .next (u.settle ch) ∧
      elemBecomes ch p { e with phase := .dropped, repairList := [], newList := [], toWrite := [] } n s u ∧
      u.sts = b.sts ∧ sends s u (b.wire.drop s.wire.length)) ∧
  (∀ ch order p ext s c e r, c = s.chan ch → c.phase ≠ .idle → c.order = some order → c.elem? p = some e →
    (r = .verifyReadAnswer ch order p ext .withdrawn ∨ r = .headerRewriteAnswer ch order p .withdrawn ∨
      r = .verifyReadAnswer ch order p ext .lost ∧ e.phase.alive = false ∧ e.phase ≠ .creating ∨
      r = .headerRewriteAnswer ch order p .lost ∧ e.phase ≠ .rewrite) →
    ∃ u, exec r s = .next (u.settle ch) ∧
      chanBecomes ch { c with outstanding := upd c.outstanding p (· - 1) } s u ∧ u.token = s.token ∧ sends s u []) ∧
  (∀ ch order p num s c e b r, c = s.chan ch → c.phase ≠ .idle → c.order = some order → c.elem? p = some e →
    e.phase.alive = true → 2 ≤ c.outstanding[p] →
    (r = .extentWriteAnswer ch order p num .failed ∧ b = s.drained ch p num ∨
      r = .headerWriteAnswer ch order p .failed ∧ e.phase = .header ∧ b = s ∨
      r = .headerRewriteAnswer ch order p .failed ∧ e.phase = .rewrite ∧ b = s) →
    ∃ u, exec r s = .next (u.settle ch) ∧
      elemBecomes ch p { e with phase := .dropped, repairList := [], newList := [], toWrite := [] }
        (c.outstanding[p] - 1) s u ∧ u.sts = b.sts ∧
      sends s u (b.wire.drop s.wire.length ++
        [⟨.cc ch, .cat, .copyEndReport (c.clip.getD 0) (e.vol.getD 0) .failed .writeFailed⟩,
          ⟨.cc ch, .dp p, .withdrawal ch p order⟩])) ∧
  (∀ ch bytes s c f num b r n, c = s.chan ch → c.burstOut = true → c.phase ≠ .ending → c.fill = some f → f.num = some num →
    f.pass = .repair → extentLen c.dataLen f.ext ≤ f.bytes + bytes.length → c.repair = some r →
    r.exts[r.done + 1]? = some n → s.sts.buf? num = some b →
    ∃ t, exec (.burstAnswer ch (.done bytes)) s = .next t ∧
      t.chan ch = { c with fill := some { ext := n, pass := .repair, tag := s.token }, bufferWait := true
                           summing := c.summing ++ [(num, f.ext, .repair)], repair := some { r with done := r.done + 1 } } ∧
      otherChans ch s t ∧ onlyCc s t ∧ t.token = s.token + 1 ∧
      t.sts = { s.sts with bufs := s.sts.bufs.map fun b => if b.num = num then { b with data := b.data ++ bytes } else b } ∧
      sends s t [⟨.cc ch, .cat, .sumReport ch (c.clip.getD 0) (c.order.getD 0) f.ext (extentSum (b.data ++ bytes)) .repair⟩,
        ⟨.cc ch, .sts, .bufferRequest ch s.token (c.clip.getD 0) n .repair (extentLen c.dataLen n)⟩,
        ⟨.cc ch, .ci, .burstRequest ch c.serial c.clipNo n 0 false⟩]) ∧
  (∀ ch order ext s c num r, c = s.chan ch → c.phase ≠ .idle → c.phase ≠ .ending → c.order = some order →
    c.summing.find? (fun x => x.2.1 = ext && x.2.2 = .repair) = some (num, ext, .repair) → c.repair = some r →
    (∀ e ∈ c.dests, ¬(c.member e = true ∧ ext ∈ e.repairList)) → r.exts.getLast? = some ext → r.done = r.exts.length →
    c.claim = .held →
    ∃ u, exec (.sumAnswer ch order ext .repair .equal) s = .next (u.settle ch) ∧
      chanBecomes ch { c with summing := c.summing.filter fun x => ¬(x.2.1 = ext ∧ x.2.2 = .repair)
                              claim := .none, repair := none } { s with sts := u.sts } u ∧
      u.sts = (s.freeBuffer num).sts ∧ u.token = s.token ∧
      sends s u ((s.freeBuffer num).wire.drop s.wire.length ++
        [⟨.cc ch, .ci, .handBack ch c.serial⟩, ⟨.cc ch, .ods, .repairDoneReport ch order⟩]))

/-- Holders and ends (R83 to R85, R87 to R89, R102). A status query is answered by whether the channel runs the order with
the element held; a watch of a closed element is answered at once, and one of an open element is kept and answered CLOSED
as the channel's context changes so that the element closes: when a rewrite is DONE, when the drive is lost, when the
order ends. An abort of the running order ends it. Ending an order changes nothing outside the channels and the Staging
Store, and leaves the channel in ENDING with that end kind, or IDLE. Its alive copies end FAILED with SOURCE_UNSTABLE, or
ABANDONED with READ_ERROR, CARD_GONE or ABORTED, as the end kind is. The wind-down drops a repair pass that was never
granted, withdraws the requests each port holds and cuts off a live pass that had begun and not ended; with a burst at the
Card Interface it waits for the burst's answer, and with none, or at that answer, it leaves the wait list, frees its
FILLING buffers and hands the card back. A channel in ENDING with nothing left reports every alive copy's end and the
order's end kind and becomes IDLE; one in FINISHING whose copies have all left reports COMPLETE. The channel is out of the
wait list before a buffer of its own is freed. That no cut-off is sent of a live pass never begun (assumption 68), that a
reservation counts among the outstanding port requests (assumption 26), that the cut-off and the withdrawals wait for no
burst (assumption 94), and that the store takes the withdrawal at once (assumption 105), are the model's choice. So is
that several buffers are freed in ascending number (assumption 107). So is the order of the end reports (assumption 116).
So are that an element RESERVING whose reservation has not been sent is dropped without a notice (assumption 27) and that
a claim not yet answered keeps the wind-down open (assumption 119). -/
def Obligations.ChannelEnds : Prop :=
  (∀ p ch order s, ∃ t, exec (.statusQuery p ch order) s = .next t ∧ onlyWire s t ∧
    t.wire = s.wire ++ [⟨.cc ch, .dp p, .statusQueryAnswer p ch order ((s.chan ch).aliveFor p order)⟩]) ∧
  (∀ p ch order s, (s.chan ch).aliveFor p order = true → exec (.watch p ch order) s =
    .next { s with cc := { s.cc with watches := s.cc.watches ++ [(p, ch, order)] } }) ∧
  (∀ p ch order s, (s.chan ch).aliveFor p order = false → ∃ t, exec (.watch p ch order) s = .next t ∧ onlyWire s t ∧
    t.wire = s.wire ++ [⟨.cc ch, .dp p, .watchAnswer p ch order⟩]) ∧
  (∀ (s : State) ch c w, w ∈ (s.setChan ch c).cc.watches → w.2.1 = ch → c.aliveFor w.1 w.2.2 = true) ∧
  (∀ ch order s c, c = s.chan ch → c.phase ≠ .idle → c.phase ≠ .ending → c.order = some order →
    ∃ u, exec (.channelAbort ch order) s = .next (u.enterEnding ch .aborted) ∧ chanBecomes ch { c with abort := true } s u) ∧
  (∀ ch order s c, c = s.chan ch → c.phase = .idle ∨ c.phase = .ending ∨ c.order ≠ some order →
    exec (.channelAbort ch order) s = .next s) ∧
  (∀ (s : State) ch k t, t = s.enterEnding ch k → onlyCc s t ∧ otherChans ch s t ∧
    ((t.chan ch).phase = .ending ∧ (t.chan ch).ended = some k ∨
      t.chan ch = {} ∧ (⟨.cc ch, .ods, .orderEndReport ch ((s.chan ch).order.getD 0) k⟩ : Wire) ∈ t.wire)) ∧
  (∀ (s : State) ch c k, c = s.chan ch → c.phase = .ending → c.ended = some k → s.sts.held ch = 0 → c.claim = .none →
    c.claimAsked = false → c.burstOut = false → c.noneOutstanding = true →
    (∀ e ∈ c.dests, e.phase ≠ .reserving ∧ e.phase ≠ .creating) →
    ∃ t, s.settle ch = t ∧ chanBecomes ch {} s t ∧
      sends s t ((c.dests.filter fun e => e.phase.alive).map (fun e => ⟨.cc ch, .cat,
        .copyEndReport (c.clip.getD 0) (e.vol.getD 0) (endState k).1 (endState k).2⟩) ++
        [⟨.cc ch, .ods, .orderEndReport ch (c.order.getD 0) k⟩])) ∧
  (∀ (s : State) ch c, c = s.chan ch → c.phase = .finishing → c.repair = none →
    (∀ e ∈ c.dests, e.phase = .skipped ∨ e.phase = .dropped) → s.sts.held ch = 0 → c.noneOutstanding = true →
    ∃ t, s.settle ch = t ∧ chanBecomes ch {} s t ∧
      sends s t [⟨.cc ch, .ods, .orderEndReport ch (c.order.getD 0) .complete⟩]) ∧
  (endState (.failed .sourceUnstable) = (.failed, .sourceUnstable) ∧
      endState (.failed .readError) = (.abandoned, .readError) ∧
    endState (.failed .cardGone) = (.abandoned, .cardGone) ∧ endState .aborted = (.abandoned, .aborted)) ∧
  (∀ (s : State) ch k c ports, c = s.chan ch → c.phase ≠ .idle → c.burstOut = true →
    ports = (List.finRange 4).filter (fun p : Port => c.outstanding[p] ≠ 0) →
    ∃ u, s.enterEnding ch k = u.settle ch ∧ u.token = s.token ∧
      chanBecomes ch { c with
        phase := .ending, ended := some k, lookup := false, repair := c.repair.filter (·.granted)
        dests := c.dests.map fun e =>
          if c.lookup = true ∧ e.phase = .reserving then { e with phase := .dropped } else e } s u ∧
      sends s u ((if c.begun = true ∧ c.phase ≠ .finishing then [⟨.cc ch, .fx, .livePassCutOff ch⟩] else []) ++
        ports.map fun p => ⟨.cc ch, .dp p, .withdrawal ch p (c.order.getD 0)⟩)) ∧
  (∀ (s : State) ch k c ports nums f, c = s.chan ch → c.phase ≠ .idle → c.burstOut = false →
    ports = (List.finRange 4).filter (fun p : Port => c.outstanding[p] ≠ 0) →
    nums = ((s.sts.bufs.filter fun b => b.owner = ch && b.pend.isEmpty).map (·.num)).filter (fun n =>
      (c.fill.bind (·.num)) = some n || c.summing.any fun x => x.1 = n) →
    f = nums.foldl State.freeBuffer (if c.bufferWait = true then s.leaveWaits ch else s) →
    ∃ u, s.enterEnding ch k = u.settle ch ∧ u.token = s.token ∧
      chanBecomes ch { c with
        phase := .ending, ended := some k, lookup := false, repair := c.repair.filter (·.granted)
        bufferWait := false, fill := none, summing := [], claim := .none
        dests := c.dests.map fun e =>
          if c.lookup = true ∧ e.phase = .reserving then { e with phase := .dropped } else e } { s with sts := f.sts } u ∧
      sends s u ((if c.bufferWait then [⟨.cc ch, .sts, .bufferWithdrawal ch⟩] else []) ++ f.wire.drop s.wire.length ++
        (if c.claim = .none then [] else [⟨.cc ch, .ci, .handBack ch c.serial⟩]) ++
        (if c.begun = true ∧ c.phase ≠ .finishing then [⟨.cc ch, .fx, .livePassCutOff ch⟩] else []) ++
        ports.map fun p => ⟨.cc ch, .dp p, .withdrawal ch p (c.order.getD 0)⟩)) ∧
  (∀ ch ans s c nums f, c = s.chan ch → c.phase = .ending → c.burstOut = true →
    nums = ((s.sts.bufs.filter fun b => b.owner = ch && b.pend.isEmpty).map (·.num)).filter (fun n =>
      (c.fill.bind (·.num)) = some n || c.summing.any fun x => x.1 = n) →
    f = nums.foldl State.freeBuffer (if c.bufferWait = true then s.leaveWaits ch else s) →
    ∃ u, exec (.burstAnswer ch ans) s = .next (u.settle ch) ∧ u.token = s.token ∧
      chanBecomes ch { c with burstOut := false, bufferWait := false, fill := none, summing := [], claim := .none }
        { s with sts := f.sts } u ∧
      sends s u ((if c.bufferWait then [⟨.cc ch, .sts, .bufferWithdrawal ch⟩] else []) ++ f.wire.drop s.wire.length ++
        if c.claim = .none then [] else [⟨.cc ch, .ci, .handBack ch c.serial⟩])) ∧
  (∀ (s : State) ch c closed, closed = s.cc.watches.filter (fun w => w.2.1 = ch ∧ c.aliveFor w.1 w.2.2 = false) →
    (s.setChan ch c).cc.watches = s.cc.watches.filter (fun w => ¬(w.2.1 = ch ∧ c.aliveFor w.1 w.2.2 = false)) ∧
    (s.setChan ch c).wire = s.wire ++ closed.map fun w => ⟨.cc ch, .dp w.1, .watchAnswer w.1 ch w.2.2⟩) ∧
  (∀ ch order p s c e, c = s.chan ch → c.phase ≠ .idle → c.order = some order → c.elem? p = some e → e.phase = .rewrite →
    (p, ch, order) ∈ s.cc.watches →
    ∃ t, exec (.headerRewriteAnswer ch order p .done) s = .next t ∧ (p, ch, order) ∉ t.cc.watches ∧
      (⟨.cc ch, .dp p, .watchAnswer p ch order⟩ : Wire) ∈ t.wire) ∧
  (∀ ch p vol order s c e, c = s.chan ch → c.order = some order → c.elem? p = some e → e.vol = some vol →
    e.phase.alive = true → (p, ch, order) ∈ s.cc.watches →
    ∃ t, exec (.channelLostVolume ch p vol) s = .next t ∧ (p, ch, order) ∉ t.cc.watches ∧
      (⟨.cc ch, .dp p, .watchAnswer p ch order⟩ : Wire) ∈ t.wire) ∧
  (∀ (s : State) ch k w, w ∈ s.cc.watches → w.2.1 = ch →
    w ∉ (s.endOrder ch k).cc.watches ∧
      (⟨.cc ch, .dp w.1, .watchAnswer w.1 ch w.2.2⟩ : Wire) ∈ (s.endOrder ch k).wire) ∧
  (∀ (s : State) ch, s.leaveWaits ch = { s with sts := { s.sts with waits := s.sts.waits.filter fun w => w.ch ≠ ch } } ∧
    ∀ w ∈ (s.leaveWaits ch).sts.waits, w.ch ≠ ch)

/-! ## Destination ports (Section 5) -/

/-- Attach and scan (R94 to R97). A drive shown in ABSENT starts a scan with the identification, which is followed by the
label; in any other state only the pin follows. A label that cannot be used makes the port UNFORMATTED with its cause; a
good one gives volume serial and recorded end and starts the walk at block 1. A block that is no clip header moves the
walk one block on, an INCOMPLETE header adds its entry and moves past the copy, a COMPLETE one reads its sum list, which
the entry keeps where its check value agrees. At the recorded end the port is READY, and offers every entry with a sum
list. -/
def Obligations.AttachAndScan : Prop :=
  (∀ p s c e, c = s.port p → c.state = .absent →
    e = { state := .scanning, test := c.test
          op := some { kind := .ident, tok := s.token, attempt := 1, cmd := .identify } } →
    ∃ t, exec (.driveAttach p) s = .next t ∧ t.port p = e ∧ otherPorts p s t ∧
      t.pins = { s.pins with driveDetect := upd s.pins.driveDetect p fun _ => true } ∧
      t = { s with dp := t.dp, pins := t.pins, wire := t.wire, token := s.token + 1 } ∧
      t.wire = s.wire ++ portReport s p e ++ [noticeOf (.dp p) (portNotice .destAttached p none [])]) ∧
  (∀ p s, (s.port p).state ≠ .absent → exec (.driveAttach p) s =
    .next { s with pins := { s.pins with driveDetect := upd s.pins.driveDetect p fun _ => true } }) ∧
  (∀ p tok capacity s c o e, c = s.port p → c.op = some o → o.tok = tok → o.kind = .ident →
    e = { c with capacity := some capacity
                 op := some { kind := .label, tok := s.token, attempt := 1, cmd := .read 0 1 } } →
    ∃ t, exec (.identificationReadDone p tok capacity) s = .next t ∧ portBecomes p e s t ∧ t.token = s.token + 1 ∧
      t.wire = s.wire ++ portReport s p e) ∧
  (∀ p tok bytes s c o why e, c = s.port p → c.op = some o → o.tok = tok → o.kind = .label →
    readLabel (c.capacity.getD 0) bytes = .error why → e = { c with state := .unformatted, vol := none, op := none } →
    ∃ u, exec (.labelReadDone p tok bytes) s = .next (u.serve p) ∧ portBecomes p e s u ∧ u.token = s.token ∧
      u.wire = s.wire ++ portReport s p e ++
        [noticeOf (.dp p) (portNotice .destScanFailed p none (u8 (why.ctorIdx + 1)))]) ∧
  (∀ p tok bytes s c o serial recEnd e, c = s.port p → c.op = some o → o.tok = tok → o.kind = .label →
    readLabel (c.capacity.getD 0) bytes = .ok (serial, recEnd) →
    e = { c with vol := some serial, recEnd := some recEnd, op := none } →
    ∃ u, exec (.labelReadDone p tok bytes) s = .next ((u.walkFrom p 1).serve p) ∧ portBecomes p e s u ∧
      u.token = s.token ∧ u.wire = s.wire ++ portReport s p e) ∧
  (∀ p tok bytes s c o pos, c = s.port p → c.op = some o → o.tok = tok → o.kind = .walk pos →
    readClipHdr (c.vol.getD 0) (c.recEnd.getD 0) pos bytes = none →
    ∃ u, exec (.walkReadDone p tok bytes) s = .next ((u.walkFrom p (pos + 1)).serve p) ∧
      portBecomes p { c with op := none } s u ∧ u.token = s.token ∧ u.wire = s.wire) ∧
  (∀ p tok bytes s c o pos h e, c = s.port p → c.op = some o → o.tok = tok → o.kind = .walk pos →
    readClipHdr (c.vol.getD 0) (c.recEnd.getD 0) pos bytes = some h → h.complete = false →
    e = { c with index := c.index ++ [h.entry], op := none } →
    ∃ u, exec (.walkReadDone p tok bytes) s =
        .next ((u.walkFrom p (pos + spanOf (extentsOf h.entry.len) + dataBlocks h.entry.len)).serve p) ∧
      portBecomes p e s u ∧ u.token = s.token ∧ u.wire = s.wire ++ portReport s p e) ∧
  (∀ p tok bytes s c o pos h, c = s.port p → c.op = some o → o.tok = tok → o.kind = .walk pos →
    readClipHdr (c.vol.getD 0) (c.recEnd.getD 0) pos bytes = some h → h.complete = true →
    ∃ t, exec (.walkReadDone p tok bytes) s = .next t ∧
      portBecomes p { c with op := some { kind := .sumList pos h.entry h.check, tok := s.token, attempt := 1
                                          cmd := .read (pos + 1) (spanOf (extentsOf h.entry.len) - 1) } } s t ∧
      t.token = s.token + 1 ∧ t.wire = s.wire) ∧
  (∀ p tok bytes s c o pos x check n e, c = s.port p → c.op = some o → o.tok = tok → o.kind = .sumList pos x check →
    n = extentsOf x.len → 4 * n ≤ bytes.length →
    e = { c with op := none, index := c.index ++ [{ x with
      sums := if extentSum (bytes.take (4 * n)) = check then some (readSumList n (bytes.take (4 * n))) else none }] } →
    ∃ u, exec (.walkReadDone p tok bytes) s = .next ((u.walkFrom p (pos + spanOf n + dataBlocks x.len)).serve p) ∧
      portBecomes p e s u ∧ u.token = s.token ∧ u.wire = s.wire ++ portReport s p e) ∧
  (∀ (s : State) p pos c, c = s.port p → pos < c.recEnd.getD 0 → c.index.length < 4096 →
    portBecomes p { c with op := some { kind := .walk pos, tok := s.token, attempt := 1, cmd := .read pos 1 } } s
      (s.walkFrom p pos) ∧ (s.walkFrom p pos).wire = s.wire) ∧
  ∀ (s : State) p pos c e, c = s.port p → c.recEnd.getD 0 ≤ pos ∨ 4096 ≤ c.index.length →
    e = { c with state := .ready, alloc := c.recEnd } →
    portBecomes p e s (s.walkFrom p pos) ∧ (s.walkFrom p pos).wire = s.wire ++ portReport s p e ++
      [noticeOf (.dp p) (portNotice .destScanned p c.vol (u16 c.index.length ++
        u16 (c.index.filter fun x => x.sums.isSome).length ++ u64 e.free))] ++
      (c.index.flatMap fun x => foundOfferOf p (c.vol.getD 0) x).map fun m => ⟨.dp p, .cat, m⟩

/-- Formatting (R99, R100). An UNFORMATTED drive of at least two blocks, or a READY one with an empty index and no holder,
takes a serial that is neither 0 nor its own: its waiting requests are answered LOST (the model's choice, assumption 30),
and the port is UNFORMATTED with no volume until the label is written, then READY with the new serial, an empty index, no
holder and an UNTESTED qualification; a label that cannot be written leaves it UNFORMATTED with FORMAT_FAILED. A state
that does not allow it is refused with its reason, and a serial or port out of range VALUE. The soak test (R114 to R119).
A READY port with free blocks and no holder starts it over the smaller of the asked length and the free blocks; written
blocks move it on, and with the last one it reads from the start; the last block read ends it READY, PASSED with no more
bit errors than the threshold and FAILED with more, and an operation that fails its attempts ends it FAILED with 65535
errors. STOP SOAK ends it with no result, and the operation that runs then is finished with its result discarded. With
holders each request begins a holder test. That a request is refused BUSY before its state tests while a test is
outstanding is the model's choice (assumption 29). So is that a FORMAT VOLUME of an UNFORMATTED port makes no report to
the dispatcher (assumption 114). -/
def Obligations.FormattingAndSoakTest : Prop :=
  ((∀ q (p : Port) serial s c e, c = s.port p → serial ≠ 0 → c.vol ≠ some serial → c.test = none →
    c.state = .unformatted ∨ c.state = .ready ∧ c.index = [] ∧ c.holding = [] → 2 ≤ c.capacity.getD 0 → c.format = none →
    e = { c with state := .unformatted, vol := none, index := [], alloc := none, format := some serial
                 plays := [], reads := [], writes := [] } →
    ∃ u, exec (.formatVolume q p.val serial) s = .next (u.serve p) ∧ portBecomes p e s u ∧ u.token = s.token ∧
      u.wire = s.wire ++ lostAnswersOf p c ++ portReport s p e ++ [acceptOf (.dp p) q []]) ∧
  (∀ q (p : Port) serial s c, c = s.port p → serial ≠ 0 → c.vol ≠ some serial → c.state = .ready →
    2 ≤ c.capacity.getD 0 → c.format = none → c.index = [] → c.test = none → c.holding ≠ [] →
    ∃ t, exec (.formatVolume q p.val serial) s = .next t ∧
      portBecomes p { c with test := some { q := q, what := .format serial, awaiting := c.holding, failed := false } } s t ∧
      t.token = s.token ∧ ∀ ch h, c.holders[ch] = some h → (⟨.dp p, .cc ch, .statusQuery p ch h.1⟩ : Wire) ∈ t.wire) ∧
  (∀ q port serial s, (4 ≤ port ∨ serial = 0 ∨ ∃ p : Port, p.val = port ∧ (s.port p).vol = some serial) →
    ∃ t p, exec (.formatVolume q port serial) s = .next t ∧ onlyWire s t ∧ t.wire = s.wire ++ [refuseOf (.dp p) q .value]) ∧
  (∀ q (p : Port) serial s c why, c = s.port p → serial ≠ 0 → c.vol ≠ some serial → c.test = none →
    ((c.state ≠ .unformatted ∧ c.state ≠ .ready ∧ why = Reason.notReady) ∨
      ((c.state = .unformatted ∨ c.state = .ready) ∧ (c.capacity.getD 0 < 2 ∧ why = .noCapacity ∨
        2 ≤ c.capacity.getD 0 ∧ (c.format ≠ none ∧ why = .already ∨
          c.format = none ∧ c.state = .ready ∧ c.index ≠ [] ∧ why = .volumeInUse)))) →
    ∃ t, exec (.formatVolume q p.val serial) s = .next t ∧ onlyWire s t ∧
      t.wire = s.wire ++ [refuseStateOf (.dp p) q why]) ∧
  (∀ p tok s c o serial r, c = s.port p → c.op = some o → o.tok = tok → o.kind = .format serial → 3 ≤ o.attempt →
    r = .driveError p tok false ∨ r = .driveAttemptExpiry p tok false →
    ∃ u, exec r s = .next (u.serve p) ∧ portBecomes p { c with op := none, format := none } s u ∧ u.token = s.token ∧
      u.wire = s.wire ++ [noticeOf (.dp p) (portNotice .destFormatFailed p none [])]) ∧
  ∀ p tok s c o serial e, c = s.port p → c.op = some o → o.tok = tok → o.kind = .format serial →
    e = { c with state := .ready, vol := some serial, recEnd := some 1, alloc := some 1, index := [], qual := .untested
                 holders := Vector.replicate 3 none, format := none, op := none } →
    ∃ u, exec (.formatWriteDone p tok) s = .next (u.serve p) ∧ portBecomes p e s u ∧ u.token = s.token ∧
      u.wire = s.wire ++ portReport s p e ++
        [noticeOf (.dp p) (portNotice .destFormatted p (some serial) (fSerial serial))]) ∧
  (∀ q (p : Port) len threshold s c e n, c = s.port p → c.state = .ready → c.format = none → c.alloc ≠ c.capacity →
    c.test = none → c.holding = [] →
    n = min (min 4096 (if len = 0 then 256 else len) * 256) c.free →
    e = { c with state := .soaking, qual := .untested, soak := some { len := n, limit := min 65535 threshold } } →
    ∃ u, exec (.startSoak q p.val len threshold) s = .next (u.serve p) ∧ portBecomes p e s u ∧ u.token = s.token ∧
      u.wire = s.wire ++ portReport s p e ++
        [noticeOf (.dp p) (portNotice .destSoakStarted p c.vol (u32 n ++ u16 (min 65535 threshold))),
          answerOf (.dp p) q (.accepted (decide (len > 4096 ∨ threshold > 65535)) (u32 n))]) ∧
  (∀ q (p : Port) len threshold s c what, c = s.port p → c.state = .ready → c.format = none → c.alloc ≠ c.capacity →
    c.test = none → c.holding ≠ [] → what = TestFor.soak (min 4096 (if len = 0 then 256 else len)) (min 65535 threshold)
      (decide (len > 4096 ∨ threshold > 65535)) →
    ∃ t, exec (.startSoak q p.val len threshold) s = .next t ∧
      portBecomes p { c with test := some { q := q, awaiting := c.holding, failed := false, what := what } } s t ∧
      t.token = s.token ∧ ∀ ch h, c.holders[ch] = some h → (⟨.dp p, .cc ch, .statusQuery p ch h.1⟩ : Wire) ∈ t.wire) ∧
  (∀ q (p : Port) len threshold s c why, c = s.port p → c.test = none → ((c.state ≠ .ready ∨ c.format ≠ none) ∧
      why = Reason.notReady ∨
      c.state = .ready ∧ c.format = none ∧ c.alloc = c.capacity ∧ why = .noRoom) →
    ∃ t, exec (.startSoak q p.val len threshold) s = .next t ∧ onlyWire s t ∧
      t.wire = s.wire ++ [refuseStateOf (.dp p) q why]) ∧
  (∀ p tok s c o k blocks, c = s.port p → c.op = some o → o.tok = tok → o.kind = .soakWrite blocks → c.soak = some k →
    ∃ u tx, exec (.soakWriteDone p tok) s = .next (u.serve p) ∧ tx = (soakBytes (blocks * 4096) k.tx).2 ∧
      portBecomes p { c with op := none, soak := some (if k.len ≤ k.pos + blocks then { k with tx := tx, phase := .read, pos := 0 }
        else { k with tx := tx, pos := k.pos + blocks }) } s u ∧ u.token = s.token ∧ u.wire = s.wire) ∧
  (∀ p tok bytes s c o k blocks, c = s.port p → c.op = some o → o.tok = tok → o.kind = .soakRead blocks → c.soak = some k →
    bytes.length = blocks * 4096 → k.pos + blocks < k.len →
    ∃ u k', exec (.soakReadDone p tok bytes) s = .next (u.serve p) ∧ k' = bytes.foldl Soak.feedByte k ∧
      portBecomes p { c with op := none, soak := some { k' with pos := k.pos + blocks } } s u ∧ u.token = s.token ∧
      u.wire = s.wire) ∧
  (∀ p tok bytes s c o k blocks k' e, c = s.port p → c.op = some o → o.tok = tok → o.kind = .soakRead blocks →
    c.soak = some k → bytes.length = blocks * 4096 → k.len ≤ k.pos + blocks → k' = bytes.foldl Soak.feedByte k →
    e = { c with op := none, state := .ready, soak := none
                 qual := if k'.errors ≤ k'.limit then .passed else .failed } →
    ∃ u, exec (.soakReadDone p tok bytes) s = .next (u.serve p) ∧ portBecomes p e s u ∧ u.token = s.token ∧
      u.wire = s.wire ++ portReport s p e ++ [noticeOf (.dp p) (portNotice .destSoakDone p c.vol
        (u16 k'.errors ++ u16 k'.limit ++ u8 (e.qual.ctorIdx + 1)))]) ∧
  (∀ p tok s c o k blocks e r, c = s.port p → c.op = some o → o.tok = tok → c.soak = some k → 3 ≤ o.attempt →
    o.kind = .soakWrite blocks ∨ o.kind = .soakRead blocks →
    r = .driveError p tok false ∨ r = .driveAttemptExpiry p tok false →
    e = { c with op := none, state := .ready, qual := .failed, soak := none } →
    ∃ u, exec r s = .next (u.serve p) ∧ portBecomes p e s u ∧ u.token = s.token ∧
      u.wire = s.wire ++ portReport s p e ++ [noticeOf (.dp p) (portNotice .destSoakDone p c.vol
        (u16 65535 ++ u16 k.limit ++ u8 (Qual.failed.ctorIdx + 1)))]) ∧
  (∀ p tok bytes s c o r k, c = s.port p → c.op = some o → o.tok = tok → o.kind = .discarded k →
    r = .soakWriteDone p tok ∨ r = .soakReadDone p tok bytes ∨ r = .formatWriteDone p tok →
    ∃ u, exec r s = .next (u.serve p) ∧ portBecomes p { c with op := none } s u ∧ u.token = s.token ∧ u.wire = s.wire) ∧
  (∀ q (p : Port) s c o e, c = s.port p → c.state = .soaking → c.op = some o →
    e = { c with state := .ready, soak := none, op := some (discardSoak o) } →
    ∃ t, exec (.stopSoak q p.val) s = .next t ∧ portBecomes p e s t ∧ t.token = s.token ∧
      t.wire = s.wire ++ portReport s p e ++ [noticeOf (.dp p) (portNotice .destSoakEnded p c.vol (u8 1)),
        acceptOf (.dp p) q []]) ∧
  (∀ q (p : Port) s, (s.port p).state ≠ .soaking →
    ∃ t, exec (.stopSoak q p.val) s = .next t ∧ onlyWire s t ∧ t.wire = s.wire ++ [refuseStateOf (.dp p) q .notSoaking]) ∧
  ∀ (k : Soak) (b : Bool), k.loaded = true →
  (k.feedBit b).errors = if b = soakBit k.rx then k.errors else min 65535 (k.errors + 1)

/-- Reservations and holders (R101, R102, R111, R112). A reservation on the volume the channel named, with an index
entry and enough blocks free, moves the allocation pointer past it and makes the channel a holder; every refusal gives
the first cause that holds; one granted while a holder test is outstanding fails the test. A channel that answers no
longer ALIVE stops being a holder. The last answer of a holder test refuses the request BUSY where the test has failed,
and otherwise the request's state tests are made again and it begins or is refused. A second FORMAT VOLUME or START SOAK
meanwhile is refused BUSY (after its own operands and before its state tests: the model's choice, assumption 29). A
watch answered removes its holder, and the last one a DETACHING port waits for makes it DETACHED. A watch answered while
others remain leaves a DETACHING port as it is (R102, R110). -/
def Obligations.ReservationsAndHolders : Prop :=
  ((∀ ch p order vol blocks s c e, c = s.port p → c.state = .ready → c.format = none → c.vol = some vol →
    c.index.length < 4096 → blocks ≤ c.free →
    e = { c with alloc := some (c.alloc.getD 0 + blocks), test := c.test.map fun x => { x with failed := true }
                 holders := upd c.holders ch fun _ => some (order, c.alloc.getD 0) } →
    ∃ t, exec (.reservationRequest ch p order vol blocks) s = .next t ∧ portBecomes p e s t ∧ t.token = s.token ∧
      t.wire = s.wire ++ portReport s p e ++
        [⟨.dp p, .cc ch, .reservationAnswer ch order p (.reserved (c.alloc.getD 0))⟩]) ∧
  (∀ ch p order vol blocks s c why, c = s.port p →
    why = (if c.state = .absent then DropCause.absent else if c.state ≠ .ready ∨ c.format ≠ none then .notReady
      else if c.vol ≠ some vol then .volumeChanged else if 4096 ≤ c.index.length then .indexFull else .noSpace) →
    (c.state ≠ .ready ∨ c.format ≠ none ∨ c.vol ≠ some vol ∨ 4096 ≤ c.index.length ∨ c.free < blocks) →
    ∃ t, exec (.reservationRequest ch p order vol blocks) s = .next t ∧ onlyWire s t ∧
      t.wire = s.wire ++ [⟨.dp p, .cc ch, .reservationAnswer ch order p (.refused why)⟩]) ∧
  (∀ p ch order alive s c, c = s.port p → (∀ x, c.test = some x → ch ∉ x.awaiting) →
    ∃ t, exec (.statusQueryAnswer p ch order alive) s = .next t ∧
      portBecomes p (if alive then c else
        { c with holders := upd c.holders ch fun h => h.filter fun x => x.1 ≠ order }) s t ∧
      t.token = s.token ∧ t.wire = s.wire) ∧
  (∀ p ch order alive s c x, c = s.port p → c.test = some x → ch ∈ x.awaiting → (∃ d ∈ x.awaiting, d ≠ ch) →
    ∃ t, exec (.statusQueryAnswer p ch order alive) s = .next t ∧ t.token = s.token ∧ t.wire = s.wire ∧
      portBecomes p { c with
        test := some { x with awaiting := x.awaiting.filter fun d => d ≠ ch, failed := x.failed || alive }
        holders := if alive then c.holders else upd c.holders ch fun h => h.filter fun y => y.1 ≠ order } s t) ∧
  (∀ p ch order s c x, c = s.port p → c.test = some x → x.awaiting = [ch] → x.failed = true →
    ∃ t, exec (.statusQueryAnswer p ch order false) s = .next t ∧
      portBecomes p { c with test := none, holders := upd c.holders ch fun h => h.filter fun y => y.1 ≠ order } s t ∧
      t.token = s.token ∧ t.wire = s.wire ++ [refuseOf (.dp p) x.q .busy]) ∧
  (∀ (s : State) p q serial c e, c = s.port p → c.state = .unformatted ∨ c.state = .ready ∧ c.index = [] →
    2 ≤ c.capacity.getD 0 → c.format = none →
    e = { c with state := .unformatted, vol := none, index := [], alloc := none, format := some serial
                 plays := [], reads := [], writes := [] } →
    ∃ u, s.testPassed p q (.format serial) = u.serve p ∧ portBecomes p e s u ∧ u.token = s.token ∧
      u.wire = s.wire ++ lostAnswersOf p c ++ portReport s p e ++ [acceptOf (.dp p) q []]) ∧
  (∀ (s : State) p q len limit clamped c e n, c = s.port p → c.state = .ready → c.format = none → c.alloc ≠ c.capacity →
    n = min (len * 256) c.free →
    e = { c with state := .soaking, qual := .untested, soak := some { len := n, limit := limit } } →
    ∃ u, s.testPassed p q (.soak len limit clamped) = u.serve p ∧ portBecomes p e s u ∧ u.token = s.token ∧
      u.wire = s.wire ++ portReport s p e ++ [noticeOf (.dp p) (portNotice .destSoakStarted p c.vol (u32 n ++ u16 limit)),
        answerOf (.dp p) q (.accepted clamped (u32 n))]) ∧
  (∀ (s : State) p q what c why, c = s.port p →
    ((∃ len limit clamped, what = .soak len limit clamped) ∧
        ((c.state ≠ .ready ∨ c.format ≠ none) ∧ why = Reason.notReady ∨
          c.state = .ready ∧ c.format = none ∧ c.alloc = c.capacity ∧ why = .noRoom) ∨
      (∃ serial, what = .format serial) ∧
        (c.state ≠ .unformatted ∧ c.state ≠ .ready ∧ why = Reason.notReady ∨
          (c.state = .unformatted ∨ c.state = .ready) ∧ (c.capacity.getD 0 < 2 ∧ why = .noCapacity ∨
            2 ≤ c.capacity.getD 0 ∧ (c.format ≠ none ∧ why = .already ∨
              c.format = none ∧ c.state = .ready ∧ c.index ≠ [] ∧ why = .volumeInUse)))) →
    onlyWire s (s.testPassed p q what) ∧ (s.testPassed p q what).wire = s.wire ++ [refuseStateOf (.dp p) q why]) ∧
  (∀ q (p : Port) serial len threshold s, (s.port p).test ≠ none →
    (serial ≠ 0 → (s.port p).vol ≠ some serial → ∃ t, exec (.formatVolume q p.val serial) s = .next t ∧ onlyWire s t ∧
      t.wire = s.wire ++ [refuseOf (.dp p) q .busy]) ∧
    ∃ t, exec (.startSoak q p.val len threshold) s = .next t ∧ onlyWire s t ∧
      t.wire = s.wire ++ [refuseOf (.dp p) q .busy]) ∧
  (∀ p ch order s c x, c = s.port p → c.test = some x → x.awaiting = [ch] →
    ∃ t, exec (.statusQueryAnswer p ch order true) s = .next t ∧ portBecomes p { c with test := none } s t ∧
      t.token = s.token ∧ t.wire = s.wire ++ [refuseOf (.dp p) x.q .busy]) ∧
  (∀ p ch order s c x, c = s.port p → c.test = some x → x.awaiting = [ch] → x.failed = false →
    ∃ u, exec (.statusQueryAnswer p ch order false) s = .next (u.testPassed p x.q x.what) ∧
      portBecomes p { c with test := none, holders := upd c.holders ch fun h => h.filter fun y => y.1 ≠ order } s u ∧
      u.wire = s.wire) ∧
  (∀ p ch order s c e, c = s.port p → c.state = .detaching → c.watching = [(ch, order)] →
    e = { c with holders := upd c.holders ch (fun h => h.filter fun x => x.1 ≠ order), state := .detached, watching := [] } →
    ∃ t, exec (.watchAnswer p ch order) s = .next t ∧ portBecomes p e s t ∧ t.token = s.token ∧
      t.wire = s.wire ++ portReport s p e ++ [noticeOf (.dp p) (portNotice .destDetached p c.vol [])]) ∧
  ∀ p ch order s c, c = s.port p → c.state ≠ .detaching ∨ (ch, order) ∉ c.watching →
    ∃ t, exec (.watchAnswer p ch order) s = .next t ∧ t.token = s.token ∧ t.wire = s.wire ∧
      portBecomes p { c with holders := upd c.holders ch fun h => h.filter fun x => x.1 ≠ order } s t) ∧
  (∀ p ch order s c, c = s.port p → c.state = .detaching → (ch, order) ∈ c.watching → (∃ w ∈ c.watching, w ≠ (ch, order)) →
    ∃ t, exec (.watchAnswer p ch order) s = .next t ∧ t.token = s.token ∧ t.wire = s.wire ∧
      portBecomes p { c with holders := upd c.holders ch fun h => h.filter fun x => x.1 ≠ order
                             watching := c.watching.filter fun w => w ≠ (ch, order) } s t)

/-- Requests of a port (R93, R106, R107). A request for the volume the port holds joins the end of its class and the
arbiter chooses again; one for another volume, or for any while the port scans, is answered LOST. A write-class request is
answered FAILED while the port is SOAKING or DETACHED, and a verify read MISMATCH while it is DETACHED. -/
def Obligations.PortRequests : Prop :=
  (∀ ch p order vol hb serial clipNo len sums num block s c r w, c = s.port p → c.state ≠ .scanning → c.vol = some vol →
    c.state ≠ .soaking → c.state ≠ .detached →
    (r = Instr.headerWrite ch p order vol hb serial clipNo len ∧ w = WriteReq.header ch order hb serial clipNo len ∨
      r = .headerRewrite ch p order vol hb sums ∧ w = .rewrite ch order hb sums ∨
      r = .extentWrite ch p order vol num block ∧ w = .extent ch order num block) →
    ∃ u, exec r s = .next (u.serve p) ∧ portBecomes p { c with writes := c.writes ++ [w] } s u ∧ u.token = s.token ∧
      u.wire = s.wire) ∧
  (∀ ch p order vol hb serial clipNo len sums num block s c ans, c = s.port p →
    ((c.state = .scanning ∨ c.vol ≠ some vol) ∧ ans = WriteAns.lost ∨
      c.vol = some vol ∧ (c.state = .soaking ∨ c.state = .detached) ∧ ans = .failed) →
    (∃ t, exec (.headerWrite ch p order vol hb serial clipNo len) s = .next t ∧ onlyWire s t ∧
      t.wire = s.wire ++ [⟨.dp p, .cc ch, .headerWriteAnswer ch order p ans⟩]) ∧
    (∃ t, exec (.headerRewrite ch p order vol hb sums) s = .next t ∧ onlyWire s t ∧
      t.wire = s.wire ++ [⟨.dp p, .cc ch, .headerRewriteAnswer ch order p ans⟩]) ∧
    ∃ t, exec (.extentWrite ch p order vol num block) s = .next t ∧ onlyWire s t ∧
      t.wire = s.wire ++ [⟨.dp p, .cc ch, .extentWriteAnswer ch order p num ans⟩]) ∧
  (∀ ch p order vol ext block len sum first count run s c r w, c = s.port p → c.state ≠ .scanning → c.vol = some vol →
    (r = Instr.verifyRead ch p order vol ext block len sum ∧ w = ReadReq.verify ch order ext block len sum ∧
        c.state ≠ .detached ∨ r = .reinspectionRead p vol first count run ∧ w = .reinspect first count run) →
    ∃ u, exec r s = .next (u.serve p) ∧ portBecomes p { c with reads := c.reads ++ [w] } s u ∧ u.token = s.token ∧
      u.wire = s.wire) ∧
  (∀ k p vol first span rtok s c, c = s.port p → c.state ≠ .scanning → c.vol = some vol →
    ∃ u, exec (.playbackRead k p vol first span rtok) s = .next (u.serve p) ∧
      portBecomes p { c with plays := c.plays ++ [⟨k, first, span.count, span.cut, rtok⟩] } s u ∧ u.token = s.token ∧
      u.wire = s.wire) ∧
  (∀ ch p order vol ext block len sum s c, c = s.port p → c.state = .detached → c.vol = some vol →
    ∃ t, exec (.verifyRead ch p order vol ext block len sum) s = .next t ∧ onlyWire s t ∧
      t.wire = s.wire ++ [⟨.dp p, .cc ch, .verifyReadAnswer ch order p ext .mismatch⟩]) ∧
  ∀ ch k p order vol ext block len sum first count span rtok run s c, c = s.port p → c.state = .scanning ∨ c.vol ≠ some vol →
    (∃ t, exec (.verifyRead ch p order vol ext block len sum) s = .next t ∧ onlyWire s t ∧
      t.wire = s.wire ++ [⟨.dp p, .cc ch, .verifyReadAnswer ch order p ext .lost⟩]) ∧
    (∃ t, exec (.reinspectionRead p vol first count run) s = .next t ∧ onlyWire s t ∧
      t.wire = s.wire ++ [⟨.dp p, .ins, .reinspectReadAnswer run .lost⟩]) ∧
    ∃ t, exec (.playbackRead k p vol first span rtok) s = .next t ∧ onlyWire s t ∧
      t.wire = s.wire ++ [⟨.dp p, .fx, .playbackReadAnswer k rtok .lost⟩]

/-- The arbiter (R108). With no operation running, an attached port with neither a format nor a soak takes the oldest
playback read first; then READ and WRITE take turns while both wait, and a turn of WRITE goes to the oldest write of the
first channel that has one after the one served last. A soak goes before every request, and a running operation is never
displaced. Failed attempts and withdrawals (R103, R109). A failed attempt, by error or time, is made again up to the
attempts its operation has: one for a playback read and three for the rest; a label raise it made keeps its recorded
end. The last failure answers a request FAILED, and MISMATCH to a verify read; it fails a scan whose identification or
label it was, and moves the index walk past the block or, of a sum list, past the copy with an INCOMPLETE entry (the
model's choice, assumption 69). A withdrawal takes the waiting requests of one channel's order out of the queue, a
cancel the waiting reads of one output or of the Inspector, each answered WITHDRAWN; the running operation goes on.
Detaching and removal (R110, R111, R113, R119). A DETACH in READY makes the port DETACHING with a watch on each holder,
and DETACHED at once where there is none; in SCANNING, UNFORMATTED or SOAKING it is DETACHED at once, a scan's index,
volume and allocation pointer or a format dropped, its operation discarded, with one report. A removed drive leaves its
port ABSENT with nothing waiting: every request is answered LOST; the Catalog, each holder, the outputs and the
Inspector are told of the volume it held, before REMOVED is raised. The model's choices: a holder test is kept
(assumption 29), what a scan leaves (31) and its one report (121), a read begun before a FORMAT VOLUME or START SOAK
(96), the empty write of a rewrite without entry (97), that requests queued at a DETACHED port stay (108) and the order
of answers (116). -/
def Obligations.ArbiterFailuresAndRemoval : Prop :=
  (((∀ (s : State) p, (s.port p).op ≠ none → s.serve p = s) ∧
  (∀ (s : State) p c r rest, c = s.port p → c.op = none → c.state ≠ .absent → c.state ≠ .scanning → c.format = none →
    c.soak = none → c.plays = r :: rest →
    portBecomes p { c with plays := rest
                           op := some { kind := .play r, tok := s.token, attempt := 1
                                        cmd := match r.cut with
                                          | some off => .readFrame r.first r.count off
                                          | none => .read r.first r.count } } s (s.serve p) ∧
      (s.serve p).wire = s.wire ∧ (s.serve p).token = s.token + 1) ∧
  (∀ (s : State) p c r rest, c = s.port p → c.op = none → c.state ≠ .absent → c.state ≠ .scanning → c.format = none →
    c.soak = none → c.plays = [] → c.reads = r :: rest → c.writes = [] ∨ c.lastClass = .write →
    portBecomes p { c with reads := rest, lastClass := .read
                           op := some { kind := .read r, tok := s.token, attempt := 1, cmd := s.driveCmd p (.read r) } }
      s (s.serve p) ∧ (s.serve p).wire = s.wire ∧ (s.serve p).token = s.token + 1) ∧
  (∀ (s : State) p c, c = s.port p → c.op = none → c.state ≠ .absent → c.state ≠ .scanning → c.format = none →
    c.soak = none → c.plays = [] → c.writes ≠ [] → c.reads = [] ∨ c.lastClass = .read →
    ∃ older w younger, c.writes = older ++ w :: younger ∧ (∀ v ∈ older, v.chan ≠ w.chan) ∧
    (∀ v ∈ c.writes, (w.chan - c.lastChan - 1 : Chan).val ≤ (v.chan - c.lastChan - 1 : Chan).val) ∧
    portBecomes p { c with writes := older ++ younger, lastClass := .write, lastChan := w.chan
                           op := some { kind := .write w, tok := s.token, attempt := 1, raise := c.raiseFor (.write w)
                                        cmd := s.driveCmd p (.write w) } } s (s.serve p) ∧
      (s.serve p).wire = s.wire ∧ (s.serve p).token = s.token + 1) ∧
  ∀ (s : State) p c k, c = s.port p → c.op = none → c.state ≠ .absent → c.state ≠ .scanning → c.format = none →
    c.soak = some k →
    ∃ o, (s.serve p).port p = { c with op := some o } ∧
      o.kind = (match k.phase with | .write => .soakWrite (min 2048 (k.len - k.pos)) | .read => .soakRead (min 2048 (k.len - k.pos)))) ∧
  ((∀ p tok raised s c o r, c = s.port p → c.op = some o → o.tok = tok → o.attempt < o.kind.attempts →
    raised = false ∨ o.raise = none → r = .driveError p tok raised ∨ r = .driveAttemptExpiry p tok raised →
    ∃ t, exec r s = .next t ∧
      portBecomes p { c with op := some { kind := o.kind, tok := s.token, attempt := o.attempt + 1
                                          raise := c.raiseFor o.kind, cmd := s.driveCmd p o.kind } } s t ∧
      t.token = s.token + 1 ∧ t.wire = s.wire) ∧
  ((∀ x, (OpKind.play x).attempts = 1) ∧ ∀ k : OpKind, (∀ x, k ≠ .play x) → (∀ w, k ≠ .discarded w) → k.attempts = 3) ∧
  (∀ p tok s c o r w, c = s.port p → c.op = some o → o.tok = tok → o.kind.attempts ≤ o.attempt →
    r = .driveError p tok false ∨ r = .driveAttemptExpiry p tok false →
    (∃ x, o.kind = .write x ∧ w = writeAnswerOf p x .failed) ∨ (∃ x, o.kind = .read x ∧ w = readAnswerOf p x .failed) ∨
      (∃ x, o.kind = .play x ∧ w = playAnswerOf p x .failed) →
    ∃ u, exec r s = .next (u.serve p) ∧ portBecomes p { c with op := none } s u ∧ u.token = s.token ∧
      u.wire = s.wire ++ [w]) ∧
  (∀ p tok s c o r why e, c = s.port p → c.op = some o → o.tok = tok → 3 ≤ o.attempt →
    r = .driveError p tok false ∨ r = .driveAttemptExpiry p tok false →
    o.kind = .ident ∧ why = ScanCause.noIdentity ∨ o.kind = .label ∧ why = .labelUnreadable →
    e = { c with op := none, state := .unformatted, vol := none } →
    ∃ u, exec r s = .next (u.serve p) ∧ portBecomes p e s u ∧ u.token = s.token ∧
      u.wire = s.wire ++ portReport s p e ++
        [noticeOf (.dp p) (portNotice .destScanFailed p none (u8 (why.ctorIdx + 1)))]) ∧
  (∀ p tok s c o r pos, c = s.port p → c.op = some o → o.tok = tok → 3 ≤ o.attempt →
    r = .driveError p tok false ∨ r = .driveAttemptExpiry p tok false → o.kind = .walk pos →
    ∃ u, exec r s = .next ((u.walkFrom p (pos + 1)).serve p) ∧ portBecomes p { c with op := none } s u ∧
      u.token = s.token ∧ u.wire = s.wire) ∧
  (∀ p tok s c o r pos x check e, c = s.port p → c.op = some o → o.tok = tok → 3 ≤ o.attempt →
    r = .driveError p tok false ∨ r = .driveAttemptExpiry p tok false → o.kind = .sumList pos x check →
    e = { c with op := none, index := c.index ++ [x] } →
    ∃ u, exec r s = .next ((u.walkFrom p (pos + spanOf (extentsOf x.len) + dataBlocks x.len)).serve p) ∧
      portBecomes p e s u ∧ u.token = s.token ∧ u.wire = s.wire ++ portReport s p e) ∧
  (∀ p tok raised s, (∀ o, (s.port p).op = some o → o.tok ≠ tok) →
    exec (.driveError p tok raised) s = .next s ∧ exec (.driveAttemptExpiry p tok raised) s = .next s) ∧
  (∀ ch p order s c, c = s.port p → ∃ t, exec (.withdrawal ch p order) s = .next t ∧ t.token = s.token ∧
    portBecomes p { c with writes := c.writes.filter (fun w => ¬(w.chan = ch ∧ w.order = order))
                           reads := c.reads.filter fun r => ¬ r.ofOrder ch order = true } s t ∧
    t.wire = s.wire ++
      (c.writes.filter fun w => w.chan = ch ∧ w.order = order).map (fun w => writeAnswerOf p w .withdrawn) ++
      (c.reads.filter fun r => r.ofOrder ch order).map fun r => readAnswerOf p r .withdrawn) ∧
  (∀ k p s c, c = s.port p → ∃ t, exec (.readCancel (.output k) p) s = .next t ∧ t.token = s.token ∧
    portBecomes p { c with plays := c.plays.filter fun r => r.k ≠ k } s t ∧
    t.wire = s.wire ++ (c.plays.filter fun r => r.k = k).map fun r => playAnswerOf p r .withdrawn) ∧
  ∀ p s c, c = s.port p → ∃ t, exec (.readCancel .inspector p) s = .next t ∧ t.token = s.token ∧
    portBecomes p { c with reads := c.reads.filter fun r => ¬ r.isReinspect = true } s t ∧
    t.wire = s.wire ++ (c.reads.filter ReadReq.isReinspect).map fun r => readAnswerOf p r .withdrawn) ∧
  (∀ q (p : Port) s c e, c = s.port p → c.state = .ready → c.holding ≠ [] →
    e = { c with state := .detaching, watching := c.watchList } →
    ∃ t, exec (.detach q p.val) s = .next t ∧ portBecomes p e s t ∧ t.token = s.token ∧
      (∀ ch h, c.holders[ch] = some h → (⟨.dp p, .cc ch, .watch p ch h.1⟩ : Wire) ∈ t.wire) ∧
      acceptOf (.dp p) q [] ∈ t.wire ∧ noticeOf (.dp p) (portNotice .destDetaching p c.vol []) ∈ t.wire) ∧
  (∀ q (p : Port) s c, c = s.port p → c.state = .ready → c.holding = [] →
    ∃ t, exec (.detach q p.val) s = .next t ∧ portBecomes p { c with state := .detached, watching := [] } s t ∧
      t.token = s.token ∧ acceptOf (.dp p) q [] ∈ t.wire ∧
      noticeOf (.dp p) (portNotice .destDetached p c.vol []) ∈ t.wire) ∧
  (∀ q (p : Port) s c, c = s.port p → c.state = .scanning ∨ c.state = .unformatted →
    ∃ t, exec (.detach q p.val) s = .next t ∧ (t.port p).state = .detached ∧ otherPorts p s t ∧ onlyDp s t ∧
      acceptOf (.dp p) q [] ∈ t.wire) ∧
  (∀ q (p : Port) s c o e, c = s.port p → c.state = .soaking → c.op = some o →
    e = { c with state := .detached, soak := none, watching := [], op := some (discardSoak o) } →
    ∃ t, exec (.detach q p.val) s = .next t ∧ portBecomes p e s t ∧ t.token = s.token ∧
      t.wire = s.wire ++ portReport s p e ++ [noticeOf (.dp p) (portNotice .destSoakEnded p c.vol (u8 2)),
        acceptOf (.dp p) q [], noticeOf (.dp p) (portNotice .destDetached p c.vol [])]) ∧
  (∀ q (p : Port) s c why, c = s.port p → (c.state = .absent ∧ why = .noDrive ∨
      (c.state = .detaching ∨ c.state = .detached) ∧ why = .already) →
    ∃ t, exec (.detach q p.val) s = .next t ∧ onlyWire s t ∧ t.wire = s.wire ++ [refuseStateOf (.dp p) q why]) ∧
  (∀ p s c, c = s.port p → c.state ≠ .absent →
    ∃ t, exec (.driveRemoved p) s = .next t ∧ t.port p = { test := c.test } ∧ otherPorts p s t ∧ t.token = s.token ∧
      t.pins = { s.pins with driveDetect := upd s.pins.driveDetect p fun _ => false } ∧
      t = { s with dp := t.dp, pins := t.pins, wire := t.wire } ∧
      t.wire = s.wire ++ (match c.op with | some o => lostOpOf p o.kind | none => []) ++ lostAnswersOf p c ++
        (match c.vol with
          | some vol => [⟨.dp p, .cat, .lostVolumeReport p vol⟩] ++
            c.holding.map (fun ch => ⟨.dp p, .cc ch, .channelLostVolume ch p vol⟩) ++
            [⟨.dp p, .ro, .outputLostVolume p vol⟩, ⟨.dp p, .ins, .reinspectLostVolume p vol⟩]
          | none => []) ++
        portReport s p { test := c.test } ++
        [noticeOf (.dp p) (portNotice .destRemoved p c.vol (u8 (c.state.ctorIdx + 1)))]) ∧
  ∀ p s, (s.port p).state = .absent → exec (.driveRemoved p) s =
    .next { s with pins := { s.pins with driveDetect := upd s.pins.driveDetect p fun _ => false } }) ∧
  (∀ q (p : Port) s c e, c = s.port p → c.state = .scanning →
    e = { c with state := .detached, index := [], vol := none, alloc := none, watching := []
                 op := c.op.map fun o => { o with kind := .discarded o.kind } } →
    ∃ t, exec (.detach q p.val) s = .next t ∧ portBecomes p e s t ∧ t.token = s.token ∧
      t.wire = s.wire ++ portReport s p e ++
        [acceptOf (.dp p) q [], noticeOf (.dp p) (portNotice .destDetached p none [])]) ∧
  (∀ q (p : Port) s c e, c = s.port p → c.state = .unformatted →
    e = { c with state := .detached, format := none, watching := []
                 op := c.op.map discardFormat } →
    ∃ t, exec (.detach q p.val) s = .next t ∧ portBecomes p e s t ∧ t.token = s.token ∧
      t.wire = s.wire ++ [acceptOf (.dp p) q []] ++ portReport s p e ++
        [noticeOf (.dp p) (portNotice .destDetached p c.vol [])]) ∧
  (∀ p tok s c d o r n, c = s.port p → c.op = some o → o.tok = tok → o.attempt < o.kind.attempts → o.raise = some n →
    d = { c with recEnd := some n } → r = .driveError p tok true ∨ r = .driveAttemptExpiry p tok true →
    ∃ t u, exec r s = .next t ∧ portBecomes p { d with op := none } s u ∧ u.sts = s.sts ∧
      portBecomes p { d with op := some { kind := o.kind, tok := s.token, attempt := o.attempt + 1
                                          raise := d.raiseFor o.kind, cmd := u.driveCmd p o.kind } } s t ∧
      t.token = s.token + 1 ∧ t.wire = s.wire) ∧
  (∀ p tok s c o r n x, c = s.port p → c.op = some o → o.tok = tok → o.kind.attempts ≤ o.attempt → o.raise = some n →
    o.kind = .write x → r = .driveError p tok true ∨ r = .driveAttemptExpiry p tok true →
    ∃ u, exec r s = .next (u.serve p) ∧ portBecomes p { c with op := none, recEnd := some n } s u ∧ u.token = s.token ∧
      u.wire = s.wire ++ [writeAnswerOf p x .failed])

/-- Completions (R104 to R106). A header written adds its index entry, with the recorded end the label raise wrote; a
header rewritten makes its entry COMPLETE and ends the channel's hold of it; an extent written, bytes read for a
playback or a re-inspection, and the comparison of a verify read are answered to whoever asked. In each the drive
becomes idle and the arbiter chooses. A completion of any other attempt than the running one is discarded. A header
written while the index is full, and a header rewritten where the index has no entry of that block, is answered FAILED.
-/
def Obligations.PortCompletions : Prop :=
  ((∀ p tok s c o ch order hb serial clipNo len e, c = s.port p → c.op = some o → o.tok = tok →
    o.kind = .write (.header ch order hb serial clipNo len) → c.index.length < 4096 →
    e = { c with op := none, recEnd := (if o.raise.isSome then o.raise else c.recEnd)
                 index := insertEntry { hb := hb, serial := serial, clipNo := clipNo, len := len, sums := none } c.index } →
    ∃ u, exec (.headerWriteDone p tok) s = .next (u.serve p) ∧ portBecomes p e s u ∧ u.token = s.token ∧
      u.wire = s.wire ++ portReport s p e ++ [⟨.dp p, .cc ch, .headerWriteAnswer ch order p .done⟩]) ∧
  (∀ p tok s c o ch order hb sums e, c = s.port p → c.op = some o → o.tok = tok →
    o.kind = .write (.rewrite ch order hb sums) → (∃ x ∈ c.index, x.hb = hb) →
    e = { c with op := none, index := c.index.map fun x => if x.hb = hb then { x with sums := some sums } else x
                 holders := upd c.holders ch fun h => h.filter fun y => y.2 ≠ hb } →
    ∃ u, exec (.headerRewriteDone p tok) s = .next (u.serve p) ∧ portBecomes p e s u ∧ u.token = s.token ∧
      u.wire = s.wire ++ [⟨.dp p, .cc ch, .headerRewriteAnswer ch order p .done⟩]) ∧
  (∀ p tok s c o ch order num block, c = s.port p → c.op = some o → o.tok = tok →
    o.kind = .write (.extent ch order num block) →
    ∃ u, exec (.extentWriteDone p tok) s = .next (u.serve p) ∧ portBecomes p { c with op := none } s u ∧
      u.token = s.token ∧ u.wire = s.wire ++ [⟨.dp p, .cc ch, .extentWriteAnswer ch order p num .done⟩]) ∧
  (∀ p tok bytes s c o ch order ext block len sum, c = s.port p → c.op = some o → o.tok = tok →
    o.kind = .read (.verify ch order ext block len sum) → len ≤ bytes.length →
    ∃ u, exec (.verifyReadDone p tok bytes) s = .next (u.serve p) ∧ portBecomes p { c with op := none } s u ∧
      u.token = s.token ∧ u.wire = s.wire ++ [⟨.dp p, .cc ch, .verifyReadAnswer ch order p ext
        (if extentSum (bytes.take len) = sum then .matched else .mismatch)⟩]) ∧
  (∀ p tok bytes s c o r, c = s.port p → c.op = some o → o.tok = tok → o.kind = .play r →
      bytes.length = r.blocks bytes * 4096 →
    ∃ u, exec (.playbackReadDone p tok bytes) s = .next (u.serve p) ∧ portBecomes p { c with op := none } s u ∧
      u.token = s.token ∧ u.wire = s.wire ++ [⟨.dp p, .fx, .playbackReadAnswer r.k r.rtok (.done bytes)⟩]) ∧
  (∀ p tok bytes s c o first count run, c = s.port p → c.op = some o → o.tok = tok →
    o.kind = .read (.reinspect first count run) → bytes.length = count * 4096 →
    ∃ u, exec (.reinspectionReadDone p tok bytes) s = .next (u.serve p) ∧ portBecomes p { c with op := none } s u ∧
      u.token = s.token ∧
      u.wire = s.wire ++ [⟨.dp p, .fx, .reinspectBytes run bytes⟩, ⟨.dp p, .ins, .reinspectReadAnswer run .done⟩]) ∧
  ∀ p tok bytes n s, (∀ o, (s.port p).op = some o → o.tok ≠ tok) →
    ∀ r ∈ [Instr.identificationReadDone p tok n, .labelReadDone p tok bytes, .walkReadDone p tok bytes, .formatWriteDone p tok,
      .headerWriteDone p tok, .headerRewriteDone p tok, .extentWriteDone p tok, .verifyReadDone p tok bytes,
      .playbackReadDone p tok bytes, .reinspectionReadDone p tok bytes, .soakWriteDone p tok, .soakReadDone p tok bytes],
    exec r s = .next s) ∧
  (∀ p tok s c o ch order hb serial clipNo len e, c = s.port p → c.op = some o → o.tok = tok →
    o.kind = .write (.header ch order hb serial clipNo len) → 4096 ≤ c.index.length →
    e = { c with op := none, recEnd := (if o.raise.isSome then o.raise else c.recEnd) } →
    ∃ u, exec (.headerWriteDone p tok) s = .next (u.serve p) ∧ portBecomes p e s u ∧ u.token = s.token ∧
      u.wire = s.wire ++ [⟨.dp p, .cc ch, .headerWriteAnswer ch order p .failed⟩]) ∧
  (∀ p tok s c o ch order hb sums, c = s.port p → c.op = some o → o.tok = tok → o.kind = .write (.rewrite ch order hb sums) →
    (∀ x ∈ c.index, x.hb ≠ hb) →
    ∃ u, exec (.headerRewriteDone p tok) s = .next (u.serve p) ∧ portBecomes p { c with op := none } s u ∧ u.token = s.token ∧
      u.wire = s.wire ++ [⟨.dp p, .cc ch, .headerRewriteAnswer ch order p .failed⟩])

/-! ## Frame Extractor and Preview Pool (Section 6) -/

/-- A live pass (R122 to R124, R127, R137). It begins PARSING under a pass number of its own, starts its channel's
continuity context and asks the Catalog; whatever comes before the answer is held (the model's choice, assumption 11).
Every accepted chunk header goes to the Inspector. In an inspected pass it first adjusts the inspection step, doubled
below 8 FREE slots and halved above 32, within 1 to 8 (R126); a frame without a plane or whose index the step does not
divide is counted skipped, and any other is offered. In a pass that is not inspected it is offered where an output
routes LIVE from the channel. The plane of an offered frame takes the lowest FREE slot: inspected, it is held by
INSPECT, counted placed and put at the tail of the inspection queue, and NEWEST moves to it where an output routes LIVE;
otherwise NEWEST alone holds it. A plane placed NEWEST raises the channel's sequence number. With no slot FREE the plane
is discarded, and an inspected frame is counted skipped (that a frame header carries the ordinal after its own count is
the model's choice, assumption 35). Data that cannot be read file UNPARSABLE and halt the pass. The end of the data ends
the continuity context with the frames read, a cut-off without them. An inspected pass then hands over its result, or,
while slots of its own are still held by INSPECT, adds a settle entry with their number; a pass that is not inspected
does neither. Each change in the number of FREE slots is reported to the re-inspection context. Which bytes a chunk
header's check value covers, and that a context awaiting the Catalog's answer supersedes no pass, and that an IDLE
context's other fields are empty, are the model's choice (assumptions 77, 72 and 88). Data that end with 1 to 63 bytes
of a header are UNPARSABLE too (R122). -/
def Obligations.LivePass : Prop :=
  ((∀ ch clip desc s, (s.liveCtx ch).asking = false →
    ∃ t, exec (.livePassBegin ch clip desc) s = .next t ∧
      t.liveCtx ch = { parse := .start clip desc.dataLen desc.frames, pass := s.fx.passes, asking := true } ∧
      t.fx.passes = (s.fx.passes + 1) % 65536 ∧ t.ins.conts[ch] = { checking := true, pass := s.fx.passes, clip := some clip
                                                                    rate := desc.rate, drop := desc.drop
                                                                    frames := desc.frames } ∧
      onlyFrames s t ∧ t.wire = s.wire ++ [⟨.fx, .cat, .clipLookup (.livePass ch s.fx.passes) clip⟩]) ∧
  (∀ ch s x r e, x = s.liveCtx ch → x.asking = true →
    (∃ clip desc, r = Instr.livePassBegin ch clip desc ∧ e = LiveEvent.start clip desc) ∨
      (∃ bs, r = .liveBytes ch bs ∧ e = .bytes bs) ∨ r = .livePassEndOfData ch ∧ e = .endOfData ∨
      r = .livePassCutOff ch ∧ e = .cutOff →
    ∃ t, exec r s = .next t ∧ liveBecomes ch { x with held := x.held ++ [e] } s t ∧ t.wire = s.wire) ∧
  (∀ ch pass rec s x on, x = s.liveCtx ch → x.asking = true → x.pass = pass → x.held = [] →
    on = !(rec.any fun c : Clip => c.insp = .reinspecting) →
    ∃ t, exec (.liveInspectionStateAnswer ch pass rec) s = .next t ∧
      liveBecomes ch { x with asking := false, inspecting := on } s t ∧
      t.wire = s.wire ++ if on then [⟨.fx, .cat, .inspectionCountReport (x.parse.clip.getD 0) (.start .live)⟩] else []) ∧
  (∀ ch pass rec s, (s.liveCtx ch).asking = false ∨ (s.liveCtx ch).pass ≠ pass →
    exec (.liveInspectionStateAnswer ch pass rec) s = .next s) ∧
  (∀ ch bytes s, (s.liveCtx ch).asking = false →
    exec (.liveBytes ch bytes) s = .next (bytes.foldl (fun t b => t.liveByte ch b) s)) ∧
  (∀ (s : State) ch b x h, x = s.liveCtx ch → x.parse.state = .parsing → x.parse.chunk = none → x.parse.gather.length = 63 →
    x.parse.pos < x.parse.dataLen → readChunkHdr x.parse.pos x.parse.dataLen (x.parse.gather ++ [b]) = some h →
    x.inspecting = true → h.preview = 0 →
    (s.liveByte ch b).wire = s.wire ++ [⟨.fx, .ins, .frameHeader ch x.pass
        { clip := x.parse.clip.getD 0, index := h.index, tc := h.tc, ordinal := x.parse.ordinal + 1 }⟩,
      ⟨.fx, .cat, .inspectionCountReport (x.parse.clip.getD 0) (.addSkipped 1)⟩] ∧
    ((s.liveByte ch b).liveCtx ch).skipped = x.skipped + 1) ∧
  (∀ (s : State) ch b x h t, x = s.liveCtx ch → x.parse.state = .parsing → x.parse.chunk = none →
      x.parse.gather.length = 63 →
    x.parse.pos < x.parse.dataLen → readChunkHdr x.parse.pos x.parse.dataLen (x.parse.gather ++ [b]) = some h →
    t = (s.setLive ch { x with parse := x.parse.accept h }).liveHeader ch h →
    s.liveByte ch b = t.setLive ch { t.liveCtx ch with parse := (t.liveCtx ch).parse.close }) ∧
  (∀ (s : State) ch h x step, x = s.liveCtx ch → x.inspecting = true →
    step = (if s.pp.free < 8 then min 8 (2 * s.fx.steps[ch]) else if 32 < s.pp.free then max 1 (s.fx.steps[ch] / 2)
      else s.fx.steps[ch]) →
    s.liveHeader ch h = { s with
      fx := { s.fx with
        steps := upd s.fx.steps ch fun _ => step
        live := upd s.fx.live ch fun _ =>
          if h.preview = 0 ∨ h.index % step ≠ 0 then { x with skipped := x.skipped + 1 }
          else { x with parse := x.parse.offer } }
      wire := s.wire ++ ⟨.fx, .ins, .frameHeader ch x.pass (x.parse.frameHdr h)⟩ ::
        if h.preview = 0 ∨ h.index % step ≠ 0 then
          [⟨.fx, .cat, .inspectionCountReport (x.parse.clip.getD 0) (.addSkipped 1)⟩] else [] }) ∧
  (∀ (s : State) ch h x, x = s.liveCtx ch → x.inspecting = false →
    s.liveHeader ch h = { s with
      fx := { s.fx with live := upd s.fx.live ch fun _ =>
        if h.preview ≠ 0 ∧ 0 < s.pp.counts[ch] then { x with parse := x.parse.offer } else x }
      wire := s.wire ++ [⟨.fx, .ins, .frameHeader ch x.pass (x.parse.frameHdr h)⟩] }) ∧
  (∀ (s : State) ch b x k t, x = s.liveCtx ch → x.parse.state = .parsing → x.parse.chunk = some k → k.offered = true →
    k.taken + 1 = 64 + k.hdr.preview →
    t = (s.setLive ch { x with parse := { x.parse with chunk := some { k with taken := k.taken + 1 }
                                                       planeRev := b :: x.parse.planeRev } }).livePlane ch →
    s.liveByte ch b = t.setLive ch { t.liveCtx ch with parse := (t.liveCtx ch).parse.close }) ∧
  (∀ (s : State) ch x n newest holders old slots, x = s.liveCtx ch → s.pp.lowestFree = some n →
    newest = (!x.inspecting || decide (0 < s.pp.counts[ch])) →
    holders = (if x.inspecting then [Holder.inspect] else []) ++ (if newest then [.newest ch] else []) →
    old = (if newest then dropHolder (.newest ch) (fun _ => true) s.pp.slots else s.pp.slots) →
    slots = insertSlot { num := n, src := .live ch x.pass, hdr := x.parse.currentHdr, plane := x.parse.planeRev.reverse
                         holders := holders } old →
    ∃ u : State, s.livePlane ch = (if x.inspecting then u.engineTake else u) ∧
      u = { s with
        fx := { s.fx with live := upd s.fx.live ch fun y => if x.inspecting then { y with placed := y.placed + 1 } else y }
        pp := { s.pp with slots := slots
                          queue := if x.inspecting then s.pp.queue ++ [n] else s.pp.queue
                          seqs := if newest then upd s.pp.seqs ch fun v => (v + 1) % 65536 else s.pp.seqs }
        wire := s.wire ++ if slots.length ≠ s.pp.slots.length then
          [⟨.pp, .fx, .reinspectPlaneResume (64 - slots.length)⟩] else [] }) ∧
  (∀ (s : State) ch x, x = s.liveCtx ch → s.pp.lowestFree = none →
    s.livePlane ch = if x.inspecting then { s with
      fx := { s.fx with live := upd s.fx.live ch fun _ => { x with skipped := x.skipped + 1 } }
      wire := s.wire ++ [⟨.fx, .cat, .inspectionCountReport (x.parse.clip.getD 0) (.addSkipped 1)⟩] } else s) ∧
  (∀ p : Pool, (∀ n, p.lowestFree = some n ↔ n < 64 ∧ (∀ x ∈ p.slots, x.num ≠ n) ∧ ∀ m < n, ∃ x ∈ p.slots, x.num = m) ∧
    (p.lowestFree = none ↔ ∀ m < 64, ∃ x ∈ p.slots, x.num = m)) ∧
  (∀ (s : State) ch b x n, x = s.liveCtx ch → x.parse.state = .parsing → x.parse.chunk = none → x.parse.gather.length = 63 →
    x.parse.pos < x.parse.dataLen → readChunkHdr x.parse.pos x.parse.dataLen (x.parse.gather ++ [b]) = none →
    n = (match x.parse.lastIndex with | some i => (i + 1) % 16777216 | none => 0) →
    (s.liveByte ch b).wire = s.wire ++ [⟨.fx, .fl, .occurrence { clip := x.parse.clip.getD 0, kind := .unparsable, count := 1
                                                                 span := some (n, n), qual := none }⟩] ++
      (if x.inspecting then [⟨.fx, .cat, .inspectionCountReport (x.parse.clip.getD 0) (.setState .halted none)⟩] else []) ++
      [⟨.fx, .ins, .continuityEnd ch x.pass .halted⟩] ∧
    ((s.liveByte ch b).liveCtx ch).parse.state = .halted) ∧
  (∀ (s : State) ch b, (s.liveCtx ch).parse.state ≠ .parsing → s.liveByte ch b = s) ∧
  (∀ ch s x, x = s.liveCtx ch → x.asking = false → x.parse.state = .parsing → x.inspecting = true →
    (∀ y ∈ s.pp.slots, y.src = .live ch x.pass → .inspect ∉ y.holders) →
    (∃ t, exec (.livePassEndOfData ch) s = .next t ∧ liveBecomes ch {} s t ∧
      t.wire = s.wire ++ [⟨.fx, .ins, .continuityEnd ch x.pass (.finish x.parse.ordinal)⟩,
        ⟨.fx, .ins, .passResult (x.parse.clip.getD 0) x.skipped (t.superseded (x.parse.clip.getD 0) x.pass)⟩]) ∧
    ∃ t n, exec (.livePassCutOff ch) s = .next t ∧ liveBecomes ch {} s t ∧
      n = x.parse.frames - (x.placed + x.skipped) ∧
      t.wire = s.wire ++ [⟨.fx, .ins, .continuityEnd ch x.pass .cutOff⟩] ++
        (if n = 0 then [] else [⟨.fx, .cat, .inspectionCountReport (x.parse.clip.getD 0) (.addSkipped n)⟩]) ++
        [⟨.fx, .ins, .passResult (x.parse.clip.getD 0) (x.skipped + n) (t.superseded (x.parse.clip.getD 0) x.pass)⟩]) ∧
  (∀ ch s x, x = s.liveCtx ch → x.asking = false → x.parse.state ≠ .parsing →
    ∀ r ∈ [Instr.livePassEndOfData ch, .livePassCutOff ch],
    ∃ t, exec r s = .next t ∧ liveBecomes ch {} s t ∧ t.wire = s.wire) ∧
  (∀ ch s x n, x = s.liveCtx ch → x.asking = false → x.parse.state = .parsing → x.inspecting = true →
    n = (s.pp.slots.filter fun y => y.src = .live ch x.pass && .inspect ∈ y.holders).length → n ≠ 0 →
    (∃ t, exec (.livePassEndOfData ch) s = .next t ∧ t.liveCtx ch = {} ∧ (∀ d, d ≠ ch → t.liveCtx d = s.liveCtx d) ∧
      t = { s with
        fx := { s.fx with
          live := t.fx.live
          settle := s.fx.settle ++ [{ pass := x.pass, clip := x.parse.clip.getD 0, skipped := x.skipped, left := n }] }
        wire := s.wire ++ [⟨.fx, .ins, .continuityEnd ch x.pass (.finish x.parse.ordinal)⟩] }) ∧
    ∃ t m, exec (.livePassCutOff ch) s = .next t ∧ m = x.parse.frames - (x.placed + x.skipped) ∧ t.liveCtx ch = {} ∧
      (∀ d, d ≠ ch → t.liveCtx d = s.liveCtx d) ∧
      t = { s with
        fx := { s.fx with
          live := t.fx.live
          settle := s.fx.settle ++ [{ pass := x.pass, clip := x.parse.clip.getD 0, skipped := x.skipped + m, left := n }] }
        wire := s.wire ++ [⟨.fx, .ins, .continuityEnd ch x.pass .cutOff⟩] ++
          if m = 0 then [] else [⟨.fx, .cat, .inspectionCountReport (x.parse.clip.getD 0) (.addSkipped m)⟩] }) ∧
  (∀ ch s x r how, x = s.liveCtx ch → x.asking = false → x.parse.state = .parsing → x.inspecting = false →
    r = Instr.livePassEndOfData ch ∧ how = PassEnd.finish x.parse.ordinal ∨ r = .livePassCutOff ch ∧ how = .cutOff →
    ∃ t, exec r s = .next t ∧ liveBecomes ch {} s t ∧ t.wire = s.wire ++ [⟨.fx, .ins, .continuityEnd ch x.pass how⟩])) ∧
  (∀ (s : State) ch b x n, x = s.liveCtx ch → x.parse.state = .parsing → x.parse.chunk = none → x.parse.gather.length < 63 →
    x.parse.pos < x.parse.dataLen → x.parse.dataLen ≤ x.parse.pos + (x.parse.gather.length + 1) →
    n = (match x.parse.lastIndex with | some i => (i + 1) % 16777216 | none => 0) →
    (s.liveByte ch b).wire = s.wire ++ [⟨.fx, .fl, .occurrence { clip := x.parse.clip.getD 0, kind := .unparsable, count := 1
                                                                 span := some (n, n), qual := none }⟩] ++
      (if x.inspecting then [⟨.fx, .cat, .inspectionCountReport (x.parse.clip.getD 0) (.setState .halted none)⟩] else []) ++
      [⟨.fx, .ins, .continuityEnd ch x.pass .halted⟩] ∧
    (s.liveByte ch b).liveCtx ch = { x with parse := x.parse.halt })

/-- Preview slots (R129 to R132). An output that takes the newest plane of a channel becomes a holder of its slot and is
told slot, frame header and sequence; without one it is told so. A holder that drops a slot, or all, leaves it, and a slot
with no holder is FREE; each change in the number of FREE slots is reported to the re-inspection context. An analysed slot
loses its INSPECT holder, and a pass whose last slot that was settles, while a settle entry with more slots left has its
number lowered by one; that of a re-inspection counts as analysed, and may end it. The superseded mark of a pass result is
the model's choice where the Catalog's answer to a live context is awaited (assumption 72). -/
def Obligations.PreviewSlots : Prop :=
  (∀ k c tok s, (∀ x ∈ s.pp.slots, .newest c ∉ x.holders) →
    ∃ t, exec (.takeNewest k c tok) s = .next t ∧ onlyWire s t ∧
    t.wire = s.wire ++ [⟨.pp, .ro, .takeNewestAnswer k tok none⟩]) ∧
  (∀ k c tok s x, s.pp.slots.find? (fun y => .newest c ∈ y.holders) = some x →
    ∃ t, exec (.takeNewest k c tok) s = .next t ∧ t = { s with pp := { s.pp with slots := t.pp.slots }, wire := t.wire } ∧
      t.pp.slots = s.pp.slots.map (fun y => if y.num = x.num ∧ .output k ∉ y.holders then
        { y with holders := y.holders ++ [.output k] } else y) ∧
      t.wire = s.wire ++ [⟨.pp, .ro, .takeNewestAnswer k tok (some (x.num, x.hdr, s.pp.seqs[c]))⟩]) ∧
  (∀ k n s r slots, r = .slotDrop k n ∧ slots = dropHolder (.output k) (fun y => y.num = n) s.pp.slots ∨
      r = .dropAll k ∧ slots = dropHolder (.output k) (fun _ => true) s.pp.slots →
    ∃ t, exec r s = .next t ∧ t = { s with pp := { s.pp with slots := slots }, wire := t.wire } ∧
      t.wire = s.wire ++ if slots.length ≠ s.pp.slots.length then
        [⟨.pp, .fx, .reinspectPlaneResume (64 - slots.length)⟩] else []) ∧
  (∀ c n s, n ≠ 0 → exec (.liveCountReport c n) s =
    .next { s with pp := { s.pp with counts := upd s.pp.counts c fun _ => n } }) ∧
  (∀ c s, ∃ t, exec (.liveCountReport c 0) s = .next t ∧
    t = { s with pp := { s.pp with slots := dropHolder (.newest c) (fun _ => true) s.pp.slots
                                   counts := upd s.pp.counts c fun _ => 0 }, wire := t.wire } ∧
    t.wire = s.wire ++ if t.pp.slots.length ≠ s.pp.slots.length then
      [⟨.pp, .fx, .reinspectPlaneResume (64 - t.pp.slots.length)⟩] else []) ∧
  (∀ n s, (∀ x ∈ s.pp.slots, x.num = n → .inspect ∉ x.holders) → exec (.analysisDoneReport n) s = .next s) ∧
  (∀ n s x c pass, s.pp.slots.find? (fun y => y.num = n && .inspect ∈ y.holders) = some x → x.src = .live c pass →
    ∃ u : State, exec (.analysisDoneReport n) s = .next (u.settleOne pass) ∧
      u = { s with pp := { s.pp with slots := dropHolder .inspect (fun y => y.num = n) s.pp.slots }, wire := u.wire } ∧
      u.wire = s.wire ++ if u.pp.slots.length ≠ s.pp.slots.length then
        [⟨.pp, .fx, .reinspectPlaneResume (64 - u.pp.slots.length)⟩] else []) ∧
  (∀ (s : State) pass e, s.fx.settle.find? (fun y => y.pass = pass) = some e → e.left ≤ 1 →
    (s.settleOne pass).fx.settle = s.fx.settle.filter (fun y => y.pass ≠ pass) ∧
    (s.settleOne pass).wire = s.wire ++ [⟨.fx, .ins, .passResult e.clip e.skipped (s.superseded e.clip pass)⟩]) ∧
  (∀ h p slots x, x ∈ dropHolder h p slots ↔ x.holders ≠ [] ∧ ∃ y ∈ slots,
    x = if p y then { y with holders := y.holders.filter fun z => z ≠ h } else y) ∧
  (∀ n s x slots out, s.pp.slots.find? (fun y => y.num = n && .inspect ∈ y.holders) = some x → x.src = .reinspect →
    slots = dropHolder .inspect (fun y => y.num = n) s.pp.slots →
    out = (if slots.length ≠ s.pp.slots.length then
      [⟨.pp, .fx, .reinspectPlaneResume (64 - slots.length)⟩] else []) →
    exec (.analysisDoneReport n) s = .next { s with
      pp := { s.pp with slots := slots }, wire := s.wire ++ out
      ins := { s.ins with reader := { s.ins.reader with anal := s.ins.reader.anal + 1 } } }.readerEnds) ∧
  (∀ n s x k slots out, s.pp.slots.find? (fun y => y.num = n && .inspect ∈ y.holders) = some x → x.src = .playback k →
    slots = dropHolder .inspect (fun y => y.num = n) s.pp.slots →
    out = (if slots.length ≠ s.pp.slots.length then
      [⟨.pp, .fx, .reinspectPlaneResume (64 - slots.length)⟩] else []) →
    exec (.analysisDoneReport n) s = .next { s with pp := { s.pp with slots := slots }, wire := s.wire ++ out }) ∧
  (∀ (s : State) pass e, s.fx.settle.find? (fun y => y.pass = pass) = some e → 2 ≤ e.left →
    s.settleOne pass = { s with fx := { s.fx with
      settle := s.fx.settle.map fun y => if y.pass = pass then { y with left := y.left - 1 } else y } }) ∧
  (∀ (s : State) pass, (∀ y ∈ s.fx.settle, y.pass ≠ pass) → s.settleOne pass = s)

/-- Playback reading (R133, R135). A start makes the context PARSING from its source copy, and a fetch that finds it
busy waits; when one has been answered the next is served, from where the context then stands. A fetch of a frame not
yet passed sends the read its chunk header needs, with the plane where the frame is the next; a frame already passed is
read for from the start again; past the end of the data it is answered BEYOND_END. A DONE read steps the context past
its chunk: one before the frame wanted reads on, and the one wanted places its plane in the lowest FREE slot, held by
the output, or tells that it has none or that no slot is FREE. A failed read answers its own fetch FAILED; a loss, a
withdrawal, a cancel and unreadable bytes answer every fetch alike. Re-inspection reading (R134, R135). A start makes
the context PARSING under its run; bytes of the run are taken one by one. With 16 FREE slots or more a gathered plane
takes the lowest as its last byte is taken; with fewer it waits, and a report of 16 or more resumes it. A chunk with no
plane is counted skipped, a header that fails its test or is cut short by the end of the data files UNPARSABLE and halts
the context, and a chunk that closes at the data length ends the parse with its counts. A read taken to its last byte is
reported consumed, also where its plane waits; a cancel and a loss empty the context and report its counts. The model's
choices (by assumption): how far one read goes and where it is cut, and a fetch that finds the context IDLE or HALTED
(34), the ordinal of a frame header (35), that bytes of a run not started here are kept (11), that the FREE slots are
counted as the report is taken (39), what a header's check value covers (77), an IDLE context's other fields empty (88),
the ended report alone at the end of the parse (89), and no last frame index after a return to position 0 (100). -/
def Obligations.PlaybackAndReinspectionReading : Prop :=
  (((∀ k clip dataLen frames copy s, ∃ t, exec (.playbackStart k clip dataLen frames copy) s = .next t ∧
    t.token = s.token ∧ t.wire = s.wire ∧
    playBecomes k { parse := .start clip dataLen frames
                    src := some { port := copy.port, vol := copy.vol, hb := copy.hb, span := spanOf (extentsOf dataLen) } } s t) ∧
  (∀ k run n s x, x = s.playCtx k → x.parse.state = .parsing → x.fetches ≠ [] →
    ∃ t, exec (.fetch k run n) s = .next t ∧ playBecomes k { x with fetches := x.fetches ++ [(run, n)] } s t ∧
      t.token = s.token ∧ t.wire = s.wire) ∧
  (∀ k run n s x p src first last, x = s.playCtx k → x.parse.state = .parsing → x.fetches = [] → x.src = some src →
    p = (if n < x.parse.ordinal then { x.parse with pos := 0, ordinal := 0, lastIndex := none } else x.parse) →
    p.pos + 64 ≤ p.dataLen → first = p.pos →
    last = (if p.ordinal < n then p.pos + 63 else min (p.pos + 64 + 2332800) p.dataLen - 1) →
    ∃ t, exec (.fetch k run n) s = .next t ∧
      playBecomes k { x with parse := p, fetches := [(run, n)], rtok := some s.token } s t ∧ t.token = s.token + 1 ∧
      t.wire = s.wire ++ [⟨.fx, .dp src.port, .playbackRead k src.port src.vol (src.hb + src.span + first / 4096)
        ⟨last / 4096 - first / 4096 + 1, if p.ordinal < n then none else some (first % 4096)⟩ s.token⟩]) ∧
  (∀ k run n s x src, x = s.playCtx k → x.parse.state = .parsing → x.fetches = [] → x.src = some src →
    x.parse.ordinal ≤ n → x.parse.dataLen ≤ x.parse.pos →
    ∃ t, exec (.fetch k run n) s = .next t ∧ playBecomes k x s t ∧ t.token = s.token ∧
      t.wire = s.wire ++ [⟨.fx, .ro, .fetchAnswer k run n .beyondEnd⟩]) ∧
  (∀ k run n s ans, (s.playCtx k).parse.state = .halted ∧ ans = FetchAns.unparsable ∨
      (s.playCtx k).parse.state = .idle ∧ ans = .cancelled →
    ∃ t, exec (.fetch k run n) s = .next t ∧ onlyWire s t ∧ t.wire = s.wire ++ [⟨.fx, .ro, .fetchAnswer k run n ans⟩]) ∧
  (∀ k rtok ans s, (s.playCtx k).rtok ≠ some rtok → exec (.playbackReadAnswer k rtok ans) s = .next s) ∧
  (∀ k rtok bytes s x f h p, x = s.playCtx k → x.rtok = some rtok → x.fetches = [f] → p = x.parse →
    readChunkHdr p.pos p.dataLen ((bytes.drop (p.pos % 4096)).take 64) = some h → p.ordinal = f.2 → h.preview = 0 →
    ∃ t, exec (.playbackReadAnswer k rtok (.done bytes)) s = .next t ∧ t.token = s.token ∧
      playBecomes k { x with rtok := none, fetches := []
                             parse := { p with ordinal := p.ordinal + 1, lastIndex := some h.index, gather := []
                                               chunk := none, pos := p.pos + h.len } } s t ∧
      t.wire = s.wire ++ [⟨.fx, .ro, .fetchAnswer k f.1 f.2 (.noPlane
        { clip := p.clip.getD 0, index := h.index, tc := h.tc, ordinal := p.ordinal + 1 })⟩]) ∧
  (∀ k rtok bytes s x f h p, x = s.playCtx k → x.rtok = some rtok → x.fetches = [f] → p = x.parse →
    readChunkHdr p.pos p.dataLen ((bytes.drop (p.pos % 4096)).take 64) = some h → p.ordinal = f.2 → h.preview ≠ 0 →
    s.pp.lowestFree = none →
    ∃ t, exec (.playbackReadAnswer k rtok (.done bytes)) s = .next t ∧ t.token = s.token ∧
      playBecomes k { x with rtok := none, fetches := []
                             parse := { p with ordinal := p.ordinal + 1, lastIndex := some h.index, gather := []
                                               chunk := none, pos := p.pos + h.len } } s t ∧
      t.wire = s.wire ++ [⟨.fx, .ro, .fetchAnswer k f.1 f.2 (.noSlot
        { clip := p.clip.getD 0, index := h.index, tc := h.tc, ordinal := p.ordinal + 1 })⟩]) ∧
  (∀ k rtok s x f, x = s.playCtx k → x.rtok = some rtok → x.fetches = [f] →
    ∃ t, exec (.playbackReadAnswer k rtok .failed) s = .next t ∧ t.token = s.token ∧
      playBecomes k { x with rtok := none, fetches := [] } s t ∧
      t.wire = s.wire ++ [⟨.fx, .ro, .fetchAnswer k f.1 f.2 .failed⟩]) ∧
  (∀ k rtok s x, x = s.playCtx k → x.rtok = some rtok → x.fetches ≠ [] →
    ∃ t, exec (.playbackReadAnswer k rtok .withdrawn) s = .next t ∧ t.token = s.token ∧
      playBecomes k { x with rtok := none, fetches := [] } s t ∧
      t.wire = s.wire ++ x.fetches.map fun f => ⟨.fx, .ro, .fetchAnswer k f.1 f.2 .cancelled⟩) ∧
  (∀ k rtok bytes s x f h p n hdr, x = s.playCtx k → x.rtok = some rtok → x.fetches = [f] → p = x.parse →
    readChunkHdr p.pos p.dataLen ((bytes.drop (p.pos % 4096)).take 64) = some h → p.ordinal = f.2 → h.preview ≠ 0 →
    s.pp.lowestFree = some n → hdr = { clip := p.clip.getD 0, index := h.index, tc := h.tc, ordinal := p.ordinal + 1 } →
    ∃ t, exec (.playbackReadAnswer k rtok (.done bytes)) s = .next t ∧ onlyFrames s t ∧
      { num := n, src := .playback k, hdr := hdr, plane := ((bytes.drop (p.pos % 4096)).drop 64).take 2332800
        holders := [.output k] } ∈ t.pp.slots ∧
      (t.playCtx k).fetches = [] ∧ (⟨.fx, .ro, .fetchAnswer k f.1 f.2 (.placed n hdr)⟩ : Wire) ∈ t.wire) ∧
  (∀ k rtok bytes s x p, x = s.playCtx k → x.rtok = some rtok → x.fetches ≠ [] → p = x.parse →
    readChunkHdr p.pos p.dataLen ((bytes.drop (p.pos % 4096)).take 64) = none →
    ∃ t, exec (.playbackReadAnswer k rtok (.done bytes)) s = .next t ∧ t.token = s.token ∧
      playBecomes k { x with parse := p.halt, fetches := [], rtok := none } s t ∧
      t.wire = s.wire ++ x.fetches.map fun f => ⟨.fx, .ro, .fetchAnswer k f.1 f.2 .unparsable⟩) ∧
  (∀ k rtok s x, x = s.playCtx k → x.rtok = some rtok →
    ∃ t, exec (.playbackReadAnswer k rtok .lost) s = .next t ∧ t.token = s.token ∧ playBecomes k {} s t ∧
      t.wire = s.wire ++ x.fetches.map fun f => ⟨.fx, .ro, .fetchAnswer k f.1 f.2 .lost⟩) ∧
  ∀ k s x, x = s.playCtx k → ∃ t, exec (.playbackCancel k) s = .next t ∧ t.token = s.token ∧ playBecomes k {} s t ∧
    t.wire = s.wire ++ (match x.rtok, x.src with
      | some _, some src => [⟨.fx, .dp src.port, .readCancel (.output k) src.port⟩]
      | _, _ => []) ++ x.fetches.map fun f => ⟨.fx, .ro, .fetchAnswer k f.1 f.2 .cancelled⟩) ∧
  (∀ run clip dataLen frames src s, s.fx.re.early = none →
    ∃ t, exec (.reinspectContextStart run clip dataLen frames src) s = .next t ∧ t.wire = s.wire ∧
      reBecomes { parse := .start clip dataLen frames, run := run, src := some src } s t) ∧
  (∀ run bytes s x, x = s.fx.re → x.parse.state = .parsing → x.run = run →
    exec (.reinspectBytes run bytes) s = .next (State.reBytes bytes s)) ∧
  (∀ run bytes s x, x = s.fx.re → x.parse.state = .waiting → x.run = run → bytes ≠ [] →
    ∃ t, exec (.reinspectBytes run bytes) s = .next t ∧ reBecomes { x with held := x.held ++ bytes } s t ∧ t.wire = s.wire) ∧
  (∀ run bytes s x, x = s.fx.re → x.parse.state = .idle →
    ∃ t, exec (.reinspectBytes run bytes) s = .next t ∧ reBecomes { x with early := some (run, bytes) } s t ∧
      t.wire = s.wire) ∧
  (∀ run bytes s, s.fx.re.parse.state = .halted → s.fx.re.run = run → exec (.reinspectBytes run bytes) s = .next s) ∧
  (∀ s : State, s.fx.re.parse.state = .parsing →
    State.reBytes [] s = s.send .fx .ins [.reinspectReadConsumed s.fx.re.run]) ∧
  (∀ (s : State) b bs, s.fx.re.parse.state = .parsing → State.reBytes (b :: bs) s = State.reBytes bs (s.reByte b)) ∧
  (∀ (s : State) b x c, x = s.fx.re → x.parse.state = .parsing → x.parse.chunk = some c → c.offered = true →
    c.taken + 1 = 64 + c.hdr.preview → s.pp.free < 16 →
    (s.reByte b).fx.re.parse.state = .waiting ∧ (s.reByte b).wire = s.wire ∧ (s.reByte b).pp = s.pp) ∧
  (∀ free s, s.fx.re.parse.state ≠ .waiting ∨ free < 16 ∨ s.pp.free < 16 → exec (.reinspectPlaneResume free) s = .next s) ∧
  (∀ free s x n, x = s.fx.re → x.parse.state = .waiting → 16 ≤ free → 16 ≤ s.pp.free → s.pp.lowestFree = some n →
    ∃ t, exec (.reinspectPlaneResume free) s = .next t ∧ onlyFrames s t ∧
      (⟨.fx, .ins, .reinspectContextReport x.run .placed⟩ : Wire) ∈ t.wire) ∧
  (∀ run s x r rep, x = s.fx.re → x.parse.state ≠ .idle → x.run = run →
    r = .reinspectContextCancel run ∧ rep = ReReport.counts x.placed x.skipped ∨
      r = .reinspectReadLost run ∧ rep = .lost x.placed x.skipped x.parse.ordinal →
    ∃ t, exec r s = .next t ∧ reBecomes {} s t ∧ t.wire = s.wire ++ [⟨.fx, .ins, .reinspectContextReport run rep⟩]) ∧
  (∀ run s, s.fx.re.parse.state = .idle ∨ s.fx.re.run ≠ run →
    exec (.reinspectContextCancel run) s = .next s ∧ exec (.reinspectReadLost run) s = .next s) ∧
  (∀ (s : State) b x c n (u : State), x = s.fx.re → x.parse.state = .parsing → x.parse.chunk = some c → c.offered = true →
    c.taken + 1 = 64 + c.hdr.preview → 16 ≤ s.pp.free → s.pp.lowestFree = some n →
    u = { s with
      fx := { s.fx with re := { x with
        placed := x.placed + 1
        parse := { x.parse with chunk := some { c with taken := c.taken + 1 }, planeRev := b :: x.parse.planeRev } } }
      pp := { s.pp with
        queue := s.pp.queue ++ [n]
        slots := insertSlot { num := n, src := .reinspect, plane := (b :: x.parse.planeRev).reverse, holders := [.inspect]
                              hdr := { clip := x.parse.clip.getD 0, index := c.hdr.index, tc := c.hdr.tc
                                       ordinal := x.parse.ordinal } } s.pp.slots }
      wire := s.wire ++ [⟨.pp, .fx, .reinspectPlaneResume (64 - (s.pp.slots.length + 1))⟩] } →
    s.reByte b = (u.engineTake.send .fx .ins [.reinspectContextReport x.run .placed]).closeRe) ∧
  (∀ (s : State) b x h, x = s.fx.re → x.parse.state = .parsing → x.parse.chunk = none → x.parse.gather.length = 63 →
    x.parse.pos < x.parse.dataLen → readChunkHdr x.parse.pos x.parse.dataLen (x.parse.gather ++ [b]) = some h →
    h.preview = 0 →
    s.reByte b = State.closeRe { s with
      fx := { s.fx with re := { x with skipped := x.skipped + 1, parse := x.parse.accept h } }
      wire := s.wire ++ [⟨.fx, .cat, .inspectionCountReport (x.parse.clip.getD 0) (.addSkipped 1)⟩] }) ∧
  (∀ (s : State) b x h, x = s.fx.re → x.parse.state = .parsing → x.parse.chunk = none → x.parse.gather.length = 63 →
    x.parse.pos < x.parse.dataLen → readChunkHdr x.parse.pos x.parse.dataLen (x.parse.gather ++ [b]) = some h →
    h.preview ≠ 0 →
    s.reByte b = { s with fx := { s.fx with re := { x with parse := (x.parse.accept h).offer } } }) ∧
  (∀ (s : State) b x n, x = s.fx.re → x.parse.state = .parsing → x.parse.chunk = none → x.parse.gather.length = 63 →
    x.parse.pos < x.parse.dataLen → readChunkHdr x.parse.pos x.parse.dataLen (x.parse.gather ++ [b]) = none →
    n = (match x.parse.lastIndex with | some i => (i + 1) % 16777216 | none => 0) →
    s.reByte b = { s with
      fx := { s.fx with re := { x with parse := x.parse.halt } }
      wire := s.wire ++ [⟨.fx, .fl, .occurrence { clip := x.parse.clip.getD 0, kind := .unparsable, count := 1
                                                  span := some (n, n), qual := none }⟩,
        ⟨.fx, .ins, .reinspectContextReport x.run (.halted n x.placed x.skipped)⟩] }) ∧
  (∀ (s : State) b x c, x = s.fx.re → x.parse.state = .parsing → x.parse.chunk = some c →
    (c.offered = true → c.taken + 1 ≠ 64 + c.hdr.preview) → c.hdr.len ≤ c.taken + 1 →
    x.parse.dataLen ≤ x.parse.pos + c.hdr.len →
    s.reByte b = { s with fx := { s.fx with re := {} }
                          wire := s.wire ++ [⟨.fx, .ins, .reinspectContextReport x.run (.ended x.placed x.skipped)⟩] }) ∧
  (∀ (s : State) x c, x = s.fx.re → x.parse.state = .parsing → x.parse.chunk = some c →
    (c.taken < c.hdr.len → s.closeRe = s) ∧
    (c.hdr.len ≤ c.taken → x.parse.pos + c.hdr.len < x.parse.dataLen →
      s.closeRe = { s with fx := { s.fx with re := { x with
        parse := { x.parse with chunk := none, planeRev := [], pos := x.parse.pos + c.hdr.len } } } }) ∧
    (c.hdr.len ≤ c.taken → x.parse.dataLen ≤ x.parse.pos + c.hdr.len →
      s.closeRe = { s with fx := { s.fx with re := {} }
                           wire := s.wire ++ [⟨.fx, .ins, .reinspectContextReport x.run (.ended x.placed x.skipped)⟩] }))) ∧
  (∀ k rtok s x f rest, x = s.playCtx k → x.rtok = some rtok → x.fetches = f :: rest →
    ∃ u, exec (.playbackReadAnswer k rtok .failed) s = .next (State.serveFetch k rest u) ∧
      playBecomes k { x with rtok := none } s u ∧ u.token = s.token ∧
      u.wire = s.wire ++ [⟨.fx, .ro, .fetchAnswer k f.1 f.2 .failed⟩]) ∧
  (∀ k rtok bytes s x f rest h p y, x = s.playCtx k → x.rtok = some rtok → x.fetches = f :: rest → p = x.parse →
    readChunkHdr p.pos p.dataLen ((bytes.drop (p.pos % 4096)).take 64) = some h →
    y = { x with rtok := none
                 parse := { p with ordinal := p.ordinal + 1, lastIndex := some h.index, gather := [], chunk := none
                                   pos := p.pos + h.len } } →
    (p.ordinal < f.2 → ∃ u, exec (.playbackReadAnswer k rtok (.done bytes)) s = .next (State.serveFetch k (f :: rest) u) ∧
      playBecomes k y s u ∧ u.token = s.token ∧ u.wire = s.wire) ∧
    (∀ hdr ans, hdr = { clip := p.clip.getD 0, index := h.index, tc := h.tc, ordinal := p.ordinal + 1 } → f.2 ≤ p.ordinal →
      (h.preview = 0 ∧ ans = FetchAns.noPlane hdr ∨ h.preview ≠ 0 ∧ s.pp.lowestFree = none ∧ ans = .noSlot hdr) →
      ∃ u, exec (.playbackReadAnswer k rtok (.done bytes)) s = .next (State.serveFetch k rest u) ∧
        playBecomes k y s u ∧ u.token = s.token ∧ u.wire = s.wire ++ [⟨.fx, .ro, .fetchAnswer k f.1 f.2 ans⟩]) ∧
    ∀ hdr n new, hdr = { clip := p.clip.getD 0, index := h.index, tc := h.tc, ordinal := p.ordinal + 1 } → f.2 ≤ p.ordinal →
      h.preview ≠ 0 → s.pp.lowestFree = some n →
      new = { num := n, src := .playback k, hdr := hdr, plane := ((bytes.drop (p.pos % 4096)).drop 64).take 2332800
              holders := [.output k] } →
      ∃ u, exec (.playbackReadAnswer k rtok (.done bytes)) s = .next (State.serveFetch k rest u) ∧ u.playCtx k = y ∧
        (∀ j, j ≠ k → u.playCtx j = s.playCtx j) ∧
        u = { s with
          fx := { s.fx with play := u.fx.play }
          pp := { s.pp with slots := insertSlot new s.pp.slots }
          wire := s.wire ++ [⟨.pp, .fx, .reinspectPlaneResume (64 - (s.pp.slots.length + 1))⟩,
            ⟨.fx, .ro, .fetchAnswer k f.1 f.2 (.placed n hdr)⟩] }) ∧
  (∀ k s, playBecomes k { s.playCtx k with fetches := [] } s (State.serveFetch k [] s) ∧
    (State.serveFetch k [] s).wire = s.wire ∧ (State.serveFetch k [] s).token = s.token) ∧
  (∀ k f rest s x p t, x = s.playCtx k →
    p = (if f.2 < x.parse.ordinal then { x.parse with pos := 0, ordinal := 0, lastIndex := none } else x.parse) →
    t = State.serveFetch k (f :: rest) s →
    (x.src = none → playBecomes k { x with parse := p, fetches := [] } s t ∧ t.token = s.token ∧
      t.wire = s.wire ++ (f :: rest).map fun g => ⟨.fx, .ro, .fetchAnswer k g.1 g.2 .cancelled⟩) ∧
    ∀ src, x.src = some src →
      (p.dataLen ≤ p.pos → ∃ u, t = State.serveFetch k rest u ∧
        playBecomes k { x with parse := p, fetches := f :: rest } s u ∧ u.token = s.token ∧
        u.wire = s.wire ++ [⟨.fx, .ro, .fetchAnswer k f.1 f.2 .beyondEnd⟩]) ∧
      (p.pos < p.dataLen → p.dataLen < p.pos + 64 → playBecomes k { x with parse := p.halt, fetches := [] } s t ∧
        t.token = s.token ∧ t.wire = s.wire ++ (f :: rest).map fun g => ⟨.fx, .ro, .fetchAnswer k g.1 g.2 .unparsable⟩) ∧
      ∀ last, p.pos + 64 ≤ p.dataLen →
        last = (if p.ordinal < f.2 then p.pos + 63 else min (p.pos + 64 + 2332800) p.dataLen - 1) →
        playBecomes k { x with parse := p, fetches := f :: rest, rtok := some s.token } s t ∧ t.token = s.token + 1 ∧
        t.wire = s.wire ++ [⟨.fx, .dp src.port, .playbackRead k src.port src.vol (src.hb + src.span + p.pos / 4096)
          ⟨last / 4096 - p.pos / 4096 + 1, if p.ordinal < f.2 then none else some (p.pos % 4096)⟩ s.token⟩]) ∧
  (∀ (s : State) x, x = s.fx.re → (x.parse.state = .waiting → x.held = [] →
      State.reBytes [] s = { s with wire := s.wire ++ [⟨.fx, .ins, .reinspectReadConsumed x.run⟩] }) ∧
    (x.parse.state = .waiting ∧ x.held ≠ [] ∨ x.parse.state = .halted ∨ x.parse.state = .idle → State.reBytes [] s = s)) ∧
  (∀ free s x n (u : State) v, x = s.fx.re → x.parse.state = .waiting → 16 ≤ free → 16 ≤ s.pp.free → s.pp.lowestFree = some n →
    u = { s with
      fx := { s.fx with re := { x with placed := x.placed + 1, held := [], parse := { x.parse with state := .parsing } } }
      pp := { s.pp with
        queue := s.pp.queue ++ [n]
        slots := insertSlot { num := n, src := .reinspect, hdr := x.parse.currentHdr, plane := x.parse.planeRev.reverse
                              holders := [.inspect] } s.pp.slots }
      wire := s.wire ++ [⟨.pp, .fx, .reinspectPlaneResume (64 - (s.pp.slots.length + 1))⟩] } →
    v = (u.engineTake.send .fx .ins [.reinspectContextReport x.run .placed]).closeRe →
    exec (.reinspectPlaneResume free) s = .next (if x.held = [] then v else State.reBytes x.held v)) ∧
  (∀ (s : State) b x n, x = s.fx.re → x.parse.state = .parsing → x.parse.chunk = none → x.parse.gather.length < 63 →
    x.parse.pos < x.parse.dataLen → x.parse.dataLen ≤ x.parse.pos + (x.parse.gather.length + 1) →
    n = (match x.parse.lastIndex with | some i => (i + 1) % 16777216 | none => 0) →
    s.reByte b = { s with
      fx := { s.fx with re := { x with parse := x.parse.halt } }
      wire := s.wire ++ [⟨.fx, .fl, .occurrence { clip := x.parse.clip.getD 0, kind := .unparsable, count := 1
                                                  span := some (n, n), qual := none }⟩,
        ⟨.fx, .ins, .reinspectContextReport x.run (.halted n x.placed x.skipped)⟩] })

/-! ## Inspector (Section 7) -/

/-- Continuity (R137 to R140). A header of the pass being checked is judged by index and timecode: the next index is good,
a later one files DROPPED_FRAME with the frames left out, the same one REPEATED_FRAME, an earlier one FRAME_ORDER; an
invalid timecode, or one that is not the next of the frame before, files TC_BREAK. The end of the data files FRAME_COUNT
where the frames read are not those of the directory. Headers and ends of another pass are discarded. -/
def Obligations.ContinuityIsChecked : Prop :=
  (∀ ch pass hdr s c, c = s.ins.conts[ch] → c.checking = true → c.pass = pass →
    ∃ t, exec (.frameHeader ch pass hdr) s = .next t ∧
      contBecomes ch { c with lastIndex := some hdr.index, lastTc := if tcValid c.rate hdr.tc then some hdr.tc else none } s t ∧
      t.wire = s.wire ++
        (if tcFault c hdr.index hdr.tc then
          [⟨.ins, .fl, .occurrence { clip := c.clip.getD 0, kind := .tcBreak, count := 1, span := some (hdr.index, hdr.index)
                                     qual := none }⟩] else []) ++
        (indexFault (c.clip.getD 0) c.lastIndex hdr.index).toList.map fun o => ⟨.ins, .fl, .occurrence o⟩) ∧
  (∀ clip l n, indexFault clip none n = none ∧ indexFault clip (some l) (l + 1) = none ∧
    (l + 1 < n → indexFault clip (some l) n = some { clip := clip, kind := .droppedFrame, count := n - l - 1
                                                     span := some (l + 1, n - 1), qual := none }) ∧
    indexFault clip (some l) l = some { clip := clip, kind := .repeatedFrame, count := 1, span := some (l, l), qual := none } ∧
    (n < l → indexFault clip (some l) n = some { clip := clip, kind := .frameOrder, count := 1, span := some (n, n)
                                                 qual := none })) ∧
  (∀ c n tc, (tcValid c.rate tc = false → tcFault c n tc = true) ∧
    (∀ l t, tcValid c.rate tc = true → c.lastIndex = some l → c.lastTc = some t → n = l + 1 → c.drop = false →
      (tcFault c n tc = true ↔ tc ≠ tcNext c.rate t)) ∧
    (tcValid c.rate tc = true → c.lastTc = none ∨ c.drop = true ∨ c.lastIndex ≠ some (n - 1) ∨ n = 0 →
    tcFault c n tc = false)) ∧
  (∀ ch pass how s c d, c = s.ins.conts[ch] → c.checking = true → c.pass = pass →
    d = (match how with | .finish n => (n - c.frames) + (c.frames - n) | .cutOff => 0 | .halted => 0) →
    ∃ t, exec (.continuityEnd ch pass how) s = .next t ∧ contBecomes ch {} s t ∧
      t.wire = s.wire ++ if d = 0 then [] else [⟨.ins, .fl, .occurrence
        { clip := c.clip.getD 0, kind := .frameCount, count := d, span := none, qual := none }⟩]) ∧
  ∀ ch pass hdr how s, (s.ins.conts[ch]).checking = false ∨ (s.ins.conts[ch]).pass ≠ pass →
    exec (.frameHeader ch pass hdr) s = .next s ∧ exec (.continuityEnd ch pass how) s = .next s

/-- Image analysis and the pass result (R141 to R150). The idle engine takes the slot at the head of the inspection queue
with the thresholds as they stand, starts a live context afresh for another pass or clip, and looks the clip up. It
completes an analysis only with the Catalog's answer about its clip, for which a completion waits (the model's choice,
assumption 12). Then it files BLACK_FRAME for a mean at or below the black level, takes the frame into the clipping run,
files CLIPPING for the run once it is long enough and for each frame after that, and offers a live frame's candidates to
the hot-site table, which files HOT_SITE at a site's eighth hit; it reports one frame inspected and the slot analysed, and
takes the next slot. For a clip that is gone it files nothing and changes neither run nor table. The candidates are the
first 32, in raster order, of the positions of a dark frame that are bright among four dark neighbours. CLEAR SITES
empties the table and tells how many it held; SET THRESHOLDS stores each value brought into its range and marks the
acceptance where one was not in it. A pass result reports COMPLETE or PARTIAL unless another pass has superseded it, and
files PARTIAL_INSPECTION for frames skipped. That the span of a run whose present index lies below its first has the two
in order is the model's choice (assumption 92). -/
def Obligations.AnalysisAndThresholds : Prop :=
  (∀ tok rec s a, s.ins.engine = some a → a.tok = tok → a.letter = none → a.done = false →
    ∃ t, exec (.analysisLookupAnswer tok rec) s = .next t ∧ t.wire = s.wire ∧
      t.ins.engine = some { a with letter := some (rec.map fun c => c.desc.letter) } ∧
      t.ins.ctxs = (match rec with
        | some c => upd s.ins.ctxs (ctxOf a.src) fun x => { x with letter := some c.desc.letter }
        | none => s.ins.ctxs) ∧
      t = { s with ins := { s.ins with engine := t.ins.engine, ctxs := t.ins.ctxs } }) ∧
  (∀ tok s a, s.ins.engine = some a → a.tok = tok → a.letter = none →
    exec (.analysisComplete tok) s = .next { s with ins := { s.ins with engine := some { a with done := true } } }) ∧
  (∀ tok s a l, s.ins.engine = some a → a.tok = tok → a.letter = some l →
    exec (.analysisComplete tok) s = .next (s.analysed a l)) ∧
  (∀ tok rec s a, s.ins.engine = some a → a.tok = tok → a.letter = none → a.done = true →
    ∃ u : State, exec (.analysisLookupAnswer tok rec) s = .next (u.analysed a (rec.map fun c => c.desc.letter)) ∧
      u = { s with ins := { s.ins with ctxs := match rec with
        | some c => upd s.ins.ctxs (ctxOf a.src) fun x => { x with letter := some c.desc.letter }
        | none => s.ins.ctxs } }) ∧
  (∀ tok rec s, (∀ a, s.ins.engine = some a → a.tok ≠ tok) →
    exec (.analysisLookupAnswer tok rec) s = .next s ∧ exec (.analysisComplete tok) s = .next s) ∧
  ((∀ (s : State) a, s.analysed a none = State.engineTake { s with
      ins := { s.ins with engine := none }
      wire := s.wire ++ [⟨.ins, .cat, .inspectionCountReport a.hdr.clip (.addInspected 1)⟩,
        ⟨.ins, .pp, .analysisDoneReport a.slot⟩] }) ∧
  (∀ (s : State) a l xs ys mean run live, xs = planeSamples a.plane → ys = xs.map luma → mean = frameMean ys →
    run = clipRun a.limits s.ins.ctxs[ctxOf a.src] (decide (a.limits.clipArea ≤ clippedCount a.limits.clipLevel xs))
      a.hdr.index →
    live = (match a.src with
      | .live _ _ => sitesOffered l a.hdr.clip (candidates a.limits mean ys) s.ins.sites
      | .reinspect | .playback _ => (s.ins.sites, [])) →
    s.analysed a (some l) = State.engineTake { s with
      ins := { s.ins with engine := none, ctxs := upd s.ins.ctxs (ctxOf a.src) (fun _ => run.1), sites := live.1 }
      wire := s.wire ++
        (if mean ≤ a.limits.blackLevel then [spanFiled a.hdr.clip .blackFrame a.hdr.index a.hdr.index] else []) ++
        (run.2.toList.map fun x => spanFiled a.hdr.clip .clipping x.1 x.2) ++ live.2 ++
        [⟨.ins, .cat, .inspectionCountReport a.hdr.clip (.addInspected 1)⟩, ⟨.ins, .pp, .analysisDoneReport a.slot⟩] }) ∧
  (∀ (s : State) n rest x, s.ins.engine = none → s.pp.queue = n :: rest → s.pp.slots.find? (fun y => y.num = n) = some x →
    s.engineTake = { s with
      token := s.token + 1
      pp := { s.pp with queue := rest }
      ins := { s.ins with
        engine := some { tok := s.token, slot := n, src := x.src, hdr := x.hdr, plane := x.plane, limits := s.ins.limits }
        ctxs := upd s.ins.ctxs (ctxOf x.src) fun c => match x.src with
          | .live _ pass => if c.pass = pass ∧ c.clip = some x.hdr.clip then c else { pass := pass, clip := some x.hdr.clip }
          | .reinspect | .playback _ => c }
      wire := s.wire ++ [⟨.ins, .cat, .clipLookup (.analysis s.token) x.hdr.clip⟩] }) ∧
  (∀ s : State, s.ins.engine ≠ none ∨ s.pp.queue = [] → s.engineTake = s) ∧
  (∀ r g b, luma (r, g, b) = (306 * r + 601 * g + 117 * b + 512) / 1024) ∧
  (∀ ys : List Nat, frameMean ys = ys.sum / 518400) ∧
  (∀ level xs, clippedCount level xs = xs.countP fun x => level ≤ x.1 || level ≤ x.2.1 || level ≤ x.2.2) ∧
  (∀ t mean ys, t.darkLimit < mean → candidates t mean ys = []) ∧
  (∀ t mean ys, mean ≤ t.darkLimit → (candidates t mean ys).length ≤ 32 ∧ (candidates t mean ys).Pairwise rasterBefore ∧
    (∀ c ∈ candidates t mean ys, isHot ys t.hotLevel c) ∧
    ∀ c, isHot ys t.hotLevel c → c ∈ candidates t mean ys ∨
      (candidates t mean ys).length = 32 ∧ ∀ d ∈ candidates t mean ys, rasterBefore d c) ∧
  (∀ t c index, clipRun t c false index = ({ c with run := 0, runFirst := none, filed := false }, none)) ∧
  (∀ t c index first run, first = (if c.run = 0 then index else c.runFirst.getD index) → run = min 64 (c.run + 1) →
    clipRun t c true index = if c.filed then ({ c with run := run, runFirst := some first }, some (index, index))
      else if t.clipRun ≤ run then ({ c with run := run, runFirst := some first, filed := true },
        some (min first index, max first index))
      else ({ c with run := run, runFirst := some first }, none)) ∧
  (∀ sites letter x y clip e older younger hits, sites = older ++ e :: younger → e.letter = letter → e.x = x → e.y = y →
    (∀ z ∈ older ++ younger, ¬(z.letter = letter ∧ z.x = x ∧ z.y = y)) → hits = min 255 (e.hits + 1) →
    offerSite sites letter x y clip = (older ++ { e with hits := hits, clip := clip
                                                         reported := e.reported || decide (8 ≤ hits) } :: younger,
      decide (8 ≤ hits) && !e.reported)) ∧
  (∀ sites letter x y clip new, (∀ z ∈ sites, ¬(z.letter = letter ∧ z.x = x ∧ z.y = y)) →
    new = { letter := letter, x := x, y := y, hits := 1, reported := false, clip := clip } →
    (sites.length < 256 → offerSite sites letter x y clip = (sites ++ [new], false)) ∧
    (256 ≤ sites.length → (∀ older e younger, sites = older ++ e :: younger → e.hits = 1 → (∀ z ∈ older, z.hits ≠ 1) →
        offerSite sites letter x y clip = (older ++ younger ++ [new], false)) ∧
      ((∀ z ∈ sites, z.hits ≠ 1) → offerSite sites letter x y clip = (sites, false))))) ∧
  (∀ q s, ∃ t, exec (.clearSites q) s = .next t ∧ t = { s with ins := { s.ins with sites := [] }, wire := t.wire } ∧
    t.wire = s.wire ++ [acceptOf .ins q (u16 s.ins.sites.length)]) ∧
  (∀ q (items : ThresholdItems) s m, m = (items.clipLevel.any (fun v => v < 1 || 4095 < v) ||
      items.clipArea.any (fun v => v < 1 || 518400 < v) || items.clipRun.any (fun v => v < 1 || 64 < v) ||
      items.blackLevel.any (fun v => 4095 < v) || items.darkLimit.any (fun v => 4095 < v) ||
      items.hotLevel.any (fun v => v < 2 || 4095 < v)) →
    ∃ t, exec (.setThresholds q items) s = .next t ∧
    t = { s with ins := { s.ins with limits := t.ins.limits }, wire := t.wire } ∧
    t.ins.limits.clipLevel = (items.clipLevel.map (fun v => max 1 (min 4095 v))).getD s.ins.limits.clipLevel ∧
    t.ins.limits.clipArea = (items.clipArea.map (fun v => max 1 (min 518400 v))).getD s.ins.limits.clipArea ∧
    t.ins.limits.clipRun = (items.clipRun.map (fun v => max 1 (min 64 v))).getD s.ins.limits.clipRun ∧
    t.ins.limits.blackLevel = (items.blackLevel.map (fun v => min 4095 v)).getD s.ins.limits.blackLevel ∧
    t.ins.limits.darkLimit = (items.darkLimit.map (fun v => min 4095 v)).getD s.ins.limits.darkLimit ∧
    t.ins.limits.hotLevel = (items.hotLevel.map (fun v => max 2 (min 4095 v))).getD s.ins.limits.hotLevel ∧
    t.wire = s.wire ++ [answerOf .ins q (.accepted m (fLimits t.ins.limits))]) ∧
  ∀ clip skipped sup s, ∃ t, exec (.passResult clip skipped sup) s = .next t ∧ onlyWire s t ∧
    t.wire = s.wire ++
      (if sup then [] else [⟨.ins, .cat, .inspectionCountReport clip
        (.setState (if skipped = 0 then .complete else .partiall) (some .live))⟩]) ++
      if skipped = 0 then [] else [⟨.ins, .fl, .occurrence
        { clip := clip, kind := .partialInspection, count := skipped, span := none, qual := none }⟩]

/-- Starting a re-inspection (R151, R152). A clip that is not LIVE and has a VERIFIED copy makes the idle reader
LOCATING, and each copy's port is asked; every other request is refused with the code of the first test that fails. With
the last answer the clip is looked up again, and the first copy answered YES is read: the clip's findings are removed,
its counts start again, the REINSPECT analysis context starts afresh for the clip and the LIVE ones stay, the Frame
Extractor's context is started, the request accepted and the first read sent. A running re-inspection (R153, R154). A
DONE read moves the reader on, and the next read goes out once its bytes are consumed; a FAILED read cancels the
context, a LOST one makes it report, and either sets the end kind, once. The context's final counts are taken once, in
READING or in DRAINING, and where they meet the slots already analysed the re-inspection ends with them. Each slot
analysed is counted, and with the counts in and every placed slot analysed it ends: the frames it did not reach are
counted skipped, and the clip's state follows the end kind. A read whose bytes were consumed before its answer came
sends the next at once. Reports of another run are discarded. That nothing left unreached files no PARTIAL_INSPECTION,
and that a lost volume with no read out cancels the context, are the model's choice (assumption 40). So is that the
first tests of REINSPECT read the clip record in the same step (assumption 8). So is that the ENDED notice carries the
camera letter read at the start (assumption 101). So is that the source is a copy of the first reading (assumption 115).
So is that the REINSPECT notice carries the fields of its phase alone and without presence bytes (assumption 118). In
DRAINING a FAILED or LOST answer, like a WITHDRAWN one in any state, only ends the read that was out, a LOST one telling
the Frame Extractor, and a lost volume is for the reader only in READING (R153; assumption 40). -/
def Obligations.Reinspection : Prop :=
  (((∀ q clip s c cs, clip < 1024 → s.clip? clip = some c → s.ins.reader.state = .idle → c.insp ≠ .live →
    cs = (verifiedSources c).map (fun x => ({ src := x } : Candidate)) → cs ≠ [] →
    ∃ t, exec (.reinspect q clip) s = .next t ∧
      readerBecomes { state := .locating, q := some q, clip := some clip, cands := cs } s t ∧
      t.wire = s.wire ++ cs.zipIdx.map fun x => ⟨.ins, .dp x.1.src.port,
        .attachmentQuestion (.reader x.2) x.1.src.port x.1.src.vol⟩) ∧
  (∀ q clip s w, (1024 ≤ clip ∧ w = refuseOf .ins q .value ∨
      clip < 1024 ∧ s.clip? clip = none ∧ w = refuseOf .ins q .notFound ∨
      clip < 1024 ∧ ∃ c, s.clip? clip = some c ∧ (s.ins.reader.state ≠ .idle ∧ w = refuseOf .ins q .busy ∨
        s.ins.reader.state = .idle ∧ (c.insp = .live ∧ w = refuseStateOf .ins q .livePass ∨
          c.insp ≠ .live ∧ (∀ x ∈ c.copies, x.state ≠ .verified) ∧ w = refuseOf .ins q .notFound))) →
    ∃ t, exec (.reinspect q clip) s = .next t ∧ onlyWire s t ∧ t.wire = s.wire ++ [w]) ∧
  (∀ ix yes s r cs, r = s.ins.reader → r.state = .locating →
    cs = r.cands.zipIdx.map (fun c => if c.2 = ix then { c.1 with answer := some yes } else c.1) →
    ∃ t, exec (.reinspectAttachmentAnswer ix yes) s = .next t ∧ readerBecomes { r with cands := cs } s t ∧
      t.wire = s.wire ++ if ∀ c ∈ cs, c.answer.isSome then [⟨.ins, .cat, .clipLookup .reader (r.clip.getD 0)⟩] else []) ∧
  (∀ ix yes s, s.ins.reader.state ≠ .locating → exec (.reinspectAttachmentAnswer ix yes) s = .next s) ∧
  (∀ rec s r q w, r = s.ins.reader → r.state = .locating → allAnswered r.cands = true → r.q = some q →
    (rec = none ∧ w = refuseOf .ins q .notFound ∨
      (∃ c, rec = some c ∧ c.insp = .live) ∧ w = refuseStateOf .ins q .livePass ∨
      (∃ c, rec = some c ∧ c.insp ≠ .live) ∧ (∀ x ∈ r.cands, x.answer ≠ some true) ∧ w = refuseOf .ins q .notFound) →
    ∃ t, exec (.reinspectLookupAnswer rec) s = .next t ∧ readerBecomes {} s t ∧ t.wire = s.wire ++ [w]) ∧
  (∀ rec s, s.ins.reader.state ≠ .locating → exec (.reinspectLookupAnswer rec) s = .next s) ∧
  ∀ c s r q x src, r = s.ins.reader → r.state = .locating → allAnswered r.cands = true → r.q = some q → c.insp ≠ .live →
    r.cands.find? (fun y => y.answer = some true) = some x → src = { x.src with span := spanOf c.extents } →
    dataBlocks c.desc.dataLen ≠ 0 →
    ∃ t n, exec (.reinspectLookupAnswer (some c)) s = .next t ∧ t.token = s.token + 1 ∧
      t.ins.reader = { state := .reading, clip := some c.id, serial := c.serial, letter := c.desc.letter
                       dataLen := c.desc.dataLen, frames := c.desc.frames, extents := c.extents, src := some src
                       next := src.hb + src.span, left := dataBlocks c.desc.dataLen, run := s.token, readOut := true } ∧
      t = { s with ins := { s.ins with reader := t.ins.reader, ctxs := t.ins.ctxs }, wire := t.wire, token := t.token } ∧
      t.ins.ctxs[3] = { clip := some c.id } ∧ (∀ i : Chan, t.ins.ctxs[i.val] = s.ins.ctxs[i.val]) ∧
      n = { reinspectNotice c.id c.serial c.desc.letter (u8 1) with port := some src.port } ∧
      t.wire = s.wire ++ [⟨.ins, .fl, .reinspectionRemoval c.id⟩,
        ⟨.ins, .cat, .inspectionCountReport c.id (.start .reinspecting)⟩,
        ⟨.ins, .fx, .reinspectContextStart s.token c.id c.desc.dataLen c.desc.frames src⟩,
        acceptOf .ins q (u8 src.port.val ++ fSerial src.vol), noticeOf .ins n,
        ⟨.ins, .dp src.port, .reinspectionRead src.port src.vol (src.hb + src.span) (min 2048 (dataBlocks c.desc.dataLen))
          s.token⟩]) ∧
  (∀ run s r n, r = s.ins.reader → r.run = run → r.readOut = true → r.consumed = false → n = min 2048 r.left →
    ∃ t, exec (.reinspectReadAnswer run .done) s = .next t ∧ t.wire = s.wire ∧
      readerBecomes { r with readOut := false, next := r.next + n, left := r.left - n } s t) ∧
  (∀ run s r src n left, r = s.ins.reader → r.run = run → r.readOut = true → r.consumed = true → r.state = .reading →
    r.src = some src → n = min 2048 r.left → left = r.left - n →
    ∃ t, exec (.reinspectReadAnswer run .done) s = .next t ∧
      readerBecomes { r with readOut := decide (left ≠ 0), consumed := false, next := r.next + n, left := left } s t ∧
      t.wire = s.wire ++ if left = 0 then [] else
        [⟨.ins, .dp src.port, .reinspectionRead src.port src.vol (r.next + n) (min 2048 left) run⟩]) ∧
  (∀ run s r kind m ans, r = s.ins.reader → r.run = run → r.readOut = true → r.state = .reading →
    ans = ReReadAns.failed ∧ kind = ReEnd.failed ∧ m = Instr.reinspectContextCancel run ∨
      ans = .lost ∧ kind = .lost ∧ m = .reinspectReadLost run →
    ∃ t, exec (.reinspectReadAnswer run ans) s = .next t ∧ t.wire = s.wire ++ [⟨.ins, .fx, m⟩] ∧
      readerBecomes { r with readOut := false, state := .draining, ended := some kind } s t) ∧
  (∀ run ans s, s.ins.reader.run ≠ run ∨ s.ins.reader.readOut = false → exec (.reinspectReadAnswer run ans) s = .next s) ∧
  (∀ run s r src, r = s.ins.reader → r.run = run → r.state = .reading → r.readOut = false → r.src = some src → r.left ≠ 0 →
    ∃ t, exec (.reinspectReadConsumed run) s = .next t ∧ readerBecomes { r with readOut := true, consumed := false } s t ∧
      t.wire = s.wire ++ [⟨.ins, .dp src.port, .reinspectionRead src.port src.vol r.next (min 2048 r.left) run⟩]) ∧
  (∀ run s r, r = s.ins.reader → r.run = run → r.state = .reading → r.readOut = true →
    ∃ t, exec (.reinspectReadConsumed run) s = .next t ∧ readerBecomes { r with consumed := true } s t ∧ t.wire = s.wire) ∧
  (∀ run s, s.ins.reader.run ≠ run ∨ s.ins.reader.state ≠ .reading → exec (.reinspectReadConsumed run) s = .next s) ∧
  (∀ run s r, r = s.ins.reader → r.run = run → r.state = .reading →
    ∃ t, exec (.reinspectContextReport run .placed) s = .next t ∧ readerBecomes { r with placed := r.placed + 1 } s t ∧
      t.wire = s.wire) ∧
  (∀ run rep s r kind p k, r = s.ins.reader → r.run = run → r.state = .reading → r.final = false → r.anal ≠ p →
    rep = ReReport.ended p k ∧ kind = ReEnd.finish ∨ (∃ f, rep = .halted f p k) ∧ kind = .halted ∨
      (∃ n, rep = .lost p k n) ∧ kind = .lost →
    ∃ t, exec (.reinspectContextReport run rep) s = .next t ∧ t.wire = s.wire ∧
      readerBecomes { r with state := .draining, ended := some kind, placed := p, skipped := k, final := true } s t) ∧
  (∀ run rep s, s.ins.reader.run ≠ run ∨ s.ins.reader.state = .idle ∨ s.ins.reader.state = .locating →
    exec (.reinspectContextReport run rep) s = .next s) ∧
  (∀ p vol s r src, r = s.ins.reader → r.state = .reading → r.src = some src → src.vol = vol →
    ∃ t, exec (.reinspectLostVolume p vol) s = .next t ∧
      readerBecomes { r with state := .draining, ended := some .lost } s t ∧
      t.wire = s.wire ++ if r.readOut then [] else [⟨.ins, .fx, .reinspectContextCancel r.run⟩]) ∧
  (∀ p vol s, (∀ src, s.ins.reader.src = some src → src.vol ≠ vol) → exec (.reinspectLostVolume p vol) s = .next s) ∧
  (∀ (s : State) r clip n st, r = s.ins.reader → r.state = .draining → r.final = true → r.anal = r.placed →
    clip = r.clip.getD 0 → n = (if r.ended = some .finish then 0 else r.frames - r.placed - r.skipped) →
    st = (if r.ended = some .finish then InspState.complete else if r.ended = some .halted then .halted else .partiall) →
    ∃ t, s.readerEnds = t ∧ readerBecomes {} s t ∧
      t.wire = s.wire ++ (if n = 0 then [] else [⟨.ins, .cat, .inspectionCountReport clip (.addSkipped n)⟩]) ++
        [⟨.ins, .cat, .inspectionCountReport clip (.setState st (some .reinspecting))⟩] ++
        (if (r.ended = some .lost ∨ r.ended = some .failed) ∧ n ≠ 0 then [⟨.ins, .fl, .occurrence
          { clip := clip, kind := .partialInspection, count := n, span := none, qual := none }⟩] else []) ++
        [noticeOf .ins (reinspectNotice clip r.serial r.letter (u8 2 ++ u8 ((r.ended.getD .finish).ctorIdx + 1) ++
          u8 (st.ctorIdx + 1) ++ u32 r.placed ++ u32 r.skipped ++ u32 n))]) ∧
  (∀ n s x r, r = s.ins.reader → s.pp.slots.find? (fun y => y.num = n && .inspect ∈ y.holders) = some x →
    x.src = .reinspect → (r.state ≠ .draining ∨ r.final = false ∨ r.anal + 1 ≠ r.placed) →
    ∃ t, exec (.analysisDoneReport n) s = .next t ∧ t.ins = { s.ins with reader := { r with anal := r.anal + 1 } } ∧
      t = { s with pp := { s.pp with slots := t.pp.slots }, ins := t.ins, wire := t.wire }) ∧
  (∀ n s x r, r = s.ins.reader → s.pp.slots.find? (fun y => y.num = n && .inspect ∈ y.holders) = some x →
    x.src = .reinspect → r.state = .draining → r.final = true → r.anal + 1 = r.placed →
    ∃ u : State, exec (.analysisDoneReport n) s = .next u.readerEnds ∧ u.ins.reader = { r with anal := r.placed } ∧
      u.readerEnds.ins.reader = {}) ∧
  (∀ run rep s r p k, r = s.ins.reader → r.run = run → r.state = .draining → r.final = false →
    rep = ReReport.ended p k ∨ (∃ f, rep = .halted f p k) ∨ (∃ n, rep = .lost p k n) ∨ rep = .counts p k →
    ∃ u : State, exec (.reinspectContextReport run rep) s = .next u.readerEnds ∧ u.wire = s.wire ∧
      readerBecomes { r with placed := p, skipped := k, final := true } s u) ∧
  (∀ run rep s r, r = s.ins.reader → r.run = run → r.state = .draining → r.final = true ∨ rep = .placed →
    exec (.reinspectContextReport run rep) s = .next s) ∧
  (∀ run rep s r kind p k, r = s.ins.reader → r.run = run → r.state = .reading → r.final = false → r.anal = p →
    rep = ReReport.ended p k ∧ kind = ReEnd.finish ∨ (∃ f, rep = .halted f p k) ∧ kind = .halted ∨
      (∃ n, rep = .lost p k n) ∧ kind = .lost →
    ∃ u : State, exec (.reinspectContextReport run rep) s = .next u.readerEnds ∧ u.wire = s.wire ∧
      readerBecomes { r with state := .draining, ended := some kind, placed := p, skipped := k, final := true } s u ∧
      u.readerEnds.ins.reader = {}) ∧
  (∀ (s : State) r, r = s.ins.reader → r.state ≠ .draining ∨ r.final = false ∨ r.anal ≠ r.placed → s.readerEnds = s)) ∧
  (∀ run s r ans, r = s.ins.reader → r.run = run → r.readOut = true →
    r.state = .draining ∧ (ans = ReReadAns.failed ∨ ans = .lost) ∨ ans = .withdrawn →
    ∃ t, exec (.reinspectReadAnswer run ans) s = .next t ∧ readerBecomes { r with readOut := false } s t ∧
      t.wire = s.wire ++ if ans = .lost then [⟨.ins, .fx, .reinspectReadLost run⟩] else []) ∧
  (∀ p vol s, s.ins.reader.state ≠ .reading → exec (.reinspectLostVolume p vol) s = .next s)

/-! ## Fault List and Look Bank (Sections 8 and 9) -/

/-- Occurrences are taken one at a time, each against the record its clip id holds (R159 to R164, R168). The first in the
queue is looked up; the answer drops one whose id is free or has been purged since, and places any other: into the one
finding it merges with, which is one of its key that is not CLEARED and, for a kind with spans, within 24 frames of it;
into the oldest of several that it joins, with the union of their spans, the sum of their counts and the highest of their
classes; or as a new finding, of the next free id and of the class its kind has in the table, while fewer than 512 are
held. In a full list the oldest CLEARED finding makes room, or else the oldest ACKNOWLEDGED and then the oldest OPEN one
of class ADVISORY, or for a BLOCKING finding the oldest that is not, and the new finding stands behind the rest, with an
id fresh among them; with none to evict the clip's overflow hold is set instead. A verified copy clears the volume's
findings of the clip, as PART. A join, a new finding and a verified copy settle the clip's blocking count. The fields of
the notices are the model's choice (assumptions 9 and 22). So are the 2 bytes of the count an UNSTORED notice carries
(assumption 78) and the span before the qualifier (assumption 75). So is the creation order of the ids in JOINED and of
the CLEARED notices (assumption 116). -/
def Obligations.OccurrencesArePlaced : Prop :=
  (∀ o clip vol s r i who, r = Instr.occurrence o ∧ i = FaultItem.occ o ∧ who = Asker.occurrence s.token ∧ clip = o.clip ∨
      r = .verifiedCopyReport clip vol ∧ i = .verified clip vol ∧ who = .verified s.token →
    (s.fl.queue ≠ [] → exec r s = .next { s with fl := { s.fl with queue := s.fl.queue ++ [i] } }) ∧
    (s.fl.queue = [] → ∃ t, exec r s = .next t ∧ onlyFl s t ∧ t.token = s.token + 1 ∧
      t.fl = { s.fl with queue := [i], asks := s.fl.asks ++ [s.token] } ∧
      t.wire = s.wire ++ [⟨.fl, .cat, .clipLookup who clip⟩])) ∧
  (∀ tok s o rest c, tok ∈ s.fl.asks → s.fl.queue = .occ o :: rest → s.fl.purgedSince o.clip tok = false →
    ∃ u, exec (.occurrenceLookupAnswer tok (some c)) s =
        .next (State.askHead { u.placeOcc o c with fl := { (u.placeOcc o c).fl with queue := rest } }) ∧
      onlyFl s u ∧ u.wire = s.wire ∧ u.fl.list = s.fl.list ∧ u.fl.classes = s.fl.classes ∧ u.fl.counter = s.fl.counter ∧
      u.fl.sent = s.fl.sent) ∧
  (∀ tok rec s o clip vol r, tok ∈ s.fl.asks → rec = none ∨ s.fl.purgedSince clip tok = true →
    r = Instr.occurrenceLookupAnswer tok rec ∧ s.fl.queue = [.occ o] ∧ o.clip = clip ∨
      r = .verifiedReportLookupAnswer tok rec ∧ s.fl.queue = [.verified clip vol] →
    ∃ t, exec r s = .next t ∧ onlyFl s t ∧ t.wire = s.wire ∧ t.fl.list = s.fl.list ∧
      t.fl.queue = [] ∧ tok ∉ t.fl.asks) ∧
  (∀ tok rec s, tok ∉ s.fl.asks →
    exec (.occurrenceLookupAnswer tok rec) s = .next s ∧ exec (.verifiedReportLookupAnswer tok rec) s = .next s) ∧
  (∀ (s : State) o c f, (s.fl.list.map (·.id)).Nodup → s.fl.list.filter (merges o) = [f] →
    (s.placeOcc o c).wire = s.wire ∧ (s.placeOcc o c).fl.list = s.fl.list.map fun x => if x.id = f.id then
      { f with count := min 65535 (f.count + o.count)
               span := if o.kind.spans then unionSpan f.span o.span else f.span } else x) ∧
  (∀ (s : State) o c f, s.fl.list.filter (merges o) = [] → s.fl.list.length < 512 →
    f = { id := s.fl.freshId, clip := o.clip, serial := c.serial, letter := c.desc.letter, kind := o.kind
          cls := s.fl.classes[o.kind.ix], qual := o.qual, span := o.span, count := min 65535 o.count } →
    ∃ u, s.placeOcc o c = u.settleBlocking o.clip ∧ onlyFl s u ∧ u.token = s.token ∧
      u.fl = { s.fl with list := s.fl.list ++ [f], counter := (f.id + 1) % 65536 } ∧
      u.wire = s.wire ++ [noticeOf .fl (findingNotice .findingFiled f (fFinding f))]) ∧
  (∀ (s : State) o c, s.fl.list.filter (merges o) = [] → 512 ≤ s.fl.list.length →
    (∀ f ∈ s.fl.list, f.state ≠ .cleared ∧ f.cls ≠ .advisory ∧ (f.cls = .blocking ∨ s.fl.classes[o.kind.ix] ≠ .blocking)) →
    (s.placeOcc o c).fl = s.fl ∧ (⟨.fl, .cat, .overflowHoldSet o.clip⟩ : Wire) ∈ (s.placeOcc o c).wire ∧
    noticeOf .fl { sub := .findingUnstored, serial := some c.serial, clip := some o.clip, letter := some c.desc.letter
                   cls := some s.fl.classes[o.kind.ix]
                   fields := u8 (o.kind.ctorIdx + 1) ++ fSpanQual o.span o.qual ++ u16 (min 65535 o.count) } ∈
      (s.placeOcc o c).wire) ∧
  (∀ (s : State) o c f others a b, (s.fl.list.map (·.id)).Nodup → s.fl.list.filter (merges o) = f :: others → others ≠ [] →
    o.kind.spans = true → o.span = some (a, b) →
    ∃ u g, s.placeOcc o c = u.settleBlocking o.clip ∧ onlyFl s u ∧ u.token = s.token ∧
      u.fl = { s.fl with list := (s.fl.list.filter fun x => x.id ∉ others.map (·.id)).map fun x =>
        if x.id = f.id then g else x } ∧
      g = { f with span := g.span, count := g.count, cls := g.cls, state := g.state, ackBy := g.ackBy } ∧
      g.span = some (((f :: others).filterMap (·.span)).foldl (fun m x => min m x.1) a,
        ((f :: others).filterMap (·.span)).foldl (fun m x => max m x.2) b) ∧
      g.count = min 65535 (((f :: others).map (·.count)).sum + o.count) ∧
      (∀ x ∈ f :: others, x.cls.rank ≤ g.cls.rank) ∧ (∃ x ∈ f :: others, g.cls = x.cls) ∧
      ((∃ x ∈ f :: others, x.state = .opened) → g.state = .opened ∧ g.ackBy = none) ∧
      ((∀ x ∈ f :: others, x.state ≠ .opened) → g.state = f.state ∧ g.ackBy = f.ackBy) ∧
      u.wire = s.wire ++ [noticeOf .fl (findingNotice .findingJoined g (fFinding g ++ fList u16 (others.map (·.id))))]) ∧
  (∀ (l : FaultList) n, l.list.length < 65536 → n = l.freshId → (∀ f ∈ l.list, f.id ≠ n) ∧
    ∃ i, n = (l.counter + i) % 65536 ∧ ∀ j, j < i → ∃ f ∈ l.list, f.id = (l.counter + j) % 65536) ∧
  (∀ l new e, evictee l new = some e → ∃ pre post, l = pre ++ e :: post ∧
    (e.state = .cleared ∧ (∀ f ∈ pre, f.state ≠ .cleared) ∨
      (∀ f ∈ l, f.state ≠ .cleared) ∧
        (e.state = .acknowledged ∧ e.cls = .advisory ∧ (∀ f ∈ pre, ¬(f.state = .acknowledged ∧ f.cls = .advisory)) ∨
          (∀ f ∈ l, ¬(f.state = .acknowledged ∧ f.cls = .advisory)) ∧
            (e.state = .opened ∧ e.cls = .advisory ∧ (∀ f ∈ pre, f.cls ≠ .advisory) ∨
              (∀ f ∈ l, f.cls ≠ .advisory) ∧ new = .blocking ∧ e.cls ≠ .blocking ∧ ∀ f ∈ pre, f.cls = .blocking)))) ∧
  (∀ l new, evictee l new = none ↔
    ∀ f ∈ l, f.state ≠ .cleared ∧ f.cls ≠ .advisory ∧ (f.cls = .blocking ∨ new ≠ .blocking)) ∧
  (∀ (s : State) o c e l f, s.fl.list.filter (merges o) = [] → 512 ≤ s.fl.list.length →
    evictee s.fl.list s.fl.classes[o.kind.ix] = some e → l = s.fl.list.filter (fun x => x.id ≠ e.id) →
    f = { id := { s.fl with list := l }.freshId, clip := o.clip, serial := c.serial, letter := c.desc.letter, kind := o.kind
          cls := s.fl.classes[o.kind.ix], qual := o.qual, span := o.span, count := min 65535 o.count } →
    ∃ u, s.placeOcc o c = u.settleBlocking o.clip ∧ onlyFl s u ∧ u.token = s.token ∧
      u.fl = { s.fl with list := l ++ [f], counter := (f.id + 1) % 65536 } ∧
      u.wire = s.wire ++ [noticeOf .fl (findingNotice .findingEvicted e (fFinding e ++ u8 (e.state.ctorIdx + 1))),
        noticeOf .fl (findingNotice .findingFiled f (fFinding f))]) ∧
  (∀ tok c s clip vol rest, tok ∈ s.fl.asks → s.fl.queue = .verified clip vol :: rest → s.fl.purgedSince clip tok = false →
    ∃ u, exec (.verifiedReportLookupAnswer tok (some c)) s =
        .next (State.askHead { u.settleBlocking clip with fl := { (u.settleBlocking clip).fl with queue := rest } }) ∧
      onlyFl s u ∧ u.token = s.token ∧ u.fl.sent = s.fl.sent ∧
      (u.fl.list = s.fl.list.map fun f => if f.clip = clip ∧ f.state ≠ .cleared ∧ f.qual = some (.volume vol) ∧
        (f.kind = .verifyMismatch ∨ f.kind = .writeFailed ∨ f.kind = .lostDrive) then
        { f with state := .cleared, clearBy := some .part } else f) ∧
      u.wire = s.wire ++ ((s.fl.list.filter fun f => f.clip = clip ∧ f.state ≠ .cleared ∧ f.qual = some (.volume vol) ∧
        (f.kind = .verifyMismatch ∨ f.kind = .writeFailed ∨ f.kind = .lostDrive)).map fun f =>
          noticeOf .fl (findingNotice .findingCleared f (u16 f.id ++ fOpt [1] (fun x : Stn => u8 x.val) none)))) ∧
  (∀ (o : Occurrence) (f : Finding), merges o f = true ↔ f.clip = o.clip ∧ f.kind = o.kind ∧ f.qual = o.qual ∧
    (f.state = .opened ∨ f.state = .acknowledged) ∧ (o.kind.spans = true →
      ∃ a b p q, o.span = some (a, b) ∧ f.span = some (p, q) ∧ a ≤ q + 24 ∧ p ≤ b + 24))

/-- Station actions (R158, R165 to R167). SET KIND CLASS changes one entry of the class table; findings keep their class.
An OPEN finding is acknowledged by its station, a finding not CLEARED is cleared by its station, a BLOCKING one only with
the supervisor flag; every other state is refused with its reason. An overflow hold is cleared once the clip's record says
it is set. Removing findings and the blocking count (R169, R170). The start of a re-inspection removes the clip's OPEN
findings of CLIPPING, BLACK_FRAME and PARTIAL_INSPECTION, and no other; a purge removes every finding of its clips. The
count of a clip's BLOCKING findings not CLEARED goes to the Catalog whenever it is another than the one sent last, and is
0, unsent, for a clip that is purged. The fields of the ACKNOWLEDGED, CLEARED and REMOVED notices are the model's choice
(assumptions 9 and 22). So is the creation order of the REMOVED notices (assumption 116). -/
def Obligations.FindingActionsAndRemoval : Prop :=
  ((∀ q kind cls s k c, kindOf kind = some k → classOf cls = some c →
    ∃ t vals, exec (.setKindClass q kind cls) s = .next t ∧ onlyFl s t ∧ t.token = s.token ∧
      t.fl = { s.fl with classes := upd s.fl.classes k.ix fun _ => c } ∧
      vals = u8 kind ++ u8 ((s.fl.classes[k.ix]).ctorIdx + 1) ++ u8 cls ∧
      t.wire = s.wire ++ [acceptOf .fl q vals, noticeOf .fl { sub := .findingClassSet, fields := vals }]) ∧
  (∀ q kind cls s, kind < 1 ∨ 18 < kind ∨ cls < 1 ∨ 3 < cls →
    ∃ t, exec (.setKindClass q kind cls) s = .next t ∧ onlyWire s t ∧ t.wire = s.wire ++ [refuseOf .fl q .value]) ∧
  (∀ q n s f g, s.fl.find? n = some f → f.state = .opened → g = { f with state := .acknowledged, ackBy := some q.st } →
    ∃ t, exec (.ackFinding q n) s = .next t ∧ onlyFl s t ∧ t.token = s.token ∧
      t.fl = { s.fl with list := s.fl.list.map fun x => if x.id = n then g else x } ∧
      t.wire = s.wire ++ [acceptOf .fl q [], noticeOf .fl (findingNotice .findingAcknowledged g (u16 n ++ u8 q.st.val))]) ∧
  (∀ q n s f g sup, s.fl.find? n = some f → f.state ≠ .cleared → f.cls ≠ .blocking ∨ sup = true →
    g = { f with state := .cleared, clearBy := some (.station q.st) } →
    ∃ u, exec (.clearFinding q n sup) s = .next (u.settleBlocking f.clip) ∧ onlyFl s u ∧ u.token = s.token ∧
      u.fl = { s.fl with list := s.fl.list.map fun x => if x.id = n then g else x } ∧
      u.wire = s.wire ++ [acceptOf .fl q [], noticeOf .fl (findingNotice .findingCleared g
        (u16 n ++ fOpt [1] (fun x : Stn => u8 x.val) (some q.st)))]) ∧
  (∀ q n sup s w r, (r = Instr.ackFinding q n ∧ (s.fl.find? n = none ∧ w = refuseOf .fl q .notFound ∨
        (∃ f, s.fl.find? n = some f ∧ f.state = .acknowledged) ∧ w = refuseStateOf .fl q .already ∨
        (∃ f, s.fl.find? n = some f ∧ f.state = .cleared) ∧ w = refuseStateOf .fl q .cleared) ∨
      r = .clearFinding q n sup ∧ (s.fl.find? n = none ∧ w = refuseOf .fl q .notFound ∨
        (∃ f, s.fl.find? n = some f ∧ f.state = .cleared) ∧ w = refuseStateOf .fl q .already ∨
        (∃ f, s.fl.find? n = some f ∧ f.state ≠ .cleared ∧ f.cls = .blocking) ∧ sup = false ∧ w = refuseOf .fl q .rights)) →
    ∃ t, exec r s = .next t ∧ onlyWire s t ∧ t.wire = s.wire ++ [w]) ∧
  (∀ q clip s, clip < 1024 → ∃ t, exec (.clearOverflowHold q clip) s = .next t ∧ onlyFl s t ∧ t.token = s.token + 1 ∧
    t.fl = { s.fl with asks := s.fl.asks ++ [s.token] } ∧
    t.wire = s.wire ++ [⟨.fl, .cat, .clipLookup (.clearHold q s.token) clip⟩]) ∧
  (∀ q clip s, 1024 ≤ clip → ∃ t, exec (.clearOverflowHold q clip) s = .next t ∧ onlyWire s t ∧
    t.wire = s.wire ++ [refuseOf .fl q .value]) ∧
  (∀ q tok clip rec s ws, tok ∈ s.fl.asks → (rec = none ∧ ws = [refuseOf .fl q .notFound] ∨
      (∃ c, rec = some c ∧ c.overflow = false) ∧ ws = [refuseStateOf .fl q .already] ∨
      (∃ c : Clip, rec = some c ∧ c.overflow = true) ∧ ws = [acceptOf .fl q [], ⟨.fl, .cat, .overflowHoldClear clip⟩]) →
    ∃ t, exec (.clearHoldLookupAnswer q tok clip rec) s = .next t ∧ onlyFl s t ∧ t.token = s.token ∧
      t.fl.list = s.fl.list ∧ tok ∉ t.fl.asks ∧ t.wire = s.wire ++ ws) ∧
  ∀ q tok clip rec s, tok ∉ s.fl.asks → exec (.clearHoldLookupAnswer q tok clip rec) s = .next s) ∧
  (∀ clip s, ∃ u, exec (.reinspectionRemoval clip) s = .next (u.settleBlocking clip) ∧ onlyFl s u ∧ u.token = s.token ∧
    u.fl = { s.fl with list := s.fl.list.filter fun f => ¬(f.clip = clip ∧ f.state = .opened ∧
      (f.kind = .clipping ∨ f.kind = .blackFrame ∨ f.kind = .partialInspection)) } ∧
    u.wire = s.wire ++ (s.fl.list.filter fun f => f.clip = clip ∧ f.state = .opened ∧
      (f.kind = .clipping ∨ f.kind = .blackFrame ∨ f.kind = .partialInspection)).map fun f =>
        noticeOf .fl (findingNotice .findingRemoved f (fFinding f))) ∧
  (∀ serial clips s, ∃ t n, exec (.purgeList serial clips) s = .next t ∧ onlyFl s t ∧ t.token = s.token ∧
    t.fl.list = (s.fl.list.filter fun f => f.clip ∉ clips) ∧ t.fl.list.length + n = s.fl.list.length ∧
    t.fl.classes = s.fl.classes ∧ t.fl.counter = s.fl.counter ∧ t.fl.queue = s.fl.queue ∧ t.fl.asks = s.fl.asks ∧
    (∀ c ∈ clips, ∀ tok ∈ s.fl.asks, t.fl.purgedSince c tok = true) ∧
    (∀ c, t.fl.lastSent c = if c ∈ clips then 0 else s.fl.lastSent c) ∧
    t.wire = s.wire ++ [noticeOf .fl { sub := .findingPurged, serial := some serial, fields := u16 n }]) ∧
  (∀ (s : State) clip, s.fl.blocking clip = s.fl.lastSent clip → s.settleBlocking clip = s) ∧
  ∀ (s : State) clip n, n = s.fl.blocking clip → n ≠ s.fl.lastSent clip →
    (s.settleBlocking clip).wire = s.wire ++ [⟨.fl, .cat, .blockingCountReport clip n⟩] ∧
    (∀ c, (s.settleBlocking clip).fl.lastSent c = if c = clip then n else s.fl.lastSent c) ∧
    onlyFl s (s.settleBlocking clip) ∧ (s.settleBlocking clip).token = s.token ∧
    (s.settleBlocking clip).fl = { s.fl with sent := (s.settleBlocking clip).fl.sent }

/-- Edit holds (R173 to R178). A slot that nobody holds and no fill covers is held by the station that asks, with its
active look pending; one that a fill covers is refused BUSY, and one that a station holds HELD with that station. Only its
holder writes, commits and cancels. A write leaves a part it does not carry, takes away one it carries as ABSENT and
stores one it carries with values, with curve entries above 4095 taken as 4095 and the acceptance marked; a value outside
its range, or the encoding as ABSENT, refuses it; a commit makes the pending look active under the next version and keeps
the hold only where asked; a cancel and a link that goes DOWN give it up and leave the active look as it was, each slot
with its notice, in ascending order. That the holder stands at the start of a HELD refusal's operands is the model's
choice (assumption 76). -/
def Obligations.LookEdits : Prop :=
  (∀ q (i : LookIx) s x, x = s.look i → s.lb.covered i = false → x.holder = none →
    ∃ t, exec (.holdLook q i.val) s = .next t ∧
      lookBecomes i { x with holder := some q.st, pending := some x.active, pendingName := some x.name } s t ∧
      t.wire = s.wire ++ [acceptOf .lb q (u16 x.version),
        noticeOf .lb (lookNotice .lookHeld (u8 i.val ++ u8 q.st.val ++ u16 x.version))]) ∧
  (∀ q (i : LookIx) s x items p, x = s.look i → s.lb.covered i = false → x.holder = some q.st → x.pending = some p →
    lookItemsOk items = true →
    ∃ t, exec (.writeLook q i.val items) s = .next t ∧
      lookBecomes i { x with pending := some (newLook p items), pendingName := items.name.or x.pendingName } s t ∧
      t.wire = s.wire ++ [answerOf .lb q (.accepted (decide (clampItem items.curves ≠ items.curves)) [])]) ∧
  (∀ q (i : LookIx) s x items, x = s.look i → s.lb.covered i = false → x.holder = some q.st → lookItemsOk items = false →
    ∃ t, exec (.writeLook q i.val items) s = .next t ∧ onlyWire s t ∧ t.wire = s.wire ++ [refuseOf .lb q .value]) ∧
  (∀ q (i : LookIx) s x p n v, x = s.look i → s.lb.covered i = false → x.holder = some q.st → x.pending = some p →
    x.pendingName = some n → v = (x.version + 1) % 65536 →
    (∃ t, exec (.commitLook q i.val false) s = .next t ∧
      lookBecomes i { active := p, name := n, version := v, pending := none, pendingName := none, holder := none } s t ∧
      t.wire = s.wire ++ [acceptOf .lb q (u16 v), noticeOf .lb (lookNotice .lookCommitted
        (u8 i.val ++ u8 q.st.val ++ u16 v ++ fName n ++ u8 0))]) ∧
    ∃ t, exec (.commitLook q i.val true) s = .next t ∧
      lookBecomes i { active := p, name := n, version := v, pending := some p, pendingName := some n, holder := x.holder } s t ∧
      t.wire = s.wire ++ [acceptOf .lb q (u16 v), noticeOf .lb (lookNotice .lookCommitted
        (u8 i.val ++ u8 q.st.val ++ u16 v ++ fName n ++ u8 1))]) ∧
  (∀ q (i : LookIx) s x, x = s.look i → s.lb.covered i = false → x.holder = some q.st →
    ∃ t, exec (.cancelLook q i.val) s = .next t ∧
      lookBecomes i { x with pending := none, pendingName := none, holder := none } s t ∧
      t.wire = s.wire ++ [acceptOf .lb q [], noticeOf .lb (lookNotice .lookReleased (u8 i.val ++ u8 q.st.val ++ u8 1))]) ∧
  (∀ q (i : LookIx) s x items keep w, x = s.look i →
    (s.lb.covered i = true ∧ w = refuseOf .lb q .busy ∨
      s.lb.covered i = false ∧ x.holder = none ∧ w = refuseStateOf .lb q .notHeld ∨
      s.lb.covered i = false ∧ (∃ h, x.holder = some h ∧ h ≠ q.st ∧ w = answerOf .lb q (.refused .held none (u8 h.val)))) →
    ∀ r ∈ [Instr.writeLook q i.val items, .commitLook q i.val keep, .cancelLook q i.val],
    ∃ t, exec r s = .next t ∧ onlyWire s t ∧ t.wire = s.wire ++ [w]) ∧
  (∀ q slot s items keep, 32 ≤ slot →
    ∀ r ∈ [Instr.holdLook q slot, .writeLook q slot items, .commitLook q slot keep, .cancelLook q slot],
    ∃ t, exec r s = .next t ∧ onlyWire s t ∧ t.wire = s.wire ++ [refuseOf .lb q .value]) ∧
  (∀ st s, ∃ t, exec (.linkDownReport st) s = .next t ∧ onlyLb s t ∧ t.token = s.token ∧ t.lb.defaults = s.lb.defaults ∧
    t.lb.fill = s.lb.fill ∧ (∀ i, t.look i = if (s.look i).holder = some st then
      { s.look i with pending := none, pendingName := none, holder := none } else s.look i) ∧
    t.wire = s.wire ++ ((List.finRange 32).filter fun i => (s.look i).holder = some st).map fun i =>
      noticeOf .lb (lookNotice .lookReleased (u8 i.val ++ u8 st.val ++ u8 2))) ∧
  (∀ q (i : LookIx) s w, (s.lb.covered i = true ∧ w = refuseOf .lb q .busy ∨
      s.lb.covered i = false ∧ ∃ h, (s.look i).holder = some h ∧ w = answerOf .lb q (.refused .held none (u8 h.val))) →
    ∃ t, exec (.holdLook q i.val) s = .next t ∧ onlyWire s t ∧ t.wire = s.wire ++ [w]) ∧
  (∀ (p : LookRec) (w : LookItems), (newLook p w).matrix = (match w.matrix with
      | .notCarried => p.matrix
      | .absent => none
      | .values m => some m) ∧
    (newLook p w).trim = (match w.trim with
      | .notCarried => p.trim
      | .absent => none
      | .values t => some t) ∧
    (newLook p w).curves = (match w.curves with
      | .notCarried => p.curves
      | .absent => none
      | .values v => some (v.map fun u => u.map fun n => min 4095 n)) ∧
    (w.enc = .notCarried → (newLook p w).enc = p.enc) ∧ (w.enc = .values 1 → (newLook p w).enc = .legal) ∧
    (w.enc = .values 2 → (newLook p w).enc = .full)) ∧
  (∀ i : Item (Vector (Vector Nat 33) 3), clampItem i ≠ i ↔
    ∃ v, i = .values v ∧ ∃ u ∈ v.toList, ∃ n ∈ u.toList, 4095 < n) ∧
  (∀ w : LookItems, lookItemsOk w = true ↔
    (∀ m, w.matrix = .values m → ∀ c ∈ m.toList, -4096 ≤ c ∧ c ≤ 4095) ∧
    (∀ t, w.trim = .values t → ∀ c ∈ t.toList, c.gain ≤ 4095 ∧ -2048 ≤ c.offset ∧ c.offset ≤ 2047) ∧
    (w.enc = .notCarried ∨ w.enc = .values 1 ∨ w.enc = .values 2) ∧
    ∀ n, w.name = some n → n.length ≤ 16 ∧ ∀ x ∈ n, 32 ≤ x ∧ x ≤ 126)

/-- Bank fills and camera defaults (R179 to R182). A fill of a range that no station holds takes IDENTITY or the active
look of its source slot, and writes one slot after another; one over a held slot is refused HELD, with the lowest such
slot and its holder (at the start of the operands, the model's choice, assumption 76); with the last one every slot of the
range gets the look and the next version at once, and FILL_DONE carries the new versions. A cancel leaves every active
look and version as it was. SET CAMERA LOOK replaces one letter's default, and is refused VALUE for a letter or a slot
that does not exist. That FILL_DONE carries the versions as a list with its count is the model's choice (assumption 104).
So is that FILL_STARTED carries the source slot as an optional field (assumption 118). -/
def Obligations.BankFills : Prop :=
  (∀ q first last preset s l f, first < 32 → last < 32 → first ≤ last → s.fillLook preset = some l → s.lb.fill = none →
    (∀ i : LookIx, first ≤ i.val → i.val ≤ last → (s.look i).holder = none) →
    f = { first := first, last := last, st := q.st, next := first, look := l, preset := preset, tok := s.token } →
    ∃ t, exec (.bankFill q first last preset) s = .next t ∧ onlyLb s t ∧ t.token = s.token + 1 ∧
      t.lb = { s.lb with fill := some f } ∧
      t.wire = s.wire ++ [acceptOf .lb q [], noticeOf .lb (lookNotice .lookFillStarted
        (u8 first ++ u8 last ++ fPreset preset ++ u8 q.st.val))]) ∧
  (∀ q first last preset s w, (32 ≤ first ∨ 32 ≤ last ∨ last < first ∨ s.fillLook preset = none) ∧
      w = refuseOf .lb q .value ∨
      first < 32 ∧ last < 32 ∧ first ≤ last ∧ s.fillLook preset ≠ none ∧ s.lb.fill ≠ none ∧ w = refuseOf .lb q .busy →
    ∃ t, exec (.bankFill q first last preset) s = .next t ∧ onlyWire s t ∧ t.wire = s.wire ++ [w]) ∧
  (∀ s f (i : LookIx), s.lb.fill = some f → f.next = i.val → f.next < f.last →
    ∃ t, exec (.fillSlotWriteDone f.tok) s = .next t ∧ onlyLb s t ∧ t.token = s.token + 1 ∧ t.wire = s.wire ∧
      t.look i = { s.look i with pending := some f.look } ∧ otherLooks i s t ∧ t.lb.defaults = s.lb.defaults ∧
      t.lb.fill = some { f with next := f.next + 1, tok := s.token }) ∧
  (∀ s f (i : LookIx), s.lb.fill = some f → f.next = i.val → f.next = f.last → f.first ≤ f.last →
    ∃ t, exec (.fillSlotWriteDone f.tok) s = .next t ∧ onlyLb s t ∧ t.token = s.token ∧ t.lb.fill = none ∧
      t.lb.defaults = s.lb.defaults ∧
      (∀ j : LookIx, t.look j = if f.first ≤ j.val ∧ j.val ≤ f.last then
        { s.look j with active := (if j = i then f.look else (s.look j).pending.getD (s.look j).active), pending := none
                        version := ((s.look j).version + 1) % 65536 } else s.look j) ∧
      t.wire = s.wire ++ [noticeOf .lb (lookNotice .lookFillDone (u8 f.first ++ u8 f.last ++ u8 f.st.val ++
        fList (fun j => u16 (((s.look j).version + 1) % 65536))
          ((List.finRange 32).filter fun j => f.first ≤ j.val && j.val ≤ f.last)))]) ∧
  (∀ tok s, (∀ f, s.lb.fill = some f → f.tok ≠ tok) → exec (.fillSlotWriteDone tok) s = .next s) ∧
  (∀ q s f, s.lb.fill = some f → ∃ t, exec (.cancelFill q) s = .next t ∧ onlyLb s t ∧ t.token = s.token ∧ t.lb.fill = none ∧
    t.lb.defaults = s.lb.defaults ∧
    (∀ j : LookIx, t.look j = if f.first ≤ j.val ∧ j.val ≤ f.last then { s.look j with pending := none } else s.look j) ∧
    t.wire = s.wire ++ [acceptOf .lb q [], noticeOf .lb (lookNotice .lookFillEnded
      (u8 f.first ++ u8 f.last ++ u8 1 ++ u8 (f.next - f.first)))]) ∧
  (∀ q s, s.lb.fill = none → ∃ t, exec (.cancelFill q) s = .next t ∧ onlyWire s t ∧
    t.wire = s.wire ++ [refuseStateOf .lb q .notFilling]) ∧
  (∀ q letter slot s l i vals, letterOf letter = some l → ix? 32 slot = some i →
    vals = u8 (s.lb.defaults[l]).val ++ u8 slot →
    ∃ t n, exec (.setCameraLook q letter slot) s = .next t ∧ onlyLb s t ∧ t.token = s.token ∧
      t.lb = { s.lb with defaults := upd s.lb.defaults l fun _ => i } ∧
      n = { lookNotice .lookCameraDefault vals with letter := some l } ∧
      t.wire = s.wire ++ [acceptOf .lb q vals, noticeOf .lb n]) ∧
  (∀ q first last preset s (i : LookIx) h, first < 32 → last < 32 → first ≤ i.val → i.val ≤ last →
    s.fillLook preset ≠ none → s.lb.fill = none → (s.look i).holder = some h →
    (∀ j : LookIx, first ≤ j.val → j.val < i.val → (s.look j).holder = none) →
    ∃ t, exec (.bankFill q first last preset) s = .next t ∧ onlyWire s t ∧
      t.wire = s.wire ++ [answerOf .lb q (.refused .held none (u8 i.val ++ u8 h.val))]) ∧
  (∀ q letter slot s, letterOf letter = none ∨ 32 ≤ slot →
    ∃ t, exec (.setCameraLook q letter slot) s = .next t ∧ onlyWire s t ∧ t.wire = s.wire ++ [refuseOf .lb q .value])

/-! ## Outputs (Section 10) -/

/-- SET ROUTE (R189, R190, R201). Items out of their sets are refused VALUE, and a rate another enabled member of the
group does not share RATE_MISMATCH. An accepted request applies its items, with the offset brought into −15 to +15, and
leaves the settings of the other outputs. An output that is disabled stops playing and drops and forgets all it holds, and
the others at its group's boundary event latch without it; one whose route leaves PLAYBACK stops playing. Changed LIVE
counts are reported; each clock follows its group's lead, and a running one stops, with its notice, when the group loses
its last member or its lead's rate changes, and each output's unsynced flag is judged (that a SET ROUTE judges the flags
of all four is the model's choice, assumption 47). That the acceptance and the notice leave out the clear-late flag is the
model's choice (assumption 110). -/
def Obligations.RoutesAreSet : Prop :=
  (∀ q n items s, 4 ≤ n ∨ routeItemsOk items = false →
    ∃ t, exec (.setRoute q n items) s = .next t ∧ onlyWire s t ∧ t.wire = s.wire ++ [refuseOf .ro q .value]) ∧
  (∀ q (k : Outp) items s o g j, o = (s.out k).withItems items → routeItemsOk items = true → o.enabled = true →
    o.group = some g → j ≠ k → (s.out j).enabled = true → (s.out j).group = some g → (s.out j).rate ≠ o.rate →
    ∃ t, exec (.setRoute q k.val items) s = .next t ∧ onlyWire s t ∧
      t.wire = s.wire ++ [refuseStateOf .ro q .rateMismatch]) ∧
  (∀ q (k : Outp) items s old o n, old = s.out k → o = old.withItems items → routeItemsOk items = true →
    (o.enabled = false ∨ ∀ g j, o.group = some g → j ≠ k → (s.out j).enabled = true → (s.out j).group = some g →
      (s.out j).rate = o.rate) → n = outNotice .outRouteSet k none (fSettings o) →
    ∃ t, exec (.setRoute q k.val items) s = .next t ∧ onlyRo s t ∧ t.token = s.token ∧
      (t.out k).settings = (items.enabled.getD old.enabled, items.rate.getD old.rate,
        (items.route.bind routeOf).getD old.route, (items.override_.map fun x => x.bind (ix? 32)).getD old.override_,
        (items.miss.bind missOf).getD old.miss, (items.group.map groupOf).getD old.group,
        (items.offset.map fun v => min 15 (max (-15) v)).getD old.offset) ∧
      (t.out k).late = (if items.clearLate then 0 else old.late) ∧
      (∀ j, j ≠ k → (t.out j).settings = (s.out j).settings ∧ (t.out j).play = (s.out j).play ∧
        (t.out j).late = (s.out j).late) ∧
      s.wire <+: t.wire ∧
      [answerOf .ro q (.accepted (items.offset.any fun v => v < -15 || 15 < v) (fSettings o)), noticeOf .ro n] <:+ t.wire ∧
      (old.enabled = true → o.enabled = false → (t.out k).play = .stopped ∧ (t.out k).current = none ∧
        (t.out k).latched = none ∧ (t.out k).store = none ∧ (t.out k).pins = none ∧ (t.out k).bnd = none ∧
        ⟨.ro, .pp, .dropAll k⟩ ∈ t.wire) ∧
      (∀ b g js, old.enabled = true → o.enabled = false → old.bnd = some b → b.grp = some g →
        js = (s.taking g b.event).filter (fun j => j ≠ k) → js ≠ [] → (∀ j ∈ js, (s.out j).readySlot ≠ none) →
        ⟨.ro, .lb, .latchRead (js.map fun j =>
          (j, ((s.out j).bnd.map (·.tok)).getD 0, (s.out j).readySlot.getD 0))⟩ ∈ t.wire) ∧
      (old.route = .playback → o.route ≠ .playback → (t.out k).play = .stopped) ∧
      (∀ c, t.liveCount c ≠ s.liveCount c → ⟨.ro, .pp, .liveCountReport c (t.liveCount c)⟩ ∈ t.wire) ∧
      (∀ g, t.members g = [] → t.clock g = {} ∧
        ((s.clock g).running = true → noticeOf .ro (groupNotice g ⟨0, 0, 0, 0⟩ .stopped) ∈ t.wire)) ∧
      (∀ g m ms, t.members g = m :: ms → (t.clock g).lead = some m ∧ (t.clock g).rate = some (t.out m).rate ∧
        ((s.clock g).rate = (t.clock g).rate → (t.clock g).tc = (s.clock g).tc ∧
          (t.clock g).running = (s.clock g).running) ∧
        ((s.clock g).running = true → (s.clock g).rate ≠ (t.clock g).rate →
          t.clock g = { rate := some (t.out m).rate, lead := some m } ∧
          noticeOf .ro (groupNotice g ⟨0, 0, 0, 0⟩ .stopped) ∈ t.wire)) ∧
      ∀ j g c, (t.out j).group = some g → (t.out j).clip = some c →
        ((t.out j).unsynced = true ↔ (t.clock g).rate ≠ some c.rate ∨ tcValid c.rate c.start = false)) ∧
  (∀ (s : State) g c, c = s.clock g → s.members g = [] → s.updateClock g =
    { s with ro := { s.ro with clocks := upd s.ro.clocks g fun _ => {} }
             wire := s.wire ++ if c.running then [noticeOf .ro (groupNotice g ⟨0, 0, 0, 0⟩ .stopped)] else [] }) ∧
  (∀ (s : State) g c m ms r, c = s.clock g → s.members g = m :: ms → r = (s.out m).rate → c.running = true →
    c.rate ≠ some r → s.updateClock g =
    { s with ro := { s.ro with clocks := upd s.ro.clocks g fun _ => { rate := some r, lead := some m } }
             wire := s.wire ++ [noticeOf .ro (groupNotice g ⟨0, 0, 0, 0⟩ .stopped)] }) ∧
  (∀ (s : State) g c m ms r, c = s.clock g → s.members g = m :: ms → r = (s.out m).rate →
    c.running = false ∨ c.rate = some r → s.updateClock g =
    { s with ro := { s.ro with clocks := upd s.ro.clocks g fun _ => { c with rate := some r, lead := some m } } })

/-- Frame boundaries (R191 to R194, R196). An output that is disabled, in a group or still at its boundary before takes
none of its own. At each it sends its frame store, or code 64 where there is none. NONE is a miss and PATTERN the
pattern, LIVE asks the pool for the newest plane, and PLAYBACK plays by position: the frame wanted is shown if it is
PLACED, and otherwise late and a miss. The last frame, an entry beyond the end and one that cannot be read end the
playback. The selection moves the prefetch window, and the list is brought up to date: entries outside the window are
dropped, or LATE while their answers are awaited, and frames of the window with none are fetched, three at most awaited.
That a boundary is not taken while one is open, that the position stays at a last frame, and which boundary releases a
pattern's slot are the model's choice (assumptions 42, 44 and 48). So is the sequence number 0 of a slot that came from
playback (assumption 80). A current slot that a miss makes absent, under NONE and PLAYBACK, or that the frame shown
replaces, is put on the list of slots to release, and stays on it until the release step; one of a playback that ends
for its data is dropped at once (R192, R193, R199). -/
def Obligations.FrameBoundaries : Prop :=
  ((∀ k s, (s.out k).enabled = false ∨ (s.out k).group ≠ none ∨ (s.out k).bnd ≠ none →
    exec (.frameBoundary k) s = .next s) ∧
  (∀ k s o, o = s.out k → o.enabled = true → o.group = none → o.bnd = none →
    ∃ t, ∃ u : State, exec (.frameBoundary k) s = .next t ∧ t = (u.updatePrefetch k).tryLatch k ∧ onlyRo s t ∧
      t.token = s.token + 1 ∧ otherOuts k s t ∧ t.ro.clocks = s.ro.clocks ∧
      (t.out k).pins = some (o.store.getD (flatFrame 64)) ∧ (t.out k).store = o.store ∧
      (t.out k).latched = o.latched ∧ (t.out k).settings = o.settings ∧
      (o.route = .none ∨ o.route = .playback ∧ (o.play = .stopped ∨ o.current = none ∧
      (o.play = .paused ∨ o.play = .ended)) →
        (t.out k).current = none ∧ (t.out k).pos = o.pos ∧ (t.out k).late = o.late ∧ (t.out k).play = o.play ∧
        (u.out k).bnd = some { tok := s.token, grp := none, event := s.token, sel := .miss, stage := .ready (missSlot o) } ∧
        (u.out k).prefetch = o.prefetch ∧ u.wire = s.wire) ∧
      (o.route = .pattern → (t.out k).current = o.current ∧
        (u.out k).bnd = some { tok := s.token, grp := none, event := s.token, sel := .pattern, stage := .ready (missSlot o) } ∧
        (u.out k).prefetch = o.prefetch ∧ u.wire = s.wire) ∧
      (∀ c, o.route = .live c → (t.out k).current = o.current ∧
        (u.out k).bnd = some { tok := s.token, grp := none, event := s.token, sel := .miss, stage := .pool c } ∧
        (u.out k).prefetch = o.prefetch ∧ u.wire = s.wire ++ [⟨.ro, .pp, .takeNewest k c s.token⟩]) ∧
      (∀ c, o.route = .playback → o.play = .paused ∨ o.play = .ended → o.current = some c →
        (t.out k).current = some c ∧ (t.out k).pos = o.pos ∧ (t.out k).late = o.late ∧
        (u.out k).bnd = some { tok := s.token, grp := none, event := s.token, sel := .plane, stage := planeStage o } ∧
        (u.out k).prefetch = o.prefetch ∧ u.wire = s.wire ++ planeLookup k s.token o c.hdr.clip) ∧
      (∀ c slot hdr, o.route = .playback → o.play = .playing → o.clip = some c →
        o.statusOf o.pos = some (.placed slot hdr) →
        (t.out k).current = some { slot := slot, hdr := hdr, src := .playback k, seq := 0, frame := o.pos } ∧
        (t.out k).late = o.late ∧
        (o.pos + 1 ≠ c.frames → (t.out k).play = .playing ∧ (t.out k).pos = min 16777215 (o.pos + 1) ∧
          (u.out k).bnd = some { tok := s.token, grp := none, event := s.token, sel := .plane, stage := planeStage o } ∧
          (u.out k).prefetch = (o.prefetch.filter fun e => e.frame ≠ o.pos) ∧
          u.wire = s.wire ++ planeLookup k s.token o hdr.clip) ∧
        (o.pos + 1 = c.frames → (t.out k).play = .ended ∧ (t.out k).why = some .lastFrame ∧ (t.out k).prefetch = [] ∧
          ⟨.ro, .fx, .playbackCancel k⟩ ∈ t.wire ∧
          noticeOf .ro (outNotice .outEnded k (some c) (fNamed PlayEnd.lastFrame.ctorIdx)) ∈ t.wire)) ∧
      (∀ c, o.route = .playback → o.play = .playing → o.clip = some c →
        (∀ st, o.statusOf o.pos = some st → st ≠ .beyondEnd ∧ st ≠ .unparsable ∧ ∀ slot hdr, st ≠ .placed slot hdr) →
        (t.out k).current = none ∧ (t.out k).late = min 65535 (o.late + 1) ∧
        (o.pos + 1 ≠ c.frames → (t.out k).play = .playing ∧ (t.out k).pos = min 16777215 (o.pos + 1) ∧
          (u.out k).bnd = some { tok := s.token, grp := none, event := s.token, sel := .miss, stage := .ready (missSlot o) } ∧
          (u.out k).prefetch = (o.prefetch.filterMap fun e =>
            if e.frame = o.pos ∧ (e.status = .noPlane ∨ e.status = .noSlot ∨ e.status = .failed) then none
            else if e.frame = o.pos ∧ e.status = .requested then some { e with status := .late } else some e) ∧
          u.wire = s.wire) ∧
        (o.pos + 1 = c.frames → (t.out k).play = .ended ∧ (t.out k).why = some .lastFrame)) ∧
      ∀ c st why, o.route = .playback → o.play = .playing → o.clip = some c → o.statusOf o.pos = some st →
        st = .beyondEnd ∧ why = PlayEnd.dataEnd ∨ st = .unparsable ∧ why = .unparsable →
        (t.out k).play = .ended ∧ (t.out k).why = some why ∧ (t.out k).current = none ∧ (t.out k).prefetch = [] ∧
        (t.out k).late = o.late ∧ noticeOf .ro (outNotice .outEnded k (some c) (fNamed why.ctorIdx)) ∈ t.wire) ∧
  (∀ (s : State) k o w kept ns, o = s.out k → w = s.window k →
    kept = ((o.prefetch.map fun e => if e.status = .requested ∧ e.frame ∉ w then { e with status := .late } else e).filter
      fun e => e.status = .late ∨ e.frame ∈ w) →
    ns = (w.filter fun n => ∀ e ∈ kept, e.frame ≠ n).take (3 - (kept.filter fun e => e.status = .requested ∨
      e.status = .late).length) →
    outBecomes k { o with prefetch := ns.foldl (fun l n => insertPrefetch
      { frame := n, run := o.run, src := o.src, status := .requested } l) kept } s (s.updatePrefetch k) ∧
    (s.updatePrefetch k).token = s.token ∧
    (s.updatePrefetch k).wire = s.wire ++
      ((o.prefetch.filter fun e => e.frame ∉ w).filterMap (·.slot?)).map (fun n => ⟨.ro, .pp, .slotDrop k n⟩) ++
      ns.map fun n => ⟨.ro, .fx, .fetch k o.run n⟩) ∧
  (∀ (s : State) k o c, o = s.out k → o.clip = some c → o.play = .playing ∨ o.play = .paused → o.group = none →
    s.window k = [o.pos, o.pos + 1, o.pos + 2].filter fun n => n < c.frames) ∧
  (∀ (s : State) k o, o = s.out k → o.clip = none ∨ o.play = .stopped ∨ o.play = .ended → s.window k = []) ∧
  ∀ (s : State) k b, (s.out k).bnd = some b → b.grp = none →
    (∀ i, b.stage = .ready i →
      outBecomes k { s.out k with bnd := some { b with stage := .latching } } s (s.tryLatch k) ∧
      (s.tryLatch k).token = s.token ∧ (s.tryLatch k).wire = s.wire ++ [⟨.ro, .lb, .latchRead [(k, b.tok, i)]⟩]) ∧
    ((∀ i, b.stage ≠ .ready i) → s.tryLatch k = s)) ∧
  (∀ k s o, o = s.out k → o.enabled = true → o.group = none → o.bnd = none →
    ∃ t, exec (.frameBoundary k) s = .next t ∧
      (o.route = .none ∨ o.route = .playback ∧ (o.play = .stopped ∨
          o.current = none ∧ (o.play = .paused ∨ o.play = .ended) ∨
          o.play = .playing ∧ o.statusOf o.pos ≠ some .beyondEnd ∧ o.statusOf o.pos ≠ some .unparsable) →
        (t.out k).stale = o.stale ++ (o.current.map (·.slot)).toList) ∧
      (o.route = .playback → o.play = .playing →
        o.statusOf o.pos = some .beyondEnd ∨ o.statusOf o.pos = some .unparsable →
        (t.out k).stale = o.stale ∧ ∀ x, o.current = some x → ⟨.ro, .pp, .slotDrop k x.slot⟩ ∈ t.wire) ∧
      (o.route = .pattern ∨ (∃ c, o.route = .live c) ∨
          o.route = .playback ∧ o.current ≠ none ∧ (o.play = .paused ∨ o.play = .ended) →
        (t.out k).stale = o.stale))

/-- Group boundaries (R191, R201). The members take one event, before which the clock is stepped: a first flag keeps the
timecode once, and a running clock takes its next timecode. A synced member that plays or pauses shows the frame of its
clip at the group timecode plus its offset: a miss outside the clip, the slot if it is PLACED, and otherwise a miss that
is late while the clock runs; its position becomes the one after that frame. A member STOPPED, or ENDED with no current
slot, or routed NONE, shows a miss; one ENDED with a current slot shows that; one routed PATTERN shows the pattern, and
one routed LIVE asks the pool for the newest plane; an unsynced member plays by its own position. The windows of the
members are then brought up to date: three frames of the clip from the one wanted at the next group boundary, or, of an
unsynced member, from its own position. That a boundary is not taken while a member's is open, that a current slot
counts for the frame only when it is of the clip played, and the position after a boundary that ends the playback are
the model's choice (assumptions 42, 44, 45 and 46). So are that a PLACED entry leaves the list when its slot is selected
(assumption 79) and the sequence number 0 of a slot that came from playback (assumption 80). The replaced slots of the
members go to their release lists by the same rules. A group whose members are all ready at the boundary sends its one
latch read, and otherwise waits (R192): `State.latchAll` does nothing while a member of its list is not ready, and else
sends one read of them all, in ascending output, and sets each to latching. -/
def Obligations.GroupBoundaries : Prop :=
  ((∀ g s, s.members g = [] ∨ (∃ k ∈ s.members g, (s.out k).bnd ≠ none) → exec (.groupBoundary g) s = .next s) ∧
  (∀ g s c, c = s.clock g → s.members g ≠ [] → (∀ k ∈ s.members g, (s.out k).bnd = none) →
    ∃ t, ∃ u : State, exec (.groupBoundary g) s = .next t ∧ onlyRo s t ∧ t.token = s.token + (s.members g).length ∧
      t = ((s.members g).foldl (fun v k => v.updatePrefetch k) u).latchAll (s.members g) ∧
      (∀ h, h ≠ g → t.clock h = s.clock h) ∧
      (c.running = false → t.clock g = c) ∧
      (c.running = true → c.first = true → t.clock g = { c with first := false }) ∧
      (∀ r, c.running = true → c.first = false → c.rate = some r → t.clock g = { c with tc := tcNext r c.tc }) ∧
      (∀ k, k ∉ s.members g → t.out k = s.out k) ∧
      (∀ k, k ∈ s.members g → (t.out k).pins = some ((s.out k).store.getD (flatFrame 64)) ∧
        ∃ b, (t.out k).bnd = some b ∧ b.grp = some g ∧ b.event = s.token) ∧
      ∀ k o x r n, k ∈ s.members g → o = s.out k → o.route = .playback → o.group = some g → o.unsynced = false →
        o.play = .playing ∨ o.play = .paused → o.clip = some x → c.rate = some r →
        n = tcDiff r (tcPlus r (t.clock g).tc o.offset) x.start →
        (t.out k).pos = min 16777215 (n + 1) ∧
        (x.frames ≤ n → (t.out k).current = none ∧ (t.out k).late = o.late ∧ (t.out k).play = o.play) ∧
        (∀ cur, n < x.frames → o.current = some cur → cur.frame = n → cur.src = .playback k → cur.hdr.clip = x.clip →
          (t.out k).current = some cur ∧ (t.out k).late = o.late) ∧
        (n < x.frames → (∀ cur, o.current = some cur → ¬(cur.frame = n ∧ cur.src = .playback k ∧ cur.hdr.clip = x.clip)) →
          (∀ slot hdr, o.statusOf n = some (.placed slot hdr) →
            (t.out k).current = some { slot := slot, hdr := hdr, src := .playback k, seq := 0, frame := n } ∧
            (t.out k).late = o.late) ∧
          (∀ st, o.statusOf n = some st → st = .beyondEnd ∨ st = .unparsable →
            (t.out k).play = .ended ∧ (t.out k).current = none ∧ (t.out k).late = o.late) ∧
          ((∀ st, o.statusOf n = some st → st ≠ .beyondEnd ∧ st ≠ .unparsable ∧ ∀ slot hdr, st ≠ .placed slot hdr) →
            (t.out k).current = none ∧ (t.out k).play = o.play ∧
            (t.out k).late = if c.running then min 65535 (o.late + 1) else o.late))) ∧
  (∀ g s k o, (∀ j ∈ s.members g, (s.out j).bnd = none) → k ∈ s.members g → o = s.out k →
    o.route = .none ∨ o.route = .playback ∧ (o.play = .stopped ∨
      o.current = none ∧ (o.play = .ended ∨ o.unsynced = true ∧ o.play = .paused)) →
    ∃ t, ∃ u : State, ∃ b, exec (.groupBoundary g) s = .next t ∧
      t = ((s.members g).foldl (fun v k => v.updatePrefetch k) u).latchAll (s.members g) ∧
      (u.out k).bnd = some b ∧ b.grp = some g ∧ b.sel = .miss ∧ b.stage = .ready (missSlot o) ∧
      (t.out k).current = none ∧ (t.out k).pos = o.pos ∧ (t.out k).late = o.late ∧ (t.out k).play = o.play ∧
      (u.out k).prefetch = o.prefetch) ∧
  (∀ g s k o, (∀ j ∈ s.members g, (s.out j).bnd = none) → k ∈ s.members g → o = s.out k →
    o.route = .pattern →
    ∃ t, ∃ u : State, ∃ b, exec (.groupBoundary g) s = .next t ∧
      t = ((s.members g).foldl (fun v k => v.updatePrefetch k) u).latchAll (s.members g) ∧
      (u.out k).bnd = some b ∧ b.grp = some g ∧ b.sel = .pattern ∧ b.stage = .ready (missSlot o) ∧
      (t.out k).current = o.current ∧ (t.out k).pos = o.pos ∧ (t.out k).late = o.late ∧ (t.out k).play = o.play ∧
      (u.out k).prefetch = o.prefetch) ∧
  (∀ g s k o c, (∀ j ∈ s.members g, (s.out j).bnd = none) → k ∈ s.members g → o = s.out k →
    o.route = .live c →
    ∃ t, ∃ u : State, ∃ b, exec (.groupBoundary g) s = .next t ∧
      t = ((s.members g).foldl (fun v k => v.updatePrefetch k) u).latchAll (s.members g) ∧
      (u.out k).bnd = some b ∧ b.grp = some g ∧ b.stage = .pool c ∧ (t.out k).current = o.current ∧
      (t.out k).pos = o.pos ∧ (t.out k).late = o.late ∧ (t.out k).play = o.play ∧ (u.out k).prefetch = o.prefetch ∧
      ⟨.ro, .pp, .takeNewest k c b.tok⟩ ∈ t.wire) ∧
  (∀ g s k o c, (∀ j ∈ s.members g, (s.out j).bnd = none) → k ∈ s.members g → o = s.out k →
    o.route = .playback → o.play = .ended ∨ o.unsynced = true ∧ o.play = .paused → o.current = some c →
    ∃ t, ∃ u : State, ∃ b, exec (.groupBoundary g) s = .next t ∧
      t = ((s.members g).foldl (fun v k => v.updatePrefetch k) u).latchAll (s.members g) ∧
      (u.out k).bnd = some b ∧ b.grp = some g ∧ b.sel = .plane ∧ b.stage = planeStage o ∧
      (t.out k).current = some c ∧ (t.out k).pos = o.pos ∧ (t.out k).late = o.late ∧ (t.out k).play = o.play ∧
      (u.out k).prefetch = o.prefetch ∧
      planeLookup k b.tok o c.hdr.clip ⊆ t.wire) ∧
  (∀ g s k o c slot hdr, (∀ j ∈ s.members g, (s.out j).bnd = none) → k ∈ s.members g → o = s.out k →
    o.route = .playback → o.unsynced = true → o.play = .playing → o.clip = some c →
    o.statusOf o.pos = some (.placed slot hdr) →
    ∃ t, ∃ u : State, ∃ b, exec (.groupBoundary g) s = .next t ∧
      t = ((s.members g).foldl (fun v k => v.updatePrefetch k) u).latchAll (s.members g) ∧
      (u.out k).bnd = some b ∧ b.grp = some g ∧ b.sel = .plane ∧ b.stage = planeStage o ∧
      (t.out k).current = some { slot := slot, hdr := hdr, src := .playback k, seq := 0, frame := o.pos } ∧
      (t.out k).late = o.late ∧ planeLookup k b.tok o hdr.clip ⊆ t.wire ∧
      (o.pos + 1 ≠ c.frames → (t.out k).play = .playing ∧ (t.out k).pos = min 16777215 (o.pos + 1) ∧
        (u.out k).prefetch = o.prefetch.filter fun e => e.frame ≠ o.pos) ∧
      (o.pos + 1 = c.frames → (t.out k).play = .ended ∧ (t.out k).why = some .lastFrame ∧ (t.out k).prefetch = [] ∧
        noticeOf .ro (outNotice .outEnded k (some c) (fNamed PlayEnd.lastFrame.ctorIdx)) ∈ t.wire)) ∧
  (∀ g s k o c, (∀ j ∈ s.members g, (s.out j).bnd = none) → k ∈ s.members g → o = s.out k →
    o.route = .playback → o.unsynced = true → o.play = .playing → o.clip = some c →
    (∀ st, o.statusOf o.pos = some st → st ≠ .beyondEnd ∧ st ≠ .unparsable ∧ ∀ slot hdr, st ≠ .placed slot hdr) →
    ∃ t, ∃ u : State, ∃ b, exec (.groupBoundary g) s = .next t ∧
      t = ((s.members g).foldl (fun v k => v.updatePrefetch k) u).latchAll (s.members g) ∧
      (u.out k).bnd = some b ∧ b.grp = some g ∧ b.sel = .miss ∧ b.stage = .ready (missSlot o) ∧
      (t.out k).current = none ∧ (t.out k).late = min 65535 (o.late + 1) ∧
      (o.pos + 1 ≠ c.frames → (t.out k).play = .playing ∧ (t.out k).pos = min 16777215 (o.pos + 1)) ∧
      (o.pos + 1 = c.frames → (t.out k).play = .ended ∧ (t.out k).why = some .lastFrame)) ∧
  (∀ g s k o c st why, (∀ j ∈ s.members g, (s.out j).bnd = none) → k ∈ s.members g → o = s.out k →
    o.route = .playback → o.unsynced = true → o.play = .playing → o.clip = some c → o.statusOf o.pos = some st →
    st = .beyondEnd ∧ why = PlayEnd.dataEnd ∨ st = .unparsable ∧ why = .unparsable →
    ∃ t, ∃ u : State, ∃ b, exec (.groupBoundary g) s = .next t ∧
      t = ((s.members g).foldl (fun v k => v.updatePrefetch k) u).latchAll (s.members g) ∧
      (u.out k).bnd = some b ∧ b.grp = some g ∧ b.sel = .miss ∧ b.stage = .ready (missSlot o) ∧
      (t.out k).play = .ended ∧ (t.out k).why = some why ∧ (t.out k).current = none ∧ (t.out k).prefetch = [] ∧
      (t.out k).late = o.late ∧ noticeOf .ro (outNotice .outEnded k (some c) (fNamed why.ctorIdx)) ∈ t.wire) ∧
  (∀ (s : State) k o c g r next m, o = s.out k → o.clip = some c → o.play = .playing ∨ o.play = .paused →
    o.group = some g → o.unsynced = false → (s.clock g).rate = some r →
    next = (if (s.clock g).running = true ∧ (s.clock g).first = false then tcNext r (s.clock g).tc else (s.clock g).tc) →
    m = tcDiff r (tcPlus r next o.offset) c.start →
    s.window k = [m, m + 1, m + 2].filter fun n => n < c.frames) ∧
  (∀ (s : State) k o c g, o = s.out k → o.clip = some c → o.play = .playing ∨ o.play = .paused →
    o.group = some g → o.unsynced = true → s.window k = [o.pos, o.pos + 1, o.pos + 2].filter fun n => n < c.frames)) ∧
  (∀ g s k o, (∀ j ∈ s.members g, (s.out j).bnd = none) → k ∈ s.members g → o = s.out k →
    ∃ t, exec (.groupBoundary g) s = .next t ∧
      (o.route = .none ∨ o.route = .playback ∧ (o.play = .stopped ∨ o.current = none ∧ o.play = .ended ∨
          o.unsynced = true ∧ (o.current = none ∧ o.play = .paused ∨
            o.play = .playing ∧ o.statusOf o.pos ≠ some .beyondEnd ∧ o.statusOf o.pos ≠ some .unparsable)) →
        (t.out k).stale = o.stale ++ (o.current.map (·.slot)).toList) ∧
      (o.route = .playback → o.unsynced = true → o.play = .playing →
        o.statusOf o.pos = some .beyondEnd ∨ o.statusOf o.pos = some .unparsable →
        (t.out k).stale = o.stale ∧ ∀ x, o.current = some x → ⟨.ro, .pp, .slotDrop k x.slot⟩ ∈ t.wire) ∧
      (o.route = .pattern ∨ (∃ c, o.route = .live c) ∨
          o.route = .playback ∧ o.current ≠ none ∧ (o.play = .ended ∨ o.unsynced = true ∧ o.play = .paused) →
        (t.out k).stale = o.stale) ∧
      ∀ x r n, o.route = .playback → o.unsynced = false → o.play = .playing ∨ o.play = .paused → o.clip = some x →
        (s.clock g).rate = some r → n = tcDiff r (tcPlus r (t.clock g).tc o.offset) x.start →
        (x.frames ≤ n → (t.out k).stale = o.stale ++ (o.current.map (·.slot)).toList) ∧
        (∀ cur, n < x.frames → o.current = some cur → cur.frame = n → cur.src = .playback k → cur.hdr.clip = x.clip →
          (t.out k).stale = o.stale) ∧
        (n < x.frames → (∀ cur, o.current = some cur → ¬(cur.frame = n ∧ cur.src = .playback k ∧ cur.hdr.clip = x.clip)) →
          (o.statusOf n = some .beyondEnd ∨ o.statusOf n = some .unparsable →
            (t.out k).stale = o.stale ∧ ∀ y, o.current = some y → ⟨.ro, .pp, .slotDrop k y.slot⟩ ∈ t.wire) ∧
          (o.statusOf n ≠ some .beyondEnd → o.statusOf n ≠ some .unparsable →
            (t.out k).stale = o.stale ++ (o.current.map (·.slot)).toList))) ∧
  (∀ (o : Output) i, o.readySlot = some i ↔ ∃ b, o.bnd = some b ∧ b.stage = .ready i) ∧
  (∀ (s : State) ks,
    (ks = [] ∨ (∃ k ∈ ks, (s.out k).readySlot = none) → s.latchAll ks = s) ∧
    (ks ≠ [] → (∀ k ∈ ks, (s.out k).readySlot ≠ none) → ∃ t, s.latchAll ks = t ∧ onlyRo s t ∧ t.token = s.token ∧
      t.ro.clocks = s.ro.clocks ∧ (∀ k, k ∉ ks → t.out k = s.out k) ∧
      (∀ k ∈ ks, ∀ b, (s.out k).bnd = some b → t.out k = { s.out k with bnd := some { b with stage := .latching } }) ∧
      t.wire = s.wire ++ [⟨.ro, .lb, .latchRead (ks.map fun k =>
        (k, ((s.out k).bnd.map (·.tok)).getD 0, (s.out k).readySlot.getD 0))⟩])) ∧
  (∀ g s ks, ks = s.members g → ks ≠ [] → (∀ k ∈ ks, (s.out k).bnd = none) →
    ((∀ k ∈ ks, (s.out k).route = .none ∨ (s.out k).route = .pattern) →
      ∃ t, exec (.groupBoundary g) s = .next t ∧ (∀ k ∈ ks, ∃ b, (t.out k).bnd = some b ∧ b.stage = .latching) ∧
        [⟨.ro, .lb, .latchRead (ks.zipIdx.map fun x => (x.1, s.token + x.2, missSlot (s.out x.1)))⟩] <:+ t.wire) ∧
    ((∃ k ∈ ks, ∃ c, (s.out k).route = .live c) →
      ∃ t, exec (.groupBoundary g) s = .next t ∧ (∀ k ∈ ks, ∀ b, (t.out k).bnd = some b → b.stage ≠ .latching) ∧
        ∀ w ∈ t.wire.drop s.wire.length, ∀ l, w.msg ≠ .latchRead l))

/-- Choosing, latching and rendering (R192 to R194). A newer plane becomes the current slot, and the one before it waits
for the release; with none the plane of the same channel stays, or the boundary is a miss. The effective slot is the
override, or the look slot of the plane's clip, slot 0 where its id is free. The members of a group that are at one
boundary event latch together, once all are ready, and none waits for an output that is still at an earlier event. The
latched look renders the frame, and every slot that has been replaced is dropped. That a sequence number counts only for
a plane of the same channel, and when a pattern's slot is released, are the model's choice (assumptions 45 and 48). A
member that becomes ready by the pool's answer sends the group's one latch read if it is the last to become so, and
otherwise waits; one that has taken a plane and has no override asks the Catalog first. A latch answer with an old
token, or for an output that is not latching, changes nothing of it. -/
def Obligations.LatchAndRender : Prop :=
  ((∀ k tok got s, (∀ b c, (s.out k).bnd = some b → b.tok = tok → b.stage ≠ .pool c) →
    exec (.takeNewestAnswer k tok got) s = .next s) ∧
  (∀ k s o b c, o = s.out k → o.bnd = some b → b.stage = .pool c →
    (∀ x pass, o.current = some x → x.src = .live c pass → ∃ t, exec (.takeNewestAnswer k b.tok none) s = .next t ∧
      onlyRo s t ∧ (t.out k).current = some x ∧ (t.out k).stale = o.stale ∧
      (b.grp = none → otherOuts k s t ∧ t.wire = s.wire ++ [lookRequest k b.tok o x.hdr.clip])) ∧
    ((∀ x pass, o.current = some x → x.src ≠ .live c pass) → ∃ t, exec (.takeNewestAnswer k b.tok none) s = .next t ∧
      onlyRo s t ∧ (t.out k).current = none ∧ (t.out k).stale = o.stale ++ (o.current.map (·.slot)).toList ∧
      (b.grp = none → otherOuts k s t ∧ t.wire = s.wire ++ [missRequest k b.tok o])) ∧
    (∀ n hdr x pass, o.current = some x → x.src = .live c pass →
      ∃ t, exec (.takeNewestAnswer k b.tok (some (n, hdr, x.seq))) s = .next t ∧ onlyRo s t ∧
        (t.out k).current = some x ∧ (t.out k).stale = o.stale) ∧
    ∀ n hdr seq, (∀ x pass, o.current = some x → x.src = .live c pass → x.seq ≠ seq) →
      ∃ t x, exec (.takeNewestAnswer k b.tok (some (n, hdr, seq))) s = .next t ∧ onlyRo s t ∧
        (t.out k).current = some x ∧ x.slot = n ∧ x.hdr = hdr ∧ x.seq = seq ∧
        (t.out k).stale = o.stale ++ (o.current.map (·.slot)).toList ∧
        (b.grp = none → otherOuts k s t ∧ t.wire = s.wire ++ [lookRequest k b.tok o hdr.clip])) ∧
  (∀ k tok rec s, (∀ b, (s.out k).bnd = some b → b.tok = tok → b.stage ≠ .lookup) →
    exec (.boundaryLookupAnswer k tok rec) s = .next s) ∧
  (∀ k s b rec i, (s.out k).bnd = some b → b.stage = .lookup → i = (match rec with | some c => c.look | none => 0) →
    (b.grp = none → ∃ t, exec (.boundaryLookupAnswer k b.tok rec) s = .next t ∧ t.token = s.token ∧
      outBecomes k { s.out k with bnd := some { b with stage := .latching } } s t ∧
      t.wire = s.wire ++ [⟨.ro, .lb, .latchRead [(k, b.tok, i)]⟩]) ∧
    (∀ g j, b.grp = some g → j ≠ k → j ∈ s.taking g b.event → (s.out j).readySlot = none →
      ∃ t, exec (.boundaryLookupAnswer k b.tok rec) s = .next t ∧ t.token = s.token ∧
        outBecomes k { s.out k with bnd := some { b with stage := .ready i } } s t ∧ t.wire = s.wire) ∧
    ∀ g, b.grp = some g → (∀ j ∈ s.taking g b.event, j ≠ k → (s.out j).readySlot ≠ none) →
      ∃ t, exec (.boundaryLookupAnswer k b.tok rec) s = .next t ∧ onlyRo s t ∧
        t.wire = s.wire ++ [⟨.ro, .lb, .latchRead ((s.taking g b.event).map fun j =>
          (j, ((s.out j).bnd.map (·.tok)).getD 0, if j = k then i else (s.out j).readySlot.getD 0))⟩]) ∧
  (∀ outs s, (outs.map (·.1)).Nodup → ∃ t, exec (.latchAnswer outs) s = .next t ∧ onlyRo s t ∧ t.ro.clocks = s.ro.clocks ∧
    (∀ k, k ∉ outs.map (·.1) → t.out k = s.out k) ∧
    ∀ k slot version l o b store, o = s.out k → (k, b.tok, slot, version, l) ∈ outs → o.bnd = some b → b.stage = .latching →
      ((∃ x, b.sel = .plane ∧ o.current = some x ∧ store = (planeSamples (s.planeOf x.slot)).map (renderSample l)) ∨
        b.sel = .pattern ∧ store = patternFrame l.enc ∨
        b.sel = .miss ∧ store = missFrame o.miss l.enc o.store) →
      (t.out k).latched = some { slot := slot, version := version, look := l } ∧ (t.out k).store = some store ∧
      (t.out k).bnd = none ∧ (t.out k).pins = o.pins ∧ (t.out k).stale = [] ∧
      (b.sel ≠ .pattern ∨ o.patternHeld = false → (t.out k).current = o.current) ∧
      ∀ n ∈ o.stale, ⟨.ro, .pp, .slotDrop k n⟩ ∈ t.wire) ∧
  (∀ (s : State) g n j, j ∈ s.taking g n ↔ ∃ b, (s.out j).bnd = some b ∧ b.grp = some g ∧ b.event = n)) ∧
  (∀ k s o b c g got i, o = s.out k → o.bnd = some b → b.stage = .pool c → b.grp = some g →
    got = none ∧ (∀ x pass, o.current = some x → x.src ≠ .live c pass) ∧ i = missSlot o ∨ o.override_ = some i →
    ((∃ j ∈ s.taking g b.event, j ≠ k ∧ (s.out j).readySlot = none) →
      ∃ t, exec (.takeNewestAnswer k b.tok got) s = .next t ∧ onlyRo s t ∧ otherOuts k s t ∧
        (t.out k).readySlot = some i ∧ t.wire = s.wire) ∧
    ((∀ j ∈ s.taking g b.event, j ≠ k → (s.out j).readySlot ≠ none) →
      ∃ t, exec (.takeNewestAnswer k b.tok got) s = .next t ∧ onlyRo s t ∧
        (∀ j, j ∉ s.taking g b.event → t.out j = s.out j) ∧
        (∀ j ∈ s.taking g b.event, ∃ x, (t.out j).bnd = some x ∧ x.stage = .latching) ∧
        t.wire = s.wire ++ [⟨.ro, .lb, .latchRead ((s.taking g b.event).map fun j =>
          (j, ((s.out j).bnd.map (·.tok)).getD 0, if j = k then i else (s.out j).readySlot.getD 0))⟩])) ∧
  (∀ k s o b c got clip, o = s.out k → o.bnd = some b → b.stage = .pool c → o.override_ = none →
    ((∃ x pass, o.current = some x ∧ x.src = .live c pass ∧ clip = x.hdr.clip ∧
        (got = none ∨ ∃ n hdr, got = some (n, hdr, x.seq))) ∨
      ∃ n hdr seq, got = some (n, hdr, seq) ∧ clip = hdr.clip ∧
        ∀ x pass, o.current = some x → x.src = .live c pass → x.seq ≠ seq) →
    ∃ t, exec (.takeNewestAnswer k b.tok got) s = .next t ∧ onlyRo s t ∧ otherOuts k s t ∧ t.ro.clocks = s.ro.clocks ∧
      t.token = s.token ∧ (t.out k).bnd = some { b with sel := .plane, stage := .lookup } ∧
      t.wire = s.wire ++ [⟨.ro, .cat, .clipLookup (.boundary k b.tok) clip⟩]) ∧
  (∀ outs s, (outs.map (·.1)).Nodup → ∃ t, exec (.latchAnswer outs) s = .next t ∧
    (∀ x ∈ outs, (∀ b, (s.out x.1).bnd = some b → b.tok = x.2.1 → b.stage ≠ .latching) → t.out x.1 = s.out x.1) ∧
    ((∀ x ∈ outs, ∀ b, (s.out x.1).bnd = some b → b.tok = x.2.1 → b.stage ≠ .latching) → t = s))

/-- PLAY (R195, R197). Without a clip it resumes a paused output. With a clip its tests come in order, and then each
copy that may be played is asked for at its port; when all have answered the clip is looked up again, and the lowest
VERIFIED copy that is attached, or else the lowest other, and on one port the first of the copy list, is played from the
start frame, with its unsynced flag judged anew. Fetch answers are recorded in their entries, and a lost source ends the
playback while the source copy is the one the fetch was for. That the copies are taken from the record as it is looked
up last, and NOT_FOUND with no copy to ask, are the model's choice (assumption 50). So are that UNSYNCED is raised only
where the flag was clear before (assumption 46), that the LOST of a LATE entry is judged by the source copy it was asked
of (assumption 45), and that the first tests read the clip record in the same step (assumption 8). So is that LOST with
no entry is discarded at an output ENDED for another cause too (assumption 120). A fetch answered CANCELLED, in
REQUESTED too, leaves the list, and so does one answered LOST that ends nothing more, after which the list is brought up
to date; at an output ENDED for another cause the LOST of a waiting entry of its source copy takes the current slot as
well. -/
def Obligations.Play : Prop :=
  ((∀ q (k : Outp) start s o n, o = s.out k → o.play = .paused →
    n = { outNotice .outPlaying k o.clip [] with port := o.src.map (·.port) } →
    ∃ t, exec (.play q k.val none start) s = .next t ∧ outBecomes k { o with play := .playing } s t ∧
      t.token = s.token ∧ t.wire = s.wire ++ [acceptOf .ro q [], noticeOf .ro n]) ∧
  (∀ q n clip start s w, (4 ≤ n ∧ w = refuseOf .ro q .value ∨
      ∃ k : Outp, n = k.val ∧ (clip = none ∧ (s.out k).play ≠ .paused ∧ w = refuseStateOf .ro q .notPaused ∨
        ∃ id, clip = some id ∧ (1024 ≤ id ∧ w = refuseOf .ro q .value ∨
          id < 1024 ∧ (s.out k).locate ≠ none ∧ w = refuseOf .ro q .busy ∨
          id < 1024 ∧ (s.out k).locate = none ∧ ((s.out k).enabled = false ∧ w = refuseStateOf .ro q .disabled ∨
            (s.out k).enabled = true ∧ (s.out k).route ≠ .playback ∧ w = refuseStateOf .ro q .notPlayback ∨
            (s.out k).enabled = true ∧ (s.out k).route = .playback ∧ (s.clip? id = none ∧ w = refuseOf .ro q .notFound ∨
              ∃ c, s.clip? id = some c ∧ (c.desc.frames ≤ start.getD 0 ∧ w = refuseOf .ro q .value ∨
                start.getD 0 < c.desc.frames ∧ playable c = [] ∧ w = refuseOf .ro q .notFound)))))) →
    ∃ t, exec (.play q n clip start) s = .next t ∧ onlyWire s t ∧ t.wire = s.wire ++ [w]) ∧
  (∀ q (k : Outp) id start s c cs, id < 1024 → (s.out k).locate = none → (s.out k).enabled = true →
    (s.out k).route = .playback → s.clip? id = some c → start.getD 0 < c.desc.frames →
    cs = (playable c).map (fun x =>
      ({ src := { port := x.port, vol := x.vol, hb := x.hb, span := Clip.span c } } : Candidate)) → cs ≠ [] →
    ∃ t, exec (.play q k.val (some id) start) s = .next t ∧ t.token = s.token ∧
      outBecomes k { s.out k with locate := some { q := q, clip := id, start := start.getD 0, cands := cs } } s t ∧
      t.wire = s.wire ++ cs.zipIdx.map fun x => ⟨.ro, .dp x.1.src.port,
        .attachmentQuestion (.output k x.2) x.1.src.port x.1.src.vol⟩) ∧
  (∀ k ix yes s l cs, (s.out k).locate = some l →
    cs = l.cands.zipIdx.map (fun c => if c.2 = ix then { c.1 with answer := some yes } else c.1) →
    ∃ t, exec (.playAttachmentAnswer k ix yes) s = .next t ∧ t.token = s.token ∧
      outBecomes k { s.out k with locate := some { l with cands := cs } } s t ∧
      t.wire = s.wire ++ if ∀ c ∈ cs, c.answer.isSome then [⟨.ro, .cat, .clipLookup (.play k) l.clip⟩] else []) ∧
  (∀ k s ix yes rec, (s.out k).locate = none → exec (.playAttachmentAnswer k ix yes) s = .next s ∧
    exec (.playLookupAnswer k rec) s = .next s) ∧
  (∀ k rec s o l w, o = s.out k → o.locate = some l → allAnswered l.cands = true →
    (o.enabled = false ∧ w = refuseStateOf .ro l.q .disabled ∨
      o.enabled = true ∧ o.route ≠ .playback ∧ w = refuseStateOf .ro l.q .notPlayback ∨
      o.enabled = true ∧ o.route = .playback ∧ (rec = none ∧ w = refuseOf .ro l.q .notFound ∨
        ∃ c, rec = some c ∧ (c.desc.frames ≤ l.start ∧ w = refuseOf .ro l.q .value ∨
          l.start < c.desc.frames ∧ (∀ x ∈ l.cands, x.answer ≠ some true) ∧ w = refuseOf .ro l.q .notFound))) →
    ∃ t, exec (.playLookupAnswer k rec) s = .next t ∧ t.token = s.token ∧ outBecomes k { o with locate := none } s t ∧
      t.wire = s.wire ++ [w]) ∧
  (∀ k c s o l x clip src n, o = s.out k → o.locate = some l → allAnswered l.cands = true → o.enabled = true →
    o.route = .playback → l.start < c.desc.frames → chooseSource c l.cands = some x →
    clip = { clip := c.id, frames := c.desc.frames, start := c.desc.start, rate := c.desc.rate, letter := c.desc.letter } →
    src = { port := x.port, vol := x.vol, hb := x.hb, span := spanOf c.extents } →
    n = { outNotice .outPlaying k (some clip) [] with port := some x.port } →
    ∃ t, exec (.playLookupAnswer k (some c)) s = .next t ∧ onlyRo s t ∧ otherOuts k s t ∧ t.token = s.token + 1 ∧
      t.ro.clocks = s.ro.clocks ∧
      (t.out k).play = .playing ∧ (t.out k).clip = some clip ∧ (t.out k).src = some src ∧ (t.out k).pos = l.start ∧
      (t.out k).run = s.token ∧ (t.out k).locate = none ∧ (t.out k).current = o.current ∧
      (t.out k).settings = o.settings ∧
      ((t.out k).unsynced = true ↔ ∃ g, o.group = some g ∧
        ((s.clock g).rate ≠ some clip.rate ∨ tcValid clip.rate clip.start = false)) ∧
      (noticeOf .ro (outNotice .outUnsynced k (some clip) []) ∈ t.wire ↔
        noticeOf .ro (outNotice .outUnsynced k (some clip) []) ∈ s.wire ∨
          (t.out k).unsynced = true ∧ o.unsynced = false) ∧
      (∀ e ∈ (t.out k).prefetch, e.status = .late ∨ e.status = .requested ∧ e.run = s.token) ∧
      ⟨.ro, .fx, .playbackStart k c.id c.desc.dataLen c.desc.frames ⟨x.port, x.vol, x.hb⟩⟩ ∈ t.wire ∧
      (o.play = .playing ∨ o.play = .paused → ⟨.ro, .fx, .playbackCancel k⟩ ∈ t.wire) ∧
      (∀ e ∈ o.prefetch, ∀ slot hdr, e.status = .placed slot hdr → ⟨.ro, .pp, .slotDrop k slot⟩ ∈ t.wire) ∧
      [acceptOf .ro l.q (u8 x.port.val ++ fSerial x.vol ++ fNamed x.state.ctorIdx), noticeOf .ro n] <:+ t.wire) ∧
  (∀ (c : Clip) cs x, chooseSource c cs = some x → x ∈ c.copies ∧
    (x.state = .verified ∨ x.state = .written ∨ x.state = .verifying) ∧
    (∃ a ∈ cs, a.answer = some true ∧ a.src.port = x.port ∧ a.src.vol = x.vol) ∧
    ∀ y ∈ c.copies, y.state = .verified →
      (∃ a ∈ cs, a.answer = some true ∧ a.src.port = y.port ∧ a.src.vol = y.vol ∧ a.src.hb = y.hb) →
      x.state = .verified ∧ x.port ≤ y.port) ∧
  (∀ k run n ans s, (∀ e ∈ (s.out k).prefetch, ¬(e.frame = n ∧ e.run = run ∧ e.waits = true)) →
    ∃ t, exec (.fetchAnswer k run n ans) s = .next t ∧ onlyWire s t ∧
      t.wire = s.wire ++ (match ans with | .placed slot _ => [⟨.ro, .pp, .slotDrop k slot⟩] | _ => [])) ∧
  (∀ k s o e ans st, o = s.out k → e ∈ o.prefetch → e.status = .requested → e.frame ∈ s.window k →
    (o.prefetch.map (·.frame)).Nodup →
    ((∃ slot hdr, ans = FetchAns.placed slot hdr ∧ st = FetchStatus.placed slot hdr) ∨
      (∃ x, ans = .noPlane x ∧ st = .noPlane) ∨ (∃ x, ans = .noSlot x ∧ st = .noSlot) ∨ ans = .failed ∧ st = .failed ∨
      ans = .beyondEnd ∧ st = .beyondEnd ∨ ans = .unparsable ∧ st = .unparsable) →
    ∃ t, exec (.fetchAnswer k e.run e.frame ans) s = .next t ∧ onlyRo s t ∧ otherOuts k s t ∧
      t.ro.clocks = s.ro.clocks ∧ (t.out k).statusOf e.frame = some st ∧ (t.out k).play = o.play ∧ (t.out k).late = o.late) ∧
  (∀ k s o e ans, o = s.out k → e ∈ o.prefetch → e.status = .late → (o.prefetch.map (·.frame)).Nodup → ans ≠ .lost →
    ∃ t, exec (.fetchAnswer k e.run e.frame ans) s = .next t ∧ onlyRo s t ∧ otherOuts k s t ∧
      (t.out k).play = o.play ∧ (∀ x ∈ (t.out k).prefetch, x.frame = e.frame → x.status = .requested) ∧
      ∀ slot hdr, ans = .placed slot hdr → ⟨.ro, .pp, .slotDrop k slot⟩ ∈ t.wire) ∧
  (∀ k s o e, o = s.out k → e ∈ o.prefetch → e.status = .late → e.src ≠ o.src → (o.prefetch.map (·.frame)).Nodup →
    ∃ t, exec (.fetchAnswer k e.run e.frame .lost) s = .next t ∧ onlyRo s t ∧ otherOuts k s t ∧ (t.out k).play = o.play ∧
      (t.out k).why = o.why ∧ (t.out k).current = o.current ∧
      (∀ x ∈ (t.out k).prefetch, x.frame = e.frame → x.status = .requested)) ∧
  (∀ k s o e, o = s.out k → e ∈ o.prefetch → e.waits = true → (o.prefetch.map (·.frame)).Nodup → e.src = o.src →
    o.play = .playing ∨ o.play = .paused →
    ∃ t, exec (.fetchAnswer k e.run e.frame .lost) s = .next t ∧ onlyRo s t ∧ otherOuts k s t ∧ (t.out k).play = .ended ∧
      (t.out k).why = some .sourceLost ∧ (t.out k).current = none ∧ (t.out k).prefetch = []) ∧
  (∀ (c : Clip) cs x, chooseSource c cs = some x →
    (x.state ≠ .verified → ∀ y ∈ c.copies, y.state = .written ∨ y.state = .verifying →
      (∃ a ∈ cs, a.answer = some true ∧ a.src.port = y.port ∧ a.src.vol = y.vol ∧ a.src.hb = y.hb) → x.port ≤ y.port) ∧
    ∃ pre post, c.copies = pre ++ x :: post ∧ ∀ y ∈ pre, y.port = x.port →
      (x.state = .verified ∧ y.state = .verified ∨ x.state ≠ .verified ∧ (y.state = .written ∨ y.state = .verifying)) →
      ¬(∃ a ∈ cs, a.answer = some true ∧ a.src.port = y.port ∧ a.src.vol = y.vol ∧ a.src.hb = y.hb)) ∧
  (∀ (c : Clip) cs, chooseSource c cs = none ↔ ∀ y ∈ c.copies,
    y.state = .verified ∨ y.state = .written ∨ y.state = .verifying →
    ¬(∃ a ∈ cs, a.answer = some true ∧ a.src.port = y.port ∧ a.src.vol = y.vol ∧ a.src.hb = y.hb))) ∧
  (∀ k s o e ans, o = s.out k → e ∈ o.prefetch → e.waits = true → (o.prefetch.map (·.frame)).Nodup →
    ans = .cancelled ∨ ans = .lost ∧ (e.src ≠ o.src ∨ o.play = .stopped ∨ o.play = .ended ∧ o.why = some .sourceLost) →
    ∃ t, ∃ u : State, exec (.fetchAnswer k e.run e.frame ans) s = .next t ∧ t = u.updatePrefetch k ∧
      outBecomes k { o with prefetch := o.prefetch.filter fun x => x.frame ≠ e.frame } s u ∧ u.token = s.token ∧
      u.wire = s.wire) ∧
  (∀ k s o e, o = s.out k → e ∈ o.prefetch → e.waits = true → (o.prefetch.map (·.frame)).Nodup → e.src = o.src →
    o.play = .ended → o.why ≠ some .sourceLost →
    ∃ t, ∃ u : State, exec (.fetchAnswer k e.run e.frame .lost) s = .next t ∧ t = u.updatePrefetch k ∧
      outBecomes k { o with prefetch := o.prefetch.filter fun x => x.frame ≠ e.frame, current := none } s u ∧
      u.token = s.token ∧ u.wire = s.wire ++ (o.current.map (·.slot)).toList.map fun n => ⟨.ro, .pp, .slotDrop k n⟩)

/-- PAUSE, STOP and PLAY GROUP, and the ends other blocks bring (R198 to R200). PAUSE holds an output that plays by its
own position, or a running group's clock at its timecode; STOP lets an output go of all it plays from but its frame
store, and stops a group's clock and every member. PLAY GROUP sets the timecode, and runs the clock or cues it. A lost
volume and a purge end the playback they concern, and take the current slot of one that has ended otherwise. That every
stop and end cancels the playback context, and that a group's notice comes before its members', are the model's choice
(assumption 49). Each member that STOP of a group stops cancels its playback context, drops the slots of its PLACED
entries and its current slot, and raises STOPPED; each playback that a lost volume or a purge ends cancels and drops
likewise and raises ENDED, and one ENDED otherwise drops its current slot. That the members and the outputs come in
ascending order is the model's choice (assumption 116). -/
def Obligations.PlayEndsAndGroups : Prop :=
  ((∀ q (k : Outp) s o, o = s.out k → o.group = none ∨ o.unsynced = true → o.play = .playing →
    ∃ t, exec (.pause q (.output k.val)) s = .next t ∧ outBecomes k { o with play := .paused } s t ∧ t.token = s.token ∧
      t.wire = s.wire ++ [acceptOf .ro q [], noticeOf .ro (outNotice .outPaused k o.clip [])]) ∧
  (∀ q s target w, ((∃ n, 4 ≤ n ∧ target = .output n) ∨ (∃ n, (n = 0 ∨ 3 ≤ n) ∧ target = .group n)) ∧
        w = refuseOf .ro q .value ∨
      (∃ k : Outp, target = .output k.val ∧ (s.out k).group ≠ none ∧ (s.out k).unsynced = false ∧
        w = refuseStateOf .ro q .grouped) ∨
      (∃ k : Outp, target = .output k.val ∧ ((s.out k).group = none ∨ (s.out k).unsynced = true) ∧
        (s.out k).play ≠ .playing ∧ w = refuseStateOf .ro q .notPlaying) ∨
      (∃ g : Grp, target = .group (g.val + 1) ∧ (s.clock g).running = false ∧ w = refuseStateOf .ro q .notRunning) →
    ∃ t, exec (.pause q target) s = .next t ∧ onlyWire s t ∧ t.wire = s.wire ++ [w]) ∧
  (∀ q (g : Grp) s c, c = s.clock g → c.running = true →
    ∃ t, exec (.pause q (.group (g.val + 1))) s = .next t ∧ onlyRo s t ∧ t.token = s.token ∧
      t.clock g = { c with running := false } ∧ (∀ h, h ≠ g → t.clock h = s.clock h) ∧
      (∀ k, (t.out k).play = (s.out k).play ∧ (t.out k).current = (s.out k).current ∧
      (t.out k).settings = (s.out k).settings) ∧
      s.wire <+: t.wire ∧ [acceptOf .ro q [], noticeOf .ro (groupNotice g c.tc .paused)] <:+ t.wire) ∧
  (∀ q (k : Outp) s o, o = s.out k → o.play ≠ .stopped →
    ∃ t, exec (.stop q (.output k.val)) s = .next t ∧ t.token = s.token ∧
      outBecomes k { o with play := .stopped, prefetch := [], current := none, clip := none, src := none, pos := 0
                            unsynced := false, why := none } s t ∧
      t.wire = s.wire ++ [acceptOf .ro q [], ⟨.ro, .fx, .playbackCancel k⟩] ++
        ((o.prefetch.filterMap (·.slot?)) ++ (o.current.map (·.slot)).toList).map (fun n => ⟨.ro, .pp, .slotDrop k n⟩) ++
        [noticeOf .ro (outNotice .outStopped k none [])]) ∧
  (∀ q s target w, ((∃ n, 4 ≤ n ∧ target = .output n) ∨ (∃ n, (n = 0 ∨ 3 ≤ n) ∧ target = .group n)) ∧
        w = refuseOf .ro q .value ∨
      (∃ k : Outp, target = .output k.val ∧ (s.out k).play = .stopped ∧ w = refuseStateOf .ro q .already) →
    ∃ t, exec (.stop q target) s = .next t ∧ onlyWire s t ∧ t.wire = s.wire ++ [w]) ∧
  (∀ q (g : Grp) s c, c = s.clock g → ∃ t, exec (.stop q (.group (g.val + 1))) s = .next t ∧ onlyRo s t ∧
    t.token = s.token ∧ t.clock g = { c with running := false } ∧ (∀ h, h ≠ g → t.clock h = s.clock h) ∧
    (∀ k, (s.out k).group = some g → (t.out k).play = .stopped) ∧ (∀ k, (s.out k).group ≠ some g → t.out k = s.out k) ∧
    (∀ k, (t.out k).store = (s.out k).store) ∧
    s.wire ++ [acceptOf .ro q [], noticeOf .ro (groupNotice g c.tc .stopped)] <+: t.wire) ∧
  (∀ q (g : Grp) s c r tc cue c', c = s.clock g → s.members g ≠ [] → c.rate = some r → tcValid r tc = true →
    c' = { c with tc := tc, first := true, running := !cue } →
    ∃ t, exec (.playGroup q (g.val + 1) (some tc) cue) s = .next t ∧ onlyRo s t ∧ t.token = s.token ∧ t.clock g = c' ∧
      (∀ h, h ≠ g → t.clock h = s.clock h) ∧
      (∀ k, (t.out k).play = (s.out k).play ∧ (t.out k).current = (s.out k).current ∧
      (t.out k).settings = (s.out k).settings) ∧
      s.wire <+: t.wire ∧
      [acceptOf .ro q (fTc tc), noticeOf .ro (groupNotice g tc (if cue then .cued else .running))] <:+ t.wire) ∧
  (∀ q (g : Grp) s c, c = s.clock g → s.members g ≠ [] →
    ∃ t, exec (.playGroup q (g.val + 1) none false) s = .next t ∧ onlyRo s t ∧ t.token = s.token ∧
      t.clock g = { c with running := true } ∧ (∀ h, h ≠ g → t.clock h = s.clock h) ∧
      [acceptOf .ro q (fTc c.tc), noticeOf .ro (groupNotice g c.tc .running)] <:+ t.wire) ∧
  (∀ q n start cue s w, ((n = 0 ∨ 3 ≤ n) ∧ w = refuseOf .ro q .value ∨
      ∃ g : Grp, n = g.val + 1 ∧ (cue = true ∧ start = none ∧ w = refuseOf .ro q .value ∨
        (cue = false ∨ start ≠ none) ∧ s.members g = [] ∧ w = refuseStateOf .ro q .noMembers ∨
        ∃ tc r, start = some tc ∧ s.members g ≠ [] ∧ (s.clock g).rate = some r ∧ tcValid r tc = false ∧
          w = refuseOf .ro q .value)) →
    ∃ t, exec (.playGroup q n start cue) s = .next t ∧ onlyWire s t ∧ t.wire = s.wire ++ [w]) ∧
  ∀ s p vol clips r why (hit : Output → Bool),
    r = Instr.outputLostVolume p vol ∧ why = PlayEnd.sourceLost ∧ hit = (fun o => o.src.any fun x => x.vol = vol) ∨
      r = .outputPurgeList clips ∧ why = .purged ∧ hit = (fun o => o.clip.any fun c => clips.contains c.clip) →
    ∃ t, exec r s = .next t ∧ onlyRo s t ∧ t.token = s.token ∧ t.ro.clocks = s.ro.clocks ∧
      ∀ k o, o = s.out k →
        (hit o = false ∨ o.play = .stopped ∨ o.play = .ended ∧ o.why = some why → t.out k = o) ∧
        (hit o = true → o.play = .playing ∨ o.play = .paused →
          t.out k = { o with play := .ended, why := some why, prefetch := [], current := none } ∧
          ⟨.ro, .fx, .playbackCancel k⟩ ∈ t.wire ∧
          noticeOf .ro (outNotice .outEnded k o.clip (fNamed why.ctorIdx)) ∈ t.wire) ∧
        (hit o = true → o.play = .ended → o.why ≠ some why → t.out k = { o with current := none })) ∧
  (∀ q (g : Grp) s, ∃ t, exec (.stop q (.group (g.val + 1))) s = .next t ∧
    (∀ k o, o = s.out k → o.group = some g → o.play = .stopped → t.out k = o) ∧
    (∀ k o, o = s.out k → o.group = some g → o.play ≠ .stopped →
      t.out k = { o with play := .stopped, prefetch := [], current := none, clip := none, src := none, pos := 0
                         unsynced := false, why := none }) ∧
    t.wire = s.wire ++ [acceptOf .ro q [], noticeOf .ro (groupNotice g (s.clock g).tc .stopped)] ++
      (List.finRange 4).flatMap fun k =>
        if (s.out k).group = some g ∧ (s.out k).play ≠ .stopped then
          [⟨.ro, .fx, .playbackCancel k⟩] ++ slotDrops k (s.out k) ++ [noticeOf .ro (outNotice .outStopped k none [])]
        else []) ∧
  (∀ s p vol clips r why (hit : Output → Bool),
    r = Instr.outputLostVolume p vol ∧ why = PlayEnd.sourceLost ∧ hit = (fun o => o.src.any fun x => x.vol = vol) ∨
      r = .outputPurgeList clips ∧ why = .purged ∧ hit = (fun o => o.clip.any fun c => clips.contains c.clip) →
    ∃ t, exec r s = .next t ∧ t.wire = s.wire ++ (List.finRange 4).flatMap fun k =>
      if hit (s.out k) = true ∧ ((s.out k).play = .playing ∨ (s.out k).play = .paused) then
        [⟨.ro, .fx, .playbackCancel k⟩] ++ slotDrops k (s.out k) ++
          [noticeOf .ro (outNotice .outEnded k (s.out k).clip (fNamed why.ctorIdx))]
      else if hit (s.out k) = true ∧ (s.out k).play = .ended ∧ (s.out k).why ≠ some why then
        (s.out k).current.toList.map fun x => ⟨.ro, .pp, .slotDrop k x.slot⟩
      else [])

/-! ## Station Ports, queries and reads (Section 11) -/

/-- Resets and links (R203 to R205, R213). At power-on every block and station takes its reset values, with role,
supervisor flag and strap fault from the straps, and the cards and drives that are present are taken at once; RESET PART
does the same once its acceptance has been sent, but each link stays as it is, and each station whose link is UP is told
of the requests it has lost. A link comes up with nothing waiting; when it goes down the responses and notices are lost
and the Look Bank is told. That the straps and levels come with the command, that the present cards and drives are taken
within the reset, what a link that stays UP keeps, and the order of the ports in START_FAULT are the model's choice
(assumptions 4, 6, 36, 37 and 113). -/
def Obligations.ResetsAndLinks : Prop :=
  (∀ p s, ∃ t, exec (.powerOnReset p) s = .next t ∧ t.sp.seq = 0 ∧ restarted p s t ∧
    ∀ st, t.station st = { role := p.roleStrap[st], sup := decide (Pins.supers p = [st])
                           strapFault := decide (1 < (Pins.supers p).length) }) ∧
  (∀ st s x, x = s.station st → x.link = .down →
    ∃ t y, exec (.linkUp st) s = .next t ∧ onlySp s t ∧ t.wire = s.wire ∧
      y = t.station st ∧ y.link = .up ∧ y.responses = [] ∧ y.unanswered = 0 ∧ y.gap = false ∧ y.filters = x.filters ∧
      y.role = x.role ∧ y.sup = x.sup ∧
      (x.strapFault = false → y.fifo = [] ∧ otherStations st s t ∧ t.sp.seq = s.sp.seq) ∧
      (x.strapFault = true → y.fifo = [{ seq := s.sp.seq, gap := false, notice := startFault s.pins [st] }] ∧
        otherStations st s t ∧ t.sp.seq = (s.sp.seq + 1) % 4294967296)) ∧
  (∀ st s x, x = s.station st → x.link = .up →
    ∃ t, exec (.linkDown st) s = .next t ∧
      stationBecomes st { x with link := .down, responses := [], unanswered := 0, fifo := [], gap := false
                                 backlog := [] } s t ∧ t.wire = s.wire ++ [⟨.sp, .lb, .linkDownReport st⟩]) ∧
  (∀ st s, ((s.station st).link = .up → exec (.linkUp st) s = .next s) ∧
    ((s.station st).link = .down → exec (.linkDown st) s = .next s)) ∧
  ∀ st p s x e rest a, x = s.station st → x.link = .up → x.responses = e :: rest → e.answer = some a → e.reset = true →
    (∀ y, (s.station y).backlog = []) →
    ∃ t, exec (.responseSent st p) s = .next t ∧ restarted p s t ∧
      t.sp.seq = (if 1 < (Pins.supers p).length then 2 else 1) ∧
      ∀ y old new, old = s.station y → new = t.station y →
        new.link = old.link ∧ new.role = p.roleStrap[y] ∧ new.sup = decide (Pins.supers p = [y]) ∧
        new.strapFault = decide (1 < (Pins.supers p).length) ∧ new.responses = [] ∧ new.unanswered = 0 ∧
        new.gap = false ∧ new.filters = Vector.replicate 4 {} ∧ (old.link = .down → new.fifo = []) ∧
        (old.link = .up → ∃ d ds n, new.fifo = d :: ds ∧ d = { seq := 0, gap := false, notice := n } ∧
          n = { sub := .linkReset, only := some [y]
                fields := fList (fun e : Response => u32 e.tag.toNat) (if y = st then rest else old.responses) ++
                  fNamed (p.roleStrap[y]).ctorIdx ++ fFlag new.sup } ∧
          ((Pins.supers p).length ≤ 1 → ds = []) ∧ (1 < (Pins.supers p).length →
            ds = [{ seq := 1, gap := false, notice := startFault p (List.finRange 4) }]))

/-- Requests and responses (R206 to R208, R210, R213). A message is taken while 48 entries do not stand in the list. It
is refused OVERRUN with 16 unanswered, VALUE for an unknown code and for an operand length past the bytes delivered,
RIGHTS where the table does not allow it, and otherwise admitted and passed to its block. An answer marks its entry
ready, and only that; the entry at the head leaves when it is ready. SET FILTER replaces one filter of its sender, and
RESET PART is answered at once. How operands lie in a message, what a link holds back, that those two are answered where
they are admitted, that the other VALUE tests are the owner's, and the order of a filter's kinds are the model's choice
(assumptions 9, 36, 52, 53 and 112). The operands of each request are read in the order its row of R216 gives them,
packed low byte first, with lists, optional fields and names as R216 packs them: a request whose numbers fit their bytes
is read back as the command it stands for, whatever follows it, and one too short is not read. Which widths and which
optional parts they have is assumption 9. The block each code belongs to is the owner of its rule, a port or channel
request going to the one it names, and to the first where there is no such one (assumptions 20 and 53). -/
def Obligations.RequestsAndResponses : Prop :=
  ((∀ st m s x code ops e w, x = s.station st → x.link = .up → x.responses.length < 48 → x.backlog = [] →
    code = m.code.toNat → ops = m.bytes.take m.oplen.toNat →
    (e = { tag := m.tag, rid := s.sp.rid, admitted := false, answer := some (.refused .overrun none []) } ∧
        16 ≤ x.unanswered ∧ w = [] ∨
      e = { tag := m.tag, rid := s.sp.rid, admitted := false, answer := some (.refused .value none []) } ∧
        x.unanswered < 16 ∧ (code < 1 ∨ 56 < code ∨ m.bytes.length < m.oplen.toNat) ∧ w = [] ∨
      e = { tag := m.tag, rid := s.sp.rid, admitted := false, answer := some (.refused .rights none []) } ∧
        x.unanswered < 16 ∧ 1 ≤ code ∧ code ≤ 56 ∧ m.oplen.toNat ≤ m.bytes.length ∧
        allowed code x.role x.sup (decide (∃ y, (s.station y).sup = true)) = false ∧ w = [] ∨
      e = { tag := m.tag, rid := s.sp.rid, admitted := true, answer := none } ∧
        x.unanswered < 16 ∧ 1 ≤ code ∧ code ≤ 56 ∧ m.oplen.toNat ≤ m.bytes.length ∧
        allowed code x.role x.sup (decide (∃ y, (s.station y).sup = true)) = true ∧
        ((∃ i, readRequest code { st := st, rid := s.sp.rid } x.sup ops = some i ∧
            w = [⟨.station st, owner code ops, i⟩]) ∨
          readRequest code { st := st, rid := s.sp.rid } x.sup ops = none ∧
            w = [refuseOf (owner code ops) { st := st, rid := s.sp.rid } .value])) →
    ∃ t, exec (.requestMessage st m) s = .next t ∧ onlySp s t ∧ otherStations st s t ∧ t.sp.seq = s.sp.seq ∧
      t.sp.rid = s.sp.rid + 1 ∧ t.wire = s.wire ++ w ∧
      t.station st = { x with responses := x.responses ++ [e]
                              unanswered := if e.admitted then x.unanswered + 1 else x.unanswered }) ∧
  (∀ st m s x, x = s.station st → x.link = .up → 48 ≤ x.responses.length ∨ x.backlog ≠ [] →
    ∃ t, exec (.requestMessage st m) s = .next t ∧ stationBecomes st { x with backlog := x.backlog ++ [m] } s t ∧
      t.wire = s.wire) ∧
  (∀ st m s, (s.station st).link = .down → exec (.requestMessage st m) s = .next s) ∧
  (∀ q n items s x a r, x = s.station q.st →
    (∃ v, r = Instr.blockAnswer q v ∧ a = (v, false)) ∨ r = .resetPart q ∧ a = (.accepted false [], true) ∨
      (4 ≤ n ∨ filterOf items = none) ∧ r = .setFilter q n items ∧ a = (.refused .value none [], false) →
    ∃ t, exec r s = .next t ∧ t.wire = s.wire ∧
      stationBecomes q.st { x with responses := x.responses.map fun e =>
        if e.rid = q.rid ∧ e.admitted = true ∧
        e.answer = none then { e with answer := some a.1, reset := a.2 } else e } s t) ∧
  (∀ q n (i : Fin 4) items f s x, x = s.station q.st → n = i.val → filterOf items = some f →
    ∃ t, exec (.setFilter q n items) s = .next t ∧ t.wire = s.wire ∧
      stationBecomes q.st { x with
        filters := upd x.filters i fun _ => f
        responses := x.responses.map fun e =>
          if e.rid = q.rid ∧ e.admitted = true ∧ e.answer = none then
            { e with answer := some (.accepted false []), reset := false } else e } s t) ∧
  (∀ st p s x e rest a y, x = s.station st → x.link = .up → x.responses = e :: rest → e.answer = some a →
    e.reset = false →
    y = { x with responses := rest, unanswered := if e.admitted then x.unanswered - 1 else x.unanswered
                 sent := .response (responseMessage e.tag a) } →
    ∃ u, exec (.responseSent st p) s = .next (u.letIn st) ∧ stationBecomes st y s u ∧ u.wire = s.wire ∧
      (x.backlog = [] → stationBecomes st y s (u.letIn st) ∧ (u.letIn st).wire = s.wire)) ∧
  (∀ st p s x, x = s.station st → x.link = .down ∨ x.responses = [] ∨
      (∃ e rest, x.responses = e :: rest ∧ e.answer = none) → exec (.responseSent st p) s = .next s) ∧
  (∀ code role sup anySup, 1 ≤ code → code ≤ 56 → (allowed code role sup anySup = true ↔
    code ≤ 21 ∨ 22 ≤ code ∧ code ≤ 31 ∧ role = .loader ∨ 32 ≤ code ∧ code ≤ 40 ∧ role = .colour ∨
    41 ≤ code ∧ code ≤ 45 ∧ (role = .colour ∨ role = .review) ∨ 46 ≤ code ∧ code ≤ 49 ∧ role = .review ∨
    50 ≤ code ∧ code ≤ 51 ∧ (role = .review ∨ sup = true) ∨ 52 ≤ code ∧ code ≤ 55 ∧ sup = true ∨
    code = 56 ∧ (sup = true ∨ role = .loader ∧ anySup = false))) ∧
  ∀ (s : State) st m ms, (s.station st).backlog = m :: ms →
    (48 ≤ (s.station st).responses.length → s.letIn st = s) ∧
    ((s.station st).responses.length < 48 → s.letIn st = State.drain st ms (s.acceptMessage st m))) ∧
  (∀ q sup n x, n < 256 → ∀ r ∈ [(1, Instr.queryBay q n), (7, .queryChannel q n), (9, .queryPort q n), (13, .querySites q n),
    (17, .queryLook q n), (19, .queryOutput q n), (20, .queryStation q n), (26, .releaseCard q n), (28, .detach q n),
    (30, .stopSoak q n), (32, .holdLook q n), (35, .cancelLook q n), (52, .forceRelease q n), (56, .setMode q n)],
    readRequest r.1 q sup (fieldBytes (u8 n) ++ x) = some r.2) ∧
  (∀ q sup n x, n < 65536 → ∀ r ∈ [(2, Instr.queryClip q n), (5, .queryOrder q n), (14, .queryFinding q n), (24, .abortOrder q n),
    (40, .stampLook q n), (48, .reinspect q n), (50, .ackFinding q n), (51, .clearFinding q n sup),
    (54, .clearOverflowHold q n)], readRequest r.1 q sup (fieldBytes (u16 n) ++ x) = some r.2) ∧
  (∀ q sup x, ∀ r ∈ [(6, Instr.listOrders q), (8, .queryStore q), (11, .queryPool q), (12, .queryInspector q),
    (16, .queryClasses q), (18, .queryBank q), (25, .abortAll q), (37, .cancelFill q), (49, .clearSites q),
    (55, .resetPart q)], readRequest r.1 q sup x = some r.2) ∧
  (∀ q sup serial n m l k x b, n < 256 → k < 256 → m < 65536 → l < 4294967296 →
    ∀ r ∈ [(3, fSerial serial, Instr.listCard q serial), (4, fSerial serial ++ u16 m, .findClip q serial m),
      (10, u8 n ++ u16 m, .queryIndex q n m), (27, fSerial serial ++ u8 n, .setCopies q serial n),
      (29, u8 n ++ u16 m ++ u32 l, .startSoak q n m l), (31, fSerial serial, .purgeCard q serial),
      (34, u8 n ++ fFlag b, .commitLook q n b), (38, u8 n ++ u8 k, .setCameraLook q n k), (39, u16 m ++ u8 n, .assignLook q m n),
      (47, u8 n ++ u8 k, .setKindClass q n k), (53, u8 n ++ fSerial serial, .formatVolume q n serial)],
    readRequest r.1 q sup (fieldBytes r.2.1 ++ x) = some r.2.2) ∧
  (∀ q sup serial n m c ns cls x, n < 256 → m < 65536 → cls < 256 → (∀ k, c = some k → k < 65536) → ns.length < 65536 →
    (∀ k ∈ ns, k < 256) →
    ∀ r ∈ [(15, fOpt [2] u16 c ++ fList u8 ns ++ u8 cls ++ u16 m, Instr.listFindings q c ns cls m),
      (22, u16 m ++ fList u8 ns ++ u8 n, .postOrder q m ns n),
      (23, fSerial serial ++ fList u8 ns ++ u8 n, .postCardOrder q serial ns n)],
    readRequest r.1 q sup (fieldBytes r.2.1 ++ x) = some r.2.2) ∧
  (∀ q sup n m b target preset clip start tc x, n < 256 → m < 256 →
    (∀ k, target = PlayTarget.output k ∨ target = .group k → k < 256) → (∀ k, preset = Preset.copy k → k < 256) →
    (∀ k, clip = some k → k < 65536) → (∀ k, start = some k → k < 4294967296) →
    (∀ t : Timecode, tc = some t → t.h < 256 ∧ t.m < 256 ∧ t.s < 256 ∧ t.f < 256) →
    ∀ r ∈ [(36, u8 n ++ u8 m ++ fPreset preset, Instr.bankFill q n m preset),
      (42, u8 n ++ fOpt [2] u16 clip ++ fOpt [4] u32 start, .play q n clip start),
      (43, u8 n ++ fOpt [1, 1, 1, 1] fTc tc ++ fFlag b, .playGroup q n tc b), (44, fTarget target, .pause q target),
      (45, fTarget target, .stop q target)],
    readRequest r.1 q sup (fieldBytes r.2.1 ++ x) = some r.2.2) ∧
  (∀ q sup n x, n < 256 →
    (∀ items, lookItemsFit items →
      readRequest 33 q sup (fieldBytes (u8 n ++ fLookItems items) ++ x) = some (.writeLook q n items)) ∧
    (∀ items, routeItemsFit items →
      readRequest 41 q sup (fieldBytes (u8 n ++ fRouteItems items) ++ x) = some (.setRoute q n items)) ∧
    (∀ items, thresholdItemsFit items →
      readRequest 46 q sup (fieldBytes (fThresholdItems items) ++ x) = some (.setThresholds q items)) ∧
    ∀ items, filterItemsFit items →
      readRequest 21 q sup (fieldBytes (u8 n ++ fFilterItems items) ++ x) = some (.setFilter q n items)) ∧
  (∀ code q sup bs, (code < 1 ∨ 56 < code → readRequest code q sup bs = none) ∧
    ∀ r ∈ [(1, 1), (2, 2), (3, 8), (4, 10), (5, 2), (7, 1), (9, 1), (10, 3), (13, 1), (14, 2), (17, 1), (19, 1), (20, 1), (24, 2),
      (26, 1), (27, 9), (28, 1), (29, 7), (30, 1), (31, 8), (32, 1), (34, 2), (35, 1), (36, 5), (38, 2), (39, 3), (40, 2), (42, 9),
      (43, 7), (44, 2), (45, 2), (46, 19), (47, 2), (48, 2), (50, 2), (51, 2), (52, 1), (53, 9), (54, 2), (56, 1)],
      bs.length < r.2 → readRequest r.1 q sup bs = none) ∧
  (∀ (code : Nat) (ops : List Byte),
    (code ∈ [1, 26, 27, 52] → owner code ops = .ci) ∧ (code ∈ [2, 3, 4, 31, 39, 40] → owner code ops = .cat) ∧
    (code ∈ [5, 6, 22, 23, 24, 25, 56] → owner code ops = .ods) ∧ (code = 8 → owner code ops = .sts) ∧
    (code = 11 → owner code ops = .pp) ∧ (code ∈ [12, 13, 46, 48, 49] → owner code ops = .ins) ∧
    (code ∈ [14, 15, 16, 47, 50, 51, 54] → owner code ops = .fl) ∧
    (code ∈ [17, 18, 32, 33, 34, 35, 36, 37, 38] → owner code ops = .lb) ∧
    (code ∈ [19, 41, 42, 43, 44, 45] → owner code ops = .ro) ∧ (code ∈ [20, 21, 55] → owner code ops = .sp) ∧
    (∀ ch : Chan, owner 7 (BitVec.ofNat 8 ch.val :: ops) = .cc ch) ∧
    (∀ n : Byte, 3 ≤ n.toNat → owner 7 (n :: ops) = .cc 0) ∧
    (∀ p : Port, code ∈ [9, 10, 28, 29, 30, 53] → owner code (BitVec.ofNat 8 p.val :: ops) = .dp p) ∧
    ∀ n : Byte, code ∈ [9, 10, 28, 29, 30, 53] → 4 ≤ n.toNat → owner code (n :: ops) = .dp 0)

/-- Notices (R209 to R212). Each takes the value of the sequence counter, which counts on and wraps. Every station whose
link is UP is given it if it is addressed by name, is an OBSERVER or has an enabled filter that passes it, at most once
and in order; with 64 waiting it is lost and the gap flag set, and the next notice that goes in carries the flag. The link
takes the notice at the head. -/
def Obligations.NoticesAreDelivered : Prop :=
  (∀ n s, ∃ t, exec (.noticeTaken n) s = .next t ∧ onlySp s t ∧ t.wire = s.wire ∧
    t.sp.seq = (s.sp.seq + 1) % 4294967296 ∧ t.sp.rid = s.sp.rid ∧
    ∀ st x, x = s.station st →
      (x.link = .down ∨ (∃ sts, n.only = some sts ∧ st ∉ sts) ∨
          n.only = none ∧ x.role ≠ .observer ∧ (∀ f ∈ x.filters.toList, f.passes n = false) → t.station st = x) ∧
      (x.link = .up → (∃ sts, n.only = some sts ∧ st ∈ sts) ∨
          n.only = none ∧ (x.role = .observer ∨ ∃ f ∈ x.filters.toList, f.passes n = true) →
        t.station st = if x.fifo.length < 64 then
          { x with fifo := x.fifo ++ [{ seq := s.sp.seq, gap := x.gap, notice := n }], gap := false }
        else { x with gap := true })) ∧
  (∀ (f : Filter) n, f.passes n = true ↔ f.enabled = true ∧ subKind n.sub ∈ f.kinds ∧
    (f.letter = none ∨ f.letter = n.letter) ∧ (f.bay = none ∨ f.bay = n.bay) ∧
    (subKind n.sub = .finding → n.cls = none ∨ ∃ c, n.cls = some c ∧ f.minClass.rank ≤ c.rank)) ∧
  (∀ st s x d rest, x = s.station st → x.link = .up → x.fifo = d :: rest →
    ∃ t, exec (.noticeSent st) s = .next t ∧ t.wire = s.wire ∧
      stationBecomes st { x with fifo := rest, sent := .notice (noticeMessage d) } s t) ∧
  ∀ st s, (s.station st).link = .down ∨ (s.station st).fifo = [] → exec (.noticeSent st) s = .next s

/-- Queries (the query rules of every section) change no state: each is answered once, by the block that owns what it
names, with the values its rule lists as they stand, or a refusal when that is out of range or not there. That a number
out of range is answered by the first of its blocks, how the values are laid out (in QUERY POOL the slot numbers,
sources and holders; in a finding span before qualifier; in QUERY CHANNEL which fields are optional, and the repair list
of an element in REVERIFY; in QUERY POOL an optional clip id and the order of the holders; in QUERY FINDING, LIST
FINDINGS and QUERY INDEX positions from 0; in QUERY LOOK how the fill is told; in QUERY INSPECTOR the pass number of the
REINSPECT context; in QUERY BAY, PORT, CHANNEL, OUTPUT, BANK and INSPECTOR which fields are optional; in QUERY OUTPUT
where the prefetch list stands; in QUERY STATION the order of a filter's kinds), the effective priority reported of a
running order, and VALUE for a number in LIST FINDINGS that names no state are the model's choice (assumptions 9, 20,
63, 71, 74, 75, 85, 91, 95, 98, 99, 102, 103, 109, 111, 112 and 117). Reads between blocks (R17, R19, R36, R40, R44,
R49, R93, R151, R172, R174, R183, R195). One block's question to another changes nothing and is answered with what
stands when it is taken. The record a clip lookup is answered with goes back to whoever asked, in the answer that asker
takes (R44). -/
def Obligations.QueriesAndReads : Prop :=
  (((∀ q s, (∀ b : Bay, answers (.queryBay q b.val) s .ci q (bayValues (s.bay b))) ∧
    answers (.listOrders q) s .ods q (orderListValues s.ods) ∧
    (∀ ch : Chan, answers (.queryChannel q ch.val) s (.cc ch) q (channelValues s ch (s.chan ch))) ∧
    answers (.queryStore q) s .sts q (storeValues s.sts) ∧
    (∀ p : Port, answers (.queryPort q p.val) s (.dp p) q (portValues (s.port p))) ∧
    answers (.queryPool q) s .pp q (poolValues s) ∧
    answers (.queryInspector q) s .ins q (inspectorValues s.ins s.ins.reader) ∧
    answers (.queryClasses q) s .fl q (s.fl.classes.toList.flatMap fun c => fPlace c.ctorIdx) ∧
    (∀ i : LookIx, answers (.queryLook q i.val) s .lb q (lookValues s.lb i (s.look i))) ∧
    answers (.queryBank q) s .lb q (bankValues s.lb) ∧
    ∀ k : Outp, answers (.queryOutput q k.val) s .ro q (outputValues s (s.out k))) ∧
  (∀ q n serial s r src, (6 ≤ n ∧ r = Instr.queryBay q n ∧ src = Node.ci ∨ 1024 ≤ n ∧ r = .queryClip q n ∧ src = .cat ∨
      (n < 1 ∨ 999 < n) ∧ r = .findClip q serial n ∧ src = .cat ∨ 3 ≤ n ∧ r = .queryChannel q n ∧ src = .cc 0 ∨
      4 ≤ n ∧ r = .queryPort q n ∧ src = .dp 0 ∨ 4 ≤ n ∧ (∃ first, r = .queryIndex q n first) ∧ src = .dp 0 ∨
      256 ≤ n ∧ r = .querySites q n ∧ src = .ins ∨ 32 ≤ n ∧ r = .queryLook q n ∧ src = .lb ∨
      4 ≤ n ∧ r = .queryOutput q n ∧ src = .ro ∨
      (∃ clip states cls first, r = .listFindings q clip states cls first ∧
        (clip = some n ∧ 1024 ≤ n ∨ n ∈ states ∧ (n < 1 ∨ 3 < n) ∨ cls = n ∧ (n < 1 ∨ 3 < n))) ∧ src = .fl) →
    ∃ t, exec r s = .next t ∧ onlyWire s t ∧ t.wire = s.wire ++ [refuseOf src q .value]) ∧
  (∀ q n serial (p : Port) first s r src, (n < 1024 ∧ s.clip? n = none ∧ r = Instr.queryClip q n ∧ src = Node.cat ∨
      s.clipsOf serial = [] ∧ r = .listCard q serial ∧ src = .cat ∨
      1 ≤ n ∧ n ≤ 999 ∧ s.clipOf serial n = none ∧ r = .findClip q serial n ∧ src = .cat ∨
      s.ods.seen n = none ∧ r = .queryOrder q n ∧ src = .ods ∨
      (s.port p).vol = none ∧ r = .queryIndex q p.val first ∧ src = .dp p ∨
      s.fl.find? n = none ∧ r = .queryFinding q n ∧ src = .fl) →
    ∃ t, exec r s = .next t ∧ onlyWire s t ∧ t.wire = s.wire ++ [refuseOf src q .notFound]) ∧
  (∀ q n s c, n < 1024 → s.clip? n = some c → answers (.queryClip q n) s .cat q (clipValues c)) ∧
  (∀ q serial s, s.clipsOf serial ≠ [] → answers (.listCard q serial) s .cat q (fList cardClipValues (s.clipsOf serial))) ∧
  (∀ q n s o, s.ods.seen n = some o → answers (.queryOrder q n) s .ods q (orderValues o)) ∧
  (∀ q (p : Port) first s, (s.port p).vol ≠ none →
    answers (.queryIndex q p.val first) s (.dp p) q (indexValues (s.port p).index first)) ∧
  (∀ q n s, n < 256 → answers (.querySites q n) s .ins q (siteValues s.ins.sites n)) ∧
  (∀ q n s f, s.fl.find? n = some f →
    answers (.queryFinding q n) s .fl q (findingValues f ++ u16 (s.fl.list.findIdx fun x => x.id = n))) ∧
  (∀ q clip states cls first s, (∀ c, clip = some c → c < 1024) → (∀ n ∈ states, 1 ≤ n ∧ n ≤ 3) → 1 ≤ cls → cls ≤ 3 →
    answers (.listFindings q clip states cls first) s .fl q
      (findingListValues s.fl (s.fl.list.filter (selected clip states cls)) first)) ∧
  (∀ q n serial s c, 1 ≤ n → n ≤ 999 → s.clipOf serial n = some c →
    ∃ t, exec (.findClip q serial n) s = .next t ∧ onlyWire s t ∧ t.wire = s.wire ++ [acceptOf .cat q (u16 c.id)]) ∧
  ∀ q n s x, x = s.station q.st →
    ∃ t a, exec (.queryStation q n) s = .next t ∧ t.wire = s.wire ∧ (4 ≤ n → a = .refused .value none []) ∧
      (∀ st : Stn, n = st.val → a = .accepted false (stationValues (s.station st) s.sp.seq)) ∧
      stationBecomes q.st { x with responses := x.responses.map fun e =>
        if e.rid = q.rid ∧ e.admitted = true ∧
        e.answer = none then { e with answer := some a, reset := false } else e } s t) ∧
  (∀ s p serial clipNo dataLen, (s.port p).state ≠ .ready → (s.port p).state ≠ .soaking →
    (s.port p).state ≠ .detaching → exec (.foundCopySearch p serial clipNo dataLen) s = .next s) ∧
  (∀ s p serial clipNo dataLen c vol, c = s.port p → c.vol = some vol →
    c.state = .ready ∨ c.state = .soaking ∨ c.state = .detaching →
    exec (.foundCopySearch p serial clipNo dataLen) s = .next { s with
      wire := s.wire ++ (c.index.filter fun e => e.serial = serial ∧ e.clipNo = clipNo ∧ e.len = dataLen).flatMap fun e =>
        match e.sums with
        | some sums => [⟨.dp p, .cat, .foundOffer p vol e.hb e.serial e.clipNo e.len sums⟩]
        | none => [] }) ∧
  ∀ s r src dst a, (
      (∃ b ins serial, r = Instr.requiredCopiesQuery b ins serial ∧ src = Node.cat ∧ dst = Node.ci ∧
        a = Instr.requiredCopiesAnswer b ins ((s.clipsOf serial).map (·.required)).max?) ∨
      (∃ ch clip order, r = .storedSumsRequest ch clip order ∧ src = .cat ∧ dst = .cc ch ∧
        a = .storedSumsAnswer ch order (((s.clip? clip).bind (·.sums)).getD [])) ∨
      (∃ q serial, r = .candidatesRequest q serial ∧ src = .cat ∧ dst = .ods ∧
        a = .candidatesAnswer q (((s.clipsOf serial).filter fun c =>
          c.state ≠ .verified ∧ c.state ≠ .unsupported ∧ c.order = none).map (·.id))) ∨
      (∃ q b ins serial, r = .releaseTest q b ins serial ∧ src = .cat ∧ dst = .ci ∧
        a = .releaseTestAnswer q b ins (releaseFailure (s.clipsOf serial))) ∨
      (∃ who clip, r = .clipLookup who clip ∧ src = .cat ∧ (dst, a) = lookupAnswer who clip (s.clip? clip)) ∨
      (∃ letter job, r = .defaultRequest letter job ∧ src = .lb ∧ dst = .cat ∧
        a = .cameraDefaultAnswer job s.lb.defaults[letter]) ∨
      (∃ outs, r = .latchRead outs ∧ src = .lb ∧ dst = .ro ∧ a = .latchAnswer (outs.map fun x =>
        (x.1, x.2.1, x.2.2, (s.look x.2.2).version, (s.look x.2.2).active))) ∨
      (∃ q clip serial made slot, r = .versionRequest q clip serial made slot ∧ src = .lb ∧ dst = .cat ∧
        a = .stampVersionAnswer q clip serial made slot (s.look slot).version) ∨
      (∃ q serial clips, r = .purgeReaderQuery q serial clips ∧ src = .ins ∧ dst = .cat ∧
        a = .purgeReaderAnswer q serial (decide (s.ins.reader.state ≠ .idle ∧ ∃ c ∈ clips, s.ins.reader.clip = some c))) ∨
      (∃ q serial, r = .purgeBayQuery q serial ∧ src = .ci ∧ dst = .cat ∧
        a = .purgeBayAnswer q serial (decide (∃ b, (s.bay b).serial = some serial))) ∨
      ∃ who p vol yes, r = .attachmentQuestion who p vol ∧ src = .dp p ∧
        yes = ((s.port p).state.attached && (s.port p).vol = some vol) ∧
        ((∃ ix, who = .reader ix ∧ dst = .ins ∧ a = .reinspectAttachmentAnswer ix yes) ∨
          ∃ k ix, who = .output k ix ∧ dst = .ro ∧ a = .playAttachmentAnswer k ix yes)) →
    exec r s = .next { s with wire := s.wire ++ [⟨src, dst, a⟩] }) ∧
  (∀ (s : State) clip order ch pass tok q k, ∀ w ∈ [
    (Asker.dispatch order, Node.ods, Instr.dispatchLookupAnswer order (s.clip? clip)),
    (.channel ch order, .cc ch, .clipLengthAnswer ch order (s.clip? clip)),
    (.livePass ch pass, .fx, .liveInspectionStateAnswer ch pass (s.clip? clip)),
    (.analysis tok, .ins, .analysisLookupAnswer tok (s.clip? clip)),
    (.reader, .ins, .reinspectLookupAnswer (s.clip? clip)),
    (.occurrence tok, .fl, .occurrenceLookupAnswer tok (s.clip? clip)),
    (.verified tok, .fl, .verifiedReportLookupAnswer tok (s.clip? clip)),
    (.clearHold q tok, .fl, .clearHoldLookupAnswer q tok clip (s.clip? clip)),
    (.boundary k tok, .ro, .boundaryLookupAnswer k tok (s.clip? clip)),
    (.play k, .ro, .playLookupAnswer k (s.clip? clip))],
    exec (.clipLookup w.1 clip) s = .next { s with wire := s.wire ++ [⟨.cat, w.2.1, w.2.2⟩] })

/-! ## The whole machine -/

/-- A step runs the command at the front of the queue: it is `exec` of that command on the state with the queue's rest.
That the commands wait in a queue, first in first out, is the model's choice (assumption 1). -/
def Obligations.AStepRunsTheFrontCommand : Prop :=
  ∀ s c rest, s.pending = c :: rest → step s = exec c { s with pending := rest }

/-- With no command waiting a step delivers one message that a block has sent, and the machine idles when none is on its
way (the model's choice, assumption 1). Messages from one block to another arrive in the order they were sent (0.6), and
what the Inspector has filed with the Fault List before an analysis completed arrives before the pool is told of the
completion (R141); between other pairs the order is open (assumption 2). The order in which one command puts several
messages on the wire, which every statement about the wire gives, is the model's choice where they go to different
receivers (assumption 51). -/
def Obligations.MessagesArriveInOrder : Prop :=
  (∀ s, s.pending = [] → s.wire = [] → step s = .next s) ∧
  ∀ s, s.pending = [] → s.wire ≠ [] → ∃ i w, s.wire[i]? = some w ∧
    (∀ j v, j < i → s.wire[j]? = some v → ¬(v.src = w.src ∧ v.dst = w.dst) ∧
      ¬(v.src = .ins ∧ v.dst = .fl ∧ w.src = .ins ∧ ∃ slot, w.msg = .analysisDoneReport slot)) ∧
    step s = exec w.msg { s with wire := s.wire.eraseIdx i, arrivals := s.arrivals + 1 }

/-- Every command completes in every state, leaves the queue of commands alone, and, unless it resets the part, changes
the state of one block: what it owes another block it sends as a message (0.3, 0.6). The Frame Extractor, the Preview Pool
and the Inspector count as one, and so do the channels and the Staging Store (assumption 10). A listing request that makes
a record also takes the number of its creation (assumption 58). -/
def Obligations.CommandsCompleteInOneBlock : Prop :=
  ∀ c s, ∃ t, exec c s = .next t ∧ t.pending = s.pending ∧ (resets c = false →
    ∃ u, u = { t with pins := s.pins } ∧ (onlyCi s u ∨ onlyCat s u ∨
      (∃ b ins serial clipNo required desc, c = .listingRequest b ins serial clipNo required desc) ∧ onlyListed s u ∨
      onlyOds s u ∨ onlyCc s u ∨ onlyDp s u ∨
      onlyFrames s u ∨ onlyFl s u ∨ onlyLb s u ∨ onlyRo s u ∨ onlySp s u))

/-- What the part holds right after reset (R1, R23, R45, R63, R65, R71, R91, R129, R147, R149, R151, R157, R172, R188, R189,
R203): every bay EMPTY, no record, order, buffer, held slot, hot site or finding, the mode HOLD, the reader, channels and
ports idle, the default thresholds and classes, look version 0, outputs disabled and STOPPED, links DOWN. The pins are those
of a part with nothing inserted and every strap at its first value (the model's choice, assumption 4). The rules that every
step keeps hold. -/
def Obligations.ResetState : Prop :=
  (∀ b, (State.reset.bay b).state = .empty ∧ (State.reset.bay b).serial = none ∧ (State.reset.bay b).reader = none ∧
    (State.reset.bay b).claims = []) ∧
  State.reset.cat.clips = [] ∧ State.reset.ods.orders = [] ∧ State.reset.ods.mode = .hold ∧
  (∀ ch, (State.reset.chan ch).phase = .idle ∧ (State.reset.chan ch).order = none) ∧ State.reset.sts.bufs = [] ∧
  (∀ p, (State.reset.port p).state = .absent ∧ (State.reset.port p).vol = none) ∧ State.reset.pp.slots = [] ∧
  State.reset.ins.sites = [] ∧ State.reset.ins.reader.state = .idle ∧ State.reset.fl.list = [] ∧
  (∀ i, (State.reset.look i).version = 0 ∧ (State.reset.look i).holder = none ∧ (State.reset.look i).active = identityLook) ∧
  State.reset.lb.fill = none ∧
  (∀ k, (State.reset.out k).enabled = false ∧ (State.reset.out k).play = .stopped ∧ (State.reset.out k).rate = 1) ∧
  (∀ g, State.reset.clock g = {}) ∧ (∀ st, (State.reset.station st).link = .down) ∧ State.reset.sp.seq = 0 ∧
  State.reset.sts.waits = [] ∧ State.reset.fl.counter = 0 ∧ State.reset.fl.purged = [] ∧
  State.reset.fl.classes = defaultClasses ∧ State.reset.ins.engine = none ∧
  State.reset.ins.limits = { clipLevel := 4064, clipArea := 5184, clipRun := 3, blackLevel := 64, darkLimit := 256
                             hotLevel := 3072 } ∧
  State.reset.pins = pinsAtReset ∧
  State.reset.pending = [] ∧ cardTableOk State.reset ∧ catalogOk State.reset ∧ lookBankOk State.reset ∧
  queueOk State.reset ∧ channelsOk State.reset ∧
  stationsOk State.reset ∧ stagingOk State.reset ∧ poolOk State.reset ∧ faultListOk State.reset ∧ portsOk State.reset ∧
  outputsOk State.reset

/-- Every step keeps the card table right (R4, R10, R11): one reader, only of a PRESENT card, no channel waiting twice or
behind itself, and no serial in two bays that are LISTING, PRESENT or RELEASED. -/
def Obligations.CardTableIsKept : Prop := ∀ s t, cardTableOk s → step s = .next t → cardTableOk t

/-- Every step keeps the Catalog right (R23, R24, R28): records ascending by an id of 0 to 1023, one record for each card
serial and clip number, and at most 6 copies each. And the order queue (R45 to R47): at most 64 entries with ids of their
own, priorities of 0 to 3, one to three distinct ports, and each channel taken by the one order that runs on it; that
while fewer than 65,472 removed orders await their unbind answers, which keep their ids (the model's choice, assumption
24). -/
def Obligations.CatalogAndOrderQueueAreKept : Prop :=
  (∀ s t, catalogOk s → step s = .next t → catalogOk t) ∧
  ∀ s t, queueOk s → s.ods.leaving.length < 65472 → step s = .next t → queueOk t

/-- Every step keeps the Look Bank right (R172 to R174, R179): looks in range, names of at most 16 characters, versions of
16 bits, a pending look only while its slot is held or a running fill has written it, and no slot both held by a station
and covered by a fill. -/
def Obligations.LookBankIsKept : Prop := ∀ s t, lookBankOk s → step s = .next t → lookBankOk t

/-- Every step keeps the stations right (R203, R205, R206, R209, R211): at most 48 responses, 64 notices and 16 unanswered
requests, counted right, and nothing waiting while a link is DOWN. -/
def Obligations.StationsAreKept : Prop := ∀ s t, stationsOk s → step s = .next t → stationsOk t

/-- Every step keeps the channels, the Staging Store, the Preview Pool and the Fault List right (R65, R71, R72, R102,
R129, R131, R157, R160 to R163, R170): an IDLE channel's context empty and any other of one order, a claim, a burst or a
sum only after the live pass has begun, an end kind exactly in ENDING, no watch left of an element that has closed;
buffers and held slots ascending by number within their ranges, at most 96 buffers of a channel, no held slot without a
holder, at most one NEWEST of a channel, and at most 512 findings with ids of their own, the blocking count last sent for
a clip being that of its findings. -/
def Obligations.ChannelsStagingPoolAndFaultListAreKept : Prop :=
  (∀ s t, channelsOk s → step s = .next t → channelsOk t) ∧
  (∀ s t, stagingOk s → step s = .next t → stagingOk t) ∧ (∀ s t, poolOk s → step s = .next t → poolOk t) ∧
  ∀ s t, faultListOk s → step s = .next t → faultListOk t

/-- Every step keeps the ports and the outputs right (R91, R99, R101, R104, R188, R190, R198): the allocation pointer and
the recorded end never pass the drive's capacity, a format has its two blocks, an output that is disabled holds and sends
nothing, and one that is STOPPED plays nothing. -/
def Obligations.PortsAndOutputsAreKept : Prop :=
  (∀ s t, portsOk s → step s = .next t → portsOk t) ∧ ∀ s t, outputsOk s → step s = .next t → outputsOk t

/-- The look computation (R185 to R187). Matrix and trim round half up and clamp to 12 bits; a curve interpolates with
true floor and stays between its two entries; LEGAL codes lie within 64 to 940 and FULL codes within 0 to 1023; an absent
part passes its input through. A sample goes through matrix, trim, curve and encoding, in this order. -/
def Obligations.LookArithmetic : Prop :=
  (∀ m : Vector Int 9, ∀ x : Sample, ∃ y : Sample, matrixStage (some m) x = y ∧
    (y.1 : Int) = min (4095 : Int) (max (0 : Int) ((m[0] * x.1 + m[1] * x.2.1 + m[2] * x.2.2 + 512) / 1024)) ∧
    (y.2.1 : Int) = min (4095 : Int) (max (0 : Int) ((m[3] * x.1 + m[4] * x.2.1 + m[5] * x.2.2 + 512) / 1024)) ∧
    (y.2.2 : Int) = min (4095 : Int) (max (0 : Int) ((m[6] * x.1 + m[7] * x.2.1 + m[8] * x.2.2 + 512) / 1024))) ∧
  (∀ (t : Trim) v, (trimOne t v : Int) = min 4095 (max 0 (((v * t.gain + 512) / 1024 : Nat) + t.offset))) ∧
  (∀ (t : Trim) v, t.gain = 1024 → t.offset = 0 → v ≤ 4095 → trimOne t v = v) ∧
  (∀ (t : Vector Trim 3) (x : Sample), trimStage (some t) x = (trimOne t[0] x.1, trimOne t[1] x.2.1, trimOne t[2] x.2.2)) ∧
  (∀ (u : Vector Nat 33) (v i f a b : Nat), v ≤ 4095 → i = v / 128 → f = v - 128 * i → u[i]? = some a → u[i + 1]? = some b →
    (curveOne u v : Int) = a + (((b : Int) - a) * f + 64) / 128 ∧ min a b ≤ curveOne u v ∧ curveOne u v ≤ max a b) ∧
  (∀ (u : Vector (Vector Nat 33) 3) (x : Sample),
    curveStage (some u) x = (curveOne u[0] x.1, curveOne u[1] x.2.1, curveOne u[2] x.2.2)) ∧
  (∀ x : Sample, matrixStage none x = x ∧ trimStage none x = x ∧ curveStage none x = x) ∧
  (∀ v, encode10 .legal v = 64 + (v * 876 + 2047) / 4095 ∧ encode10 .full v = min ((v + 2) / 4) 1023) ∧
  (∀ l e (x : Sample), lookOk l → l.enc = e → x.1 ≤ 4095 → x.2.1 ≤ 4095 → x.2.2 ≤ 4095 →
    ∀ n ∈ [(renderSample l x).r, (renderSample l x).g, (renderSample l x).b],
      (e = .legal → 64 ≤ n ∧ n ≤ 940) ∧ (e = .full → n ≤ 1023)) ∧
  (∀ m : Encoding, ∀ x ∈ patternRow m, ∀ v ∈ [x.r, x.g, x.b], (m = .legal → v = 721 ∨ v = 64) ∧ (m = .full →
      v = 768 ∨ v = 0)) ∧
  (∀ l x, renderSample l x = encodeStage l.enc (curveStage l.curves (trimStage l.trim (matrixStage l.matrix x)))) ∧
  (∀ e x, encodeStage e x = ⟨encode10 e x.1, encode10 e x.2.1, encode10 e x.2.2⟩)

/-- Timecode arithmetic (R128), at the 24, 25, 30, 48, 50 and 60 frames a second of rate codes 1 to 6. A valid timecode is
given by its count, which lies below the frames in a day; the next one, one plus any number of frames and the difference
of two are taken modulo the day, and every result is valid. -/
def Obligations.TimecodeArithmetic : Prop :=
  (fps 1 = 24 ∧ fps 2 = 25 ∧ fps 3 = 30 ∧ fps 4 = 48 ∧ fps 5 = 50 ∧ fps 6 = 60) ∧
  ∀ rate t, 1 ≤ rate → rate ≤ 6 →
    (tcValid rate t = true ↔ t.h < 24 ∧ t.m < 60 ∧ t.s < 60 ∧ t.f < fps rate) ∧
    (tcValid rate t = true →
      tcCount rate t = ((t.h * 60 + t.m) * 60 + t.s) * fps rate + t.f ∧ tcCount rate t < 86400 * fps rate ∧
      tcOf rate (tcCount rate t) = t ∧
      tcValid rate (tcNext rate t) = true ∧ tcCount rate (tcNext rate t) = (tcCount rate t + 1) % (86400 * fps rate) ∧
      (∀ k : Int, tcValid rate (tcPlus rate t k) = true ∧
        (tcCount rate (tcPlus rate t k) : Int) = ((tcCount rate t : Int) + k) % (86400 * fps rate : Nat)) ∧
      ∀ t0, tcValid rate t0 = true → tcDiff rate t t0 < 86400 * fps rate ∧
        (tcDiff rate t t0 : Int) = ((tcCount rate t : Int) - tcCount rate t0) % (86400 * fps rate : Nat) ∧
        tcPlus rate t0 (tcDiff rate t t0) = t)

/-- What the part writes to a drive it reads back (R95, R96, R100, R105, R215): numbers low byte first, the volume label
with its serial and recorded end, and the clip header with every field, whatever bytes follow them in the block. -/
def Obligations.LabelsAndHeadersReadBack : Prop :=
  (∀ n v, leNat (leBytes n v) = v % 256 ^ n ∧ (leBytes n v).length = n) ∧
  (∀ serial capacity recEnd rest, serial ≠ 0 → capacity < 2 ^ 64 → 0 < recEnd → recEnd ≤ capacity →
    readLabel capacity (labelBytes serial capacity recEnd ++ rest) = .ok (serial, recEnd)) ∧
  ∀ vol st serial clipNo len check rest recEnd pos, 1 ≤ clipNo → clipNo ≤ 999 → 0 < len → len ≤ Config.maxClipBytes →
    pos + spanOf (extentsOf len) + dataBlocks len ≤ recEnd →
    readClipHdr vol recEnd pos (clipHdrBytes vol st serial clipNo len check ++ rest) = some
      { entry := { hb := pos, serial := serial, clipNo := clipNo, len := len, sums := none }
        complete := decide (st = .complete), check := check }

/-- The extent sum (R70). The bytes are taken in pairs, low byte first, the last one of an odd count with a zero high
byte; A starts at 1 and B at 0, and each word is added modulo 65535. Bytes FFh and bytes 00h of one length have equal sums:
for even lengths, to which the model takes the rule's remark to be confined (the model's choice, assumption 41). -/
def Obligations.ExtentSums : Prop :=
  (∀ (bs : List Byte) w, w = (List.range ((bs.length + 1) / 2)).map (fun k =>
      (bs.getD (2 * k) 0).toNat + 256 * (bs.getD (2 * k + 1) 0).toNat) →
    ∃ a b, (a, b) = w.foldl (fun ab x => ((ab.1 + x) % 65535, (ab.2 + (ab.1 + x) % 65535) % 65535)) (1, 0) ∧
      a < 65535 ∧ b < 65535 ∧ (extentSum bs).toNat = b * 65536 + a) ∧
  ∀ n, extentSum (List.replicate (2 * n) 0xFF) = extentSum (List.replicate (2 * n) 0)
end

