-- ==== Sys2Proof/Laws/Tables.lean ====
section
/-! SUPPORT. Reading and storing the entries of each block's tables: what is stored is read back, and every other entry is
as it was. -/

namespace Sys2Proof

@[simp] theorem upd_same {α : Type} {n : Nat} (v : Vector α n) (i : Fin n) (f : α → α) :
    (upd v i f)[i.val] = f v[i.val] := by
  simp [upd]

theorem upd_get {α : Type} {n : Nat} (v : Vector α n) (i j : Fin n) (f : α → α) :
    (upd v i f)[j.val] = if j = i then f v[i.val] else v[j.val] := by
  by_cases h : j = i
  · subst h; simp
  · have : i.val ≠ j.val := fun e => h (Fin.ext e.symm)
    simp [upd, Vector.getElem_set_ne, this, h]

theorem upd_other {α : Type} {n : Nat} (v : Vector α n) (i j : Fin n) (f : α → α) (h : j ≠ i) :
    (upd v i f)[j.val] = v[j.val] := by
  simp [upd_get, h]

@[simp] theorem ix?_val {k : Nat} (i : Fin k) : ix? k i.val = some i := by simp [ix?]

theorem ix?_some {k n : Nat} {i : Fin k} (h : ix? k n = some i) : i.val = n := by
  unfold ix? at h; split at h <;> simp_all [Fin.ext_iff]

theorem ix?_none {k n : Nat} : ix? k n = none ↔ k ≤ n := by unfold ix?; split <;> simp <;> omega

end Sys2Proof

namespace Sys2Proof.Machine

/-! ## Outputs, stations, looks, clocks -/

@[simp] theorem State.setOut_out (s : State) (k : Outp) (o : Output) : (s.setOut k o).out k = o := by
  simp [State.setOut, State.out]

theorem State.setOut_other (s : State) (k j : Outp) (o : Output) (h : j ≠ k) : (s.setOut k o).out j = s.out j :=
  upd_other _ _ _ _ h

@[simp] theorem State.setStation_station (s : State) (st : Stn) (x : Station) : (s.setStation st x).station st = x := by
  simp [State.setStation, State.station]

theorem State.setStation_other (s : State) (st j : Stn) (x : Station) (h : j ≠ st) :
    (s.setStation st x).station j = s.station j :=
  upd_other _ _ _ _ h

@[simp] theorem State.setLook_look (s : State) (i : LookIx) (x : LookSlot) : (s.setLook i x).look i = x := by
  simp [State.setLook, State.look]

theorem State.setLook_other (s : State) (i j : LookIx) (x : LookSlot) (h : j ≠ i) : (s.setLook i x).look j = s.look j :=
  upd_other _ _ _ _ h

@[simp] theorem State.setClock_clock (s : State) (g : Grp) (c : Clock) : (s.setClock g c).clock g = c := by
  simp [State.setClock, State.clock]

theorem State.setClock_other (s : State) (g j : Grp) (c : Clock) (h : j ≠ g) : (s.setClock g c).clock j = s.clock j :=
  upd_other _ _ _ _ h

/-! ## Bays, channels, ports -/

/-- All that storing a bay's entry does: the entry, and the report to the ODS when its view changes (R50). -/
theorem State.setBay_eq (s : State) (b : Bay) (e : BayEntry) :
    s.setBay b e = { s with
      ci := { bays := upd s.ci.bays b fun _ => e }
      wire := s.wire ++ if e.view = (s.bay b).view then [] else [⟨.ci, .ods, .bayViewReport b e.view⟩] } := by
  unfold State.setBay; split <;> simp [State.send]

@[simp] theorem State.setBay_bay (s : State) (b : Bay) (e : BayEntry) : (s.setBay b e).bay b = e := by
  simp [State.setBay_eq, State.bay]

theorem State.setBay_other (s : State) (b j : Bay) (e : BayEntry) (h : j ≠ b) : (s.setBay b e).bay j = s.bay j := by
  simp only [State.setBay_eq, State.bay]; exact upd_other _ _ _ _ h

/-- All that storing a port's context does: the context, and the report to the ODS when its view changes (R92). -/
theorem State.setPort_eq (s : State) (p : Port) (c : PortCtx) :
    s.setPort p c = { s with
      dp := { ctx := upd s.dp.ctx p fun _ => c }
      wire := s.wire ++ if c.view = (s.port p).view then [] else [⟨.dp p, .ods, .destViewReport p c.view⟩] } := by
  unfold State.setPort; split <;> simp [State.send]

@[simp] theorem State.setPort_port (s : State) (p : Port) (c : PortCtx) : (s.setPort p c).port p = c := by
  simp [State.setPort_eq, State.port]

theorem State.setPort_other (s : State) (p j : Port) (c : PortCtx) (h : j ≠ p) : (s.setPort p c).port j = s.port j := by
  simp only [State.setPort_eq, State.port]; exact upd_other _ _ _ _ h

/-- A fold whose steps leave a view of the state alone leaves it alone. -/
theorem foldl_keeps {α β : Type} (g : State → β) (f : State → α → State) (h : ∀ s a, g (f s a) = g s) (l : List α)
    (s : State) : g (l.foldl f s) = g s := by
  induction l generalizing s with
  | nil => rfl
  | cons a l ih => simp [ih, h]

/-- Answering watches: the watches whose element has closed are answered in order and forgotten (R102). -/
theorem State.answerWatches_eq (s : State) (ch : Chan) :
    s.answerWatches ch = { s with
      cc := { s.cc with watches := s.cc.watches.filter fun w => ¬(w.2.1 = ch ∧ !(s.chan ch).aliveFor w.1 w.2.2) }
      wire := s.wire ++ (s.cc.watches.filter fun w => w.2.1 = ch ∧ !(s.chan ch).aliveFor w.1 w.2.2).map fun w =>
        ⟨.cc ch, .dp w.1, .watchAnswer w.1 ch w.2.2⟩ } := by
  unfold State.answerWatches
  have key : ∀ (l : List (Port × Chan × Nat)) (t : State),
      l.foldl (fun t w => t.send (.cc ch) (.dp w.1) [.watchAnswer w.1 ch w.2.2]) t =
        { t with wire := t.wire ++ l.map fun w => ⟨.cc ch, .dp w.1, .watchAnswer w.1 ch w.2.2⟩ } := by
    intro l
    induction l with
    | nil => intro t; simp
    | cons w l ih => intro t; rw [List.foldl_cons, ih]; simp [State.send]
  simp [key]

@[simp] theorem State.setChan_chan (s : State) (ch : Chan) (c : Channel) : (s.setChan ch c).chan ch = c := by
  simp [State.setChan, State.answerWatches_eq, State.chan]

theorem State.setChan_other (s : State) (ch j : Chan) (c : Channel) (h : j ≠ ch) :
    (s.setChan ch c).chan j = s.chan j := by
  simp only [State.setChan, State.answerWatches_eq, State.chan]; exact upd_other _ _ _ _ h

end Sys2Proof.Machine
end

