-- ==== Sys2Proof/Laws/Frames.lean ====
section
/-! SUPPORT. What each shared operation leaves alone: an operation of a block changes nothing but that block's own state, the
messages on their way and, where it starts an attempt, the attempt numbers. `State.rest p` is the state without what
operations of part `p` may change; one lemma per operation says that the operation keeps it. -/

set_option linter.unusedTactic false
set_option linter.unreachableTactic false

namespace Sys2Proof.Machine

/-- The parts of the BX-640 as the operations divide it: CI, Catalog, ODS, channels with the Staging Store, ports, frames
(Frame Extractor, Preview Pool and Inspector), Fault List, Look Bank, outputs, Station Ports. -/
inductive Part | ci | cat | ods | cc | dp | frames | fl | lb | ro | sp
  deriving DecidableEq, Repr

/-- The state with all that operations of a part may change put aside. -/
def State.rest (s : State) (p : Part) : State :=
  match p with
  | .ci => { s with ci := .reset, wire := [], token := 0 }
  | .cat => { s with cat := .reset, wire := [] }
  | .ods => { s with ods := .reset, wire := [] }
  | .cc => { s with cc := .reset, sts := .reset, wire := [], token := 0 }
  | .dp => { s with dp := .reset, wire := [], token := 0 }
  | .frames => { s with fx := .reset, pp := .reset, ins := .reset, wire := [], token := 0 }
  | .fl => { s with fl := .reset, wire := [], token := 0 }
  | .lb => { s with lb := .reset, wire := [], token := 0 }
  | .ro => { s with ro := .reset, wire := [], token := 0 }
  | .sp => { s with sp := .reset, wire := [] }

/-- A fold whose steps keep the rest keeps it. -/
theorem foldl_rest {α : Type} (p : Part) (f : State → α → State) (l : List α) (s : State)
    (h : ∀ s a, (f s a).rest p = s.rest p) : (l.foldl f s).rest p = s.rest p := foldl_keeps (State.rest · p) f h l s

/-! ## Replacing a part -/

@[simp] theorem State.rest_with_ci (s : State) (x_ci : CardInterface) :
    ({ s with ci := x_ci } : State).rest .ci = s.rest .ci := rfl
@[simp] theorem State.rest_with_cat (s : State) (x_cat : Catalog) :
    ({ s with cat := x_cat } : State).rest .cat = s.rest .cat := rfl
@[simp] theorem State.rest_with_ods (s : State) (x_ods : Dispatcher) :
    ({ s with ods := x_ods } : State).rest .ods = s.rest .ods := rfl
@[simp] theorem State.rest_with_cc (s : State) (x_cc : Channels) (x_sts : Staging) :
    ({ s with cc := x_cc, sts := x_sts } : State).rest .cc = s.rest .cc := rfl
@[simp] theorem State.rest_with_dp (s : State) (x_dp : Ports) :
    ({ s with dp := x_dp } : State).rest .dp = s.rest .dp := rfl
@[simp] theorem State.rest_with_frames (s : State) (x_fx : Extractor) (x_pp : Pool) (x_ins : Inspector) :
    ({ s with fx := x_fx, pp := x_pp, ins := x_ins } : State).rest .frames = s.rest .frames := rfl
@[simp] theorem State.rest_with_fl (s : State) (x_fl : FaultList) :
    ({ s with fl := x_fl } : State).rest .fl = s.rest .fl := rfl
@[simp] theorem State.rest_with_lb (s : State) (x_lb : LookBank) :
    ({ s with lb := x_lb } : State).rest .lb = s.rest .lb := rfl
@[simp] theorem State.rest_with_ro (s : State) (x_ro : Renderer) :
    ({ s with ro := x_ro } : State).rest .ro = s.rest .ro := rfl
@[simp] theorem State.rest_with_sp (s : State) (x_sp : StationPorts) :
    ({ s with sp := x_sp } : State).rest .sp = s.rest .sp := rfl

/-! ## The frames of Safety.lean -/

theorem onlyCi_of_rest {s t : State} (h : t.rest .ci = s.rest .ci) : onlyCi s t := by
  cases s; cases t; simp [State.rest] at h; simp [onlyCi, h]

theorem onlyCat_of_rest {s t : State} (h : t.rest .cat = s.rest .cat) : onlyCat s t := by
  cases s; cases t; simp [State.rest] at h; simp [onlyCat, h]

theorem onlyOds_of_rest {s t : State} (h : t.rest .ods = s.rest .ods) : onlyOds s t := by
  cases s; cases t; simp [State.rest] at h; simp [onlyOds, h]

theorem onlyCc_of_rest {s t : State} (h : t.rest .cc = s.rest .cc) : onlyCc s t := by
  cases s; cases t; simp [State.rest] at h; simp [onlyCc, h]

theorem onlyDp_of_rest {s t : State} (h : t.rest .dp = s.rest .dp) : onlyDp s t := by
  cases s; cases t; simp [State.rest] at h; simp [onlyDp, h]

theorem onlyFrames_of_rest {s t : State} (h : t.rest .frames = s.rest .frames) : onlyFrames s t := by
  cases s; cases t; simp [State.rest] at h; simp [onlyFrames, h]

theorem onlyFl_of_rest {s t : State} (h : t.rest .fl = s.rest .fl) : onlyFl s t := by
  cases s; cases t; simp [State.rest] at h; simp [onlyFl, h]

theorem onlyLb_of_rest {s t : State} (h : t.rest .lb = s.rest .lb) : onlyLb s t := by
  cases s; cases t; simp [State.rest] at h; simp [onlyLb, h]

theorem onlyRo_of_rest {s t : State} (h : t.rest .ro = s.rest .ro) : onlyRo s t := by
  cases s; cases t; simp [State.rest] at h; simp [onlyRo, h]

theorem onlySp_of_rest {s t : State} (h : t.rest .sp = s.rest .sp) : onlySp s t := by
  cases s; cases t; simp [State.rest] at h; simp [onlySp, h]


/-! ## Messages and entries -/

@[simp] theorem State.send_rest (s : State) (src : Node) (dst : Node) (ms : List Instr) (pt : Part) :
    (State.send s src dst ms).rest pt = s.rest pt := by cases pt <;> rfl
@[simp] theorem State.raise_rest (s : State) (src : Node) (n : Notice) (pt : Part) :
    (State.raise s src n).rest pt = s.rest pt := by cases pt <;> rfl
@[simp] theorem State.reply_rest (s : State) (src : Node) (q : Req) (a : Answer) (pt : Part) :
    (State.reply s src q a).rest pt = s.rest pt := by cases pt <;> rfl
@[simp] theorem State.accept_rest (s : State) (src : Node) (q : Req) (vals : List Field) (pt : Part) :
    (State.accept s src q vals).rest pt = s.rest pt := by cases pt <;> rfl
@[simp] theorem State.refuse_rest (s : State) (src : Node) (q : Req) (c : Code) (pt : Part) :
    (State.refuse s src q c).rest pt = s.rest pt := by cases pt <;> rfl
@[simp] theorem State.refuseState_rest (s : State) (src : Node) (q : Req) (r : Reason) (pt : Part) :
    (State.refuseState s src q r).rest pt = s.rest pt := by cases pt <;> rfl
@[simp] theorem State.file_rest (s : State) (src : Node) (o : Occurrence) (pt : Part) :
    (State.file s src o).rest pt = s.rest pt := by cases pt <;> rfl
@[simp] theorem State.lookup_rest (s : State) (src : Node) (who : Asker) (clip : Nat) (pt : Part) :
    (State.lookup s src who clip).rest pt = s.rest pt := by cases pt <;> rfl
@[simp] theorem State.tick_rest (s : State) (p : Part)
    (h : p ≠ .cat ∧ p ≠ .ods ∧ p ≠ .sp) : s.tick.rest p = s.rest p := by cases p <;> first | rfl | simp at h
@[simp] theorem State.setBay_rest (s : State) (b : Bay) (e : BayEntry) :
    (State.setBay s b e).rest .ci = s.rest .ci := by simp only [State.setBay_eq]; rfl
@[simp] theorem State.setClip_rest (s : State) (r : Clip) : (State.setClip s r).rest .cat = s.rest .cat := by
  unfold State.setClip
  repeat' first | with_reducible rfl | (simp; done) | intro _ | rw [foldl_rest] | split | simp
@[simp] theorem State.answerWatches_rest (s : State) (ch : Chan) :
    (State.answerWatches s ch).rest .cc = s.rest .cc := by simp only [State.answerWatches_eq]; rfl
@[simp] theorem State.setChan_rest (s : State) (ch : Chan) (c : Channel) :
    (State.setChan s ch c).rest .cc = s.rest .cc := by simp only [State.setChan, State.answerWatches_eq]; rfl
@[simp] theorem State.setPort_rest (s : State) (p : Port) (c : PortCtx) :
    (State.setPort s p c).rest .dp = s.rest .dp := by simp only [State.setPort_eq]; rfl
@[simp] theorem State.setOut_rest (s : State) (k : Outp) (o : Output) :
    (State.setOut s k o).rest .ro = s.rest .ro := by
  unfold State.setOut
  repeat' first | with_reducible rfl | (simp; done) | intro _ | rw [foldl_rest] | split | simp
@[simp] theorem State.setStation_rest (s : State) (st : Stn) (x : Station) :
    (State.setStation s st x).rest .sp = s.rest .sp := by
  unfold State.setStation
  repeat' first | with_reducible rfl | (simp; done) | intro _ | rw [foldl_rest] | split | simp

/-! ## Card Interface -/

@[simp] theorem State.unreadable_rest (s : State) (b : Bay) (e : BayEntry) (cause : UnreadCause) :
    (State.unreadable s b e cause).rest .ci = s.rest .ci := by
  unfold State.unreadable
  repeat' first | with_reducible rfl | (simp; done) | intro _ | rw [foldl_rest] | split | simp
@[simp] theorem State.cardIn_rest (s : State) (b : Bay) (wp : Bool) : (State.cardIn s b wp).rest .ci = s.rest .ci := by
  unfold State.cardIn
  repeat' first | with_reducible rfl | (simp; done) | intro _ | rw [foldl_rest] | split | simp
@[simp] theorem State.dropClass_rest (s : State) (b : Bay) (e : BayEntry) :
    (State.dropClass s b e).rest .ci = s.rest .ci := by
  unfold State.dropClass
  repeat' first | with_reducible rfl | (simp; done) | intro _ | rw [foldl_rest] | split | simp
@[simp] theorem State.offerNext_rest (s : State) (b : Bay) (e : BayEntry) (l : Listing) :
    (State.offerNext s b e l).rest .ci = s.rest .ci := by
  unfold State.offerNext
  repeat' first | with_reducible rfl | (simp; done) | intro _ | rw [foldl_rest] | split | simp
@[simp] theorem State.answerClaim_rest (s : State) (ch : Chan) (tag : Nat) (a : ClaimAns) (pt : Part) :
    (State.answerClaim s ch tag a).rest pt = s.rest pt := by
  unfold State.answerClaim
  repeat' first | with_reducible rfl | (simp; done) | intro _ | rw [foldl_rest] | split | simp
@[simp] theorem State.answerBurst_rest (s : State) (ch : Chan) (a : BurstAns) (pt : Part) :
    (State.answerBurst s ch a).rest pt = s.rest pt := by
  unfold State.answerBurst
  repeat' first | with_reducible rfl | (simp; done) | intro _ | rw [foldl_rest] | split | simp
@[simp] theorem State.burstFailed_rest (s : State) (b : Bay) (tok : Nat) :
    (State.burstFailed s b tok).rest .ci = s.rest .ci := by
  unfold State.burstFailed
  repeat' first | with_reducible rfl | (simp; done) | intro _ | rw [foldl_rest] | split | simp
@[simp] theorem State.release_rest (s : State) (q : Req) (b : Bay) (forced : Bool) :
    (State.release s q b forced).rest .ci = s.rest .ci := by
  unfold State.release
  repeat' first | with_reducible rfl | (simp; done) | intro _ | rw [foldl_rest] | split | simp

/-! ## Clip Catalog -/

@[simp] theorem State.clipState_rest (s : State) (c : Clip) (order : Option Nat) (new : ClipState) :
    (State.clipState s c order new).rest .cat = s.rest .cat := by
  unfold State.clipState
  repeat' first | with_reducible rfl | (simp; done) | intro _ | rw [foldl_rest] | split | simp
@[simp] theorem State.recompute_rest (s : State) (id : Nat) : (State.recompute s id).rest .cat = s.rest .cat := by
  unfold State.recompute
  repeat' first | with_reducible rfl | (simp; done) | intro _ | rw [foldl_rest] | split | simp
@[simp] theorem State.putCopy_rest (s : State) (c : Clip) (i : Nat) (x : Copy) :
    (State.putCopy s c i x).rest .cat = s.rest .cat := by
  unfold State.putCopy
  repeat' first | with_reducible rfl | (simp; done) | intro _ | rw [foldl_rest] | split | simp
@[simp] theorem State.fileFailure_rest (s : State) (c : Clip) (x : Copy) (pt : Part) :
    (State.fileFailure s c x).rest pt = s.rest pt := by
  unfold State.fileFailure
  repeat' first | with_reducible rfl | (simp; done) | intro _ | rw [foldl_rest] | split | simp
@[simp] theorem State.moveCopy_rest (s : State) (c : Clip) (i : Nat) (x : Copy) :
    (State.moveCopy s c i x).rest .cat = s.rest .cat := by
  unfold State.moveCopy
  repeat' first | with_reducible rfl | (simp; done) | intro _ | rw [foldl_rest] | split | simp
@[simp] theorem State.resolve_rest (s : State) (c : Clip) (i : Nat) (x : Copy) :
    (State.resolve s c i x).rest .cat = s.rest .cat := by
  unfold State.resolve
  repeat' first | with_reducible rfl | (simp; done) | intro _ | rw [foldl_rest] | split | simp
@[simp] theorem State.resolveAll_rest (s : State) (id : Nat) : (State.resolveAll s id).rest .cat = s.rest .cat := by
  unfold State.resolveAll
  repeat' first | with_reducible rfl | (simp; done) | intro _ | rw [foldl_rest] | split | simp
@[simp] theorem State.search_rest (s : State) (c : Clip) (pt : Part) : (State.search s c).rest pt = s.rest pt := by
  unfold State.search
  repeat' first | with_reducible rfl | (simp; done) | intro _ | rw [foldl_rest] | split | simp
@[simp] theorem State.fileUnsupported_rest (s : State) (c : Clip) (pt : Part) :
    (State.fileUnsupported s c).rest pt = s.rest pt := by
  unfold State.fileUnsupported
  repeat' first | with_reducible rfl | (simp; done) | intro _ | rw [foldl_rest] | split | simp
@[simp] theorem State.refresh_rest (s : State) (c : Clip) (d : Desc) :
    (State.refresh s c d).rest .cat = s.rest .cat := by
  unfold State.refresh
  repeat' first | with_reducible rfl | (simp; done) | intro _ | rw [foldl_rest] | split | simp
@[simp] theorem State.holdDesc_rest (s : State) (c : Clip) (d : Desc) :
    (State.holdDesc s c d).rest .cat = s.rest .cat := by
  unfold State.holdDesc
  repeat' first | with_reducible rfl | (simp; done) | intro _ | rw [foldl_rest] | split | simp
@[simp] theorem State.readEnds_rest (s : State) (id : Nat) (order : Nat) :
    (State.readEnds s id order).rest .cat = s.rest .cat := by
  unfold State.readEnds
  repeat' first | with_reducible rfl | (simp; done) | intro _ | rw [foldl_rest] | split | simp
@[simp] theorem State.setHolds_rest (s : State) (c : Clip) (blocking : Nat) (overflow : Bool) :
    (State.setHolds s c blocking overflow).rest .cat = s.rest .cat := by
  unfold State.setHolds
  repeat' first | with_reducible rfl | (simp; done) | intro _ | rw [foldl_rest] | split | simp

/-! ## Order Dispatcher -/

@[simp] theorem State.setOrder_rest (s : State) (o : Order) : (State.setOrder s o).rest .ods = s.rest .ods := by
  unfold State.setOrder
  repeat' first | with_reducible rfl | (simp; done) | intro _ | rw [foldl_rest] | split | simp
@[simp] theorem State.dropOrder_rest (s : State) (id : Nat) : (State.dropOrder s id).rest .ods = s.rest .ods := by
  unfold State.dropOrder
  repeat' first | with_reducible rfl | (simp; done) | intro _ | rw [foldl_rest] | split | simp
@[simp] theorem State.startOrder_rest (s : State) (ch : Chan) (o : Order) (c : Clip) (ready : List Nat) :
    (State.startOrder s ch o c ready).rest .ods = s.rest .ods := by
  unfold State.startOrder
  repeat' first | with_reducible rfl | (simp; done) | intro _ | rw [foldl_rest] | split | simp
@[simp] theorem State.passLoop_rest (reads : List (Nat × Option Clip)) (x : Nat) (s : State) :
    (State.passLoop reads x s).rest .ods = s.rest .ods := by
  induction x generalizing s <;>
    (unfold State.passLoop
     repeat' first | with_reducible rfl | (simp [*]; done) | intro _ | rw [foldl_rest] | split | simp)
@[simp] theorem State.runPass_rest (s : State) : (State.runPass s).rest .ods = s.rest .ods := by
  unfold State.runPass
  repeat' first | with_reducible rfl | (simp; done) | intro _ | rw [foldl_rest] | split | simp
@[simp] theorem State.reserve_rest (s : State) (clip : Nat) (dests : List Port) (prio : Nat) (st : Stn)
    (how : Posting) : (State.reserve s clip dests prio st how).rest .ods = s.rest .ods := by
  unfold State.reserve
  repeat' first | with_reducible rfl | (simp; done) | intro _ | rw [foldl_rest] | split | simp
@[simp] theorem State.setPost_rest (s : State) (q : Req) (x : Option CardPost) :
    (State.setPost s q x).rest .ods = s.rest .ods := by
  unfold State.setPost
  repeat' first | with_reducible rfl | (simp; done) | intro _ | rw [foldl_rest] | split | simp
@[simp] theorem State.nextCandidate_rest (s : State) (x : CardPost) :
    (State.nextCandidate s x).rest .ods = s.rest .ods := by
  unfold State.nextCandidate
  repeat' first | with_reducible rfl | (simp; done) | intro _ | rw [foldl_rest] | split | simp
@[simp] theorem State.posted_rest (s : State) (o : Order) (serial : Serial) (letter : Letter) :
    (State.posted s o serial letter).rest .ods = s.rest .ods := by
  unfold State.posted
  repeat' first | with_reducible rfl | (simp; done) | intro _ | rw [foldl_rest] | split | simp
@[simp] theorem State.orderState_rest (s : State) (ch : Chan) (o : Order) (new : OrderState) :
    (State.orderState s ch o new).rest .ods = s.rest .ods := by
  unfold State.orderState
  repeat' first | with_reducible rfl | (simp; done) | intro _ | rw [foldl_rest] | split | simp
@[simp] theorem State.raiseEnded_rest (s : State) (o : Order) (r : Outcome × Option FailCause × Option Origin)
    (st : ClipState) : (State.raiseEnded s o r st).rest .ods = s.rest .ods := by
  unfold State.raiseEnded
  repeat' first | with_reducible rfl | (simp; done) | intro _ | rw [foldl_rest] | split | simp
@[simp] theorem State.changeMode_rest (s : State) (m : PartMode) :
    (State.changeMode s m).rest .ods = s.rest .ods := by
  unfold State.changeMode
  repeat' first | with_reducible rfl | (simp; done) | intro _ | rw [foldl_rest] | split | simp
@[simp] theorem State.holdingTest_rest (s : State) : (State.holdingTest s).rest .ods = s.rest .ods := by
  unfold State.holdingTest
  repeat' first | with_reducible rfl | (simp; done) | intro _ | rw [foldl_rest] | split | simp
@[simp] theorem State.removePending_rest (s : State) (o : Order) (origin : Origin) (pass : Bool) :
    (State.removePending s o origin pass).rest .ods = s.rest .ods := by
  unfold State.removePending
  repeat' first | with_reducible rfl | (simp; done) | intro _ | rw [foldl_rest] | split | simp

/-! ## Staging Store -/

@[simp] theorem State.setBufs_rest (s : State) (bufs : List Buffer) :
    (State.setBufs s bufs).rest .cc = s.rest .cc := by
  unfold State.setBufs
  repeat' first | with_reducible rfl | (simp; done) | intro _ | rw [foldl_rest] | split | simp
@[simp] theorem State.grant_rest (s : State) (w : Waiter) (n : Nat) : (State.grant s w n).rest .cc = s.rest .cc := by
  unfold State.grant
  repeat' first | with_reducible rfl | (simp; done) | intro _ | rw [foldl_rest] | split | simp
@[simp] theorem State.leaveWaits_rest (s : State) (ch : Chan) : (State.leaveWaits s ch).rest .cc = s.rest .cc := rfl
@[simp] theorem State.freeBuffer_rest (s : State) (n : Nat) : (State.freeBuffer s n).rest .cc = s.rest .cc := by
  unfold State.freeBuffer
  repeat' first | with_reducible rfl | (simp; done) | intro _ | rw [foldl_rest] | split | simp
@[simp] theorem State.drained_rest (s : State) (ch : Chan) (p : Port) (n : Nat) :
    (State.drained s ch p n).rest .cc = s.rest .cc := by
  unfold State.drained
  repeat' first | with_reducible rfl | (simp; done) | intro _ | rw [foldl_rest] | split | simp

/-! ## Copy channels -/

@[simp] theorem State.setElem_rest (s : State) (ch : Chan) (p : Port) (f : Elem → Elem) :
    (State.setElem s ch p f).rest .cc = s.rest .cc := by
  unfold State.setElem
  repeat' first | with_reducible rfl | (simp; done) | intro _ | rw [foldl_rest] | split | simp
@[simp] theorem State.askPort_rest (s : State) (ch : Chan) (p : Port) (m : Instr) :
    (State.askPort s ch p m).rest .cc = s.rest .cc := by
  unfold State.askPort
  repeat' first | with_reducible rfl | (simp; done) | intro _ | rw [foldl_rest] | split | simp
@[simp] theorem State.portAnswered_rest (s : State) (ch : Chan) (p : Port) :
    (State.portAnswered s ch p).rest .cc = s.rest .cc := by
  unfold State.portAnswered
  repeat' first | with_reducible rfl | (simp; done) | intro _ | rw [foldl_rest] | split | simp
@[simp] theorem State.tellCat_rest (s : State) (ch : Chan) (m : Instr) (pt : Part) :
    (State.tellCat s ch m).rest pt = s.rest pt := by
  unfold State.tellCat
  repeat' first | with_reducible rfl | (simp; done) | intro _ | rw [foldl_rest] | split | simp
@[simp] theorem State.dropElem_rest (s : State) (ch : Chan) (p : Port) :
    (State.dropElem s ch p).rest .cc = s.rest .cc := by
  unfold State.dropElem
  repeat' first | with_reducible rfl | (simp; done) | intro _ | rw [foldl_rest] | split | simp
@[simp] theorem State.endCopy_rest (s : State) (ch : Chan) (e : Elem) (final : CopyState) (cause : CopyCause) :
    (State.endCopy s ch e final cause).rest .cc = s.rest .cc := by
  unfold State.endCopy
  repeat' first | with_reducible rfl | (simp; done) | intro _ | rw [foldl_rest] | split | simp
@[simp] theorem State.dropDest_rest (s : State) (ch : Chan) (p : Port) (cause : DropCause) :
    (State.dropDest s ch p cause).rest .cc = s.rest .cc := by
  unfold State.dropDest
  repeat' first | with_reducible rfl | (simp; done) | intro _ | rw [foldl_rest] | split | simp
@[simp] theorem State.startExtent_rest (s : State) (ch : Chan) (ext : Nat) (pass : PassKind) :
    (State.startExtent s ch ext pass).rest .cc = s.rest .cc := by
  unfold State.startExtent
  repeat' first | with_reducible rfl | (simp; done) | intro _ | rw [foldl_rest] | split | simp
@[simp] theorem State.nextBurst_rest (s : State) (ch : Chan) (f : Filling) :
    (State.nextBurst s ch f).rest .cc = s.rest .cc := by
  unfold State.nextBurst
  repeat' first | with_reducible rfl | (simp; done) | intro _ | rw [foldl_rest] | split | simp
@[simp] theorem State.giveUpClaim_rest (s : State) (ch : Chan) : (State.giveUpClaim s ch).rest .cc = s.rest .cc := by
  unfold State.giveUpClaim
  repeat' first | with_reducible rfl | (simp; done) | intro _ | rw [foldl_rest] | split | simp
@[simp] theorem State.sendClaim_rest (s : State) (ch : Chan) : (State.sendClaim s ch).rest .cc = s.rest .cc := by
  unfold State.sendClaim
  repeat' first | with_reducible rfl | (simp; done) | intro _ | rw [foldl_rest] | split | simp
@[simp] theorem State.endOrder_rest (s : State) (ch : Chan) (k : EndKind) :
    (State.endOrder s ch k).rest .cc = s.rest .cc := by
  unfold State.endOrder
  repeat' first | with_reducible rfl | (simp; done) | intro _ | rw [foldl_rest] | split | simp
@[simp] theorem State.windDown_rest (s : State) (ch : Chan) : (State.windDown s ch).rest .cc = s.rest .cc := by
  unfold State.windDown
  repeat' first | with_reducible rfl | (simp; done) | intro _ | rw [foldl_rest] | split | simp
@[simp] theorem State.stopReading_rest (s : State) (ch : Chan) : (State.stopReading s ch).rest .cc = s.rest .cc := by
  unfold State.stopReading
  repeat' first | with_reducible rfl | (simp; done) | intro _ | rw [foldl_rest] | split | simp
@[simp] theorem State.enterEnding_rest (s : State) (ch : Chan) (k : EndKind) :
    (State.enterEnding s ch k).rest .cc = s.rest .cc := by
  unfold State.enterEnding
  repeat' first | with_reducible rfl | (simp; done) | intro _ | rw [foldl_rest] | split | simp
@[simp] theorem State.cardLoss_rest (s : State) (ch : Chan) : (State.cardLoss s ch).rest .cc = s.rest .cc := by
  unfold State.cardLoss
  repeat' first | with_reducible rfl | (simp; done) | intro _ | rw [foldl_rest] | split | simp
@[simp] theorem State.maybeStartRead_rest (s : State) (ch : Chan) :
    (State.maybeStartRead s ch).rest .cc = s.rest .cc := by
  unfold State.maybeStartRead
  repeat' first | with_reducible rfl | (simp; done) | intro _ | rw [foldl_rest] | split | simp
@[simp] theorem State.sendVerify_rest (s : State) (ch : Chan) (e : Elem) (ext : Nat) :
    (State.sendVerify s ch e ext).rest .cc = s.rest .cc := by
  unfold State.sendVerify
  repeat' first | with_reducible rfl | (simp; done) | intro _ | rw [foldl_rest] | split | simp
@[simp] theorem State.beginVerify_rest (s : State) (ch : Chan) (e : Elem) :
    (State.beginVerify s ch e).rest .cc = s.rest .cc := by
  unfold State.beginVerify
  repeat' first | with_reducible rfl | (simp; done) | intro _ | rw [foldl_rest] | split | simp
@[simp] theorem State.beginRepair_rest (s : State) (ch : Chan) : (State.beginRepair s ch).rest .cc = s.rest .cc := by
  unfold State.beginRepair
  repeat' first | with_reducible rfl | (simp; done) | intro _ | rw [foldl_rest] | split | simp
@[simp] theorem State.finish_rest (s : State) (ch : Chan) : (State.finish s ch).rest .cc = s.rest .cc := by
  unfold State.finish
  repeat' first | with_reducible rfl | (simp; done) | intro _ | rw [foldl_rest] | split | simp
@[simp] theorem State.settle_rest (s : State) (ch : Chan) : (State.settle s ch).rest .cc = s.rest .cc := by
  unfold State.settle
  repeat' first | with_reducible rfl | (simp; done) | intro _ | rw [foldl_rest] | split | simp
@[simp] theorem State.loseDrive_rest (s : State) (ch : Chan) (p : Port) :
    (State.loseDrive s ch p).rest .cc = s.rest .cc := by
  unfold State.loseDrive
  repeat' first | with_reducible rfl | (simp; done) | intro _ | rw [foldl_rest] | split | simp
@[simp] theorem State.writeFailed_rest (s : State) (ch : Chan) (p : Port) (e : Elem) :
    (State.writeFailed s ch p e).rest .cc = s.rest .cc := by
  unfold State.writeFailed
  repeat' first | with_reducible rfl | (simp; done) | intro _ | rw [foldl_rest] | split | simp
@[simp] theorem State.dropRepair_rest (s : State) (ch : Chan) : (State.dropRepair s ch).rest .cc = s.rest .cc := by
  unfold State.dropRepair
  repeat' first | with_reducible rfl | (simp; done) | intro _ | rw [foldl_rest] | split | simp
@[simp] theorem State.extentFull_rest (s : State) (ch : Chan) (f : Filling) (num : Nat) :
    (State.extentFull s ch f num).rest .cc = s.rest .cc := by
  unfold State.extentFull
  repeat' first | with_reducible rfl | (simp; done) | intro _ | rw [foldl_rest] | split | simp
@[simp] theorem State.burstDone_rest (s : State) (ch : Chan) (f : Filling) (num : Nat) (bytes : List Byte) :
    (State.burstDone s ch f num bytes).rest .cc = s.rest .cc := by
  unfold State.burstDone
  repeat' first | with_reducible rfl | (simp; done) | intro _ | rw [foldl_rest] | split | simp
@[simp] theorem State.handOn_rest (s : State) (ch : Chan) (num : Nat) (ext : Nat) (writes : Elem → Bool) :
    (State.handOn s ch num ext writes).rest .cc = s.rest .cc := by
  unfold State.handOn
  repeat' first | with_reducible rfl | (simp; done) | intro _ | rw [foldl_rest] | split | simp
@[simp] theorem State.readDone_rest (s : State) (ch : Chan) : (State.readDone s ch).rest .cc = s.rest .cc := by
  unfold State.readDone
  repeat' first | with_reducible rfl | (simp; done) | intro _ | rw [foldl_rest] | split | simp
@[simp] theorem State.repairDone_rest (s : State) (ch : Chan) : (State.repairDone s ch).rest .cc = s.rest .cc := by
  unfold State.repairDone
  repeat' first | with_reducible rfl | (simp; done) | intro _ | rw [foldl_rest] | split | simp
@[simp] theorem State.sumAccepted_rest (s : State) (ch : Chan) (num : Nat) (ext : Nat) (pass : PassKind)
    (ans : SumAns) : (State.sumAccepted s ch num ext pass ans).rest .cc = s.rest .cc := by
  unfold State.sumAccepted
  repeat' first | with_reducible rfl | (simp; done) | intro _ | rw [foldl_rest] | split | simp
@[simp] theorem State.extentDone_rest (s : State) (ch : Chan) (e : Elem) (ext : Nat) :
    (State.extentDone s ch e ext).rest .cc = s.rest .cc := by
  unfold State.extentDone
  repeat' first | with_reducible rfl | (simp; done) | intro _ | rw [foldl_rest] | split | simp
@[simp] theorem State.verifyEnded_rest (s : State) (ch : Chan) (e : Elem) (bad : List Nat) :
    (State.verifyEnded s ch e bad).rest .cc = s.rest .cc := by
  unfold State.verifyEnded
  repeat' first | with_reducible rfl | (simp; done) | intro _ | rw [foldl_rest] | split | simp

/-! ## Destination ports -/

@[simp] theorem State.answerWrite_rest (s : State) (p : Port) (r : WriteReq) (a : WriteAns) (pt : Part) :
    (State.answerWrite s p r a).rest pt = s.rest pt := by
  unfold State.answerWrite
  repeat' first | with_reducible rfl | (simp; done) | intro _ | rw [foldl_rest] | split | simp
@[simp] theorem State.endRead_rest (s : State) (p : Port) (r : ReadReq) (a : ReadEnd) (pt : Part) :
    (State.endRead s p r a).rest pt = s.rest pt := by
  unfold State.endRead
  repeat' first | with_reducible rfl | (simp; done) | intro _ | rw [foldl_rest] | split | simp
@[simp] theorem State.answerPlay_rest (s : State) (p : Port) (r : PlayReq) (a : ReadAns) (pt : Part) :
    (State.answerPlay s p r a).rest pt = s.rest pt := by
  unfold State.answerPlay
  repeat' first | with_reducible rfl | (simp; done) | intro _ | rw [foldl_rest] | split | simp
@[simp] theorem State.attemptOp_rest (s : State) (p : Port) (k : OpKind) (attempt : Nat) :
    (State.attemptOp s p k attempt).rest .dp = s.rest .dp := by
  unfold State.attemptOp
  repeat' first | with_reducible rfl | (simp; done) | intro _ | rw [foldl_rest] | split | simp
@[simp] theorem State.startOp_rest (s : State) (p : Port) (k : OpKind) :
    (State.startOp s p k).rest .dp = s.rest .dp := by
  unfold State.startOp
  repeat' first | with_reducible rfl | (simp; done) | intro _ | rw [foldl_rest] | split | simp
@[simp] theorem State.serve_rest (s : State) (p : Port) : (State.serve s p).rest .dp = s.rest .dp := by
  unfold State.serve
  repeat' first | with_reducible rfl | (simp; done) | intro _ | rw [foldl_rest] | split | simp
@[simp] theorem State.clearOp_rest (s : State) (p : Port) : (State.clearOp s p).rest .dp = s.rest .dp := by
  unfold State.clearOp
  repeat' first | with_reducible rfl | (simp; done) | intro _ | rw [foldl_rest] | split | simp
theorem State.complete_rest (s : State) (p : Port) (tok : Nat) (f : DriveOp → State → Option State)
    (h : ∀ o u t, f o t = some u → u.rest .dp = t.rest .dp) : (s.complete p tok f).rest .dp = s.rest .dp := by
  have hf : ∀ (o : DriveOp) (t u : State), (match o.kind with | .discarded _ => some t | _ => f o t) = some u →
      u.rest .dp = t.rest .dp := by
    intro o t u e
    split at e
    · simp at e; rw [e]
    · exact h _ _ _ e
  unfold State.complete
  split
  · rfl
  · dsimp only
    split
    · rename_i u hu; simp [hf _ _ _ hu]
    · rfl
@[simp] theorem State.driveIn_rest (s : State) (p : Port) : (State.driveIn s p).rest .dp = s.rest .dp := by
  unfold State.driveIn
  repeat' first | with_reducible rfl | (simp; done) | intro _ | rw [foldl_rest] | split | simp
@[simp] theorem State.scanFailed_rest (s : State) (p : Port) (why : ScanCause) :
    (State.scanFailed s p why).rest .dp = s.rest .dp := by
  unfold State.scanFailed
  repeat' first | with_reducible rfl | (simp; done) | intro _ | rw [foldl_rest] | split | simp
@[simp] theorem State.scanComplete_rest (s : State) (p : Port) : (State.scanComplete s p).rest .dp = s.rest .dp := by
  unfold State.scanComplete
  repeat' first | with_reducible rfl | (simp; done) | intro _ | rw [foldl_rest] | split | simp
@[simp] theorem State.walkFrom_rest (s : State) (p : Port) (pos : Nat) :
    (State.walkFrom s p pos).rest .dp = s.rest .dp := by
  unfold State.walkFrom
  repeat' first | with_reducible rfl | (simp; done) | intro _ | rw [foldl_rest] | split | simp
@[simp] theorem State.walkEntry_rest (s : State) (p : Port) (pos : Nat) (e : IndexEntry) :
    (State.walkEntry s p pos e).rest .dp = s.rest .dp := by
  unfold State.walkEntry
  repeat' first | with_reducible rfl | (simp; done) | intro _ | rw [foldl_rest] | split | simp
@[simp] theorem State.beginFormat_rest (s : State) (p : Port) (q : Req) (serial : Serial) :
    (State.beginFormat s p q serial).rest .dp = s.rest .dp := by
  unfold State.beginFormat
  repeat' first | with_reducible rfl | (simp; done) | intro _ | rw [foldl_rest] | split | simp
@[simp] theorem State.beginSoak_rest (s : State) (p : Port) (q : Req) (len : Nat) (limit : Nat) (clamped : Bool) :
    (State.beginSoak s p q len limit clamped).rest .dp = s.rest .dp := by
  unfold State.beginSoak
  repeat' first | with_reducible rfl | (simp; done) | intro _ | rw [foldl_rest] | split | simp
@[simp] theorem State.testPassed_rest (s : State) (p : Port) (q : Req) (w : TestFor) :
    (State.testPassed s p q w).rest .dp = s.rest .dp := by
  unfold State.testPassed
  repeat' first | with_reducible rfl | (simp; done) | intro _ | rw [foldl_rest] | split | simp
@[simp] theorem State.holderTest_rest (s : State) (p : Port) (q : Req) (w : TestFor) :
    (State.holderTest s p q w).rest .dp = s.rest .dp := by
  unfold State.holderTest
  repeat' first | with_reducible rfl | (simp; done) | intro _ | rw [foldl_rest] | split | simp
@[simp] theorem State.takeWrite_rest (s : State) (p : Port) (vol : Serial) (r : WriteReq) :
    (State.takeWrite s p vol r).rest .dp = s.rest .dp := by
  unfold State.takeWrite
  repeat' first | with_reducible rfl | (simp; done) | intro _ | rw [foldl_rest] | split | simp
@[simp] theorem State.soakEnds_rest (s : State) (p : Port) (errors : Nat) (limit : Nat) :
    (State.soakEnds s p errors limit).rest .dp = s.rest .dp := by
  unfold State.soakEnds
  repeat' first | with_reducible rfl | (simp; done) | intro _ | rw [foldl_rest] | split | simp
@[simp] theorem State.opFailed_rest (s : State) (p : Port) (k : OpKind) :
    (State.opFailed s p k).rest .dp = s.rest .dp := by
  unfold State.opFailed
  repeat' first | with_reducible rfl | (simp; done) | intro _ | rw [foldl_rest] | split | simp
@[simp] theorem State.attemptFailed_rest (s : State) (p : Port) (tok : Nat) (labelRaised : Bool) :
    (State.attemptFailed s p tok labelRaised).rest .dp = s.rest .dp := by
  unfold State.attemptFailed
  repeat' first | with_reducible rfl | (simp; done) | intro _ | rw [foldl_rest] | split | simp
@[simp] theorem State.detached_rest (s : State) (p : Port) : (State.detached s p).rest .dp = s.rest .dp := by
  unfold State.detached
  repeat' first | with_reducible rfl | (simp; done) | intro _ | rw [foldl_rest] | split | simp
@[simp] theorem State.soakStopped_rest (s : State) (p : Port) (st : PortState) (cause : Nat) :
    (State.soakStopped s p st cause).rest .dp = s.rest .dp := by
  unfold State.soakStopped
  repeat' first | with_reducible rfl | (simp; done) | intro _ | rw [foldl_rest] | split | simp
@[simp] theorem State.loseOp_rest (s : State) (p : Port) (k : OpKind) (pt : Part) :
    (State.loseOp s p k).rest pt = s.rest pt := by
  unfold State.loseOp
  repeat' first | with_reducible rfl | (simp; done) | intro _ | rw [foldl_rest] | split | simp
@[simp] theorem State.loseVolume_rest (s : State) (p : Port) (vol : Serial) (chs : List Chan) (pt : Part) :
    (State.loseVolume s p vol chs).rest pt = s.rest pt := by
  unfold State.loseVolume
  repeat' first | with_reducible rfl | (simp; done) | intro _ | rw [foldl_rest] | split | simp

/-! ## Inspector -/

@[simp] theorem State.setCont_rest (s : State) (ch : Chan) (c : Continuity) :
    (State.setCont s ch c).rest .frames = s.rest .frames := by
  unfold State.setCont
  repeat' first | with_reducible rfl | (simp; done) | intro _ | rw [foldl_rest] | split | simp
@[simp] theorem State.setCtx_rest (s : State) (i : Fin 4) (c : AnalysisCtx) :
    (State.setCtx s i c).rest .frames = s.rest .frames := by
  unfold State.setCtx
  repeat' first | with_reducible rfl | (simp; done) | intro _ | rw [foldl_rest] | split | simp
@[simp] theorem State.engineTake_rest (s : State) : (State.engineTake s).rest .frames = s.rest .frames := by
  unfold State.engineTake
  repeat' first | with_reducible rfl | (simp; done) | intro _ | rw [foldl_rest] | split | simp
@[simp] theorem State.offerSites_rest (s : State) (letter : Letter) (clip : Nat) (cs : List (Nat × Nat)) :
    (State.offerSites s letter clip cs).rest .frames = s.rest .frames := by
  unfold State.offerSites
  repeat' first | with_reducible rfl | (simp; done) | intro _ | rw [foldl_rest] | split | simp
@[simp] theorem State.fileFrame_rest (s : State) (a : Analysis) (letter : Letter) :
    (State.fileFrame s a letter).rest .frames = s.rest .frames := by
  unfold State.fileFrame
  generalize planeSamples a.plane = xs
  generalize xs.map luma = ys
  generalize frameMean ys = mean
  generalize candidates a.limits mean ys = cs
  dsimp only
  generalize clipRun _ _ _ _ = r
  repeat' first | with_reducible rfl | (simp; done) | split
@[simp] theorem State.analysed_rest (s : State) (a : Analysis) (letter : Option Letter) :
    (State.analysed s a letter).rest .frames = s.rest .frames := by
  unfold State.analysed
  repeat' first | with_reducible rfl | (simp; done) | intro _ | rw [foldl_rest] | split | simp
@[simp] theorem State.setReader_rest (s : State) (r : Reader) :
    (State.setReader s r).rest .frames = s.rest .frames := by
  unfold State.setReader
  repeat' first | with_reducible rfl | (simp; done) | intro _ | rw [foldl_rest] | split | simp
@[simp] theorem State.askAttached_rest (s : State) (src : Node) (who : Nat → VolAsker) (cs : List Candidate)
    (pt : Part) : (State.askAttached s src who cs).rest pt = s.rest pt := by
  unfold State.askAttached
  repeat' first | with_reducible rfl | (simp; done) | intro _ | rw [foldl_rest] | split | simp
@[simp] theorem State.nextRead_rest (s : State) : (State.nextRead s).rest .frames = s.rest .frames := by
  unfold State.nextRead
  repeat' first | with_reducible rfl | (simp; done) | intro _ | rw [foldl_rest] | split | simp
@[simp] theorem State.startReinspect_rest (s : State) (q : Req) (c : Clip) (src : Source) :
    (State.startReinspect s q c src).rest .frames = s.rest .frames := by
  unfold State.startReinspect
  repeat' first | with_reducible rfl | (simp; done) | intro _ | rw [foldl_rest] | split | simp
@[simp] theorem State.readerEnds_rest (s : State) : (State.readerEnds s).rest .frames = s.rest .frames := by
  unfold State.readerEnds
  repeat' first | with_reducible rfl | (simp; done) | intro _ | rw [foldl_rest] | split | simp
@[simp] theorem State.endReader_rest (s : State) (k : ReEnd) :
    (State.endReader s k).rest .frames = s.rest .frames := by
  unfold State.endReader
  repeat' first | with_reducible rfl | (simp; done) | intro _ | rw [foldl_rest] | split | simp
@[simp] theorem State.takeFinal_rest (s : State) (placed : Nat) (skipped : Nat) :
    (State.takeFinal s placed skipped).rest .frames = s.rest .frames := by
  unfold State.takeFinal
  repeat' first | with_reducible rfl | (simp; done) | intro _ | rw [foldl_rest] | split | simp

/-! ## Frame Extractor and Preview Pool -/

@[simp] theorem State.fileUnparsable_rest (s : State) (p : Parse) (pt : Part) :
    (State.fileUnparsable s p).rest pt = s.rest pt := by
  unfold State.fileUnparsable
  repeat' first | with_reducible rfl | (simp; done) | intro _ | rw [foldl_rest] | split | simp
@[simp] theorem State.setSlots_rest (s : State) (slots : List Slot) :
    (State.setSlots s slots).rest .frames = s.rest .frames := by
  unfold State.setSlots
  repeat' first | with_reducible rfl | (simp; done) | intro _ | rw [foldl_rest] | split | simp
@[simp] theorem State.place_rest (s : State) (n : Nat) (src : SlotSource) (hdr : FrameHdr) (plane : List Byte)
    (newest : Option Chan) (holders : List Holder) :
    (State.place s n src hdr plane newest holders).rest .frames = s.rest .frames := by
  unfold State.place
  repeat' first | with_reducible rfl | (simp; done) | intro _ | rw [foldl_rest] | split | simp
@[simp] theorem State.setLive_rest (s : State) (c : Chan) (x : LiveCtx) :
    (State.setLive s c x).rest .frames = s.rest .frames := by
  unfold State.setLive
  repeat' first | with_reducible rfl | (simp; done) | intro _ | rw [foldl_rest] | split | simp
@[simp] theorem State.skipFrame_rest (s : State) (c : Chan) :
    (State.skipFrame s c).rest .frames = s.rest .frames := by
  unfold State.skipFrame
  repeat' first | with_reducible rfl | (simp; done) | intro _ | rw [foldl_rest] | split | simp
@[simp] theorem State.liveHeader_rest (s : State) (c : Chan) (h : ChunkHdr) :
    (State.liveHeader s c h).rest .frames = s.rest .frames := by
  unfold State.liveHeader
  repeat' first | with_reducible rfl | (simp; done) | intro _ | rw [foldl_rest] | split | simp
@[simp] theorem State.livePlane_rest (s : State) (c : Chan) :
    (State.livePlane s c).rest .frames = s.rest .frames := by
  unfold State.livePlane
  repeat' first | with_reducible rfl | (simp; done) | intro _ | rw [foldl_rest] | split | simp
@[simp] theorem State.liveBad_rest (s : State) (c : Chan) : (State.liveBad s c).rest .frames = s.rest .frames := by
  unfold State.liveBad
  repeat' first | with_reducible rfl | (simp; done) | intro _ | rw [foldl_rest] | split | simp
@[simp] theorem State.liveByte_rest (s : State) (c : Chan) (b : Byte) :
    (State.liveByte s c b).rest .frames = s.rest .frames := by
  unfold State.liveByte
  repeat' first | with_reducible rfl | (simp; done) | intro _ | rw [foldl_rest] | split | simp
@[simp] theorem State.passResult_rest (s : State) (pass : Nat) (clip : Nat) (skipped : Nat) (pt : Part) :
    (State.passResult s pass clip skipped).rest pt = s.rest pt := by
  unfold State.passResult
  repeat' first | with_reducible rfl | (simp; done) | intro _ | rw [foldl_rest] | split | simp
@[simp] theorem State.settlePass_rest (s : State) (c : Chan) (pass : Nat) (clip : Nat) (skipped : Nat) :
    (State.settlePass s c pass clip skipped).rest .frames = s.rest .frames := by
  unfold State.settlePass
  repeat' first | with_reducible rfl | (simp; done) | intro _ | rw [foldl_rest] | split | simp
@[simp] theorem State.liveEnd_rest (s : State) (c : Chan) : (State.liveEnd s c).rest .frames = s.rest .frames := by
  unfold State.liveEnd
  repeat' first | with_reducible rfl | (simp; done) | intro _ | rw [foldl_rest] | split | simp
@[simp] theorem State.liveCut_rest (s : State) (c : Chan) : (State.liveCut s c).rest .frames = s.rest .frames := by
  unfold State.liveCut
  repeat' first | with_reducible rfl | (simp; done) | intro _ | rw [foldl_rest] | split | simp
@[simp] theorem State.liveStart_rest (s : State) (c : Chan) (clip : Nat) (desc : Desc) :
    (State.liveStart s c clip desc).rest .frames = s.rest .frames := by
  unfold State.liveStart
  repeat' first | with_reducible rfl | (simp; done) | intro _ | rw [foldl_rest] | split | simp
@[simp] theorem State.liveEvent_rest (s : State) (c : Chan) (e : LiveEvent) :
    (State.liveEvent s c e).rest .frames = s.rest .frames := by
  unfold State.liveEvent
  repeat' first | with_reducible rfl | (simp; done) | intro _ | rw [foldl_rest] | split | simp
@[simp] theorem State.deliverLive_rest (s : State) (c : Chan) (e : LiveEvent) :
    (State.deliverLive s c e).rest .frames = s.rest .frames := by
  unfold State.deliverLive
  repeat' first | with_reducible rfl | (simp; done) | intro _ | rw [foldl_rest] | split | simp
@[simp] theorem State.settleOne_rest (s : State) (pass : Nat) :
    (State.settleOne s pass).rest .frames = s.rest .frames := by
  unfold State.settleOne
  repeat' first | with_reducible rfl | (simp; done) | intro _ | rw [foldl_rest] | split | simp
@[simp] theorem State.setPlay_rest (s : State) (k : Outp) (x : PlayCtx) :
    (State.setPlay s k x).rest .frames = s.rest .frames := by
  unfold State.setPlay
  repeat' first | with_reducible rfl | (simp; done) | intro _ | rw [foldl_rest] | split | simp
@[simp] theorem State.answerFetch_rest (s : State) (k : Outp) (f : Nat × Nat) (a : FetchAns) (pt : Part) :
    (State.answerFetch s k f a).rest pt = s.rest pt := by
  unfold State.answerFetch
  repeat' first | with_reducible rfl | (simp; done) | intro _ | rw [foldl_rest] | split | simp
@[simp] theorem State.answerAll_rest (s : State) (k : Outp) (fs : List (Nat × Nat)) (a : FetchAns) (pt : Part) :
    (State.answerAll s k fs a).rest pt = s.rest pt := by
  unfold State.answerAll
  repeat' first | with_reducible rfl | (simp; done) | intro _ | rw [foldl_rest] | split | simp
@[simp] theorem State.playRead_rest (s : State) (k : Outp) (x : PlayCtx) (src : Source) (first : Nat)
    (last : Nat) (whole : Bool) : (State.playRead s k x src first last whole).rest .frames = s.rest .frames := by
  unfold State.playRead
  repeat' first | with_reducible rfl | (simp; done) | intro _ | rw [foldl_rest] | split | simp
@[simp] theorem State.serveFetch_rest (k : Outp) (x : List (Nat × Nat)) (s : State) :
    (State.serveFetch k x s).rest .frames = s.rest .frames := by
  induction x generalizing s <;>
    (unfold State.serveFetch
     repeat' first | with_reducible rfl | (simp [*]; done) | intro _ | rw [foldl_rest] | split | simp)
@[simp] theorem State.playBytes_rest (s : State) (k : Outp) (x : PlayCtx) (f : Nat × Nat) (rest : List
    (Nat × Nat)) (bytes : List Byte) : (State.playBytes s k x f rest bytes).rest .frames = s.rest .frames := by
  unfold State.playBytes
  repeat' first | with_reducible rfl | (simp; done) | intro _ | rw [foldl_rest] | split | simp
@[simp] theorem State.setRe_rest (s : State) (x : ReCtx) : (State.setRe s x).rest .frames = s.rest .frames := by
  unfold State.setRe
  repeat' first | with_reducible rfl | (simp; done) | intro _ | rw [foldl_rest] | split | simp
@[simp] theorem State.tellReader_rest (s : State) (run : Nat) (rep : ReReport) (pt : Part) :
    (State.tellReader s run rep).rest pt = s.rest pt := by
  unfold State.tellReader
  repeat' first | with_reducible rfl | (simp; done) | intro _ | rw [foldl_rest] | split | simp
@[simp] theorem State.placeRe_rest (s : State) (n : Nat) : (State.placeRe s n).rest .frames = s.rest .frames := by
  unfold State.placeRe
  repeat' first | with_reducible rfl | (simp; done) | intro _ | rw [foldl_rest] | split | simp
@[simp] theorem State.closeRe_rest (s : State) : (State.closeRe s).rest .frames = s.rest .frames := by
  unfold State.closeRe
  repeat' first | with_reducible rfl | (simp; done) | intro _ | rw [foldl_rest] | split | simp
@[simp] theorem State.reByte_rest (s : State) (b : Byte) : (State.reByte s b).rest .frames = s.rest .frames := by
  unfold State.reByte
  repeat' first | with_reducible rfl | (simp; done) | intro _ | rw [foldl_rest] | split | simp
@[simp] theorem State.reConsumed_rest (s : State) : (State.reConsumed s).rest .frames = s.rest .frames := by
  unfold State.reConsumed
  repeat' first | with_reducible rfl | (simp; done) | intro _ | rw [foldl_rest] | split | simp
@[simp] theorem State.reBytes_rest (x : List Byte) (s : State) :
    (State.reBytes x s).rest .frames = s.rest .frames := by
  induction x generalizing s <;>
    (unfold State.reBytes
     repeat' first | with_reducible rfl | (simp [*]; done) | intro _ | rw [foldl_rest] | split | simp)

/-! ## Fault List -/

@[simp] theorem State.settleBlocking_rest (s : State) (clip : Nat) :
    (State.settleBlocking s clip).rest .fl = s.rest .fl := by
  unfold State.settleBlocking
  repeat' first | with_reducible rfl | (simp; done) | intro _ | rw [foldl_rest] | split | simp
@[simp] theorem State.setFindings_rest (s : State) (l : List Finding) :
    (State.setFindings s l).rest .fl = s.rest .fl := by
  unfold State.setFindings
  repeat' first | with_reducible rfl | (simp; done) | intro _ | rw [foldl_rest] | split | simp
@[simp] theorem State.newFinding_rest (s : State) (o : Occurrence) (c : Clip) (cls : FindingClass) :
    (State.newFinding s o c cls).rest .fl = s.rest .fl := by
  unfold State.newFinding
  repeat' first | with_reducible rfl | (simp; done) | intro _ | rw [foldl_rest] | split | simp
@[simp] theorem State.unstorable_rest (s : State) (o : Occurrence) (c : Clip) (cls : FindingClass) :
    (State.unstorable s o c cls).rest .fl = s.rest .fl := by
  unfold State.unstorable
  repeat' first | with_reducible rfl | (simp; done) | intro _ | rw [foldl_rest] | split | simp
@[simp] theorem State.store_rest (s : State) (o : Occurrence) (c : Clip) :
    (State.store s o c).rest .fl = s.rest .fl := by
  unfold State.store
  repeat' first | with_reducible rfl | (simp; done) | intro _ | rw [foldl_rest] | split | simp
@[simp] theorem State.placeOcc_rest (s : State) (o : Occurrence) (c : Clip) :
    (State.placeOcc s o c).rest .fl = s.rest .fl := by
  unfold State.placeOcc
  repeat' first | with_reducible rfl | (simp; done) | intro _ | rw [foldl_rest] | split | simp
@[simp] theorem State.askHead_rest (s : State) : (State.askHead s).rest .fl = s.rest .fl := by
  unfold State.askHead
  repeat' first | with_reducible rfl | (simp; done) | intro _ | rw [foldl_rest] | split | simp
@[simp] theorem State.enqueueItem_rest (s : State) (i : FaultItem) :
    (State.enqueueItem s i).rest .fl = s.rest .fl := by
  unfold State.enqueueItem
  repeat' first | with_reducible rfl | (simp; done) | intro _ | rw [foldl_rest] | split | simp
@[simp] theorem State.lookupDone_rest (s : State) (tok : Nat) : (State.lookupDone s tok).rest .fl = s.rest .fl := by
  unfold State.lookupDone
  repeat' first | with_reducible rfl | (simp; done) | intro _ | rw [foldl_rest] | split | simp
@[simp] theorem State.clearVerified_rest (s : State) (clip : Nat) (vol : Serial) :
    (State.clearVerified s clip vol).rest .fl = s.rest .fl := by
  unfold State.clearVerified
  repeat' first | with_reducible rfl | (simp; done) | intro _ | rw [foldl_rest] | split | simp
@[simp] theorem State.setFinding_rest (s : State) (g : Finding) : (State.setFinding s g).rest .fl = s.rest .fl := by
  unfold State.setFinding
  repeat' first | with_reducible rfl | (simp; done) | intro _ | rw [foldl_rest] | split | simp

/-! ## Look Bank -/

@[simp] theorem State.setLook_rest (s : State) (i : LookIx) (x : LookSlot) :
    (State.setLook s i x).rest .lb = s.rest .lb := by
  unfold State.setLook
  repeat' first | with_reducible rfl | (simp; done) | intro _ | rw [foldl_rest] | split | simp
@[simp] theorem State.refuseHeld_rest (s : State) (q : Req) (vals : List Field) (pt : Part) :
    (State.refuseHeld s q vals).rest pt = s.rest pt := by
  unfold State.refuseHeld
  repeat' first | with_reducible rfl | (simp; done) | intro _ | rw [foldl_rest] | split | simp
@[simp] theorem State.fillDone_rest (s : State) (f : Fill) : (State.fillDone s f).rest .lb = s.rest .lb := by
  unfold State.fillDone
  repeat' first | with_reducible rfl | (simp; done) | intro _ | rw [foldl_rest] | split | simp

/-! ## Outputs -/

@[simp] theorem State.dropSlots_rest (s : State) (k : Outp) (ns : List Nat) (pt : Part) :
    (State.dropSlots s k ns).rest pt = s.rest pt := by
  unfold State.dropSlots
  repeat' first | with_reducible rfl | (simp; done) | intro _ | rw [foldl_rest] | split | simp
@[simp] theorem State.setClock_rest (s : State) (g : Grp) (c : Clock) :
    (State.setClock s g c).rest .ro = s.rest .ro := by
  unfold State.setClock
  repeat' first | with_reducible rfl | (simp; done) | intro _ | rw [foldl_rest] | split | simp
@[simp] theorem State.fetchFrame_rest (s : State) (k : Outp) (n : Nat) :
    (State.fetchFrame s k n).rest .ro = s.rest .ro := by
  unfold State.fetchFrame
  repeat' first | with_reducible rfl | (simp; done) | intro _ | rw [foldl_rest] | split | simp
@[simp] theorem State.updatePrefetch_rest (s : State) (k : Outp) :
    (State.updatePrefetch s k).rest .ro = s.rest .ro := by
  unfold State.updatePrefetch
  repeat' first | with_reducible rfl | (simp; done) | intro _ | rw [foldl_rest] | split | simp
@[simp] theorem State.updateAll_rest (s : State) : (State.updateAll s).rest .ro = s.rest .ro := by
  unfold State.updateAll
  repeat' first | with_reducible rfl | (simp; done) | intro _ | rw [foldl_rest] | split | simp
@[simp] theorem State.leavePlayback_rest (s : State) (k : Outp) :
    (State.leavePlayback s k).rest .ro = s.rest .ro := by
  unfold State.leavePlayback
  repeat' first | with_reducible rfl | (simp; done) | intro _ | rw [foldl_rest] | split | simp
@[simp] theorem State.dropCurrent_rest (s : State) (k : Outp) : (State.dropCurrent s k).rest .ro = s.rest .ro := by
  unfold State.dropCurrent
  repeat' first | with_reducible rfl | (simp; done) | intro _ | rw [foldl_rest] | split | simp
@[simp] theorem State.stopOutput_rest (s : State) (k : Outp) : (State.stopOutput s k).rest .ro = s.rest .ro := by
  unfold State.stopOutput
  repeat' first | with_reducible rfl | (simp; done) | intro _ | rw [foldl_rest] | split | simp
@[simp] theorem State.endPlay_rest (s : State) (k : Outp) (why : PlayEnd) :
    (State.endPlay s k why).rest .ro = s.rest .ro := by
  unfold State.endPlay
  repeat' first | with_reducible rfl | (simp; done) | intro _ | rw [foldl_rest] | split | simp
@[simp] theorem State.loseSource_rest (s : State) (k : Outp) (why : PlayEnd) :
    (State.loseSource s k why).rest .ro = s.rest .ro := by
  unfold State.loseSource
  repeat' first | with_reducible rfl | (simp; done) | intro _ | rw [foldl_rest] | split | simp
@[simp] theorem State.selectOwn_rest (s : State) (k : Outp) : (s.selectOwn k).1.rest .ro = s.rest .ro := by
  unfold State.selectOwn; repeat' first | with_reducible rfl | (simp; done) | split | simp
@[simp] theorem State.selectSynced_rest (s : State) (k : Outp) (g : Grp) : (s.selectSynced k g).1.rest .ro = s.rest .ro := by
  unfold State.selectSynced; repeat' first | with_reducible rfl | (simp; done) | split | simp
@[simp] theorem State.choose_rest (s : State) (k : Outp) (sel : Selection) :
    (State.choose s k sel).rest .ro = s.rest .ro := by
  unfold State.choose
  repeat' first | with_reducible rfl | (simp; done) | intro _ | rw [foldl_rest] | split | simp
@[simp] theorem State.beginBoundary_rest (s : State) (k : Outp) (g : Option Grp) (event : Nat) :
    (State.beginBoundary s k g event).rest .ro = s.rest .ro := by
  unfold State.beginBoundary
  repeat' first | with_reducible rfl | (simp; done) | intro _ | rw [foldl_rest] | split | simp
@[simp] theorem State.latchAll_rest (s : State) (ks : List Outp) : (State.latchAll s ks).rest .ro = s.rest .ro := by
  unfold State.latchAll
  repeat' first | with_reducible rfl | (simp; done) | intro _ | rw [foldl_rest] | split | simp
@[simp] theorem State.tryLatch_rest (s : State) (k : Outp) : (State.tryLatch s k).rest .ro = s.rest .ro := by
  unfold State.tryLatch
  repeat' first | with_reducible rfl | (simp; done) | intro _ | rw [foldl_rest] | split | simp
@[simp] theorem State.finishBoundary_rest (s : State) (k : Outp) (sel : Selection) (slot : LookIx) (version : Nat)
    (l : LookRec) : (State.finishBoundary s k sel slot version l).rest .ro = s.rest .ro := by
  unfold State.finishBoundary
  repeat' first | with_reducible rfl | (simp; done) | intro _ | rw [foldl_rest] | split | simp
@[simp] theorem State.judgeOut_rest (s : State) (k : Outp) : (State.judgeOut s k).rest .ro = s.rest .ro := by
  unfold State.judgeOut
  repeat' first | with_reducible rfl | (simp; done) | intro _ | rw [foldl_rest] | split | simp
@[simp] theorem State.updateClock_rest (s : State) (g : Grp) : (State.updateClock s g).rest .ro = s.rest .ro := by
  unfold State.updateClock
  repeat' first | with_reducible rfl | (simp; done) | intro _ | rw [foldl_rest] | split | simp
@[simp] theorem State.silence_rest (s : State) (k : Outp) : (State.silence s k).rest .ro = s.rest .ro := by
  unfold State.silence
  repeat' first | with_reducible rfl | (simp; done) | intro _ | rw [foldl_rest] | split | simp
@[simp] theorem State.latchRest_rest (s : State) (left : Option Boundary) :
    (State.latchRest s left).rest .ro = s.rest .ro := by
  unfold State.latchRest
  repeat' first | with_reducible rfl | (simp; done) | intro _ | rw [foldl_rest] | split | simp
@[simp] theorem State.routeEffects_rest (s : State) (k : Outp) (o : Output) (new : Output) :
    (State.routeEffects s k o new).rest .ro = s.rest .ro := by
  unfold State.routeEffects
  repeat' first | with_reducible rfl | (simp; done) | intro _ | rw [foldl_rest] | split | simp
@[simp] theorem State.resume_rest (s : State) (q : Req) (k : Outp) : (State.resume s q k).rest .ro = s.rest .ro := by
  unfold State.resume
  repeat' first | with_reducible rfl | (simp; done) | intro _ | rw [foldl_rest] | split | simp
@[simp] theorem State.startPlay_rest (s : State) (k : Outp) (q : Req) (c : Clip) (x : Copy) (start : Nat) :
    (State.startPlay s k q c x start).rest .ro = s.rest .ro := by
  unfold State.startPlay
  repeat' first | with_reducible rfl | (simp; done) | intro _ | rw [foldl_rest] | split | simp

/-! ## Station Ports -/

@[simp] theorem State.takeNotice_rest (s : State) (n : Notice) : (State.takeNotice s n).rest .sp = s.rest .sp := by
  unfold State.takeNotice
  repeat' first | with_reducible rfl | (simp; done) | intro _ | rw [foldl_rest] | split | simp
@[simp] theorem State.append_rest (s : State) (st : Stn) (e : Response) :
    (State.append s st e).rest .sp = s.rest .sp := by
  unfold State.append
  repeat' first | with_reducible rfl | (simp; done) | intro _ | rw [foldl_rest] | split | simp
@[simp] theorem State.acceptMessage_rest (s : State) (st : Stn) (m : Message) :
    (State.acceptMessage s st m).rest .sp = s.rest .sp := by
  unfold State.acceptMessage
  repeat' first | with_reducible rfl | (simp; done) | intro _ | rw [foldl_rest] | split | simp
@[simp] theorem State.markReady_rest (s : State) (q : Req) (a : Answer) (reset : Bool) :
    (State.markReady s q a reset).rest .sp = s.rest .sp := by
  unfold State.markReady
  repeat' first | with_reducible rfl | (simp; done) | intro _ | rw [foldl_rest] | split | simp
@[simp] theorem State.drain_rest (st : Stn) (x : List Message) (s : State) :
    (State.drain st x s).rest .sp = s.rest .sp := by
  induction x generalizing s <;>
    (unfold State.drain
     repeat' first | with_reducible rfl | (simp [*]; done) | intro _ | rw [foldl_rest] | split | simp)
@[simp] theorem State.letIn_rest (s : State) (st : Stn) : (State.letIn s st).rest .sp = s.rest .sp := by
  unfold State.letIn
  repeat' first | with_reducible rfl | (simp; done) | intro _ | rw [foldl_rest] | split | simp

end Sys2Proof.Machine
end

