-- ==== Sys2Proof/Laws/State.lean ====
section
/-! SUPPORT. One lemma per field and per update: what the elementary updates of the state leave in each field, so that no
proof unfolds a record update. The shared messages (notices, answers, occurrences, lookups) are rewritten to `State.send`. -/

namespace Sys2Proof.Machine

/-! ## Messages are sends -/

@[simp] theorem State.raise_eq (s : State) (src : Node) (n : Notice) : s.raise src n = s.send src .sp [.noticeTaken n] := rfl
@[simp] theorem State.reply_eq (s : State) (src : Node) (q : Req) (a : Answer) :
    s.reply src q a = s.send src .sp [.blockAnswer q a] := rfl
@[simp] theorem State.accept_eq (s : State) (src : Node) (q : Req) (vals : List Field) :
    s.accept src q vals = s.send src .sp [.blockAnswer q (.accepted false vals)] := rfl
@[simp] theorem State.refuse_eq (s : State) (src : Node) (q : Req) (c : Code) :
    s.refuse src q c = s.send src .sp [.blockAnswer q (.refused c none [])] := rfl
@[simp] theorem State.refuseState_eq (s : State) (src : Node) (q : Req) (r : Reason) :
    s.refuseState src q r = s.send src .sp [.blockAnswer q (.refused .state (some r) [])] := rfl
@[simp] theorem State.file_eq (s : State) (src : Node) (o : Occurrence) : s.file src o = s.send src .fl [.occurrence o] := rfl
@[simp] theorem State.lookup_eq (s : State) (src : Node) (who : Asker) (clip : Nat) :
    s.lookup src who clip = s.send src .cat [.clipLookup who clip] := rfl

/-! ## What an update changes -/

@[simp] theorem State.send_wire (s : State) (src dst : Node) (ms : List Instr) :
    (s.send src dst ms).wire = s.wire ++ ms.map fun m => ⟨src, dst, m⟩ := rfl
@[simp] theorem State.tick_token (s : State) : s.tick.token = s.token + 1 := rfl
theorem State.setBay_wire (s : State) (b : Bay) (e : BayEntry) :
    (s.setBay b e).wire = s.wire ++ if e.view = (s.bay b).view then [] else [⟨.ci, .ods, .bayViewReport b e.view⟩] := by
  rw [State.setBay_eq]
theorem State.setPort_wire (s : State) (p : Port) (c : PortCtx) :
    (s.setPort p c).wire = s.wire ++ if c.view = (s.port p).view then [] else [⟨.dp p, .ods, .destViewReport p c.view⟩] := by
  rw [State.setPort_eq]
@[simp] theorem State.setBufs_bufs (s : State) (bufs : List Buffer) : (s.setBufs bufs).sts.bufs = bufs := rfl
@[simp] theorem State.setReader_reader (s : State) (r : Reader) : (s.setReader r).ins.reader = r := rfl
@[simp] theorem State.setRe_re (s : State) (x : ReCtx) : (s.setRe x).fx.re = x := rfl
@[simp] theorem State.setFindings_list (s : State) (l : List Finding) : (s.setFindings l).fl.list = l := rfl
@[simp] theorem State.setClip_clips (s : State) (r : Clip) :
    (s.setClip r).cat.clips = s.cat.clips.map fun c => if c.id = r.id then r else c := rfl

/-! ## What an update leaves alone -/

@[simp] theorem State.send_ci (s : State) (src dst : Node) (ms : List Instr) : (s.send src dst ms).ci = s.ci := rfl
@[simp] theorem State.send_cat (s : State) (src dst : Node) (ms : List Instr) : (s.send src dst ms).cat = s.cat := rfl
@[simp] theorem State.send_ods (s : State) (src dst : Node) (ms : List Instr) : (s.send src dst ms).ods = s.ods := rfl
@[simp] theorem State.send_cc (s : State) (src dst : Node) (ms : List Instr) : (s.send src dst ms).cc = s.cc := rfl
@[simp] theorem State.send_sts (s : State) (src dst : Node) (ms : List Instr) : (s.send src dst ms).sts = s.sts := rfl
@[simp] theorem State.send_dp (s : State) (src dst : Node) (ms : List Instr) : (s.send src dst ms).dp = s.dp := rfl
@[simp] theorem State.send_fx (s : State) (src dst : Node) (ms : List Instr) : (s.send src dst ms).fx = s.fx := rfl
@[simp] theorem State.send_pp (s : State) (src dst : Node) (ms : List Instr) : (s.send src dst ms).pp = s.pp := rfl
@[simp] theorem State.send_ins (s : State) (src dst : Node) (ms : List Instr) : (s.send src dst ms).ins = s.ins := rfl
@[simp] theorem State.send_fl (s : State) (src dst : Node) (ms : List Instr) : (s.send src dst ms).fl = s.fl := rfl
@[simp] theorem State.send_lb (s : State) (src dst : Node) (ms : List Instr) : (s.send src dst ms).lb = s.lb := rfl
@[simp] theorem State.send_ro (s : State) (src dst : Node) (ms : List Instr) : (s.send src dst ms).ro = s.ro := rfl
@[simp] theorem State.send_sp (s : State) (src dst : Node) (ms : List Instr) : (s.send src dst ms).sp = s.sp := rfl
@[simp] theorem State.send_pins (s : State) (src dst : Node) (ms : List Instr) :
    (s.send src dst ms).pins = s.pins := rfl
@[simp] theorem State.send_token (s : State) (src dst : Node) (ms : List Instr) :
    (s.send src dst ms).token = s.token := rfl
@[simp] theorem State.send_arrivals (s : State) (src dst : Node) (ms : List Instr) :
    (s.send src dst ms).arrivals = s.arrivals := rfl
@[simp] theorem State.send_pending (s : State) (src dst : Node) (ms : List Instr) :
    (s.send src dst ms).pending = s.pending := rfl
@[simp] theorem State.send_bay (s : State) (src dst : Node) (ms : List Instr) (y : Bay) :
    (s.send src dst ms).bay y = s.bay y := rfl
@[simp] theorem State.send_clip? (s : State) (src dst : Node) (ms : List Instr) (y : Nat) :
    (s.send src dst ms).clip? y = s.clip? y := rfl
@[simp] theorem State.send_clipOf (s : State) (src dst : Node) (ms : List Instr) (y : Serial) (z : Nat) :
    (s.send src dst ms).clipOf y z = s.clipOf y z := rfl
@[simp] theorem State.send_clipsOf (s : State) (src dst : Node) (ms : List Instr) (y : Serial) :
    (s.send src dst ms).clipsOf y = s.clipsOf y := rfl
@[simp] theorem State.send_chan (s : State) (src dst : Node) (ms : List Instr) (y : Chan) :
    (s.send src dst ms).chan y = s.chan y := rfl
@[simp] theorem State.send_port (s : State) (src dst : Node) (ms : List Instr) (y : Port) :
    (s.send src dst ms).port y = s.port y := rfl
@[simp] theorem State.send_liveCtx (s : State) (src dst : Node) (ms : List Instr) (y : Chan) :
    (s.send src dst ms).liveCtx y = s.liveCtx y := rfl
@[simp] theorem State.send_playCtx (s : State) (src dst : Node) (ms : List Instr) (y : Outp) :
    (s.send src dst ms).playCtx y = s.playCtx y := rfl
@[simp] theorem State.send_look (s : State) (src dst : Node) (ms : List Instr) (y : LookIx) :
    (s.send src dst ms).look y = s.look y := rfl
@[simp] theorem State.send_out (s : State) (src dst : Node) (ms : List Instr) (y : Outp) :
    (s.send src dst ms).out y = s.out y := rfl
@[simp] theorem State.send_clock (s : State) (src dst : Node) (ms : List Instr) (y : Grp) :
    (s.send src dst ms).clock y = s.clock y := rfl
@[simp] theorem State.send_station (s : State) (src dst : Node) (ms : List Instr) (y : Stn) :
    (s.send src dst ms).station y = s.station y := rfl

@[simp] theorem State.tick_ci (s : State) : (s.tick).ci = s.ci := rfl
@[simp] theorem State.tick_cat (s : State) : (s.tick).cat = s.cat := rfl
@[simp] theorem State.tick_ods (s : State) : (s.tick).ods = s.ods := rfl
@[simp] theorem State.tick_cc (s : State) : (s.tick).cc = s.cc := rfl
@[simp] theorem State.tick_sts (s : State) : (s.tick).sts = s.sts := rfl
@[simp] theorem State.tick_dp (s : State) : (s.tick).dp = s.dp := rfl
@[simp] theorem State.tick_fx (s : State) : (s.tick).fx = s.fx := rfl
@[simp] theorem State.tick_pp (s : State) : (s.tick).pp = s.pp := rfl
@[simp] theorem State.tick_ins (s : State) : (s.tick).ins = s.ins := rfl
@[simp] theorem State.tick_fl (s : State) : (s.tick).fl = s.fl := rfl
@[simp] theorem State.tick_lb (s : State) : (s.tick).lb = s.lb := rfl
@[simp] theorem State.tick_ro (s : State) : (s.tick).ro = s.ro := rfl
@[simp] theorem State.tick_sp (s : State) : (s.tick).sp = s.sp := rfl
@[simp] theorem State.tick_pins (s : State) : (s.tick).pins = s.pins := rfl
@[simp] theorem State.tick_wire (s : State) : (s.tick).wire = s.wire := rfl
@[simp] theorem State.tick_arrivals (s : State) : (s.tick).arrivals = s.arrivals := rfl
@[simp] theorem State.tick_pending (s : State) : (s.tick).pending = s.pending := rfl
@[simp] theorem State.tick_bay (s : State) (y : Bay) : (s.tick).bay y = s.bay y := rfl
@[simp] theorem State.tick_clip? (s : State) (y : Nat) : (s.tick).clip? y = s.clip? y := rfl
@[simp] theorem State.tick_clipOf (s : State) (y : Serial) (z : Nat) : (s.tick).clipOf y z = s.clipOf y z := rfl
@[simp] theorem State.tick_clipsOf (s : State) (y : Serial) : (s.tick).clipsOf y = s.clipsOf y := rfl
@[simp] theorem State.tick_chan (s : State) (y : Chan) : (s.tick).chan y = s.chan y := rfl
@[simp] theorem State.tick_port (s : State) (y : Port) : (s.tick).port y = s.port y := rfl
@[simp] theorem State.tick_liveCtx (s : State) (y : Chan) : (s.tick).liveCtx y = s.liveCtx y := rfl
@[simp] theorem State.tick_playCtx (s : State) (y : Outp) : (s.tick).playCtx y = s.playCtx y := rfl
@[simp] theorem State.tick_look (s : State) (y : LookIx) : (s.tick).look y = s.look y := rfl
@[simp] theorem State.tick_out (s : State) (y : Outp) : (s.tick).out y = s.out y := rfl
@[simp] theorem State.tick_clock (s : State) (y : Grp) : (s.tick).clock y = s.clock y := rfl
@[simp] theorem State.tick_station (s : State) (y : Stn) : (s.tick).station y = s.station y := rfl

@[simp] theorem State.setBay_cat (s : State) (b : Bay) (e : BayEntry) :
    (s.setBay b e).cat = s.cat := by rw [State.setBay_eq]
@[simp] theorem State.setBay_ods (s : State) (b : Bay) (e : BayEntry) :
    (s.setBay b e).ods = s.ods := by rw [State.setBay_eq]
@[simp] theorem State.setBay_cc (s : State) (b : Bay) (e : BayEntry) :
    (s.setBay b e).cc = s.cc := by rw [State.setBay_eq]
@[simp] theorem State.setBay_sts (s : State) (b : Bay) (e : BayEntry) :
    (s.setBay b e).sts = s.sts := by rw [State.setBay_eq]
@[simp] theorem State.setBay_dp (s : State) (b : Bay) (e : BayEntry) :
    (s.setBay b e).dp = s.dp := by rw [State.setBay_eq]
@[simp] theorem State.setBay_fx (s : State) (b : Bay) (e : BayEntry) :
    (s.setBay b e).fx = s.fx := by rw [State.setBay_eq]
@[simp] theorem State.setBay_pp (s : State) (b : Bay) (e : BayEntry) :
    (s.setBay b e).pp = s.pp := by rw [State.setBay_eq]
@[simp] theorem State.setBay_ins (s : State) (b : Bay) (e : BayEntry) :
    (s.setBay b e).ins = s.ins := by rw [State.setBay_eq]
@[simp] theorem State.setBay_fl (s : State) (b : Bay) (e : BayEntry) :
    (s.setBay b e).fl = s.fl := by rw [State.setBay_eq]
@[simp] theorem State.setBay_lb (s : State) (b : Bay) (e : BayEntry) :
    (s.setBay b e).lb = s.lb := by rw [State.setBay_eq]
@[simp] theorem State.setBay_ro (s : State) (b : Bay) (e : BayEntry) :
    (s.setBay b e).ro = s.ro := by rw [State.setBay_eq]
@[simp] theorem State.setBay_sp (s : State) (b : Bay) (e : BayEntry) :
    (s.setBay b e).sp = s.sp := by rw [State.setBay_eq]
@[simp] theorem State.setBay_pins (s : State) (b : Bay) (e : BayEntry) :
    (s.setBay b e).pins = s.pins := by rw [State.setBay_eq]
@[simp] theorem State.setBay_token (s : State) (b : Bay) (e : BayEntry) :
    (s.setBay b e).token = s.token := by rw [State.setBay_eq]
@[simp] theorem State.setBay_arrivals (s : State) (b : Bay) (e : BayEntry) :
    (s.setBay b e).arrivals = s.arrivals := by rw [State.setBay_eq]
@[simp] theorem State.setBay_pending (s : State) (b : Bay) (e : BayEntry) :
    (s.setBay b e).pending = s.pending := by rw [State.setBay_eq]
@[simp] theorem State.setBay_clip? (s : State) (b : Bay) (e : BayEntry) (y : Nat) :
    (s.setBay b e).clip? y = s.clip? y := by simp [State.clip?]
@[simp] theorem State.setBay_clipOf (s : State) (b : Bay) (e : BayEntry) (y : Serial) (z : Nat) :
    (s.setBay b e).clipOf y z = s.clipOf y z := by simp [State.clipOf]
@[simp] theorem State.setBay_clipsOf (s : State) (b : Bay) (e : BayEntry) (y : Serial) :
    (s.setBay b e).clipsOf y = s.clipsOf y := by simp [State.clipsOf]
@[simp] theorem State.setBay_chan (s : State) (b : Bay) (e : BayEntry) (y : Chan) :
    (s.setBay b e).chan y = s.chan y := by simp [State.chan]
@[simp] theorem State.setBay_port (s : State) (b : Bay) (e : BayEntry) (y : Port) :
    (s.setBay b e).port y = s.port y := by simp [State.port]
@[simp] theorem State.setBay_liveCtx (s : State) (b : Bay) (e : BayEntry) (y : Chan) :
    (s.setBay b e).liveCtx y = s.liveCtx y := by simp [State.liveCtx]
@[simp] theorem State.setBay_playCtx (s : State) (b : Bay) (e : BayEntry) (y : Outp) :
    (s.setBay b e).playCtx y = s.playCtx y := by simp [State.playCtx]
@[simp] theorem State.setBay_look (s : State) (b : Bay) (e : BayEntry) (y : LookIx) :
    (s.setBay b e).look y = s.look y := by simp [State.look]
@[simp] theorem State.setBay_out (s : State) (b : Bay) (e : BayEntry) (y : Outp) :
    (s.setBay b e).out y = s.out y := by simp [State.out]
@[simp] theorem State.setBay_clock (s : State) (b : Bay) (e : BayEntry) (y : Grp) :
    (s.setBay b e).clock y = s.clock y := by simp [State.clock]
@[simp] theorem State.setBay_station (s : State) (b : Bay) (e : BayEntry) (y : Stn) :
    (s.setBay b e).station y = s.station y := by simp [State.station]

@[simp] theorem State.setClip_ci (s : State) (r : Clip) : (s.setClip r).ci = s.ci := rfl
@[simp] theorem State.setClip_ods (s : State) (r : Clip) : (s.setClip r).ods = s.ods := rfl
@[simp] theorem State.setClip_cc (s : State) (r : Clip) : (s.setClip r).cc = s.cc := rfl
@[simp] theorem State.setClip_sts (s : State) (r : Clip) : (s.setClip r).sts = s.sts := rfl
@[simp] theorem State.setClip_dp (s : State) (r : Clip) : (s.setClip r).dp = s.dp := rfl
@[simp] theorem State.setClip_fx (s : State) (r : Clip) : (s.setClip r).fx = s.fx := rfl
@[simp] theorem State.setClip_pp (s : State) (r : Clip) : (s.setClip r).pp = s.pp := rfl
@[simp] theorem State.setClip_ins (s : State) (r : Clip) : (s.setClip r).ins = s.ins := rfl
@[simp] theorem State.setClip_fl (s : State) (r : Clip) : (s.setClip r).fl = s.fl := rfl
@[simp] theorem State.setClip_lb (s : State) (r : Clip) : (s.setClip r).lb = s.lb := rfl
@[simp] theorem State.setClip_ro (s : State) (r : Clip) : (s.setClip r).ro = s.ro := rfl
@[simp] theorem State.setClip_sp (s : State) (r : Clip) : (s.setClip r).sp = s.sp := rfl
@[simp] theorem State.setClip_pins (s : State) (r : Clip) : (s.setClip r).pins = s.pins := rfl
@[simp] theorem State.setClip_wire (s : State) (r : Clip) : (s.setClip r).wire = s.wire := rfl
@[simp] theorem State.setClip_token (s : State) (r : Clip) : (s.setClip r).token = s.token := rfl
@[simp] theorem State.setClip_arrivals (s : State) (r : Clip) : (s.setClip r).arrivals = s.arrivals := rfl
@[simp] theorem State.setClip_pending (s : State) (r : Clip) : (s.setClip r).pending = s.pending := rfl
@[simp] theorem State.setClip_bay (s : State) (r : Clip) (y : Bay) : (s.setClip r).bay y = s.bay y := rfl
@[simp] theorem State.setClip_chan (s : State) (r : Clip) (y : Chan) : (s.setClip r).chan y = s.chan y := rfl
@[simp] theorem State.setClip_port (s : State) (r : Clip) (y : Port) : (s.setClip r).port y = s.port y := rfl
@[simp] theorem State.setClip_liveCtx (s : State) (r : Clip) (y : Chan) : (s.setClip r).liveCtx y = s.liveCtx y := rfl
@[simp] theorem State.setClip_playCtx (s : State) (r : Clip) (y : Outp) : (s.setClip r).playCtx y = s.playCtx y := rfl
@[simp] theorem State.setClip_look (s : State) (r : Clip) (y : LookIx) : (s.setClip r).look y = s.look y := rfl
@[simp] theorem State.setClip_out (s : State) (r : Clip) (y : Outp) : (s.setClip r).out y = s.out y := rfl
@[simp] theorem State.setClip_clock (s : State) (r : Clip) (y : Grp) : (s.setClip r).clock y = s.clock y := rfl
@[simp] theorem State.setClip_station (s : State) (r : Clip) (y : Stn) : (s.setClip r).station y = s.station y := rfl

@[simp] theorem State.setChan_ci (s : State) (ch : Chan) (c : Channel) :
    (s.setChan ch c).ci = s.ci := by
  simp only [State.setChan, State.answerWatches_eq]
@[simp] theorem State.setChan_cat (s : State) (ch : Chan) (c : Channel) :
    (s.setChan ch c).cat = s.cat := by
  simp only [State.setChan, State.answerWatches_eq]
@[simp] theorem State.setChan_ods (s : State) (ch : Chan) (c : Channel) :
    (s.setChan ch c).ods = s.ods := by
  simp only [State.setChan, State.answerWatches_eq]
@[simp] theorem State.setChan_sts (s : State) (ch : Chan) (c : Channel) :
    (s.setChan ch c).sts = s.sts := by
  simp only [State.setChan, State.answerWatches_eq]
@[simp] theorem State.setChan_dp (s : State) (ch : Chan) (c : Channel) :
    (s.setChan ch c).dp = s.dp := by
  simp only [State.setChan, State.answerWatches_eq]
@[simp] theorem State.setChan_fx (s : State) (ch : Chan) (c : Channel) :
    (s.setChan ch c).fx = s.fx := by
  simp only [State.setChan, State.answerWatches_eq]
@[simp] theorem State.setChan_pp (s : State) (ch : Chan) (c : Channel) :
    (s.setChan ch c).pp = s.pp := by
  simp only [State.setChan, State.answerWatches_eq]
@[simp] theorem State.setChan_ins (s : State) (ch : Chan) (c : Channel) :
    (s.setChan ch c).ins = s.ins := by
  simp only [State.setChan, State.answerWatches_eq]
@[simp] theorem State.setChan_fl (s : State) (ch : Chan) (c : Channel) :
    (s.setChan ch c).fl = s.fl := by
  simp only [State.setChan, State.answerWatches_eq]
@[simp] theorem State.setChan_lb (s : State) (ch : Chan) (c : Channel) :
    (s.setChan ch c).lb = s.lb := by
  simp only [State.setChan, State.answerWatches_eq]
@[simp] theorem State.setChan_ro (s : State) (ch : Chan) (c : Channel) :
    (s.setChan ch c).ro = s.ro := by
  simp only [State.setChan, State.answerWatches_eq]
@[simp] theorem State.setChan_sp (s : State) (ch : Chan) (c : Channel) :
    (s.setChan ch c).sp = s.sp := by
  simp only [State.setChan, State.answerWatches_eq]
@[simp] theorem State.setChan_pins (s : State) (ch : Chan) (c : Channel) :
    (s.setChan ch c).pins = s.pins := by
  simp only [State.setChan, State.answerWatches_eq]
@[simp] theorem State.setChan_token (s : State) (ch : Chan) (c : Channel) :
    (s.setChan ch c).token = s.token := by
  simp only [State.setChan, State.answerWatches_eq]
@[simp] theorem State.setChan_arrivals (s : State) (ch : Chan) (c : Channel) :
    (s.setChan ch c).arrivals = s.arrivals := by
  simp only [State.setChan, State.answerWatches_eq]
@[simp] theorem State.setChan_pending (s : State) (ch : Chan) (c : Channel) :
    (s.setChan ch c).pending = s.pending := by
  simp only [State.setChan, State.answerWatches_eq]
@[simp] theorem State.setChan_bay (s : State) (ch : Chan) (c : Channel) (y : Bay) :
    (s.setChan ch c).bay y = s.bay y := by simp [State.bay]
@[simp] theorem State.setChan_clip? (s : State) (ch : Chan) (c : Channel) (y : Nat) :
    (s.setChan ch c).clip? y = s.clip? y := by simp [State.clip?]
@[simp] theorem State.setChan_clipOf (s : State) (ch : Chan) (c : Channel) (y : Serial) (z : Nat) :
    (s.setChan ch c).clipOf y z = s.clipOf y z := by simp [State.clipOf]
@[simp] theorem State.setChan_clipsOf (s : State) (ch : Chan) (c : Channel) (y : Serial) :
    (s.setChan ch c).clipsOf y = s.clipsOf y := by simp [State.clipsOf]
@[simp] theorem State.setChan_port (s : State) (ch : Chan) (c : Channel) (y : Port) :
    (s.setChan ch c).port y = s.port y := by simp [State.port]
@[simp] theorem State.setChan_liveCtx (s : State) (ch : Chan) (c : Channel) (y : Chan) :
    (s.setChan ch c).liveCtx y = s.liveCtx y := by simp [State.liveCtx]
@[simp] theorem State.setChan_playCtx (s : State) (ch : Chan) (c : Channel) (y : Outp) :
    (s.setChan ch c).playCtx y = s.playCtx y := by simp [State.playCtx]
@[simp] theorem State.setChan_look (s : State) (ch : Chan) (c : Channel) (y : LookIx) :
    (s.setChan ch c).look y = s.look y := by simp [State.look]
@[simp] theorem State.setChan_out (s : State) (ch : Chan) (c : Channel) (y : Outp) :
    (s.setChan ch c).out y = s.out y := by simp [State.out]
@[simp] theorem State.setChan_clock (s : State) (ch : Chan) (c : Channel) (y : Grp) :
    (s.setChan ch c).clock y = s.clock y := by simp [State.clock]
@[simp] theorem State.setChan_station (s : State) (ch : Chan) (c : Channel) (y : Stn) :
    (s.setChan ch c).station y = s.station y := by simp [State.station]

@[simp] theorem State.setBufs_ci (s : State) (bufs : List Buffer) : (s.setBufs bufs).ci = s.ci := rfl
@[simp] theorem State.setBufs_cat (s : State) (bufs : List Buffer) : (s.setBufs bufs).cat = s.cat := rfl
@[simp] theorem State.setBufs_ods (s : State) (bufs : List Buffer) : (s.setBufs bufs).ods = s.ods := rfl
@[simp] theorem State.setBufs_cc (s : State) (bufs : List Buffer) : (s.setBufs bufs).cc = s.cc := rfl
@[simp] theorem State.setBufs_dp (s : State) (bufs : List Buffer) : (s.setBufs bufs).dp = s.dp := rfl
@[simp] theorem State.setBufs_fx (s : State) (bufs : List Buffer) : (s.setBufs bufs).fx = s.fx := rfl
@[simp] theorem State.setBufs_pp (s : State) (bufs : List Buffer) : (s.setBufs bufs).pp = s.pp := rfl
@[simp] theorem State.setBufs_ins (s : State) (bufs : List Buffer) : (s.setBufs bufs).ins = s.ins := rfl
@[simp] theorem State.setBufs_fl (s : State) (bufs : List Buffer) : (s.setBufs bufs).fl = s.fl := rfl
@[simp] theorem State.setBufs_lb (s : State) (bufs : List Buffer) : (s.setBufs bufs).lb = s.lb := rfl
@[simp] theorem State.setBufs_ro (s : State) (bufs : List Buffer) : (s.setBufs bufs).ro = s.ro := rfl
@[simp] theorem State.setBufs_sp (s : State) (bufs : List Buffer) : (s.setBufs bufs).sp = s.sp := rfl
@[simp] theorem State.setBufs_pins (s : State) (bufs : List Buffer) : (s.setBufs bufs).pins = s.pins := rfl
@[simp] theorem State.setBufs_wire (s : State) (bufs : List Buffer) : (s.setBufs bufs).wire = s.wire := rfl
@[simp] theorem State.setBufs_token (s : State) (bufs : List Buffer) : (s.setBufs bufs).token = s.token := rfl
@[simp] theorem State.setBufs_arrivals (s : State) (bufs : List Buffer) : (s.setBufs bufs).arrivals = s.arrivals := rfl
@[simp] theorem State.setBufs_pending (s : State) (bufs : List Buffer) : (s.setBufs bufs).pending = s.pending := rfl
@[simp] theorem State.setBufs_bay (s : State) (bufs : List Buffer) (y : Bay) : (s.setBufs bufs).bay y = s.bay y := rfl
@[simp] theorem State.setBufs_clip? (s : State) (bufs : List Buffer) (y : Nat) :
    (s.setBufs bufs).clip? y = s.clip? y := rfl
@[simp] theorem State.setBufs_clipOf (s : State) (bufs : List Buffer) (y : Serial) (z : Nat) :
    (s.setBufs bufs).clipOf y z = s.clipOf y z := rfl
@[simp] theorem State.setBufs_clipsOf (s : State) (bufs : List Buffer) (y : Serial) :
    (s.setBufs bufs).clipsOf y = s.clipsOf y := rfl
@[simp] theorem State.setBufs_chan (s : State) (bufs : List Buffer) (y : Chan) :
    (s.setBufs bufs).chan y = s.chan y := rfl
@[simp] theorem State.setBufs_port (s : State) (bufs : List Buffer) (y : Port) :
    (s.setBufs bufs).port y = s.port y := rfl
@[simp] theorem State.setBufs_liveCtx (s : State) (bufs : List Buffer) (y : Chan) :
    (s.setBufs bufs).liveCtx y = s.liveCtx y := rfl
@[simp] theorem State.setBufs_playCtx (s : State) (bufs : List Buffer) (y : Outp) :
    (s.setBufs bufs).playCtx y = s.playCtx y := rfl
@[simp] theorem State.setBufs_look (s : State) (bufs : List Buffer) (y : LookIx) :
    (s.setBufs bufs).look y = s.look y := rfl
@[simp] theorem State.setBufs_out (s : State) (bufs : List Buffer) (y : Outp) : (s.setBufs bufs).out y = s.out y := rfl
@[simp] theorem State.setBufs_clock (s : State) (bufs : List Buffer) (y : Grp) :
    (s.setBufs bufs).clock y = s.clock y := rfl
@[simp] theorem State.setBufs_station (s : State) (bufs : List Buffer) (y : Stn) :
    (s.setBufs bufs).station y = s.station y := rfl
@[simp] theorem State.leaveWaits_bufs (s : State) (ch : Chan) : (s.leaveWaits ch).sts.bufs = s.sts.bufs := rfl
@[simp] theorem State.leaveWaits_last (s : State) (ch : Chan) : (s.leaveWaits ch).sts.last = s.sts.last := rfl
@[simp] theorem State.leaveWaits_waits (s : State) (ch : Chan) :
    (s.leaveWaits ch).sts.waits = s.sts.waits.filter fun w => w.ch ≠ ch := rfl
@[simp] theorem State.leaveWaits_ci (s : State) (ch : Chan) : (s.leaveWaits ch).ci = s.ci := rfl
@[simp] theorem State.leaveWaits_cat (s : State) (ch : Chan) : (s.leaveWaits ch).cat = s.cat := rfl
@[simp] theorem State.leaveWaits_ods (s : State) (ch : Chan) : (s.leaveWaits ch).ods = s.ods := rfl
@[simp] theorem State.leaveWaits_cc (s : State) (ch : Chan) : (s.leaveWaits ch).cc = s.cc := rfl
@[simp] theorem State.leaveWaits_dp (s : State) (ch : Chan) : (s.leaveWaits ch).dp = s.dp := rfl
@[simp] theorem State.leaveWaits_fx (s : State) (ch : Chan) : (s.leaveWaits ch).fx = s.fx := rfl
@[simp] theorem State.leaveWaits_pp (s : State) (ch : Chan) : (s.leaveWaits ch).pp = s.pp := rfl
@[simp] theorem State.leaveWaits_ins (s : State) (ch : Chan) : (s.leaveWaits ch).ins = s.ins := rfl
@[simp] theorem State.leaveWaits_fl (s : State) (ch : Chan) : (s.leaveWaits ch).fl = s.fl := rfl
@[simp] theorem State.leaveWaits_lb (s : State) (ch : Chan) : (s.leaveWaits ch).lb = s.lb := rfl
@[simp] theorem State.leaveWaits_ro (s : State) (ch : Chan) : (s.leaveWaits ch).ro = s.ro := rfl
@[simp] theorem State.leaveWaits_sp (s : State) (ch : Chan) : (s.leaveWaits ch).sp = s.sp := rfl
@[simp] theorem State.leaveWaits_pins (s : State) (ch : Chan) : (s.leaveWaits ch).pins = s.pins := rfl
@[simp] theorem State.leaveWaits_wire (s : State) (ch : Chan) : (s.leaveWaits ch).wire = s.wire := rfl
@[simp] theorem State.leaveWaits_token (s : State) (ch : Chan) : (s.leaveWaits ch).token = s.token := rfl
@[simp] theorem State.leaveWaits_arrivals (s : State) (ch : Chan) : (s.leaveWaits ch).arrivals = s.arrivals := rfl
@[simp] theorem State.leaveWaits_pending (s : State) (ch : Chan) : (s.leaveWaits ch).pending = s.pending := rfl
@[simp] theorem State.leaveWaits_bay (s : State) (ch : Chan) (y : Bay) : (s.leaveWaits ch).bay y = s.bay y := rfl
@[simp] theorem State.leaveWaits_clip? (s : State) (ch : Chan) (y : Nat) :
    (s.leaveWaits ch).clip? y = s.clip? y := rfl
@[simp] theorem State.leaveWaits_clipOf (s : State) (ch : Chan) (y : Serial) (z : Nat) :
    (s.leaveWaits ch).clipOf y z = s.clipOf y z := rfl
@[simp] theorem State.leaveWaits_clipsOf (s : State) (ch : Chan) (y : Serial) :
    (s.leaveWaits ch).clipsOf y = s.clipsOf y := rfl
@[simp] theorem State.leaveWaits_chan (s : State) (ch : Chan) (y : Chan) :
    (s.leaveWaits ch).chan y = s.chan y := rfl
@[simp] theorem State.leaveWaits_port (s : State) (ch : Chan) (y : Port) :
    (s.leaveWaits ch).port y = s.port y := rfl
@[simp] theorem State.leaveWaits_liveCtx (s : State) (ch : Chan) (y : Chan) :
    (s.leaveWaits ch).liveCtx y = s.liveCtx y := rfl
@[simp] theorem State.leaveWaits_playCtx (s : State) (ch : Chan) (y : Outp) :
    (s.leaveWaits ch).playCtx y = s.playCtx y := rfl
@[simp] theorem State.leaveWaits_look (s : State) (ch : Chan) (y : LookIx) :
    (s.leaveWaits ch).look y = s.look y := rfl
@[simp] theorem State.leaveWaits_out (s : State) (ch : Chan) (y : Outp) : (s.leaveWaits ch).out y = s.out y := rfl
@[simp] theorem State.leaveWaits_clock (s : State) (ch : Chan) (y : Grp) :
    (s.leaveWaits ch).clock y = s.clock y := rfl
@[simp] theorem State.leaveWaits_station (s : State) (ch : Chan) (y : Stn) :
    (s.leaveWaits ch).station y = s.station y := rfl

@[simp] theorem State.setPort_ci (s : State) (p : Port) (c : PortCtx) :
    (s.setPort p c).ci = s.ci := by rw [State.setPort_eq]
@[simp] theorem State.setPort_cat (s : State) (p : Port) (c : PortCtx) :
    (s.setPort p c).cat = s.cat := by rw [State.setPort_eq]
@[simp] theorem State.setPort_ods (s : State) (p : Port) (c : PortCtx) :
    (s.setPort p c).ods = s.ods := by rw [State.setPort_eq]
@[simp] theorem State.setPort_cc (s : State) (p : Port) (c : PortCtx) :
    (s.setPort p c).cc = s.cc := by rw [State.setPort_eq]
@[simp] theorem State.setPort_sts (s : State) (p : Port) (c : PortCtx) :
    (s.setPort p c).sts = s.sts := by rw [State.setPort_eq]
@[simp] theorem State.setPort_fx (s : State) (p : Port) (c : PortCtx) :
    (s.setPort p c).fx = s.fx := by rw [State.setPort_eq]
@[simp] theorem State.setPort_pp (s : State) (p : Port) (c : PortCtx) :
    (s.setPort p c).pp = s.pp := by rw [State.setPort_eq]
@[simp] theorem State.setPort_ins (s : State) (p : Port) (c : PortCtx) :
    (s.setPort p c).ins = s.ins := by rw [State.setPort_eq]
@[simp] theorem State.setPort_fl (s : State) (p : Port) (c : PortCtx) :
    (s.setPort p c).fl = s.fl := by rw [State.setPort_eq]
@[simp] theorem State.setPort_lb (s : State) (p : Port) (c : PortCtx) :
    (s.setPort p c).lb = s.lb := by rw [State.setPort_eq]
@[simp] theorem State.setPort_ro (s : State) (p : Port) (c : PortCtx) :
    (s.setPort p c).ro = s.ro := by rw [State.setPort_eq]
@[simp] theorem State.setPort_sp (s : State) (p : Port) (c : PortCtx) :
    (s.setPort p c).sp = s.sp := by rw [State.setPort_eq]
@[simp] theorem State.setPort_pins (s : State) (p : Port) (c : PortCtx) :
    (s.setPort p c).pins = s.pins := by rw [State.setPort_eq]
@[simp] theorem State.setPort_token (s : State) (p : Port) (c : PortCtx) :
    (s.setPort p c).token = s.token := by rw [State.setPort_eq]
@[simp] theorem State.setPort_arrivals (s : State) (p : Port) (c : PortCtx) :
    (s.setPort p c).arrivals = s.arrivals := by rw [State.setPort_eq]
@[simp] theorem State.setPort_pending (s : State) (p : Port) (c : PortCtx) :
    (s.setPort p c).pending = s.pending := by rw [State.setPort_eq]
@[simp] theorem State.setPort_bay (s : State) (p : Port) (c : PortCtx) (y : Bay) :
    (s.setPort p c).bay y = s.bay y := by simp [State.bay]
@[simp] theorem State.setPort_clip? (s : State) (p : Port) (c : PortCtx) (y : Nat) :
    (s.setPort p c).clip? y = s.clip? y := by simp [State.clip?]
@[simp] theorem State.setPort_clipOf (s : State) (p : Port) (c : PortCtx) (y : Serial) (z : Nat) :
    (s.setPort p c).clipOf y z = s.clipOf y z := by simp [State.clipOf]
@[simp] theorem State.setPort_clipsOf (s : State) (p : Port) (c : PortCtx) (y : Serial) :
    (s.setPort p c).clipsOf y = s.clipsOf y := by simp [State.clipsOf]
@[simp] theorem State.setPort_chan (s : State) (p : Port) (c : PortCtx) (y : Chan) :
    (s.setPort p c).chan y = s.chan y := by simp [State.chan]
@[simp] theorem State.setPort_liveCtx (s : State) (p : Port) (c : PortCtx) (y : Chan) :
    (s.setPort p c).liveCtx y = s.liveCtx y := by simp [State.liveCtx]
@[simp] theorem State.setPort_playCtx (s : State) (p : Port) (c : PortCtx) (y : Outp) :
    (s.setPort p c).playCtx y = s.playCtx y := by simp [State.playCtx]
@[simp] theorem State.setPort_look (s : State) (p : Port) (c : PortCtx) (y : LookIx) :
    (s.setPort p c).look y = s.look y := by simp [State.look]
@[simp] theorem State.setPort_out (s : State) (p : Port) (c : PortCtx) (y : Outp) :
    (s.setPort p c).out y = s.out y := by simp [State.out]
@[simp] theorem State.setPort_clock (s : State) (p : Port) (c : PortCtx) (y : Grp) :
    (s.setPort p c).clock y = s.clock y := by simp [State.clock]
@[simp] theorem State.setPort_station (s : State) (p : Port) (c : PortCtx) (y : Stn) :
    (s.setPort p c).station y = s.station y := by simp [State.station]

@[simp] theorem State.setCont_ci (s : State) (ch : Chan) (c : Continuity) : (s.setCont ch c).ci = s.ci := rfl
@[simp] theorem State.setCont_cat (s : State) (ch : Chan) (c : Continuity) : (s.setCont ch c).cat = s.cat := rfl
@[simp] theorem State.setCont_ods (s : State) (ch : Chan) (c : Continuity) : (s.setCont ch c).ods = s.ods := rfl
@[simp] theorem State.setCont_cc (s : State) (ch : Chan) (c : Continuity) : (s.setCont ch c).cc = s.cc := rfl
@[simp] theorem State.setCont_sts (s : State) (ch : Chan) (c : Continuity) : (s.setCont ch c).sts = s.sts := rfl
@[simp] theorem State.setCont_dp (s : State) (ch : Chan) (c : Continuity) : (s.setCont ch c).dp = s.dp := rfl
@[simp] theorem State.setCont_fx (s : State) (ch : Chan) (c : Continuity) : (s.setCont ch c).fx = s.fx := rfl
@[simp] theorem State.setCont_pp (s : State) (ch : Chan) (c : Continuity) : (s.setCont ch c).pp = s.pp := rfl
@[simp] theorem State.setCont_fl (s : State) (ch : Chan) (c : Continuity) : (s.setCont ch c).fl = s.fl := rfl
@[simp] theorem State.setCont_lb (s : State) (ch : Chan) (c : Continuity) : (s.setCont ch c).lb = s.lb := rfl
@[simp] theorem State.setCont_ro (s : State) (ch : Chan) (c : Continuity) : (s.setCont ch c).ro = s.ro := rfl
@[simp] theorem State.setCont_sp (s : State) (ch : Chan) (c : Continuity) : (s.setCont ch c).sp = s.sp := rfl
@[simp] theorem State.setCont_pins (s : State) (ch : Chan) (c : Continuity) : (s.setCont ch c).pins = s.pins := rfl
@[simp] theorem State.setCont_wire (s : State) (ch : Chan) (c : Continuity) : (s.setCont ch c).wire = s.wire := rfl
@[simp] theorem State.setCont_token (s : State) (ch : Chan) (c : Continuity) : (s.setCont ch c).token = s.token := rfl
@[simp] theorem State.setCont_arrivals (s : State) (ch : Chan) (c : Continuity) :
    (s.setCont ch c).arrivals = s.arrivals := rfl
@[simp] theorem State.setCont_pending (s : State) (ch : Chan) (c : Continuity) :
    (s.setCont ch c).pending = s.pending := rfl
@[simp] theorem State.setCont_bay (s : State) (ch : Chan) (c : Continuity) (y : Bay) :
    (s.setCont ch c).bay y = s.bay y := rfl
@[simp] theorem State.setCont_clip? (s : State) (ch : Chan) (c : Continuity) (y : Nat) :
    (s.setCont ch c).clip? y = s.clip? y := rfl
@[simp] theorem State.setCont_clipOf (s : State) (ch : Chan) (c : Continuity) (y : Serial) (z : Nat) :
    (s.setCont ch c).clipOf y z = s.clipOf y z := rfl
@[simp] theorem State.setCont_clipsOf (s : State) (ch : Chan) (c : Continuity) (y : Serial) :
    (s.setCont ch c).clipsOf y = s.clipsOf y := rfl
@[simp] theorem State.setCont_chan (s : State) (ch : Chan) (c : Continuity) (y : Chan) :
    (s.setCont ch c).chan y = s.chan y := rfl
@[simp] theorem State.setCont_port (s : State) (ch : Chan) (c : Continuity) (y : Port) :
    (s.setCont ch c).port y = s.port y := rfl
@[simp] theorem State.setCont_liveCtx (s : State) (ch : Chan) (c : Continuity) (y : Chan) :
    (s.setCont ch c).liveCtx y = s.liveCtx y := rfl
@[simp] theorem State.setCont_playCtx (s : State) (ch : Chan) (c : Continuity) (y : Outp) :
    (s.setCont ch c).playCtx y = s.playCtx y := rfl
@[simp] theorem State.setCont_look (s : State) (ch : Chan) (c : Continuity) (y : LookIx) :
    (s.setCont ch c).look y = s.look y := rfl
@[simp] theorem State.setCont_out (s : State) (ch : Chan) (c : Continuity) (y : Outp) :
    (s.setCont ch c).out y = s.out y := rfl
@[simp] theorem State.setCont_clock (s : State) (ch : Chan) (c : Continuity) (y : Grp) :
    (s.setCont ch c).clock y = s.clock y := rfl
@[simp] theorem State.setCont_station (s : State) (ch : Chan) (c : Continuity) (y : Stn) :
    (s.setCont ch c).station y = s.station y := rfl

@[simp] theorem State.setCtx_ci (s : State) (i : Fin 4) (c : AnalysisCtx) : (s.setCtx i c).ci = s.ci := rfl
@[simp] theorem State.setCtx_cat (s : State) (i : Fin 4) (c : AnalysisCtx) : (s.setCtx i c).cat = s.cat := rfl
@[simp] theorem State.setCtx_ods (s : State) (i : Fin 4) (c : AnalysisCtx) : (s.setCtx i c).ods = s.ods := rfl
@[simp] theorem State.setCtx_cc (s : State) (i : Fin 4) (c : AnalysisCtx) : (s.setCtx i c).cc = s.cc := rfl
@[simp] theorem State.setCtx_sts (s : State) (i : Fin 4) (c : AnalysisCtx) : (s.setCtx i c).sts = s.sts := rfl
@[simp] theorem State.setCtx_dp (s : State) (i : Fin 4) (c : AnalysisCtx) : (s.setCtx i c).dp = s.dp := rfl
@[simp] theorem State.setCtx_fx (s : State) (i : Fin 4) (c : AnalysisCtx) : (s.setCtx i c).fx = s.fx := rfl
@[simp] theorem State.setCtx_pp (s : State) (i : Fin 4) (c : AnalysisCtx) : (s.setCtx i c).pp = s.pp := rfl
@[simp] theorem State.setCtx_fl (s : State) (i : Fin 4) (c : AnalysisCtx) : (s.setCtx i c).fl = s.fl := rfl
@[simp] theorem State.setCtx_lb (s : State) (i : Fin 4) (c : AnalysisCtx) : (s.setCtx i c).lb = s.lb := rfl
@[simp] theorem State.setCtx_ro (s : State) (i : Fin 4) (c : AnalysisCtx) : (s.setCtx i c).ro = s.ro := rfl
@[simp] theorem State.setCtx_sp (s : State) (i : Fin 4) (c : AnalysisCtx) : (s.setCtx i c).sp = s.sp := rfl
@[simp] theorem State.setCtx_pins (s : State) (i : Fin 4) (c : AnalysisCtx) : (s.setCtx i c).pins = s.pins := rfl
@[simp] theorem State.setCtx_wire (s : State) (i : Fin 4) (c : AnalysisCtx) : (s.setCtx i c).wire = s.wire := rfl
@[simp] theorem State.setCtx_token (s : State) (i : Fin 4) (c : AnalysisCtx) : (s.setCtx i c).token = s.token := rfl
@[simp] theorem State.setCtx_arrivals (s : State) (i : Fin 4) (c : AnalysisCtx) :
    (s.setCtx i c).arrivals = s.arrivals := rfl
@[simp] theorem State.setCtx_pending (s : State) (i : Fin 4) (c : AnalysisCtx) :
    (s.setCtx i c).pending = s.pending := rfl
@[simp] theorem State.setCtx_bay (s : State) (i : Fin 4) (c : AnalysisCtx) (y : Bay) :
    (s.setCtx i c).bay y = s.bay y := rfl
@[simp] theorem State.setCtx_clip? (s : State) (i : Fin 4) (c : AnalysisCtx) (y : Nat) :
    (s.setCtx i c).clip? y = s.clip? y := rfl
@[simp] theorem State.setCtx_clipOf (s : State) (i : Fin 4) (c : AnalysisCtx) (y : Serial) (z : Nat) :
    (s.setCtx i c).clipOf y z = s.clipOf y z := rfl
@[simp] theorem State.setCtx_clipsOf (s : State) (i : Fin 4) (c : AnalysisCtx) (y : Serial) :
    (s.setCtx i c).clipsOf y = s.clipsOf y := rfl
@[simp] theorem State.setCtx_chan (s : State) (i : Fin 4) (c : AnalysisCtx) (y : Chan) :
    (s.setCtx i c).chan y = s.chan y := rfl
@[simp] theorem State.setCtx_port (s : State) (i : Fin 4) (c : AnalysisCtx) (y : Port) :
    (s.setCtx i c).port y = s.port y := rfl
@[simp] theorem State.setCtx_liveCtx (s : State) (i : Fin 4) (c : AnalysisCtx) (y : Chan) :
    (s.setCtx i c).liveCtx y = s.liveCtx y := rfl
@[simp] theorem State.setCtx_playCtx (s : State) (i : Fin 4) (c : AnalysisCtx) (y : Outp) :
    (s.setCtx i c).playCtx y = s.playCtx y := rfl
@[simp] theorem State.setCtx_look (s : State) (i : Fin 4) (c : AnalysisCtx) (y : LookIx) :
    (s.setCtx i c).look y = s.look y := rfl
@[simp] theorem State.setCtx_out (s : State) (i : Fin 4) (c : AnalysisCtx) (y : Outp) :
    (s.setCtx i c).out y = s.out y := rfl
@[simp] theorem State.setCtx_clock (s : State) (i : Fin 4) (c : AnalysisCtx) (y : Grp) :
    (s.setCtx i c).clock y = s.clock y := rfl
@[simp] theorem State.setCtx_station (s : State) (i : Fin 4) (c : AnalysisCtx) (y : Stn) :
    (s.setCtx i c).station y = s.station y := rfl

@[simp] theorem State.setReader_ci (s : State) (r : Reader) : (s.setReader r).ci = s.ci := rfl
@[simp] theorem State.setReader_cat (s : State) (r : Reader) : (s.setReader r).cat = s.cat := rfl
@[simp] theorem State.setReader_ods (s : State) (r : Reader) : (s.setReader r).ods = s.ods := rfl
@[simp] theorem State.setReader_cc (s : State) (r : Reader) : (s.setReader r).cc = s.cc := rfl
@[simp] theorem State.setReader_sts (s : State) (r : Reader) : (s.setReader r).sts = s.sts := rfl
@[simp] theorem State.setReader_dp (s : State) (r : Reader) : (s.setReader r).dp = s.dp := rfl
@[simp] theorem State.setReader_fx (s : State) (r : Reader) : (s.setReader r).fx = s.fx := rfl
@[simp] theorem State.setReader_pp (s : State) (r : Reader) : (s.setReader r).pp = s.pp := rfl
@[simp] theorem State.setReader_fl (s : State) (r : Reader) : (s.setReader r).fl = s.fl := rfl
@[simp] theorem State.setReader_lb (s : State) (r : Reader) : (s.setReader r).lb = s.lb := rfl
@[simp] theorem State.setReader_ro (s : State) (r : Reader) : (s.setReader r).ro = s.ro := rfl
@[simp] theorem State.setReader_sp (s : State) (r : Reader) : (s.setReader r).sp = s.sp := rfl
@[simp] theorem State.setReader_pins (s : State) (r : Reader) : (s.setReader r).pins = s.pins := rfl
@[simp] theorem State.setReader_wire (s : State) (r : Reader) : (s.setReader r).wire = s.wire := rfl
@[simp] theorem State.setReader_token (s : State) (r : Reader) : (s.setReader r).token = s.token := rfl
@[simp] theorem State.setReader_arrivals (s : State) (r : Reader) : (s.setReader r).arrivals = s.arrivals := rfl
@[simp] theorem State.setReader_pending (s : State) (r : Reader) : (s.setReader r).pending = s.pending := rfl
@[simp] theorem State.setReader_bay (s : State) (r : Reader) (y : Bay) : (s.setReader r).bay y = s.bay y := rfl
@[simp] theorem State.setReader_clip? (s : State) (r : Reader) (y : Nat) : (s.setReader r).clip? y = s.clip? y := rfl
@[simp] theorem State.setReader_clipOf (s : State) (r : Reader) (y : Serial) (z : Nat) :
    (s.setReader r).clipOf y z = s.clipOf y z := rfl
@[simp] theorem State.setReader_clipsOf (s : State) (r : Reader) (y : Serial) :
    (s.setReader r).clipsOf y = s.clipsOf y := rfl
@[simp] theorem State.setReader_chan (s : State) (r : Reader) (y : Chan) : (s.setReader r).chan y = s.chan y := rfl
@[simp] theorem State.setReader_port (s : State) (r : Reader) (y : Port) : (s.setReader r).port y = s.port y := rfl
@[simp] theorem State.setReader_liveCtx (s : State) (r : Reader) (y : Chan) :
    (s.setReader r).liveCtx y = s.liveCtx y := rfl
@[simp] theorem State.setReader_playCtx (s : State) (r : Reader) (y : Outp) :
    (s.setReader r).playCtx y = s.playCtx y := rfl
@[simp] theorem State.setReader_look (s : State) (r : Reader) (y : LookIx) : (s.setReader r).look y = s.look y := rfl
@[simp] theorem State.setReader_out (s : State) (r : Reader) (y : Outp) : (s.setReader r).out y = s.out y := rfl
@[simp] theorem State.setReader_clock (s : State) (r : Reader) (y : Grp) : (s.setReader r).clock y = s.clock y := rfl
@[simp] theorem State.setReader_station (s : State) (r : Reader) (y : Stn) :
    (s.setReader r).station y = s.station y := rfl

@[simp] theorem State.setLive_ci (s : State) (c : Chan) (x : LiveCtx) : (s.setLive c x).ci = s.ci := rfl
@[simp] theorem State.setLive_cat (s : State) (c : Chan) (x : LiveCtx) : (s.setLive c x).cat = s.cat := rfl
@[simp] theorem State.setLive_ods (s : State) (c : Chan) (x : LiveCtx) : (s.setLive c x).ods = s.ods := rfl
@[simp] theorem State.setLive_cc (s : State) (c : Chan) (x : LiveCtx) : (s.setLive c x).cc = s.cc := rfl
@[simp] theorem State.setLive_sts (s : State) (c : Chan) (x : LiveCtx) : (s.setLive c x).sts = s.sts := rfl
@[simp] theorem State.setLive_dp (s : State) (c : Chan) (x : LiveCtx) : (s.setLive c x).dp = s.dp := rfl
@[simp] theorem State.setLive_pp (s : State) (c : Chan) (x : LiveCtx) : (s.setLive c x).pp = s.pp := rfl
@[simp] theorem State.setLive_ins (s : State) (c : Chan) (x : LiveCtx) : (s.setLive c x).ins = s.ins := rfl
@[simp] theorem State.setLive_fl (s : State) (c : Chan) (x : LiveCtx) : (s.setLive c x).fl = s.fl := rfl
@[simp] theorem State.setLive_lb (s : State) (c : Chan) (x : LiveCtx) : (s.setLive c x).lb = s.lb := rfl
@[simp] theorem State.setLive_ro (s : State) (c : Chan) (x : LiveCtx) : (s.setLive c x).ro = s.ro := rfl
@[simp] theorem State.setLive_sp (s : State) (c : Chan) (x : LiveCtx) : (s.setLive c x).sp = s.sp := rfl
@[simp] theorem State.setLive_pins (s : State) (c : Chan) (x : LiveCtx) : (s.setLive c x).pins = s.pins := rfl
@[simp] theorem State.setLive_wire (s : State) (c : Chan) (x : LiveCtx) : (s.setLive c x).wire = s.wire := rfl
@[simp] theorem State.setLive_token (s : State) (c : Chan) (x : LiveCtx) : (s.setLive c x).token = s.token := rfl
@[simp] theorem State.setLive_arrivals (s : State) (c : Chan) (x : LiveCtx) :
    (s.setLive c x).arrivals = s.arrivals := rfl
@[simp] theorem State.setLive_pending (s : State) (c : Chan) (x : LiveCtx) : (s.setLive c x).pending = s.pending := rfl
@[simp] theorem State.setLive_bay (s : State) (c : Chan) (x : LiveCtx) (y : Bay) :
    (s.setLive c x).bay y = s.bay y := rfl
@[simp] theorem State.setLive_clip? (s : State) (c : Chan) (x : LiveCtx) (y : Nat) :
    (s.setLive c x).clip? y = s.clip? y := rfl
@[simp] theorem State.setLive_clipOf (s : State) (c : Chan) (x : LiveCtx) (y : Serial) (z : Nat) :
    (s.setLive c x).clipOf y z = s.clipOf y z := rfl
@[simp] theorem State.setLive_clipsOf (s : State) (c : Chan) (x : LiveCtx) (y : Serial) :
    (s.setLive c x).clipsOf y = s.clipsOf y := rfl
@[simp] theorem State.setLive_chan (s : State) (c : Chan) (x : LiveCtx) (y : Chan) :
    (s.setLive c x).chan y = s.chan y := rfl
@[simp] theorem State.setLive_port (s : State) (c : Chan) (x : LiveCtx) (y : Port) :
    (s.setLive c x).port y = s.port y := rfl
@[simp] theorem State.setLive_look (s : State) (c : Chan) (x : LiveCtx) (y : LookIx) :
    (s.setLive c x).look y = s.look y := rfl
@[simp] theorem State.setLive_out (s : State) (c : Chan) (x : LiveCtx) (y : Outp) :
    (s.setLive c x).out y = s.out y := rfl
@[simp] theorem State.setLive_clock (s : State) (c : Chan) (x : LiveCtx) (y : Grp) :
    (s.setLive c x).clock y = s.clock y := rfl
@[simp] theorem State.setLive_station (s : State) (c : Chan) (x : LiveCtx) (y : Stn) :
    (s.setLive c x).station y = s.station y := rfl

@[simp] theorem State.setPlay_ci (s : State) (k : Outp) (x : PlayCtx) : (s.setPlay k x).ci = s.ci := rfl
@[simp] theorem State.setPlay_cat (s : State) (k : Outp) (x : PlayCtx) : (s.setPlay k x).cat = s.cat := rfl
@[simp] theorem State.setPlay_ods (s : State) (k : Outp) (x : PlayCtx) : (s.setPlay k x).ods = s.ods := rfl
@[simp] theorem State.setPlay_cc (s : State) (k : Outp) (x : PlayCtx) : (s.setPlay k x).cc = s.cc := rfl
@[simp] theorem State.setPlay_sts (s : State) (k : Outp) (x : PlayCtx) : (s.setPlay k x).sts = s.sts := rfl
@[simp] theorem State.setPlay_dp (s : State) (k : Outp) (x : PlayCtx) : (s.setPlay k x).dp = s.dp := rfl
@[simp] theorem State.setPlay_pp (s : State) (k : Outp) (x : PlayCtx) : (s.setPlay k x).pp = s.pp := rfl
@[simp] theorem State.setPlay_ins (s : State) (k : Outp) (x : PlayCtx) : (s.setPlay k x).ins = s.ins := rfl
@[simp] theorem State.setPlay_fl (s : State) (k : Outp) (x : PlayCtx) : (s.setPlay k x).fl = s.fl := rfl
@[simp] theorem State.setPlay_lb (s : State) (k : Outp) (x : PlayCtx) : (s.setPlay k x).lb = s.lb := rfl
@[simp] theorem State.setPlay_ro (s : State) (k : Outp) (x : PlayCtx) : (s.setPlay k x).ro = s.ro := rfl
@[simp] theorem State.setPlay_sp (s : State) (k : Outp) (x : PlayCtx) : (s.setPlay k x).sp = s.sp := rfl
@[simp] theorem State.setPlay_pins (s : State) (k : Outp) (x : PlayCtx) : (s.setPlay k x).pins = s.pins := rfl
@[simp] theorem State.setPlay_wire (s : State) (k : Outp) (x : PlayCtx) : (s.setPlay k x).wire = s.wire := rfl
@[simp] theorem State.setPlay_token (s : State) (k : Outp) (x : PlayCtx) : (s.setPlay k x).token = s.token := rfl
@[simp] theorem State.setPlay_arrivals (s : State) (k : Outp) (x : PlayCtx) :
    (s.setPlay k x).arrivals = s.arrivals := rfl
@[simp] theorem State.setPlay_pending (s : State) (k : Outp) (x : PlayCtx) : (s.setPlay k x).pending = s.pending := rfl
@[simp] theorem State.setPlay_bay (s : State) (k : Outp) (x : PlayCtx) (y : Bay) :
    (s.setPlay k x).bay y = s.bay y := rfl
@[simp] theorem State.setPlay_clip? (s : State) (k : Outp) (x : PlayCtx) (y : Nat) :
    (s.setPlay k x).clip? y = s.clip? y := rfl
@[simp] theorem State.setPlay_clipOf (s : State) (k : Outp) (x : PlayCtx) (y : Serial) (z : Nat) :
    (s.setPlay k x).clipOf y z = s.clipOf y z := rfl
@[simp] theorem State.setPlay_clipsOf (s : State) (k : Outp) (x : PlayCtx) (y : Serial) :
    (s.setPlay k x).clipsOf y = s.clipsOf y := rfl
@[simp] theorem State.setPlay_chan (s : State) (k : Outp) (x : PlayCtx) (y : Chan) :
    (s.setPlay k x).chan y = s.chan y := rfl
@[simp] theorem State.setPlay_port (s : State) (k : Outp) (x : PlayCtx) (y : Port) :
    (s.setPlay k x).port y = s.port y := rfl
@[simp] theorem State.setPlay_look (s : State) (k : Outp) (x : PlayCtx) (y : LookIx) :
    (s.setPlay k x).look y = s.look y := rfl
@[simp] theorem State.setPlay_out (s : State) (k : Outp) (x : PlayCtx) (y : Outp) :
    (s.setPlay k x).out y = s.out y := rfl
@[simp] theorem State.setPlay_clock (s : State) (k : Outp) (x : PlayCtx) (y : Grp) :
    (s.setPlay k x).clock y = s.clock y := rfl
@[simp] theorem State.setPlay_station (s : State) (k : Outp) (x : PlayCtx) (y : Stn) :
    (s.setPlay k x).station y = s.station y := rfl

@[simp] theorem State.setRe_ci (s : State) (x : ReCtx) : (s.setRe x).ci = s.ci := rfl
@[simp] theorem State.setRe_cat (s : State) (x : ReCtx) : (s.setRe x).cat = s.cat := rfl
@[simp] theorem State.setRe_ods (s : State) (x : ReCtx) : (s.setRe x).ods = s.ods := rfl
@[simp] theorem State.setRe_cc (s : State) (x : ReCtx) : (s.setRe x).cc = s.cc := rfl
@[simp] theorem State.setRe_sts (s : State) (x : ReCtx) : (s.setRe x).sts = s.sts := rfl
@[simp] theorem State.setRe_dp (s : State) (x : ReCtx) : (s.setRe x).dp = s.dp := rfl
@[simp] theorem State.setRe_pp (s : State) (x : ReCtx) : (s.setRe x).pp = s.pp := rfl
@[simp] theorem State.setRe_ins (s : State) (x : ReCtx) : (s.setRe x).ins = s.ins := rfl
@[simp] theorem State.setRe_fl (s : State) (x : ReCtx) : (s.setRe x).fl = s.fl := rfl
@[simp] theorem State.setRe_lb (s : State) (x : ReCtx) : (s.setRe x).lb = s.lb := rfl
@[simp] theorem State.setRe_ro (s : State) (x : ReCtx) : (s.setRe x).ro = s.ro := rfl
@[simp] theorem State.setRe_sp (s : State) (x : ReCtx) : (s.setRe x).sp = s.sp := rfl
@[simp] theorem State.setRe_pins (s : State) (x : ReCtx) : (s.setRe x).pins = s.pins := rfl
@[simp] theorem State.setRe_wire (s : State) (x : ReCtx) : (s.setRe x).wire = s.wire := rfl
@[simp] theorem State.setRe_token (s : State) (x : ReCtx) : (s.setRe x).token = s.token := rfl
@[simp] theorem State.setRe_arrivals (s : State) (x : ReCtx) : (s.setRe x).arrivals = s.arrivals := rfl
@[simp] theorem State.setRe_pending (s : State) (x : ReCtx) : (s.setRe x).pending = s.pending := rfl
@[simp] theorem State.setRe_bay (s : State) (x : ReCtx) (y : Bay) : (s.setRe x).bay y = s.bay y := rfl
@[simp] theorem State.setRe_clip? (s : State) (x : ReCtx) (y : Nat) : (s.setRe x).clip? y = s.clip? y := rfl
@[simp] theorem State.setRe_clipOf (s : State) (x : ReCtx) (y : Serial) (z : Nat) :
    (s.setRe x).clipOf y z = s.clipOf y z := rfl
@[simp] theorem State.setRe_clipsOf (s : State) (x : ReCtx) (y : Serial) : (s.setRe x).clipsOf y = s.clipsOf y := rfl
@[simp] theorem State.setRe_chan (s : State) (x : ReCtx) (y : Chan) : (s.setRe x).chan y = s.chan y := rfl
@[simp] theorem State.setRe_port (s : State) (x : ReCtx) (y : Port) : (s.setRe x).port y = s.port y := rfl
@[simp] theorem State.setRe_look (s : State) (x : ReCtx) (y : LookIx) : (s.setRe x).look y = s.look y := rfl
@[simp] theorem State.setRe_out (s : State) (x : ReCtx) (y : Outp) : (s.setRe x).out y = s.out y := rfl
@[simp] theorem State.setRe_clock (s : State) (x : ReCtx) (y : Grp) : (s.setRe x).clock y = s.clock y := rfl
@[simp] theorem State.setRe_station (s : State) (x : ReCtx) (y : Stn) : (s.setRe x).station y = s.station y := rfl

@[simp] theorem State.setFindings_ci (s : State) (l : List Finding) : (s.setFindings l).ci = s.ci := rfl
@[simp] theorem State.setFindings_cat (s : State) (l : List Finding) : (s.setFindings l).cat = s.cat := rfl
@[simp] theorem State.setFindings_ods (s : State) (l : List Finding) : (s.setFindings l).ods = s.ods := rfl
@[simp] theorem State.setFindings_cc (s : State) (l : List Finding) : (s.setFindings l).cc = s.cc := rfl
@[simp] theorem State.setFindings_sts (s : State) (l : List Finding) : (s.setFindings l).sts = s.sts := rfl
@[simp] theorem State.setFindings_dp (s : State) (l : List Finding) : (s.setFindings l).dp = s.dp := rfl
@[simp] theorem State.setFindings_fx (s : State) (l : List Finding) : (s.setFindings l).fx = s.fx := rfl
@[simp] theorem State.setFindings_pp (s : State) (l : List Finding) : (s.setFindings l).pp = s.pp := rfl
@[simp] theorem State.setFindings_ins (s : State) (l : List Finding) : (s.setFindings l).ins = s.ins := rfl
@[simp] theorem State.setFindings_lb (s : State) (l : List Finding) : (s.setFindings l).lb = s.lb := rfl
@[simp] theorem State.setFindings_ro (s : State) (l : List Finding) : (s.setFindings l).ro = s.ro := rfl
@[simp] theorem State.setFindings_sp (s : State) (l : List Finding) : (s.setFindings l).sp = s.sp := rfl
@[simp] theorem State.setFindings_pins (s : State) (l : List Finding) : (s.setFindings l).pins = s.pins := rfl
@[simp] theorem State.setFindings_wire (s : State) (l : List Finding) : (s.setFindings l).wire = s.wire := rfl
@[simp] theorem State.setFindings_token (s : State) (l : List Finding) : (s.setFindings l).token = s.token := rfl
@[simp] theorem State.setFindings_arrivals (s : State) (l : List Finding) :
    (s.setFindings l).arrivals = s.arrivals := rfl
@[simp] theorem State.setFindings_pending (s : State) (l : List Finding) : (s.setFindings l).pending = s.pending := rfl
@[simp] theorem State.setFindings_bay (s : State) (l : List Finding) (y : Bay) :
    (s.setFindings l).bay y = s.bay y := rfl
@[simp] theorem State.setFindings_clip? (s : State) (l : List Finding) (y : Nat) :
    (s.setFindings l).clip? y = s.clip? y := rfl
@[simp] theorem State.setFindings_clipOf (s : State) (l : List Finding) (y : Serial) (z : Nat) :
    (s.setFindings l).clipOf y z = s.clipOf y z := rfl
@[simp] theorem State.setFindings_clipsOf (s : State) (l : List Finding) (y : Serial) :
    (s.setFindings l).clipsOf y = s.clipsOf y := rfl
@[simp] theorem State.setFindings_chan (s : State) (l : List Finding) (y : Chan) :
    (s.setFindings l).chan y = s.chan y := rfl
@[simp] theorem State.setFindings_port (s : State) (l : List Finding) (y : Port) :
    (s.setFindings l).port y = s.port y := rfl
@[simp] theorem State.setFindings_liveCtx (s : State) (l : List Finding) (y : Chan) :
    (s.setFindings l).liveCtx y = s.liveCtx y := rfl
@[simp] theorem State.setFindings_playCtx (s : State) (l : List Finding) (y : Outp) :
    (s.setFindings l).playCtx y = s.playCtx y := rfl
@[simp] theorem State.setFindings_look (s : State) (l : List Finding) (y : LookIx) :
    (s.setFindings l).look y = s.look y := rfl
@[simp] theorem State.setFindings_out (s : State) (l : List Finding) (y : Outp) :
    (s.setFindings l).out y = s.out y := rfl
@[simp] theorem State.setFindings_clock (s : State) (l : List Finding) (y : Grp) :
    (s.setFindings l).clock y = s.clock y := rfl
@[simp] theorem State.setFindings_station (s : State) (l : List Finding) (y : Stn) :
    (s.setFindings l).station y = s.station y := rfl

@[simp] theorem State.setLook_ci (s : State) (i : LookIx) (x : LookSlot) : (s.setLook i x).ci = s.ci := rfl
@[simp] theorem State.setLook_cat (s : State) (i : LookIx) (x : LookSlot) : (s.setLook i x).cat = s.cat := rfl
@[simp] theorem State.setLook_ods (s : State) (i : LookIx) (x : LookSlot) : (s.setLook i x).ods = s.ods := rfl
@[simp] theorem State.setLook_cc (s : State) (i : LookIx) (x : LookSlot) : (s.setLook i x).cc = s.cc := rfl
@[simp] theorem State.setLook_sts (s : State) (i : LookIx) (x : LookSlot) : (s.setLook i x).sts = s.sts := rfl
@[simp] theorem State.setLook_dp (s : State) (i : LookIx) (x : LookSlot) : (s.setLook i x).dp = s.dp := rfl
@[simp] theorem State.setLook_fx (s : State) (i : LookIx) (x : LookSlot) : (s.setLook i x).fx = s.fx := rfl
@[simp] theorem State.setLook_pp (s : State) (i : LookIx) (x : LookSlot) : (s.setLook i x).pp = s.pp := rfl
@[simp] theorem State.setLook_ins (s : State) (i : LookIx) (x : LookSlot) : (s.setLook i x).ins = s.ins := rfl
@[simp] theorem State.setLook_fl (s : State) (i : LookIx) (x : LookSlot) : (s.setLook i x).fl = s.fl := rfl
@[simp] theorem State.setLook_ro (s : State) (i : LookIx) (x : LookSlot) : (s.setLook i x).ro = s.ro := rfl
@[simp] theorem State.setLook_sp (s : State) (i : LookIx) (x : LookSlot) : (s.setLook i x).sp = s.sp := rfl
@[simp] theorem State.setLook_pins (s : State) (i : LookIx) (x : LookSlot) : (s.setLook i x).pins = s.pins := rfl
@[simp] theorem State.setLook_wire (s : State) (i : LookIx) (x : LookSlot) : (s.setLook i x).wire = s.wire := rfl
@[simp] theorem State.setLook_token (s : State) (i : LookIx) (x : LookSlot) : (s.setLook i x).token = s.token := rfl
@[simp] theorem State.setLook_arrivals (s : State) (i : LookIx) (x : LookSlot) :
    (s.setLook i x).arrivals = s.arrivals := rfl
@[simp] theorem State.setLook_pending (s : State) (i : LookIx) (x : LookSlot) :
    (s.setLook i x).pending = s.pending := rfl
@[simp] theorem State.setLook_bay (s : State) (i : LookIx) (x : LookSlot) (y : Bay) :
    (s.setLook i x).bay y = s.bay y := rfl
@[simp] theorem State.setLook_clip? (s : State) (i : LookIx) (x : LookSlot) (y : Nat) :
    (s.setLook i x).clip? y = s.clip? y := rfl
@[simp] theorem State.setLook_clipOf (s : State) (i : LookIx) (x : LookSlot) (y : Serial) (z : Nat) :
    (s.setLook i x).clipOf y z = s.clipOf y z := rfl
@[simp] theorem State.setLook_clipsOf (s : State) (i : LookIx) (x : LookSlot) (y : Serial) :
    (s.setLook i x).clipsOf y = s.clipsOf y := rfl
@[simp] theorem State.setLook_chan (s : State) (i : LookIx) (x : LookSlot) (y : Chan) :
    (s.setLook i x).chan y = s.chan y := rfl
@[simp] theorem State.setLook_port (s : State) (i : LookIx) (x : LookSlot) (y : Port) :
    (s.setLook i x).port y = s.port y := rfl
@[simp] theorem State.setLook_liveCtx (s : State) (i : LookIx) (x : LookSlot) (y : Chan) :
    (s.setLook i x).liveCtx y = s.liveCtx y := rfl
@[simp] theorem State.setLook_playCtx (s : State) (i : LookIx) (x : LookSlot) (y : Outp) :
    (s.setLook i x).playCtx y = s.playCtx y := rfl
@[simp] theorem State.setLook_out (s : State) (i : LookIx) (x : LookSlot) (y : Outp) :
    (s.setLook i x).out y = s.out y := rfl
@[simp] theorem State.setLook_clock (s : State) (i : LookIx) (x : LookSlot) (y : Grp) :
    (s.setLook i x).clock y = s.clock y := rfl
@[simp] theorem State.setLook_station (s : State) (i : LookIx) (x : LookSlot) (y : Stn) :
    (s.setLook i x).station y = s.station y := rfl

@[simp] theorem State.setOut_ci (s : State) (k : Outp) (o : Output) : (s.setOut k o).ci = s.ci := rfl
@[simp] theorem State.setOut_cat (s : State) (k : Outp) (o : Output) : (s.setOut k o).cat = s.cat := rfl
@[simp] theorem State.setOut_ods (s : State) (k : Outp) (o : Output) : (s.setOut k o).ods = s.ods := rfl
@[simp] theorem State.setOut_cc (s : State) (k : Outp) (o : Output) : (s.setOut k o).cc = s.cc := rfl
@[simp] theorem State.setOut_sts (s : State) (k : Outp) (o : Output) : (s.setOut k o).sts = s.sts := rfl
@[simp] theorem State.setOut_dp (s : State) (k : Outp) (o : Output) : (s.setOut k o).dp = s.dp := rfl
@[simp] theorem State.setOut_fx (s : State) (k : Outp) (o : Output) : (s.setOut k o).fx = s.fx := rfl
@[simp] theorem State.setOut_pp (s : State) (k : Outp) (o : Output) : (s.setOut k o).pp = s.pp := rfl
@[simp] theorem State.setOut_ins (s : State) (k : Outp) (o : Output) : (s.setOut k o).ins = s.ins := rfl
@[simp] theorem State.setOut_fl (s : State) (k : Outp) (o : Output) : (s.setOut k o).fl = s.fl := rfl
@[simp] theorem State.setOut_lb (s : State) (k : Outp) (o : Output) : (s.setOut k o).lb = s.lb := rfl
@[simp] theorem State.setOut_sp (s : State) (k : Outp) (o : Output) : (s.setOut k o).sp = s.sp := rfl
@[simp] theorem State.setOut_pins (s : State) (k : Outp) (o : Output) : (s.setOut k o).pins = s.pins := rfl
@[simp] theorem State.setOut_wire (s : State) (k : Outp) (o : Output) : (s.setOut k o).wire = s.wire := rfl
@[simp] theorem State.setOut_token (s : State) (k : Outp) (o : Output) : (s.setOut k o).token = s.token := rfl
@[simp] theorem State.setOut_arrivals (s : State) (k : Outp) (o : Output) : (s.setOut k o).arrivals = s.arrivals := rfl
@[simp] theorem State.setOut_pending (s : State) (k : Outp) (o : Output) : (s.setOut k o).pending = s.pending := rfl
@[simp] theorem State.setOut_bay (s : State) (k : Outp) (o : Output) (y : Bay) : (s.setOut k o).bay y = s.bay y := rfl
@[simp] theorem State.setOut_clip? (s : State) (k : Outp) (o : Output) (y : Nat) :
    (s.setOut k o).clip? y = s.clip? y := rfl
@[simp] theorem State.setOut_clipOf (s : State) (k : Outp) (o : Output) (y : Serial) (z : Nat) :
    (s.setOut k o).clipOf y z = s.clipOf y z := rfl
@[simp] theorem State.setOut_clipsOf (s : State) (k : Outp) (o : Output) (y : Serial) :
    (s.setOut k o).clipsOf y = s.clipsOf y := rfl
@[simp] theorem State.setOut_chan (s : State) (k : Outp) (o : Output) (y : Chan) :
    (s.setOut k o).chan y = s.chan y := rfl
@[simp] theorem State.setOut_port (s : State) (k : Outp) (o : Output) (y : Port) :
    (s.setOut k o).port y = s.port y := rfl
@[simp] theorem State.setOut_liveCtx (s : State) (k : Outp) (o : Output) (y : Chan) :
    (s.setOut k o).liveCtx y = s.liveCtx y := rfl
@[simp] theorem State.setOut_playCtx (s : State) (k : Outp) (o : Output) (y : Outp) :
    (s.setOut k o).playCtx y = s.playCtx y := rfl
@[simp] theorem State.setOut_look (s : State) (k : Outp) (o : Output) (y : LookIx) :
    (s.setOut k o).look y = s.look y := rfl
@[simp] theorem State.setOut_station (s : State) (k : Outp) (o : Output) (y : Stn) :
    (s.setOut k o).station y = s.station y := rfl

@[simp] theorem State.setClock_ci (s : State) (g : Grp) (c : Clock) : (s.setClock g c).ci = s.ci := rfl
@[simp] theorem State.setClock_cat (s : State) (g : Grp) (c : Clock) : (s.setClock g c).cat = s.cat := rfl
@[simp] theorem State.setClock_ods (s : State) (g : Grp) (c : Clock) : (s.setClock g c).ods = s.ods := rfl
@[simp] theorem State.setClock_cc (s : State) (g : Grp) (c : Clock) : (s.setClock g c).cc = s.cc := rfl
@[simp] theorem State.setClock_sts (s : State) (g : Grp) (c : Clock) : (s.setClock g c).sts = s.sts := rfl
@[simp] theorem State.setClock_dp (s : State) (g : Grp) (c : Clock) : (s.setClock g c).dp = s.dp := rfl
@[simp] theorem State.setClock_fx (s : State) (g : Grp) (c : Clock) : (s.setClock g c).fx = s.fx := rfl
@[simp] theorem State.setClock_pp (s : State) (g : Grp) (c : Clock) : (s.setClock g c).pp = s.pp := rfl
@[simp] theorem State.setClock_ins (s : State) (g : Grp) (c : Clock) : (s.setClock g c).ins = s.ins := rfl
@[simp] theorem State.setClock_fl (s : State) (g : Grp) (c : Clock) : (s.setClock g c).fl = s.fl := rfl
@[simp] theorem State.setClock_lb (s : State) (g : Grp) (c : Clock) : (s.setClock g c).lb = s.lb := rfl
@[simp] theorem State.setClock_sp (s : State) (g : Grp) (c : Clock) : (s.setClock g c).sp = s.sp := rfl
@[simp] theorem State.setClock_pins (s : State) (g : Grp) (c : Clock) : (s.setClock g c).pins = s.pins := rfl
@[simp] theorem State.setClock_wire (s : State) (g : Grp) (c : Clock) : (s.setClock g c).wire = s.wire := rfl
@[simp] theorem State.setClock_token (s : State) (g : Grp) (c : Clock) : (s.setClock g c).token = s.token := rfl
@[simp] theorem State.setClock_arrivals (s : State) (g : Grp) (c : Clock) :
    (s.setClock g c).arrivals = s.arrivals := rfl
@[simp] theorem State.setClock_pending (s : State) (g : Grp) (c : Clock) : (s.setClock g c).pending = s.pending := rfl
@[simp] theorem State.setClock_bay (s : State) (g : Grp) (c : Clock) (y : Bay) : (s.setClock g c).bay y = s.bay y := rfl
@[simp] theorem State.setClock_clip? (s : State) (g : Grp) (c : Clock) (y : Nat) :
    (s.setClock g c).clip? y = s.clip? y := rfl
@[simp] theorem State.setClock_clipOf (s : State) (g : Grp) (c : Clock) (y : Serial) (z : Nat) :
    (s.setClock g c).clipOf y z = s.clipOf y z := rfl
@[simp] theorem State.setClock_clipsOf (s : State) (g : Grp) (c : Clock) (y : Serial) :
    (s.setClock g c).clipsOf y = s.clipsOf y := rfl
@[simp] theorem State.setClock_chan (s : State) (g : Grp) (c : Clock) (y : Chan) :
    (s.setClock g c).chan y = s.chan y := rfl
@[simp] theorem State.setClock_port (s : State) (g : Grp) (c : Clock) (y : Port) :
    (s.setClock g c).port y = s.port y := rfl
@[simp] theorem State.setClock_liveCtx (s : State) (g : Grp) (c : Clock) (y : Chan) :
    (s.setClock g c).liveCtx y = s.liveCtx y := rfl
@[simp] theorem State.setClock_playCtx (s : State) (g : Grp) (c : Clock) (y : Outp) :
    (s.setClock g c).playCtx y = s.playCtx y := rfl
@[simp] theorem State.setClock_look (s : State) (g : Grp) (c : Clock) (y : LookIx) :
    (s.setClock g c).look y = s.look y := rfl
@[simp] theorem State.setClock_station (s : State) (g : Grp) (c : Clock) (y : Stn) :
    (s.setClock g c).station y = s.station y := rfl

@[simp] theorem State.setStation_ci (s : State) (st : Stn) (x : Station) : (s.setStation st x).ci = s.ci := rfl
@[simp] theorem State.setStation_cat (s : State) (st : Stn) (x : Station) : (s.setStation st x).cat = s.cat := rfl
@[simp] theorem State.setStation_ods (s : State) (st : Stn) (x : Station) : (s.setStation st x).ods = s.ods := rfl
@[simp] theorem State.setStation_cc (s : State) (st : Stn) (x : Station) : (s.setStation st x).cc = s.cc := rfl
@[simp] theorem State.setStation_sts (s : State) (st : Stn) (x : Station) : (s.setStation st x).sts = s.sts := rfl
@[simp] theorem State.setStation_dp (s : State) (st : Stn) (x : Station) : (s.setStation st x).dp = s.dp := rfl
@[simp] theorem State.setStation_fx (s : State) (st : Stn) (x : Station) : (s.setStation st x).fx = s.fx := rfl
@[simp] theorem State.setStation_pp (s : State) (st : Stn) (x : Station) : (s.setStation st x).pp = s.pp := rfl
@[simp] theorem State.setStation_ins (s : State) (st : Stn) (x : Station) : (s.setStation st x).ins = s.ins := rfl
@[simp] theorem State.setStation_fl (s : State) (st : Stn) (x : Station) : (s.setStation st x).fl = s.fl := rfl
@[simp] theorem State.setStation_lb (s : State) (st : Stn) (x : Station) : (s.setStation st x).lb = s.lb := rfl
@[simp] theorem State.setStation_ro (s : State) (st : Stn) (x : Station) : (s.setStation st x).ro = s.ro := rfl
@[simp] theorem State.setStation_pins (s : State) (st : Stn) (x : Station) : (s.setStation st x).pins = s.pins := rfl
@[simp] theorem State.setStation_wire (s : State) (st : Stn) (x : Station) : (s.setStation st x).wire = s.wire := rfl
@[simp] theorem State.setStation_token (s : State) (st : Stn) (x : Station) : (s.setStation st x).token = s.token := rfl
@[simp] theorem State.setStation_arrivals (s : State) (st : Stn) (x : Station) :
    (s.setStation st x).arrivals = s.arrivals := rfl
@[simp] theorem State.setStation_pending (s : State) (st : Stn) (x : Station) :
    (s.setStation st x).pending = s.pending := rfl
@[simp] theorem State.setStation_bay (s : State) (st : Stn) (x : Station) (y : Bay) :
    (s.setStation st x).bay y = s.bay y := rfl
@[simp] theorem State.setStation_clip? (s : State) (st : Stn) (x : Station) (y : Nat) :
    (s.setStation st x).clip? y = s.clip? y := rfl
@[simp] theorem State.setStation_clipOf (s : State) (st : Stn) (x : Station) (y : Serial) (z : Nat) :
    (s.setStation st x).clipOf y z = s.clipOf y z := rfl
@[simp] theorem State.setStation_clipsOf (s : State) (st : Stn) (x : Station) (y : Serial) :
    (s.setStation st x).clipsOf y = s.clipsOf y := rfl
@[simp] theorem State.setStation_chan (s : State) (st : Stn) (x : Station) (y : Chan) :
    (s.setStation st x).chan y = s.chan y := rfl
@[simp] theorem State.setStation_port (s : State) (st : Stn) (x : Station) (y : Port) :
    (s.setStation st x).port y = s.port y := rfl
@[simp] theorem State.setStation_liveCtx (s : State) (st : Stn) (x : Station) (y : Chan) :
    (s.setStation st x).liveCtx y = s.liveCtx y := rfl
@[simp] theorem State.setStation_playCtx (s : State) (st : Stn) (x : Station) (y : Outp) :
    (s.setStation st x).playCtx y = s.playCtx y := rfl
@[simp] theorem State.setStation_look (s : State) (st : Stn) (x : Station) (y : LookIx) :
    (s.setStation st x).look y = s.look y := rfl
@[simp] theorem State.setStation_out (s : State) (st : Stn) (x : Station) (y : Outp) :
    (s.setStation st x).out y = s.out y := rfl
@[simp] theorem State.setStation_clock (s : State) (st : Stn) (x : Station) (y : Grp) :
    (s.setStation st x).clock y = s.clock y := rfl

end Sys2Proof.Machine
end

