-- ==== Sys2Proof/Tests/Fixtures.lean ====
section
/-! SUPPORT. Small states and records the tests are built from: each is the state after reset with one record replaced. -/

namespace Sys2Proof.Tests

open Sys2Proof Sys2Proof.Machine

theorem allSome {α : Type} {o : Option α} {P : α → Prop} [DecidablePred P] (h : (o.all fun a => decide (P a)) = true) :
    ∀ a, o = some a → P a := by
  intro a e; subst e; simpa using h

theorem exSome {α : Type} {o : Option α} {P : α → Prop} [DecidablePred P] (h : (o.any fun a => decide (P a)) = true) :
    ∃ a, o = some a ∧ P a := by
  cases o with
  | none => simp at h
  | some a => exact ⟨a, rfl, by simpa using h⟩

def withBay (e : BayEntry) : State := { State.reset with ci := { bays := upd State.reset.ci.bays 0 fun _ => e } }
def withBays (e f : BayEntry) : State := { State.reset with ci := { bays := upd (upd State.reset.ci.bays 0 fun _ => e) 1 fun _ => f } }
def withClips (l : List Clip) : State := { State.reset with cat := { clips := l } }
def withOrders (m : PartMode) (l : List Order) : State :=
  { State.reset with ods := { State.reset.ods with orders := l, mode := m } }
def withChan (c : Channel) : State := { State.reset with cc := { State.reset.cc with ctx := upd State.reset.cc.ctx 0 fun _ => c } }
def withBufs (l : List Buffer) (s : State) : State := { s with sts := { s.sts with bufs := l } }
def withPort (c : PortCtx) : State := { State.reset with dp := { ctx := upd State.reset.dp.ctx 0 fun _ => c } }

def desc0 : Desc := { letter := 0, reel := 1, start := ⟨0, 0, 0, 0⟩, rate := 1, drop := false, frames := 10, dataLen := 5000 }
def clip0 : Clip :=
  { id := 0, serial := 7, clipNo := 1, desc := desc0, extents := 1, required := 2, state := .listed, sums := none
    copies := [], look := 0, stamp := none, inspected := 0, skipped := 0, insp := .none, blocking := 0, overflow := false
    order := none, held := none }
def copy0 : Copy :=
  { port := 0, vol := 9, hb := 1, state := .reserved, cause := none, written := 0, passes := 0, mismatch := none
    recorded := none }
def order0 : Order := { id := 5, clip := 0, dests := [0], priority := 1, station := 0, state := .pending }
def elem0 : Elem := { port := 0, disp := .write, vol := some 9, hb := some 1, phase := .header }
def bay0 : BayEntry := { state := .present, serial := some 7 }
def sixCopies : List Copy := (List.range 6).map fun v => { copy0 with vol := BitVec.ofNat 64 v, state := .verified }

/-- Bytes followed by the check value over them. -/
def checked (bs : List Byte) : List Byte := bs ++ leBytes 4 (extentSum bs).toNat
def cardHdr : List Byte :=
  checked ([0x42, 0x58, 0x43, 0x44] ++ leBytes 8 7 ++ leBytes 1 65 ++ leBytes 2 1 ++ leBytes 2 0 ++ leBytes 8 0 ++ leBytes 4 1)
def cardHdrRead : CardHdr := { serial := 7, letter := 0, body := 1, dirCount := 0, dirFirst := 0, dirSum := 1 }
def dirBytes : List Byte :=
  leBytes 2 1 ++ leBytes 2 1 ++ leBytes 8 0 ++ leBytes 4 1 ++ leBytes 8 10 ++ leBytes 3 10 ++ leBytes 1 1 ++ List.replicate 36 0
def dirEntry0 : DirEntry :=
  { clipNo := 1, reel := 1, first := 0, count := 1, len := 10, frames := 10, rate := 1, drop := false, start := ⟨0, 0, 0, 0⟩ }

def burst0 : Burst := { ch := 0, clipNo := 1, ext := 0, burst := 0, first := 0, len := 2, running := true, tok := 3 }
def withPosts (l : List CardPost) (o : List Order) : State :=
  { State.reset with ods := { State.reset.ods with posts := l, orders := o } }
def withPass (p : Pass) : State := { State.reset with ods := { State.reset.ods with pass := some p } }
def withLeaving (l : List Leaving) (o : List Order) : State :=
  { State.reset with ods := { State.reset.ods with leaving := l, orders := o } }
def post0 : CardPost := { q := ⟨0, 0⟩, dests := [0], prio := 1, clamped := false }
def run0 : Order := { order0 with state := .active, chan := some 0 }
def info0 : ReadInfo := { serial := 7, clipNo := 1, extents := 1, desc := desc0, mode := .record }
def fill0 : Filling := { ext := 0, pass := .read, tag := 3, num := some 0 }
def buf0 : Buffer := { num := 0, owner := 0, clip := 0, ext := 0, pass := .read, len := 5000 }
def waiter0 : Waiter := { ch := 0, tag := 3, clip := 0, ext := 0, pass := .read, len := 5000 }
def staging0 : Staging := { bufs := [buf0], waits := [waiter0], last := 2 }
def chan0 : Channel := { phase := .reading, order := some 5, clip := some 0, dataLen := 5000, extents := 1, dests := [elem0] }
def op0 (k : OpKind) : DriveOp := { kind := k, tok := 3, attempt := 1 }
def port0 : PortCtx := { state := .ready, capacity := some 100, vol := some 9, recEnd := some 1, alloc := some 1 }
def test0 : HolderTest := { q := ⟨0, 0⟩, what := .format 7, awaiting := [0], failed := false }
def entry0 : IndexEntry := { hb := 1, serial := 7, clipNo := 1, len := 5000, sums := none }
def soak0 : Soak := { len := 1, limit := 0 }
def withSlots (l : List Slot) (s : State) : State := { s with pp := { s.pp with slots := l } }
def withLive (x : LiveCtx) : State := { State.reset with fx := { State.reset.fx with live := upd State.reset.fx.live 0 fun _ => x } }
def withPlay (x : PlayCtx) : State := { State.reset with fx := { State.reset.fx with play := upd State.reset.fx.play 0 fun _ => x } }
def withRe (x : ReCtx) : State := { State.reset with fx := { State.reset.fx with re := x } }
def withCont (c : Continuity) : State := { State.reset with ins := { State.reset.ins with conts := upd State.reset.ins.conts 0 fun _ => c } }
def withEngine (a : Analysis) : State := { State.reset with ins := { State.reset.ins with engine := some a } }
def withReader (r : Reader) : State := { State.reset with ins := { State.reset.ins with reader := r } }
def withFindings (l : List Finding) : State := { State.reset with fl := { State.reset.fl with list := l } }
def withQueue (l : List FaultItem) : State := { State.reset with fl := { State.reset.fl with queue := l, asks := [3] } }
def withLook (x : LookSlot) : State := { State.reset with lb := { State.reset.lb with slots := upd State.reset.lb.slots 0 fun _ => x } }
def withFill (f : Fill) : State := { State.reset with lb := { State.reset.lb with fill := some f } }

def tc0 : Timecode := ⟨0, 0, 0, 0⟩
/-- A chunk header of 64 bytes for a chunk with that many plane bytes. -/
def chunkHdr (preview : Nat) : List Byte :=
  let listed := [0x42, 0x58, 0x46, 0x43] ++ leBytes 4 (64 + preview) ++ leBytes 3 0 ++ leBytes 4 0 ++ leBytes 4 preview
  listed ++ List.replicate 41 0 ++ leBytes 4 (extentSum listed).toNat
def frame0 : FrameHdr := { clip := 0, index := 0, tc := tc0, ordinal := 1 }
def slot0 : Slot := { num := 0, src := .live 0 3, hdr := frame0, plane := [], holders := [.inspect] }
def src0 : Source := { port := 0, vol := 9, hb := 1, span := 2 }
def parse0 : Parse := { state := .parsing, clip := some 0, dataLen := 5000, frames := 10 }
def analysis0 : Analysis := { tok := 3, slot := 0, src := .reinspect, hdr := frame0, plane := [], limits := {} }
def cand0 : Candidate := { src := src0 }
def occ0 : Occurrence := { clip := 0, kind := .readError, count := 1, span := none, qual := none }
def finding0 : Finding :=
  { id := 5, clip := 0, serial := 7, letter := 0, kind := .readError, cls := .blocking, qual := none, span := none, count := 1 }
def look0 : LookSlot :=
  { active := identityLook, pending := none, pendingName := none, holder := none, version := 0, name := [] }
def heldLook : LookSlot := { look0 with holder := some 0, pending := some identityLook, pendingName := some [] }
def items0 : LookItems := { matrix := .notCarried, trim := .notCarried, curves := .notCarried, enc := .notCarried, name := none }
def bankFill0 : Fill := { first := 0, last := 1, st := 0, next := 0, look := identityLook, preset := .identity, tok := 3 }
theorem noSome {α : Type} {o : Option α} {P : α → Prop} (h : o = none) : ∀ a, o = some a → P a := by
  intro a e; rw [h] at e; cases e

/-- The state a command leads to. -/
def after (i : Instr) (s : State) : State :=
  match exec i s with
  | .next t => t
  | _ => s

theorem after_eq {i : Instr} {s : State} (h : (match exec i s with | .next _ => true | _ => false) = true) :
    exec i s = .next (after i s) := by
  unfold after; split at h <;> simp_all

def withOuts (o₀ o₁ : Output) (c : Clock) : State :=
  { State.reset with ro := { outs := #v[o₀, o₁, {}, {}], clocks := #v[c, {}] } }
def withOut (o : Output) : State := withOuts o {} {}
def withStation (x : Station) : State := { State.reset with sp := { State.reset.sp with stations := upd State.reset.sp.stations 0 fun _ => x } }

def out0 : Output := { enabled := true, rate := 1 }
def play0 : PlayClip := { clip := 0, frames := 10, start := tc0, rate := 1, letter := 0 }
def playing0 : Output := { out0 with route := .playback, play := .playing, clip := some play0, src := some src0 }
def grouped0 : Output := { playing0 with group := some 0 }
def clock0 : Clock := { rate := some 1, running := true }
def current0 : Current := { slot := 0, hdr := frame0, src := .playback 0, seq := 0, frame := 0 }
def live0 : Current := { current0 with src := .live 0 3 }
def bnd0 : Boundary := { tok := 3, grp := none, event := 3, sel := .miss, stage := .pool 0 }
def locate0 : Locate := { q := ⟨0, 0⟩, clip := 0, start := 0, cands := [{ cand0 with answer := some true }] }
def located0 : Output := { out0 with route := .playback, locate := some locate0 }
def goodClip : Clip := { clip0 with copies := [{ copy0 with state := .verified }] }
def lost0 : Output → Bool := fun o => o.src.any fun x => x.vol = 9
def up0 : Station := { link := .up }
def message0 : Message := { tag := 0, code := 1, oplen := 1, bytes := [0] }
def response0 : Response := { tag := 0, rid := 0, admitted := true, answer := some (.accepted false []), reset := true }
def resetting : State := withStation { up0 with responses := [response0], unanswered := 1 }
def notice0 : Notice := { sub := .cardInserted }
def filter0 : FilterItems := { enabled := true, kinds := [], letter := none, bay := none, minClass := 1 }
/-- An order that may be dispatched: mode RUN, its card in bay 0, its port READY with room. -/
def ready0 : State :=
  let d := State.reset.ods
  { State.reset with ods := { d with
    mode := .run, orders := [order0], bays := upd d.bays 0 fun _ => { state := .present, serial := some 0, reading := false }
    dests := upd d.dests 0 fun _ => { state := .ready, vol := some 9, qual := .untested, indexFull := false, free := 100 } } }
/-- What a pass has read of that order's clip. -/
def reads0 : List (Nat × Option Clip) := [(5, some { clip0 with required := 1 })]
/-- The luma values of a frame with one hot site, at (1, 1). -/
def hotFrame : List Nat := List.replicate 961 0 ++ [4000]
def site0 : Site := { letter := 0, x := 1, y := 1, hits := 2, reported := false, clip := 0 }
def queued (i : Instr) : State := { State.reset with pending := [i] }

/-- The step that runs a queue of one command. -/
theorem step_front (i : Instr) (s : State) (hp : s.pending = [])
    (h : (match exec i s with | .next _ => true | _ => false) = true) :
    step { s with pending := [i] } = .next (after i s) := by
  rw [← after_eq h]; cases s; cases hp; rfl

theorem cardTable_queued (i : Instr) : cardTableOk (queued i) := by
  have h : ∀ b, (queued i).bay b = {} := fun b => by simp [queued, State.bay, State.reset, CardInterface.reset]
  refine ⟨fun b => ?_, fun a b serial ha => ?_⟩
  · rw [h]; simp [bayRights]
  · rw [h] at ha; simp [liveBay] at ha

theorem identity_ok {e : Encoding} : lookOk { identityLook with enc := e } := by
  refine ⟨?_, ?_, ?_⟩ <;> intro m h <;> cases h

theorem lookBank_queued (i : Instr) : lookBankOk (queued i) := by
  have h : ∀ j, (queued i).look j = look0 := fun j => by
    simp [queued, State.look, State.reset, LookBank.reset, look0]
  refine ⟨fun j => ?_, fun j hj => ?_, ?_, ?_⟩
  · rw [h]
    refine ⟨identity_ok, (fun (l : LookRec) (hl : none = some l) => by cases hl), by decide, fun _ => rfl,
      fun hh => absurd rfl hh, fun n hn => ?_⟩
    rcases hn with rfl | hn
    · exact ⟨by decide, fun c hc => by cases hc⟩
    · cases hn
  · rw [h] at hj; exact absurd rfl hj
  · intro f k hf; cases hf
  · intro f hf; cases hf

theorem queue_queued (i : Instr) : queueOk (queued i) := by
  refine ⟨(by decide : 0 ≤ 64), List.nodup_nil, ?_, ?_, fun ch id => ⟨fun hh => ?_, fun hh => ?_⟩⟩
  · intro o ho; cases ho
  · intro x hx; cases hx
  · have : (queued i).ods.chans[ch] = none := by simp [queued, State.reset, Dispatcher.reset]
    rw [this] at hh; cases hh
  · obtain ⟨_, ho, _⟩ := hh; cases ho

theorem channels_queued (i : Instr) : channelsOk (queued i) := by
  refine ⟨fun ch => ?_, fun w hw => by cases hw⟩
  have h : (queued i).chan ch = {} := by simp [queued, State.chan, State.reset, Channels.reset]
  rw [h]; simp [channelOk]

theorem ports_queued (i : Instr) : portsOk (queued i) := by
  intro p
  have h : (queued i).port p = {} := by simp [queued, State.port, State.reset, Ports.reset]
  rw [h]; simp [portOk]

theorem outputs_queued (i : Instr) : outputsOk (queued i) := by
  intro k
  have h : (queued i).out k = {} := by simp [queued, State.out, State.reset, Renderer.reset]
  rw [h]; simp [outputOk]

theorem stations_queued (i : Instr) : stationsOk (queued i) := by
  have h : ∀ st, (queued i).station st = {} := fun st => by
    simp [queued, State.station, State.reset, StationPorts.reset]
  refine ⟨fun st => ?_, (by decide : State.reset.sp.seq < 4294967296)⟩
  rw [h]; simp [stationOk]

end Sys2Proof.Tests
end

