-- ==== Sys2Proof/WellFormed.lean ====
section
/-! DEFINITION. Well-formed commands: every operand lies in the range of the field that carries it (0.4, R216). The
machine itself takes any command: a request whose operand is out of its set is refused by the rule of its block. -/

namespace Sys2Proof

/-- A number of one byte (R216). -/
def byte (n : Nat) : Bool := n < 256
/-- A number of two bytes (R216). -/
def word16 (n : Nat) : Bool := n < 65536
/-- A number of four bytes (R216). -/
def word32 (n : Nat) : Bool := n < 4294967296
/-- A clip id (R23). -/
def clipId (n : Nat) : Bool := n < Config.clipRecords
/-- An extent of a supported clip (0.4). -/
def extentNo (n : Nat) : Bool := n < 8192
/-- A burst of an extent (1.5). -/
def burstNo (n : Nat) : Bool := n < 32
/-- A clip number of a card (12.2). -/
def clipNumber (n : Nat) : Bool := 1 ≤ n && n ≤ 999
/-- A staging buffer (R71). -/
def bufferNo (n : Nat) : Bool := n < Config.buffers
/-- A preview slot (R129). -/
def slotNo (n : Nat) : Bool := n < Config.previewSlots
/-- The data length of a supported clip (0.4). -/
def supportedLen (n : Nat) : Bool := 1 ≤ n && n ≤ Config.maxClipBytes
/-- A frame count: 24 bits (12.2). -/
def frameTotal (n : Nat) : Bool := n < 16777216
/-- A header block: block 0 holds the volume label (12.4). -/
def headerBlock (n : Nat) : Bool := 1 ≤ n
/-- The bytes of one block (0.4). -/
def oneBlock (bs : List Byte) : Bool := bs.length = Config.blockBytes
/-- A timecode of four bytes (R215). -/
def tcOk (t : Timecode) : Bool := byte t.h && byte t.m && byte t.s && byte t.f
/-- A description as a directory entry carries it (12.2). -/
def descOk (d : Desc) : Bool := word16 d.reel && tcOk d.start && byte d.rate && frameTotal d.frames
/-- A frame header (R124). -/
def frameHdrOk (h : FrameHdr) : Bool := clipId h.clip && frameTotal h.index && tcOk h.tc
/-- What PAUSE and STOP name (R198). -/
def targetOk (t : PlayTarget) : Bool :=
  match t with
  | .output n | .group n => byte n
/-- A preset (R179). -/
def presetOk (p : Preset) : Bool :=
  match p with
  | .identity => true
  | .copy n => byte n
/-- An occurrence has a count of 1 or more (R159). -/
def occOk (o : Occurrence) : Bool :=
  clipId o.clip && 1 ≤ o.count && o.span.all fun x => x.1 ≤ x.2 && x.2 ≤ 16777215
/-- A source copy: a header block and a span of 1 or more blocks (R91). -/
def sourceOk (x : Source) : Bool := headerBlock x.hb && 1 ≤ x.span

/-- Every operand of a command lies in its range. -/
def Instr.wellFormed (i : Instr) : Bool :=
  match i with
  | .headerReadComplete _ _ bytes => oneBlock bytes
  | .directoryReadComplete _ _ bytes => oneBlock bytes
  | .burstRequest _ _ clipNo ext burst _ => clipNumber clipNo && extentNo ext && burstNo burst
  | .releaseCard _ bay => byte bay
  | .forceRelease _ bay => byte bay
  | .queryBay _ bay => byte bay
  | .listingRequest _ _ _ clipNo _ desc => clipNumber clipNo && descOk desc
  | .orderRemovalAnswer clip _ _ desc _ => clipId clip && descOk desc
  | .foundCopySearch _ _ clipNo dataLen => clipNumber clipNo && supportedLen dataLen
  | .foundOffer _ _ hb _ clipNo dataLen _ => headerBlock hb && clipNumber clipNo && supportedLen dataLen
  | .copyCreationRequest _ clip order _ _ hb => clipId clip && word16 order && headerBlock hb
  | .headerWrittenReport clip _ => clipId clip
  | .extentWrittenReport clip _ => clipId clip
  | .verifyBegunReport clip _ => clipId clip
  | .mismatchReport clip _ ext => clipId clip && extentNo ext
  | .verifyEndedReport clip _ => clipId clip
  | .rewriteDoneReport clip _ => clipId clip
  | .copyEndReport clip _ _ _ => clipId clip
  | .startReadRequest _ clip order => clipId clip && word16 order
  | .storedSumsRequest _ clip order => clipId clip && word16 order
  | .sumReport _ clip order ext _ _ => clipId clip && word16 order && extentNo ext
  | .bindRequest clip order _ => clipId clip && word16 order
  | .unbindRequest clip order => clipId clip && word16 order
  | .blockingCountReport clip _ => clipId clip
  | .overflowHoldSet clip => clipId clip
  | .overflowHoldClear clip => clipId clip
  | .inspectionCountReport clip _ => clipId clip
  | .setCopies _ _ count => byte count
  | .setCopiesForwarded _ _ count _ _ => byte count
  | .assignLook _ clip slot => word16 clip && byte slot
  | .stampLook _ clip => word16 clip
  | .stampVersionAnswer _ clip _ _ _ version => clipId clip && word16 version
  | .purgeReaderQuery _ _ clips => clips.all clipId
  | .queryClip _ clip => word16 clip
  | .findClip _ _ clipNo => word16 clipNo
  | .clipLookup _ clip => clipId clip
  | .postOrder _ clip dests priority => word16 clip && dests.all byte && byte priority
  | .bindAnswer order _ => word16 order
  | .postCardOrder _ _ dests priority => dests.all byte && byte priority
  | .candidatesAnswer _ clips => clips.all clipId
  | .catalogDispatchReport clip => clipId clip
  | .readDoneReport _ order => word16 order
  | .repairBegunReport _ order => word16 order
  | .repairDoneReport _ order => word16 order
  | .orderEndReport _ order _ => word16 order
  | .unbindAnswer order clip _ => word16 order && clipId clip
  | .abortOrder _ order => word16 order
  | .catalogRemovalRequest clip order _ _ desc => clipId clip && word16 order && descOk desc
  | .setMode _ mode => byte mode
  | .queryOrder _ order => word16 order
  | .startMessage _ order clip _ _ => word16 order && clipId clip
  | .clipLengthAnswer _ order _ => word16 order
  | .reservationAnswer _ order _ _ => word16 order
  | .creationAnswer _ order _ _ => word16 order
  | .headerWriteAnswer _ order _ _ => word16 order
  | .startReadAnswer _ order _ => word16 order
  | .storedSumsAnswer _ order _ => word16 order
  | .bufferRequest _ _ clip ext _ _ => clipId clip && extentNo ext
  | .bufferGrant _ _ num => bufferNo num
  | .sumAnswer _ order ext _ _ => word16 order && extentNo ext
  | .extentWriteAnswer _ order _ num _ => word16 order && bufferNo num
  | .verifyReadAnswer _ order _ ext _ => word16 order && extentNo ext
  | .headerRewriteAnswer _ order _ _ => word16 order
  | .channelAbort _ order => word16 order
  | .statusQuery _ _ order => word16 order
  | .watch _ _ order => word16 order
  | .queryChannel _ ch => byte ch
  | .labelReadDone _ _ bytes => oneBlock bytes
  | .formatVolume _ port _ => byte port
  | .reservationRequest _ _ order _ _ => word16 order
  | .statusQueryAnswer _ _ order _ => word16 order
  | .watchAnswer _ _ order => word16 order
  | .headerWrite _ _ order _ hb _ clipNo dataLen => word16 order && headerBlock hb && clipNumber clipNo && supportedLen dataLen
  | .headerRewrite _ _ order _ hb _ => word16 order && headerBlock hb
  | .extentWrite _ _ order _ num _ => word16 order && bufferNo num
  | .verifyRead _ _ order _ ext _ _ _ => word16 order && extentNo ext
  | .withdrawal _ _ order => word16 order
  | .detach _ port => byte port
  | .startSoak _ port len threshold => byte port && word16 len && word32 threshold
  | .stopSoak _ port => byte port
  | .queryPort _ port => byte port
  | .queryIndex _ port first => byte port && word16 first
  | .livePassBegin _ clip desc => clipId clip && descOk desc
  | .analysisDoneReport slot => slotNo slot
  | .slotDrop _ slot => slotNo slot
  | .playbackStart _ clip dataLen frames copy =>
    clipId clip && supportedLen dataLen && frameTotal frames && headerBlock copy.hb
  | .reinspectContextStart _ clip dataLen frames src => clipId clip && supportedLen dataLen && frameTotal frames && sourceOk src
  | .frameHeader _ _ hdr => frameHdrOk hdr
  | .passResult clip _ _ => clipId clip
  | .reinspect _ clip => word16 clip
  | .querySites _ first => byte first
  | .occurrence occ => occOk occ
  | .setKindClass _ kind cls => byte kind && byte cls
  | .clearOverflowHold _ clip => word16 clip
  | .clearHoldLookupAnswer _ _ clip _ => word16 clip
  | .ackFinding _ finding => word16 finding
  | .clearFinding _ finding _ => word16 finding
  | .verifiedCopyReport clip _ => clipId clip
  | .reinspectionRemoval clip => clipId clip
  | .purgeList _ clips => clips.all clipId
  | .queryFinding _ finding => word16 finding
  | .listFindings _ clip states minClass first => clip.all word16 && states.all byte && byte minClass && word16 first
  | .holdLook _ slot => byte slot
  | .writeLook _ slot _ => byte slot
  | .commitLook _ slot _ => byte slot
  | .cancelLook _ slot => byte slot
  | .bankFill _ first last preset => byte first && byte last && presetOk preset
  | .setCameraLook _ letter slot => byte letter && byte slot
  | .versionRequest _ clip _ _ _ => clipId clip
  | .queryLook _ slot => byte slot
  | .setRoute _ output _ => byte output
  | .play _ output clip start => byte output && clip.all word16 && start.all word32
  | .pause _ target => targetOk target
  | .stop _ target => targetOk target
  | .outputPurgeList clips => clips.all clipId
  | .playGroup _ group start _ => byte group && start.all tcOk
  | .queryOutput _ output => byte output
  | .setFilter _ number _ => byte number
  | .queryStation _ port => byte port
  | .dispatchLookupAnswer order _ => word16 order
  | .powerOnReset _ | .cardInserted _ _ | .identificationTimeout _ _ | .requiredCopiesQuery _ _ _
  | .requiredCopiesAnswer _ _ _ | .listingReadFailed _ _ | .listingAnswer _ _ _ | .claim _ _ _ | .handBack _ _
  | .burstGrantReport _ _ | .burstCompletion _ _ _ | .burstMediaError _ _ | .burstTimeout _ _ | .cardRemoved _
  | .releaseTest _ _ _ _ | .releaseTestAnswer _ _ _ _ | .bayViewReport _ _ | .cameraDefaultAnswer _ _
  | .lostVolumeReport _ _ | .candidatesRequest _ _ | .purgeCard _ _ | .purgeReaderAnswer _ _ _
  | .purgeBayQuery _ _ | .purgeBayAnswer _ _ _ | .listCard _ _ | .destViewReport _ _ | .abortAll _ | .listOrders _
  | .claimAnswer _ _ _ | .bufferWithdrawal _ | .burstAnswer _ _ | .channelLostVolume _ _ _ | .queryStore _
  | .driveAttach _ | .identificationReadDone _ _ _ | .walkReadDone _ _ _ | .driveError _ _ _
  | .driveAttemptExpiry _ _ _ | .formatWriteDone _ _ | .headerWriteDone _ _ | .headerRewriteDone _ _
  | .extentWriteDone _ _ | .verifyReadDone _ _ _ | .playbackRead _ _ _ _ _ _ | .playbackReadDone _ _ _
  | .reinspectionRead _ _ _ _ _ | .reinspectionReadDone _ _ _ | .readCancel _ _ | .attachmentQuestion _ _ _
  | .driveRemoved _ | .soakWriteDone _ _ | .soakReadDone _ _ _ | .liveInspectionStateAnswer _ _ _ | .liveBytes _ _
  | .livePassEndOfData _ | .livePassCutOff _ | .liveCountReport _ _ | .takeNewest _ _ _ | .dropAll _
  | .fetch _ _ _ | .playbackReadAnswer _ _ _ | .playbackCancel _ | .reinspectBytes _ _ | .reinspectPlaneResume _
  | .reinspectContextCancel _ | .reinspectReadLost _ | .queryPool _ | .continuityEnd _ _ _ | .analysisComplete _
  | .clearSites _ | .setThresholds _ _ | .reinspectAttachmentAnswer _ _ | .reinspectLookupAnswer _
  | .reinspectReadAnswer _ _ | .reinspectReadConsumed _ | .reinspectContextReport _ _ | .reinspectLostVolume _ _
  | .queryInspector _ | .occurrenceLookupAnswer _ _ | .verifiedReportLookupAnswer _ _ | .queryClasses _
  | .linkDownReport _ | .fillSlotWriteDone _ | .cancelFill _ | .defaultRequest _ _ | .latchRead _ | .queryBank _
  | .frameBoundary _ | .groupBoundary _ | .latchAnswer _ | .takeNewestAnswer _ _ _ | .playAttachmentAnswer _ _ _
  | .fetchAnswer _ _ _ _ | .outputLostVolume _ _ | .linkUp _ | .linkDown _ | .requestMessage _ _
  | .blockAnswer _ _ | .noticeTaken _ | .noticeSent _ | .resetPart _ | .cardIdentificationResponse _ _ _ _
  | .responseSent _ _ | .analysisLookupAnswer _ _ | .boundaryLookupAnswer _ _ _ | .playLookupAnswer _ _ => true

end Sys2Proof
end

