-- ==== Sys2Proof/Tests/Slice0.lean ====
section
/-! SUPPORT. Tests: the checks of WellFormed refuse an ill-formed operand, the worked cases of the spec come out as the spec
works them, and single steps on small states. Every expected value is the spec's own, or worked out by hand from its rule. -/

namespace Sys2Proof.Tests

set_option Elab.async false

open Sys2Proof Sys2Proof.Machine

/-! ## Each check of WellFormed refuses something -/

def q0 : Req := ⟨0, 0⟩

theorem test_wf_byte : (Instr.releaseCard q0 256).wellFormed = false := by decide
theorem test_wf_word16 : (Instr.abortOrder q0 65536).wellFormed = false := by decide
theorem test_wf_word32 : (Instr.startSoak q0 0 1 4294967296).wellFormed = false := by decide
theorem test_wf_clipId : (Instr.overflowHoldSet 1024).wellFormed = false := by decide
theorem test_wf_extentNo : (Instr.mismatchReport 0 9 8192).wellFormed = false := by decide
theorem test_wf_burstNo : (Instr.burstRequest 0 7 1 0 32 true).wellFormed = false := by decide
theorem test_wf_clipNumber : (Instr.burstRequest 0 7 0 0 0 true).wellFormed = false := by decide
theorem test_wf_clipNumber_high : (Instr.burstRequest 0 7 1000 0 0 true).wellFormed = false := by decide
theorem test_wf_bufferNo : (Instr.bufferGrant 0 3 256).wellFormed = false := by decide
theorem test_wf_slotNo : (Instr.slotDrop 0 64).wellFormed = false := by decide
theorem test_wf_supportedLen : (Instr.foundCopySearch 0 7 1 68719476737).wellFormed = false := by decide
theorem test_wf_supportedLen_zero : (Instr.foundCopySearch 0 7 1 0).wellFormed = false := by decide
theorem test_wf_frameTotal : (Instr.playbackStart 0 0 5000 16777216 ⟨0, 9, 1⟩).wellFormed = false := by decide
theorem test_wf_headerBlock : (Instr.copyCreationRequest 0 0 5 0 9 0).wellFormed = false := by decide
theorem test_wf_oneBlock : (Instr.headerReadComplete 0 3 [0]).wellFormed = false := by decide
theorem test_wf_tcOk : (Instr.playGroup q0 1 (some ⟨256, 0, 0, 0⟩) false).wellFormed = false := by decide
theorem test_wf_descOk : (Instr.livePassBegin 0 0 { desc0 with reel := 65536 }).wellFormed = false := by decide
theorem test_wf_frameHdrOk : (Instr.frameHeader 0 3 { frame0 with index := 16777216 }).wellFormed = false := by decide
theorem test_wf_targetOk : (Instr.pause q0 (.group 256)).wellFormed = false := by decide
theorem test_wf_presetOk : (Instr.bankFill q0 0 1 (.copy 256)).wellFormed = false := by decide
theorem test_wf_occOk : (Instr.occurrence { occ0 with count := 0 }).wellFormed = false := by decide
theorem test_wf_occSpan : (Instr.occurrence { occ0 with span := some (9, 4) }).wellFormed = false := by decide
theorem test_wf_sourceOk : (Instr.reinspectContextStart 1 0 5000 10 { src0 with span := 0 }).wellFormed = false := by decide
theorem test_wf_passes : (Instr.bankFill q0 0 31 .identity).wellFormed = true := by decide

/-! ## The table gives no row bits -/

theorem test_no_word_spells_a_command : decodeTableWord 16 0 = none := rfl

/-! ## The worked case of 10.1.1, with the extremes of R187 and the falling segment of R186 -/

def workedMatrix : Vector Int 9 := #v[1152, -128, 0, -64, 1088, 0, 0, -256, 1280]
def workedTrim : Vector Trim 3 := #v[⟨1024, -25⟩, ⟨1024, 0⟩, ⟨1536, 40⟩]
def workedCurve : Vector Nat 33 :=
  ((((Vector.replicate 33 0).set 12 1500).set 13 1640).set 14 1790).set 15 1950 |>.set 16 2100
def workedLook (e : Encoding) : LookRec :=
  { matrix := some workedMatrix, trim := some workedTrim, curves := some (Vector.replicate 3 workedCurve), enc := e }

theorem test_matrix_worked : matrixStage (some workedMatrix) (2000, 1800, 1200) = (2025, 1788, 1050) := by decide
theorem test_trim_worked : trimStage (some workedTrim) (2025, 1788, 1050) = (2000, 1788, 1615) := by decide
theorem test_curve_worked :
    curveStage (some (Vector.replicate 3 workedCurve)) (2000, 1788, 1615) = (2044, 1785, 1586) := by decide +kernel
theorem test_look_worked_legal : renderSample (workedLook .legal) (2000, 1800, 1200) = ⟨501, 446, 403⟩ := by decide +kernel
theorem test_look_worked_full : renderSample (workedLook .full) (2000, 1800, 1200) = ⟨511, 446, 397⟩ := by decide +kernel
theorem test_matrix_negative_is_zero : matrixRow (-1) 0 0 (1000, 0, 0) = 0 := by decide
theorem test_curve_falling : curveOne ((Vector.replicate 33 2000).set 1 1000) 127 = 1008 := by decide +kernel
theorem test_legal_range : encode10 .legal 0 = 64 ∧ encode10 .legal 4095 = 940 := by decide
theorem test_full_range : encode10 .full 0 = 0 ∧ encode10 .full 4095 = 1023 := by decide

/-! ## Sums, the soak pattern and timecodes (4.3.1, 5.8.1, 6.4) -/

theorem test_extent_sum_worked : extentSum [1, 2, 3, 4, 5] = 0x0E11060A := by decide
theorem test_soak_pattern_worked :
    (soakBytes 6 (BitVec.allOnes 23)).1 = [0xFF, 0xFF, 0xFE, 0x00, 0x00, 0x7C] := by decide +kernel
/-- Byte 4 read back as 08h: one error, and the flip does not spread to the next byte. -/
theorem test_soak_receiver_worked :
    ([0xFF, 0xFF, 0xFE, 0x00, 0x08, 0x7C].foldl Soak.feedByte { len := 1, limit := 0 }).errors = 1 := by decide +kernel
theorem test_timecode_wraps : tcNext 1 ⟨23, 59, 59, 23⟩ = ⟨0, 0, 0, 0⟩ := by decide
theorem test_timecode_difference : tcDiff 2 ⟨10, 0, 4, 5⟩ ⟨10, 0, 0, 0⟩ = 105 := by decide
theorem test_timecode_difference_wraps : tcDiff 2 ⟨0, 0, 1, 0⟩ ⟨23, 59, 59, 0⟩ = 50 := by decide

/-! ## Judgements of single frames (7.1.1, 7.2.1, 7.3.1) -/

def stream0 : Continuity :=
  { checking := true, pass := 3, clip := some 5, rate := 2, frames := 300, lastIndex := some 101, lastTc := some ⟨10, 0, 4, 2⟩ }

theorem test_index_dropped : indexFault 5 (some 101) 104 = some (spanOcc 5 .droppedFrame 2 102 103) := by decide
theorem test_index_repeated : indexFault 5 (some 104) 104 = some (spanOcc 5 .repeatedFrame 1 104 104) := by decide
theorem test_index_order : indexFault 5 (some 104) 103 = some (spanOcc 5 .frameOrder 1 103 103) := by decide
theorem test_timecode_invalid_breaks : tcFault { stream0 with lastIndex := some 103 } 104 ⟨10, 0, 4, 30⟩ = true := by decide
theorem test_timecode_jump_breaks :
    tcFault { stream0 with lastIndex := some 100, lastTc := some ⟨10, 0, 4, 0⟩ } 101 ⟨10, 0, 4, 2⟩ = true := by decide
theorem test_timecode_absent_is_not_compared :
    tcFault { stream0 with lastIndex := some 104, lastTc := none } 105 ⟨10, 0, 4, 6⟩ = false := by decide
theorem test_clipping_run_files :
    (clipRun {} { run := 2, runFirst := some 40 } true 44).2 = some (40, 44) := by decide
theorem test_clipping_run_out_of_order :
    (clipRun {} { run := 2, runFirst := some 44 } true 40).2 = some (40, 44) := by decide
theorem test_clipping_run_goes_on :
    (clipRun {} { run := 3, runFirst := some 40, filed := true } true 46).2 = some (46, 46) := by decide
theorem test_hot_site_reports_at_eight :
    offerSite [⟨3, 412, 207, 7, false, 201⟩] 3 412 207 202 = ([⟨3, 412, 207, 8, true, 202⟩], true) := by decide

/-! ## Single steps -/

/-- The rows of the worked sequences that one command makes. -/
theorem test_frame_header_after_a_gap :
    ((after (.frameHeader 0 3 ⟨5, 104, ⟨10, 0, 4, 5⟩, 1⟩) (withCont stream0)).ins.conts[(0 : Fin 3)]).lastIndex = some 104 ∧
    (after (.frameHeader 0 3 ⟨5, 104, ⟨10, 0, 4, 5⟩, 1⟩) (withCont stream0)).wire =
      liveZero ++ [⟨.ins, .fl, .occurrence (spanOcc 5 .droppedFrame 2 102 103)⟩] := by decide +kernel

/-- 5.6.1: both classes wait and WRITE was served last, so the verify read is taken. -/
def mixedPort : PortCtx :=
  { port0 with op := some (op0 (.write (.extent 1 5 0 4))), writes := [.extent 0 6 1 8, .extent 0 6 2 9, .extent 1 5 3 10]
               reads := [.verify 2 7 0 1 10 0], lastClass := .write, lastChan := 1 }

theorem test_arbiter_takes_the_read :
    (((after (.extentWriteDone 0 3) (withPort mixedPort)).port 0).op.map (·.kind)) = some (.read (.verify 2 7 0 1 10 0)) := by
  decide +kernel

/-- 5.6.1: CC2 has no write waiting, so round-robin after CC1 wraps to CC0. -/
theorem test_arbiter_wraps_to_the_next_channel :
    (((after (.extentWriteDone 0 3) (withPort { mixedPort with lastClass := .read })).port 0).op.map (·.kind)) =
      some (.write (.extent 0 6 1 8)) := by decide +kernel

/-- 9.8: SP2 fills slots 0 to 7 while SP1 holds slot 3. -/
theorem test_fill_refused_while_a_slot_is_held :
    (after (.bankFill ⟨2, 9⟩ 0 7 .identity)
      { State.reset with lb := { State.reset.lb with slots := upd State.reset.lb.slots 3 fun x => { x with holder := some 1 } } }).wire =
      liveZero ++ [⟨.lb, .sp, .blockAnswer ⟨2, 9⟩ (.refused .held none [⟨1, 3⟩, ⟨1, 1⟩])⟩] := by decide +kernel

/-- 9.8: a curve entry of 4200 is taken as 4095 and the acceptance is marked clamped. -/
theorem test_write_look_clamps :
    (after (.writeLook q0 0 { items0 with curves := .values (Vector.replicate 3 ((Vector.replicate 33 0).set 4 4200)) })
      (withLook heldLook)).wire = liveZero ++ [⟨.lb, .sp, .blockAnswer q0 (.accepted true [])⟩] := by decide +kernel

/-- 11.7: SET THRESHOLDS is not allowed to a LOADER station. -/
theorem test_rights_refused :
    ((after (.requestMessage 0 { tag := 9, code := 46, oplen := 0, bytes := [] }) (withStation up0)).station 0).responses =
      [{ tag := 9, rid := 0, admitted := false, answer := some (.refused .rights none []) }] := by decide +kernel

/-- 11.7: a full FIFO drops the notice and sets the gap flag. -/
theorem test_notice_to_a_full_fifo_is_lost :
    ((after (.noticeTaken notice0) (withStation { up0 with role := .observer, fifo := List.replicate 64 ⟨0, false, notice0⟩ })).station
      0).gap = true := by decide +kernel

/-- 10.6.1: a cued group wants the frame its start timecode names, less the member's offset. -/
theorem test_group_wants : wantedFrame 2 ⟨10, 0, 4, 5⟩ (-3) ⟨9, 59, 58, 0⟩ = 152 := by decide

/-- R62: HOLD with no running order is at once HOLD. -/
theorem test_set_mode_hold : (after (.setMode q0 3) (withOrders .run [order0])).ods.mode = .hold := by decide +kernel

/-- R10: a second channel waits behind the first. -/
theorem test_claim_waits : ((after (.claim 2 7 4) (withBay { bay0 with reader := some 1 })).bay 0).claims = [2] := by
  decide +kernel

/-- 1.9: the second failure of a burst at class 7 lowers the class to 6 and clears the error count. -/
theorem test_second_error_lowers_the_class :
    let e := (after (.burstTimeout 0 3) (withBay { bay0 with cls := 7, errors := 1, burst := some burst0 })).bay 0
    (e.cls, e.errors) = (6, 0) := by decide +kernel

/-- R46: the counter passes over an id that is in use. -/
theorem test_order_id_passes_over : ({ Dispatcher.reset with orders := [{ order0 with id := 0 }] } : Dispatcher).freshId = 1 := by
  decide +kernel

/-- R72: the lowest FREE buffer is granted. -/
theorem test_lowest_buffer_granted :
    ((after (.bufferRequest 0 3 0 0 .read 5000) (withBufs [buf0] State.reset)).sts.bufs.map (·.num)) = [0, 1] := by
  decide +kernel

/-- 3.12: orders 32 and 33 rank above order 30, and 32 is the older; passed over four times, 30 ranks at 3. -/
theorem test_best_order : (bestOrder [{ order0 with id := 30, priority := 0 }, { order0 with id := 32, priority := 2 },
    { order0 with id := 33, priority := 2 }]).map (·.id) = some 32 := by decide +kernel
theorem test_aged_order : (bestOrder [{ order0 with id := 30, priority := 0, passed := 4 }, { order0 with id := 31, priority := 3 },
    { order0 with id := 36, priority := 3 }]).map (·.id) = some 30 := by decide +kernel

def fullList : List Finding :=
  [{ finding0 with id := 1 }, { finding0 with id := 212, cls := .warning },
   { finding0 with id := 14, cls := .advisory, state := .acknowledged }, { finding0 with id := 2051, cls := .advisory }]

/-- 8.11: the first row that finds a finding gives the one to evict. -/
theorem test_evicts_acknowledged_advisory : (evictee fullList .warning).map (·.id) = some 14 := by decide +kernel
theorem test_evicts_for_blocking : (evictee (fullList.take 2) .blocking).map (·.id) = some 212 := by decide +kernel
theorem test_nothing_to_evict : evictee (fullList.take 2) .warning = none := by decide +kernel

/-- A step with no command waiting delivers the oldest message of reset: the LIVE count of CC0. -/
theorem test_step_delivers : step { State.reset with wire := [⟨.ro, .pp, .liveCountReport 1 2⟩] } =
    .next { State.reset with wire := [], arrivals := 1, pp := { State.reset.pp with counts := #v[0, 2, 0] } } := by
  rfl

/-- R216, R179: the source slot of a COPY preset is an optional part, so a presence byte stands before it; the other
presets have none, and their presence byte is 0. -/
theorem test_preset : readRequest 36 ⟨0, 0⟩ false [0, 1, 2, 1, 12] = some (.bankFill ⟨0, 0⟩ 0 1 (.copy 12)) ∧
    readRequest 36 ⟨0, 0⟩ false [0, 1, 2, 12] = none := by decide +kernel

/-- R191, R192: an output that left the group while it latched an earlier event holds no member of a later one back. -/
theorem test_latch_waits_for_its_event :
    (after (.boundaryLookupAnswer 0 3 none)
      (withOuts { grouped0 with bnd := some { bnd0 with grp := some 0, stage := .lookup } }
        { out0 with bnd := some { bnd0 with grp := some 0, event := 1, stage := .latching } } clock0)).wire.getLast? =
      some ⟨.ro, .lb, .latchRead [(0, 3, 0)]⟩ := by decide +kernel

/-- R190, R192: the members left at a boundary event latch when the one they waited for is disabled. -/
theorem test_latch_when_one_is_disabled :
    (⟨.ro, .lb, .latchRead [(1, 4, 5)]⟩ : Wire) ∈ (after (.setRoute ⟨0, 0⟩ 0 { enabled := some false })
      (withOuts { grouped0 with bnd := some { bnd0 with grp := some 0 } }
        { grouped0 with bnd := some { bnd0 with tok := 4, grp := some 0, stage := .ready 5 } } clock0)).wire := by
  decide +kernel

/-- R72, R88: a channel that winds down is out of the wait list before its own buffer is freed, so no buffer is granted. -/
theorem test_withdraws_before_it_frees :
    (after (.channelAbort 0 5) { withChan { chan0 with bufferWait := true, fill := some { fill0 with num := some 0 } } with
      sts := { bufs := [buf0], waits := [⟨0, 0, 0, 0, .read, 5000⟩], last := 2 } }).sts = { bufs := [], waits := [], last := 2 } := by
  decide +kernel

/-- R88 step 1: a repair pass that was granted stays in ENDING when the card is gone; one not yet granted is dropped. -/
theorem test_granted_pass_stays :
    let lost (granted : Bool) := ((after (.claimAnswer 0 3 .cardGone) (withChan { chan0 with
      phase := .finishing, claimTag := 3, claim := .waiting, repair := some ⟨[0], 0, [0], granted⟩
      outstanding := #v[1, 0, 0, 0] })).chan 0)
    ((lost true).phase, (lost true).repair) = (.ending, some ⟨[0], 0, [0], true⟩) ∧ (lost false).repair = none := by
  decide +kernel

/-- R162, R170: a new BLOCKING finding is the first of its clip, and its count goes to the Catalog. -/
theorem test_new_blocking_finding_is_counted :
    (⟨.fl, .cat, .blockingCountReport 0 1⟩ : Wire) ∈ (after (.occurrenceLookupAnswer 3 (some clip0))
      (withQueue [.occ { occ0 with kind := .readError }])).wire := by decide +kernel

end Sys2Proof.Tests
end

