-- ==== Sys2Proof/Tests/Witnesses.lean ====
section
/-! SUPPORT. For every statement with hypotheses, values that meet them, with one conjunct for each clause, in the order of the
statement. -/

namespace Sys2Proof.Tests

set_option Elab.async false

open Sys2Proof Sys2Proof.Machine

/-- Values that meet the hypotheses of `Obligations.CardInsertionAndHeader`. -/
theorem witness_CardInsertionAndHeader :
    (∃ (b : Bay) (s : State), (s.bay b).state = .empty) ∧
    (∃ (b : Bay) (s : State), (s.bay b).state ≠ .empty) ∧
    (∃ (b : Bay) (tok : Nat) (s : State) (l : Listing), (s.bay b).listing = some l ∧ l.phase = .ident ∧ l.tok = tok) ∧
    (∃ (b : Bay) (tok : Nat) (s : State) (l : Listing), (s.bay b).listing = some l ∧ l.tok ≠ tok) ∧
    (∃ (b : Bay) (tok : Nat) (bytes : List Byte) (s : State) (l : Listing) (h : CardHdr), (s.bay b).listing = some l
      ∧ l.phase = .header ∧ l.tok = tok ∧ readCardHdr l.capacity bytes = some h ∧ s.duplicate b h.serial = false) ∧
    (∃ (b : Bay) (tok : Nat) (bytes : List Byte) (s : State) (l : Listing), (s.bay b).listing = some l ∧ l.phase =
      .header ∧ l.tok = tok ∧ readCardHdr l.capacity bytes = none) ∧
    (∃ (b : Bay) (tok : Nat) (bytes : List Byte) (s : State) (l : Listing) (h : CardHdr), (s.bay b).listing = some l
      ∧ l.phase = .header ∧ l.tok = tok ∧ readCardHdr l.capacity bytes = some h ∧ s.duplicate b h.serial = true) ∧
    (∃ (b : Bay) (ins : Nat) (s : State) (l : Listing), (s.bay b).listing = some l ∧ l.phase = .copies ∧ (s.bay
      b).ins = ins) :=
  ⟨⟨0, State.reset, by decide +kernel⟩,
   ⟨0, withBay bay0, by decide +kernel⟩,
   ⟨0, 3, withBay { state := .listing, listing := some { phase := .ident, tok := 3 } }, _, rfl, by decide +kernel,
     by decide +kernel⟩,
   ⟨0, 4, withBay { state := .listing, listing := some { phase := .ident, tok := 3 } }, _, rfl, by decide +kernel⟩,
   ⟨0, 3, cardHdr, withBay { state := .listing, listing := some { phase := .header, tok := 3, capacity := 0 } }, _,
     cardHdrRead, rfl, by decide +kernel, by decide +kernel, by decide +kernel, by decide +kernel⟩,
   ⟨0, 3, [], withBay { state := .listing, listing := some { phase := .header, tok := 3, capacity := 0 } }, _, rfl,
     by decide +kernel, by decide +kernel, by decide +kernel⟩,
   ⟨0, 3, cardHdr, withBays { state := .listing, listing := some { phase := .header, tok := 3, capacity := 0 } }
     bay0, _, cardHdrRead, rfl, by decide +kernel, by decide +kernel, by decide +kernel, by decide +kernel⟩,
   ⟨0, 0, withBay { state := .listing, listing := some { phase := .copies, tok := 3 } }, _, rfl, by decide +kernel,
     by decide +kernel⟩⟩

/-- Values that meet the hypotheses of `Obligations.DirectoryAndHandOver`. -/
theorem witness_DirectoryAndHandOver :
    (∃ (b : Bay) (tok : Nat) (s : State) (l : Listing), (s.bay b).listing = some l ∧ l.phase = .directory ∧ l.tok =
      tok ∧ l.reads + 1 < ceilDiv l.dirCount 64) ∧
    (∃ (b : Bay) (tok : Nat) (bytes : List Byte) (s : State) (l : Listing), (s.bay b).listing = some l ∧ l.phase =
      .directory ∧ l.tok = tok ∧ ¬ l.reads + 1 < ceilDiv l.dirCount 64 ∧ checkDirectory l.capacity l.dirCount
      l.dirSum (l.got ++ bytes.take 4096) = none) ∧
    (∃ (b : Bay) (tok : Nat) (bytes : List Byte) (s : State) (l : Listing) (d : DirEntry) (es : List DirEntry),
      (s.bay b).listing = some l ∧ l.phase = .directory ∧ l.tok = tok ∧ ¬ l.reads + 1 < ceilDiv l.dirCount 64 ∧
      checkDirectory l.capacity l.dirCount l.dirSum (l.got ++ bytes.take 4096) = some (d :: es)) ∧
    (∃ (b : Bay) (tok : Nat) (bytes : List Byte) (s : State) (l : Listing), (s.bay b).listing = some l ∧ l.phase =
      .directory ∧ l.tok = tok ∧ ¬ l.reads + 1 < ceilDiv l.dirCount 64 ∧ checkDirectory l.capacity l.dirCount
      l.dirSum (l.got ++ bytes.take 4096) = some []) ∧
    (∃ (b : Bay) (ins : Nat) (clip : Nat) (s : State) (l : Listing) (d : DirEntry) (ans : ListAns), (s.bay b).listing
      = some l ∧ l.phase = .handOver ∧ (s.bay b).ins = ins ∧ l.entries[l.next + 1]? = some d ∧ (ans = .made clip ∨
      ans = .relinked clip)) ∧
    (∃ (b : Bay) (ins : Nat) (clip : Nat) (s : State) (l : Listing) (ans : ListAns), (s.bay b).listing = some l ∧
      l.phase = .handOver ∧ (s.bay b).ins = ins ∧ l.entries.length ≤ l.next + 1 ∧ (ans = .made clip ∨ ans = .relinked
      clip)) ∧
    (∃ (b : Bay) (ins : Nat) (s : State) (l : Listing) (d : DirEntry), (s.bay b).listing = some l ∧ l.phase =
      .handOver ∧ (s.bay b).ins = ins ∧ l.entries[l.next]? = some d) :=
  ⟨⟨0, 3, withBay { state := .listing, listing := some { phase := .directory, tok := 3, dirCount := 65 } }, _, rfl,
     by decide +kernel, by decide +kernel, by decide +kernel⟩,
   ⟨0, 3, [], withBay { state := .listing, listing := some { phase := .directory, tok := 3, dirCount := 1 } }, _,
     rfl, by decide +kernel, by decide +kernel, by decide +kernel, by decide +kernel⟩,
   ⟨0, 3, dirBytes, withBay
     { state := .listing, listing := some { phase := .directory, tok := 3, dirCount := 1, capacity := 1, dirSum := extentSum (dirBytes.take 33) } },
     _, dirEntry0, [], rfl, by decide +kernel, by decide +kernel, by decide +kernel, by decide +kernel⟩,
   ⟨0, 3, [], withBay
     { state := .listing, listing := some { phase := .directory, tok := 3, dirCount := 0, dirSum := extentSum [] } },
     _, rfl, by decide +kernel, by decide +kernel, by decide +kernel, by decide +kernel⟩,
   ⟨0, 0, 0, withBay
     { state := .listing, listing := some { phase := .handOver, tok := 3, entries := [dirEntry0, dirEntry0] } }, _,
     _, .made 0, rfl, by decide +kernel, by decide +kernel, rfl, by decide +kernel⟩,
   ⟨0, 0, 0, withBay { state := .listing, listing := some { phase := .handOver, tok := 3, entries := [dirEntry0] } },
     _, .relinked 0, rfl, by decide +kernel, by decide +kernel, by decide +kernel, by decide +kernel⟩,
   ⟨0, 0, withBay { state := .listing, listing := some { phase := .handOver, tok := 3, entries := [dirEntry0] } }, _,
     _, rfl, by decide +kernel, by decide +kernel, rfl⟩⟩

/-- Values that meet the hypotheses of `Obligations.ReadingRights`. -/
theorem witness_ReadingRights :
    (∃ (serial : Serial) (s : State), s.bayOf serial = none) ∧
    (∃ (serial : Serial) (s : State) (b : Bay), s.bayOf serial = some b ∧ (s.bay b).reader = none) ∧
    (∃ (ch : Chan) (serial : Serial) (s : State) (b : Bay) (r : Chan), s.bayOf serial = some b ∧ (s.bay b).reader =
      some r ∧ r ≠ ch ∧ ch ∉ (s.bay b).claims) ∧
    (∃ (ch : Chan) (serial : Serial) (s : State) (b : Bay), s.bayOf serial = some b ∧ (s.bay b).reader = some ch ∧
      (s.bay b).claims = []) ∧
    (∃ (ch : Chan) (serial : Serial) (s : State) (b : Bay) (c : Chan) (cs : List Chan), s.bayOf serial = some b ∧
      (s.bay b).reader = some ch ∧ (s.bay b).claims = c :: cs) ∧
    (∃ (ch : Chan) (serial : Serial) (s : State) (b : Bay), s.bayOf serial = some b ∧ (s.bay b).reader ≠ some ch) :=
  ⟨⟨7, State.reset, by decide +kernel⟩,
   ⟨7, withBay bay0, _, rfl, by decide +kernel⟩,
   ⟨0, 7, withBay { bay0 with reader := some 1 }, _, _, rfl, rfl, by decide +kernel, by decide +kernel⟩,
   ⟨_, 7, withBay { bay0 with reader := some 0 }, _, rfl, rfl, by decide +kernel⟩,
   ⟨_, 7, withBay { bay0 with reader := some 0, claims := [1] }, _, _, _, rfl, rfl, rfl⟩,
   ⟨0, 7, withBay bay0, _, rfl, by decide +kernel⟩⟩

/-- Values that meet the hypotheses of `Obligations.BurstsAndReadErrors`, clauses 1 to 6 of those that have some. -/
theorem witness_BurstsAndReadErrors_1 :
    (∃ (ch : Chan) (serial : Serial) (clipNo : Nat) (s : State) (b : Bay) (m : MapEntry), s.bayOf serial = some b ∧
      (s.bay b).reader = some ch ∧ ((s.bay b).map.find? (fun m => m.clipNo = clipNo) = some m)) ∧
    (∃ (ch : Chan) (serial : Serial) (s : State) (b : Bay), s.bayOf serial = some b ∧ (s.bay b).reader ≠ some ch) ∧
    (∃ (serial : Serial) (s : State), s.bayOf serial = none) ∧
    (∃ (ch : Chan) (serial : Serial) (s : State) (b : Bay) (x : Burst), s.bayOf serial = some b ∧ (s.bay b).burst =
      some x ∧ x.ch = ch ∧ x.running = false) ∧
    (∃ (b : Bay) (tok : Nat) (bytes : List Byte) (s : State) (x : Burst), (s.bay b).burst = some x ∧ x.running = true
      ∧ x.tok = tok ∧ bytes.length = x.len) ∧
    (∃ (b : Bay) (tok : Nat) (s : State) (x : Burst), (s.bay b).burst = some x ∧ (x.running = false ∨ x.tok ≠ tok)) :=
  ⟨⟨_, 7, 1, withBay { bay0 with reader := some 0, map := [{ clipNo := 1, first := 0, count := 1, len := 10 }] }, _,
     _, rfl, rfl, rfl⟩,
   ⟨0, 7, withBay bay0, _, rfl, by decide +kernel⟩,
   ⟨7, State.reset, by decide +kernel⟩,
   ⟨0, 7, withBay { bay0 with burst := some { burst0 with running := false } }, _, _, rfl, rfl, by decide +kernel,
     by decide +kernel⟩,
   ⟨0, 3, [1, 2], withBay { bay0 with burst := some burst0 }, _, rfl, by decide +kernel, by decide +kernel,
     by decide +kernel⟩,
   ⟨0, 4, withBay { bay0 with burst := some burst0 }, _, rfl, by decide +kernel⟩⟩

/-- Values that meet the hypotheses of `Obligations.BurstsAndReadErrors`, clauses 7 to 12 of those that have some. -/
theorem witness_BurstsAndReadErrors_2 :
    (∃ (b : Bay) (tok : Nat) (s : State) (x : Burst) (c : Instr), (s.bay b).burst = some x ∧ x.running = true ∧ x.tok
      = tok ∧ (c = .burstMediaError b tok ∨ c = .burstTimeout b tok) ∧ ((s.bay b).cls = 0 ∧ (s.bay b).errors < 2 ∨
      (s.bay b).cls ≠ 0 ∧ (s.bay b).errors < 1)) ∧
    (∃ (b : Bay) (tok : Nat) (s : State) (x : Burst) (c : Instr), (s.bay b).burst = some x ∧ x.running = true ∧ x.tok
      = tok ∧ (c = .burstMediaError b tok ∨ c = .burstTimeout b tok) ∧ (s.bay b).cls ≠ 0 ∧ 1 ≤ (s.bay b).errors) ∧
    (∃ (b : Bay) (tok : Nat) (s : State) (x : Burst) (c : Instr), (s.bay b).burst = some x ∧ x.running = true ∧ x.tok
      = tok ∧ (c = .burstMediaError b tok ∨ c = .burstTimeout b tok) ∧ (s.bay b).cls = 0 ∧ 2 ≤ (s.bay b).errors) ∧
    (∃ (b : Bay) (tok : Nat) (s : State) (l : Listing), (s.bay b).listing = some l ∧ (l.phase = .header ∨ l.phase =
      .directory) ∧ l.tok = tok ∧ ((s.bay b).cls = 0 ∧ (s.bay b).errors < 2 ∨ (s.bay b).cls ≠ 0 ∧ (s.bay b).errors <
      1)) ∧
    (∃ (b : Bay) (tok : Nat) (s : State) (l : Listing), (s.bay b).listing = some l ∧ (l.phase = .header ∨ l.phase =
      .directory) ∧ l.tok = tok ∧ (s.bay b).cls ≠ 0 ∧ 1 ≤ (s.bay b).errors) ∧
    (∃ (b : Bay) (tok : Nat) (s : State) (l : Listing), (s.bay b).listing = some l ∧ (l.phase = .header ∨ l.phase =
      .directory) ∧ l.tok = tok ∧ (s.bay b).cls = 0 ∧ 2 ≤ (s.bay b).errors) :=
  ⟨⟨0, 3, withBay { bay0 with cls := 0, errors := 1, burst := some burst0 }, _, .burstTimeout 0 3, rfl,
     by decide +kernel, by decide +kernel, by decide +kernel, by decide +kernel⟩,
   ⟨0, 3, withBay { bay0 with cls := 1, errors := 1, burst := some burst0 }, _, .burstMediaError 0 3, rfl,
     by decide +kernel, by decide +kernel, by decide +kernel, by decide +kernel, by decide +kernel⟩,
   ⟨0, 3, withBay { bay0 with cls := 0, errors := 2, burst := some burst0 }, _, .burstTimeout 0 3, rfl,
     by decide +kernel, by decide +kernel, by decide +kernel, by decide +kernel, by decide +kernel⟩,
   ⟨0, 3, withBay { state := .listing, cls := 0, errors := 1, listing := some { phase := .header, tok := 3 } }, _,
     rfl, by decide +kernel, by decide +kernel, by decide +kernel⟩,
   ⟨0, 3, withBay { state := .listing, cls := 1, errors := 1, listing := some { phase := .directory, tok := 3 } }, _,
     rfl, by decide +kernel, by decide +kernel, by decide +kernel, by decide +kernel⟩,
   ⟨0, 3, withBay { state := .listing, cls := 0, errors := 2, listing := some { phase := .header, tok := 3 } }, _,
     rfl, by decide +kernel, by decide +kernel, by decide +kernel, by decide +kernel⟩⟩

/-- Values that meet the hypotheses of `Obligations.CardRemovalAndRelease`. -/
theorem witness_CardRemovalAndRelease :
    (∃ (b : Bay) (s : State), ((s.bay b).state = .listing ∨ (s.bay b).state = .unreadable)) ∧
    (∃ (b : Bay) (s : State), ((s.bay b).state = .present ∨ (s.bay b).state = .released)) ∧
    (∃ (b : Bay) (s : State), (s.bay b).state = .empty) ∧
    (∃ (b : Bay) (s : State), (s.bay b).state = .present ∧ (s.bay b).listed = true ∧ (s.bay b).reader = none) ∧
    (∃ (b : Bay) (s : State) (r : Option Reason) (why : Reason), (r =
      (match (s.bay b).state with | .released => some Reason.already | .empty | .listing | .unreadable => some .noCard | .present => if (s.bay b).listed = false then some .listingIncomplete else if (s.bay b).reader.isSome then some .cardBusy else none))
      ∧ r = some why) ∧
    (∃ (b : Bay) (ins : Nat) (s : State), (s.bay b).ins = ins ∧ (s.bay b).state = .present ∧ (s.bay b).reader = none) ∧
    (∃ (b : Bay) (ins : Nat) (s : State), (s.bay b).ins = ins ∧ (s.bay b).state = .present ∧ (s.bay b).reader.isSome) ∧
    (∃ (b : Bay) (s : State), (s.bay b).state = .present ∧ (s.bay b).reader = none) ∧
    (∃ (b : Bay) (s : State) (why : Reason),
      ((match (s.bay b).state with | .released => some Reason.already | .empty | .listing | .unreadable => some .noCard | .present => if (s.bay b).reader.isSome then some .cardBusy else none)
      = some why)) :=
  ⟨⟨0, withBay { state := .unreadable }, by decide +kernel⟩,
   ⟨0, withBay { state := .released }, by decide +kernel⟩,
   ⟨0, State.reset, by decide +kernel⟩,
   ⟨0, withBay { bay0 with listed := true }, by decide +kernel, by decide +kernel, by decide +kernel⟩,
   ⟨0, withBay bay0, some .listingIncomplete, .listingIncomplete, by decide +kernel, by decide +kernel⟩,
   ⟨0, 0, withBay bay0, by decide +kernel, by decide +kernel, by decide +kernel⟩,
   ⟨0, 0, withBay { bay0 with reader := some 2 }, by decide +kernel, by decide +kernel, by decide +kernel⟩,
   ⟨0, withBay bay0, by decide +kernel, by decide +kernel⟩,
   ⟨0, State.reset, .noCard, by decide +kernel⟩⟩

/-- Values that meet the hypotheses of `Obligations.CatalogListing`, clauses 1 to 6 of those that have some. -/
theorem witness_CatalogListing_1 :
    (∃ (serial : Serial) (clipNo : Nat) (required : Nat) (desc : Desc) (s : State) (id : Nat) (c : Clip), s.clipOf
      serial clipNo = none ∧ s.cat.freeId = some id ∧ c = newClip id s.token serial clipNo required desc) ∧
    (∃ (serial : Serial) (clipNo : Nat) (s : State), s.clipOf serial clipNo = none ∧ s.cat.freeId = none) ∧
    (∃ (serial : Serial) (clipNo : Nat) (desc : Desc) (s : State) (c : Clip), s.clipOf serial clipNo = some c ∧
      c.desc = desc) ∧
    (∃ (serial : Serial) (clipNo : Nat) (desc : Desc) (s : State) (c : Clip), catalogOk s ∧ s.clipOf serial clipNo =
      some c ∧ c.desc ≠ desc ∧ c.order = none) ∧
    (∃ (serial : Serial) (clipNo : Nat) (desc : Desc) (s : State) (c : Clip) (o : Nat), s.clipOf serial clipNo = some
      c ∧ c.desc ≠ desc ∧ c.order = some o ∧ c.state = .queued) ∧
    (∃ (serial : Serial) (clipNo : Nat) (desc : Desc) (s : State) (c : Clip) (o : Nat), catalogOk s ∧ s.clipOf serial
      clipNo = some c ∧ c.desc ≠ desc ∧ c.order = some o ∧ c.state ≠ .queued) :=
  ⟨⟨7, 1, 2, desc0, State.reset, 0, _, by decide +kernel, by decide +kernel, rfl⟩,
   ⟨7, 1, withClips ((List.range 1024).map fun n => { clip0 with id := n, clipNo := n + 2 }), by simp [State.clipOf,
     withClips, clip0], by simp [Catalog.freeId, withClips]⟩,
   ⟨7, 1, desc0, withClips [clip0], _, rfl, by decide +kernel⟩,
   ⟨7, 1, { desc0 with frames := 11 }, withClips [clip0], _, by unfold catalogOk; decide +kernel, rfl,
     by decide +kernel, by decide +kernel⟩,
   ⟨7, 1, { desc0 with frames := 11 }, withClips [{ clip0 with order := some 5, state := .queued }], _, _, rfl,
     by decide +kernel, rfl, by decide +kernel⟩,
   ⟨7, 1, { desc0 with frames := 11 }, withClips [{ clip0 with order := some 5, state := .reading }], _, _,
     by unfold catalogOk; decide +kernel, rfl, by decide +kernel, rfl, by decide +kernel⟩⟩

/-- Values that meet the hypotheses of `Obligations.CatalogListing`, clauses 7 to 12 of those that have some. -/
theorem witness_CatalogListing_2 :
    (∃ (job : DefaultJob) (s : State) (c : Clip) (b : Bay) (ins : Nat), s.sameClip job.clip job.serial job.made =
      some c ∧ job.create = some (b, ins)) ∧
    (∃ (job : DefaultJob) (s : State) (c : Clip), s.sameClip job.clip job.serial job.made = some c ∧ job.create =
      none) ∧
    (∃ (clip : Nat) (serial : Serial) (made : Nat) (s : State) (c : Clip), s.sameClip clip serial made = some c ∧
      c.order = none) ∧
    (∃ (clip : Nat) (serial : Serial) (made : Nat) (s : State) (c : Clip), s.sameClip clip serial made = some c ∧
      c.order ≠ none) ∧
    (∃ (job : DefaultJob) (s : State), s.sameClip job.clip job.serial job.made = none) ∧
    (∃ (clip : Nat) (serial : Serial) (made : Nat) (s : State), s.sameClip clip serial made = none) :=
  ⟨⟨{ clip := 0, serial := 7, made := 0, create := some (0, 0) }, withClips [clip0], _, _, _, rfl, rfl⟩,
   ⟨{ clip := 0, serial := 7, made := 0, create := none }, withClips [clip0], _, rfl, by decide +kernel⟩,
   ⟨0, 7, 0, withClips [clip0], _, rfl, by decide +kernel⟩,
   ⟨0, 7, 0, withClips [{ clip0 with order := some 5 }], _, rfl, by decide +kernel⟩,
   ⟨{ clip := 0, serial := 7, made := 4, create := none }, withClips [clip0], by decide +kernel⟩,
   ⟨0, 7, 4, withClips [clip0], by decide +kernel⟩⟩

/-- Values that meet the hypotheses of `Obligations.CopiesMadeAndFound`. -/
theorem witness_CopiesMadeAndFound :
    (∃ (clip : Nat) (order : Nat) (p : Port) (vol : Serial) (hb : Nat) (s : State) (c : Clip) (x : Copy) (l : List
      Copy), s.clip? clip = some c ∧ c.order = some order ∧ (∀ y ∈ c.copies, y.vol = vol → y.state.final = true) ∧ (x
      =
      { port := p, vol := vol, hb := hb, state := .reserved, cause := none, written := 0, passes := 0, mismatch := none, recorded := none })
      ∧ placeCopy c.copies x = some l) ∧
    (∃ (clip : Nat) (order : Nat) (vol : Serial) (s : State) (ans : CreateAns), ((∀ c, s.clip? clip = some c →
      c.order ≠ some order) ∧ ans = .notBound ∨ (∃ c, s.clip? clip = some c ∧ c.order = some order ∧ (∃ y ∈ c.copies,
      y.vol = vol ∧ y.state.final = false)) ∧ ans = .busy)) ∧
    (∃ (clip : Nat) (order : Nat) (vol : Serial) (s : State) (c : Clip), s.clip? clip = some c ∧ c.order = some order
      ∧ 6 ≤ c.copies.length ∧ (∀ y ∈ c.copies, y.state.reusable = false ∧ (y.vol = vol → y.state.final = true))) ∧
    (∃ (p : Port) (vol : Serial) (hb : Nat) (serial : Serial) (clipNo : Nat) (dataLen : Nat) (sums : List Sum32) (s :
      State) (c : Clip) (x : Copy) (i : Nat) (l : List Copy), catalogOk s ∧ s.clipOf serial clipNo = some c ∧ c.state
      ≠ .unsupported ∧ c.desc.dataLen = dataLen ∧ offered c p vol hb sums x i l ∧ c.complete = false) ∧
    (∃ (vol : Serial) (serial : Serial) (clipNo : Nat) (dataLen : Nat) (s : State) (c : Clip), s.clipOf serial clipNo
      = some c ∧ c.state ≠ .unsupported ∧ c.desc.dataLen = dataLen ∧ (∀ y ∈ c.copies, y.vol ≠ vol) ∧ 6 ≤
      c.copies.length ∧ (∀ y ∈ c.copies, y.state.reusable = false)) ∧
    (∃ (serial : Serial) (clipNo : Nat) (dataLen : Nat) (s : State), (∀ c, s.clipOf serial clipNo = some c → c.state
      = .unsupported ∨ c.desc.dataLen ≠ dataLen)) ∧
    (∃ (vol : Serial) (hb : Nat) (serial : Serial) (clipNo : Nat) (s : State) (c : Clip), s.clipOf serial clipNo =
      some c ∧ (2 ≤ (c.copies.filter fun y => y.vol = vol).length ∨ (∃ y ∈ c.copies, y.vol = vol ∧ (y.state ≠ .found
      ∧ y.state ≠ .stale ∨ hb ≤ y.hb)))) ∧
    (∃ (p : Port) (vol : Serial) (hb : Nat) (serial : Serial) (clipNo : Nat) (dataLen : Nat) (sums : List Sum32) (s :
      State) (c : Clip) (x : Copy) (x' : Copy) (i : Nat) (l : List Copy) (r : Clip), catalogOk s ∧ s.clipOf serial
      clipNo = some c ∧ c.state ≠ .unsupported ∧ c.desc.dataLen = dataLen ∧ offered c p vol hb sums x i l ∧
      c.complete = true ∧ c.sums = some sums ∧ x' = { x with state := .verified, recorded := none } ∧ r =
      { c with copies := l.set i x' }) ∧
    (∃ (p : Port) (vol : Serial) (hb : Nat) (serial : Serial) (clipNo : Nat) (dataLen : Nat) (sums : List Sum32) (s :
      State) (c : Clip) (x : Copy) (i : Nat) (l : List Copy), catalogOk s ∧ s.clipOf serial clipNo = some c ∧ c.state
      ≠ .unsupported ∧ c.desc.dataLen = dataLen ∧ offered c p vol hb sums x i l ∧ c.complete = true ∧ c.sums ≠ some
      sums) :=
  ⟨⟨0, _, 0, 9, 1, withClips [{ clip0 with order := some 5 }], _, _, _, rfl, rfl, by decide +kernel, rfl, rfl⟩,
   ⟨0, 5, 9, State.reset, .notBound, Or.inl ⟨allSome (by decide +kernel), rfl⟩⟩,
   ⟨0, _, 9, withClips [{ clip0 with order := some 5, copies := sixCopies }], _, rfl, rfl, by decide +kernel,
     by decide +kernel⟩,
   ⟨0, 9, 1, 7, 1, 5000, [1], withClips [clip0], _, _, 0, _, by unfold catalogOk; decide +kernel, rfl,
     by decide +kernel, by decide +kernel, Or.inl ⟨by decide +kernel, rfl, rfl, rfl⟩, by decide +kernel⟩,
   ⟨9, 7, 1, 5000, withClips [{ clip0 with copies := sixCopies }], _, rfl, by decide +kernel, by decide +kernel,
     by decide +kernel, by decide +kernel, by decide +kernel⟩,
   ⟨7, 1, 5000, State.reset, allSome (by decide +kernel)⟩,
   ⟨9, 1, 7, 1, withClips [{ clip0 with copies := [{ copy0 with vol := 9 }, { copy0 with vol := 9, hb := 2 }] }], _,
     rfl, Or.inl (by decide +kernel)⟩,
   ⟨0, 9, 1, 7, 1, 5000, [1], withClips [{ clip0 with sums := some [1] }], _, _, _, 0, _, _,
     by unfold catalogOk; decide +kernel, rfl, by decide +kernel, by decide +kernel, Or.inl ⟨by decide +kernel, rfl,
     rfl, rfl⟩, by decide +kernel, by decide +kernel, rfl, rfl⟩,
   ⟨0, 9, 1, 7, 1, 5000, [1], withClips [{ clip0 with sums := some [2] }], _, _, 0, _,
     by unfold catalogOk; decide +kernel, rfl, by decide +kernel, by decide +kernel, Or.inl ⟨by decide +kernel, rfl,
     rfl, rfl⟩, by decide +kernel, by decide +kernel⟩⟩

/-- Values that meet the hypotheses of `Obligations.ProgressReportsAndLoss`, clauses 1 to 7 of those that have some. -/
theorem witness_ProgressReportsAndLoss_1 :
    (∃ (clip : Nat) (vol : Serial) (s : State) (c : Clip) (i : Nat) (x : Copy), (s.reported clip vol (fun k => k =
      .reserved) = some (c, i, x))) ∧
    (∃ (clip : Nat) (vol : Serial) (s : State) (c : Clip) (i : Nat) (x : Copy), (s.reported clip vol (fun k => k =
      .writing) = some (c, i, x)) ∧ c.extents ≤ x.written + 1) ∧
    (∃ (clip : Nat) (vol : Serial) (s : State) (c : Clip) (i : Nat) (x : Copy), (s.reported clip vol (fun k => k =
      .writing) = some (c, i, x)) ∧ x.written + 1 < c.extents) ∧
    (∃ (clip : Nat) (vol : Serial) (s : State) (c : Clip) (i : Nat) (x : Copy), (s.reported clip vol (fun k => k =
      .written || k = .repairing) = some (c, i, x))) ∧
    (∃ (clip : Nat) (vol : Serial) (s : State) (c : Clip) (i : Nat) (x : Copy), (s.reported clip vol (fun k => k =
      .verifying || k = .repairing) = some (c, i, x))) ∧
    (∃ (clip : Nat) (vol : Serial) (s : State) (c : Clip) (i : Nat) (x : Copy), (s.reported clip vol (fun k => k =
      .verifying || k = .repairing) = some (c, i, x)) ∧ x.mismatch.getD [] = []) ∧
    (∃ (clip : Nat) (vol : Serial) (s : State) (c : Clip) (i : Nat) (x : Copy), (s.reported clip vol (fun k => k =
      .verifying || k = .repairing) = some (c, i, x)) ∧ x.mismatch.getD [] ≠ [] ∧ x.passes < 2) :=
  ⟨⟨0, 9, withClips [{ clip0 with copies := [copy0] }], _, _, _, rfl⟩,
   ⟨0, 9, withClips [{ clip0 with copies := [{ copy0 with state := .writing }] }], _, _, _, rfl, by decide +kernel⟩,
   ⟨0, 9, withClips [{ clip0 with extents := 2, copies := [{ copy0 with state := .writing }] }], _, _, _, rfl,
     by decide +kernel⟩,
   ⟨0, 9, withClips [{ clip0 with copies := [{ copy0 with state := .written }] }], _, _, _, rfl⟩,
   ⟨0, 9, withClips [{ clip0 with copies := [{ copy0 with state := .verifying }] }], _, _, _, rfl⟩,
   ⟨0, 9, withClips [{ clip0 with copies := [{ copy0 with state := .verifying, mismatch := some [] }] }], _, _, _,
     rfl, by decide +kernel⟩,
   ⟨0, 9, withClips
     [{ clip0 with copies := [{ copy0 with state := .verifying, passes := 1, mismatch := some [0] }] }], _, _, _,
     rfl, by decide +kernel, by decide +kernel⟩⟩

/-- Values that meet the hypotheses of `Obligations.ProgressReportsAndLoss`, clauses 8 to 13 of those that have some. -/
theorem witness_ProgressReportsAndLoss_2 :
    (∃ (clip : Nat) (vol : Serial) (s : State) (c : Clip) (i : Nat) (x : Copy), (s.reported clip vol (fun k => k =
      .verifying || k = .repairing) = some (c, i, x)) ∧ x.mismatch.getD [] ≠ [] ∧ 2 ≤ x.passes) ∧
    (∃ (clip : Nat) (vol : Serial) (s : State) (c : Clip) (i : Nat) (x : Copy) (r : Clip), (s.reported clip vol (fun
      k => k = .verifying || k = .repairing) = some (c, i, x)) ∧ (r =
      { c with copies := c.copies.set i { x with state := .verified, mismatch := none } })) ∧
    (∃ (clip : Nat) (vol : Serial) (final : CopyState) (cause : CopyCause) (s : State) (c : Clip) (i : Nat) (x :
      Copy), s.reported clip vol CopyState.inProgress = some (c, i, x) ∧ endPairOk final cause = true) ∧
    (∃ (clip : Nat) (vol : Serial) (ext : Nat) (final : CopyState) (cause : CopyCause) (s : State) (r : Instr),
      s.reported clip vol CopyState.inProgress = none ∧ r ∈ [Instr.headerWrittenReport clip vol, .extentWrittenReport
      clip vol, .verifyBegunReport clip vol, .mismatchReport clip vol ext, .verifyEndedReport clip vol,
      .rewriteDoneReport clip vol, .copyEndReport clip vol final cause]) ∧
    (∃ (s : State), (s.cat.clips.map (·.id)).Nodup) ∧
    (∃ (clip : Nat) (vol : Serial) (ext : Nat) (final : CopyState) (cause : CopyCause) (s : State) (r : Instr), (r =
      Instr.headerWrittenReport clip vol ∧ s.reported clip vol (fun k => k = .reserved) = none ∨ r =
      .extentWrittenReport clip vol ∧ s.reported clip vol (fun k => k = .writing) = none ∨ r = .verifyBegunReport
      clip vol ∧ s.reported clip vol (fun k => k = .written || k = .repairing) = none ∨ (r = .mismatchReport clip vol
      ext ∨ r = .verifyEndedReport clip vol ∨ r = .rewriteDoneReport clip vol) ∧ s.reported clip vol (fun k => k =
      .verifying || k = .repairing) = none ∨ r = .copyEndReport clip vol final cause ∧ endPairOk final cause =
      false)) :=
  ⟨⟨0, 9, withClips
     [{ clip0 with copies := [{ copy0 with state := .verifying, passes := 2, mismatch := some [0] }] }], _, _, _,
     rfl, by decide +kernel, by decide +kernel⟩,
   ⟨0, 9, withClips [{ clip0 with copies := [{ copy0 with state := .repairing }] }], _, _, _, _, rfl, rfl⟩,
   ⟨0, 9, .failed, .mismatch, withClips [{ clip0 with copies := [copy0] }], _, _, _, rfl, by decide +kernel⟩,
   ⟨0, 9, 0, .failed, .mismatch, State.reset, .headerWrittenReport 0 9, by decide +kernel, by decide +kernel⟩,
   ⟨withClips [clip0], by decide +kernel⟩,
   ⟨0, 9, 0, .failed, .mismatch, State.reset, .headerWrittenReport 0 9, Or.inl ⟨rfl, by decide +kernel⟩⟩⟩

/-- Values that meet the hypotheses of `Obligations.SourceSums`. -/
theorem witness_SourceSums :
    (∃ (clip : Nat) (order : Nat) (s : State) (c : Clip) (new : Clip), s.clip? clip = some c ∧ c.order = some order ∧
      (new = { c with state := .reading, sums := if c.complete then c.sums else some [] })) ∧
    (∃ (clip : Nat) (order : Nat) (s : State), (∀ c, s.clip? clip = some c → c.order ≠ some order)) ∧
    (∃ (clip : Nat) (order : Nat) (ext : Nat) (s : State) (c : Clip) (l : List Sum32), s.clip? clip = some c ∧
      c.order = some order ∧ c.complete = false ∧ l = c.sums.getD [] ∧ ext = l.length ∧ ext + 1 < c.extents) ∧
    (∃ (clip : Nat) (order : Nat) (ext : Nat) (s : State) (c : Clip) (l : List Sum32), s.clip? clip = some c ∧
      c.order = some order ∧ c.complete = false ∧ l = c.sums.getD [] ∧ ext = l.length ∧ ext + 1 = c.extents ∧
      c.copies.length ≤ 6) ∧
    (∃ (clip : Nat) (order : Nat) (ext : Nat) (sum : Sum32) (s : State) (c : Clip) (l : List Sum32), s.clip? clip =
      some c ∧ c.order = some order ∧ c.complete = true ∧ c.sums = some l ∧ l[ext]? = some sum ∧ ext + 1 = c.extents
      ∧ c.copies.length ≤ 6) ∧
    (∃ (clip : Nat) (order : Nat) (ext : Nat) (sum : Sum32) (s : State) (c : Clip) (pass : PassKind), s.clip? clip =
      some c ∧ c.order = some order ∧ (c.complete = true ∨ pass = .repair) ∧ (c.sums.getD [])[ext]? = some sum ∧
      (¬(pass = .read ∧ ext + 1 = c.extents))) ∧
    (∃ (clip : Nat) (order : Nat) (ext : Nat) (sum : Sum32) (s : State) (c : Clip) (pass : PassKind), s.clip? clip =
      some c ∧ c.order = some order ∧ (c.complete = true ∨ pass = .repair) ∧ (c.sums.getD [])[ext]? ≠ some sum) :=
  ⟨⟨0, _, withClips [{ clip0 with order := some 5 }], _, _, rfl, rfl, rfl⟩,
   ⟨0, 5, State.reset, allSome (by decide +kernel)⟩,
   ⟨0, _, _, withClips [{ clip0 with order := some 5, extents := 2, sums := some [] }], _, _, rfl, rfl,
     by decide +kernel, rfl, rfl, by decide +kernel⟩,
   ⟨0, _, 1, withClips
     [{ clip0 with order := some 5, extents := 2, sums := some [1], copies := [{ copy0 with state := .found, recorded := some [1, 2] }] }],
     _, _, rfl, rfl, by decide +kernel, rfl, by decide +kernel, by decide +kernel, by decide +kernel⟩,
   ⟨0, _, 1, 2, withClips [{ clip0 with order := some 5, extents := 2, sums := some [1, 2] }], _, _, rfl, rfl,
     by decide +kernel, rfl, by decide +kernel, by decide +kernel, by decide +kernel⟩,
   ⟨0, _, 1, 2, withClips [{ clip0 with order := some 5, extents := 2, sums := some [1, 2] }], _, .repair, rfl, rfl,
     by decide +kernel, by decide +kernel, by decide +kernel⟩,
   ⟨0, _, 1, 3, withClips [{ clip0 with order := some 5, extents := 2, sums := some [1, 2] }], _, .read, rfl, rfl,
     by decide +kernel, by decide +kernel⟩⟩

/-- Values that meet the hypotheses of `Obligations.BindAndUnbind`. -/
theorem witness_BindAndUnbind :
    (∃ (clip : Nat) (named : Nat) (s : State) (c : Clip), s.clip? clip = some c ∧ c.state ≠ .unsupported ∧ c.order =
      none ∧ (named ≤ (6 - c.copies.length) + (c.copies.filter fun x => x.state.reusable).length)) ∧
    (∃ (clip : Nat) (named : Nat) (s : State) (ans : BindAns), (s.clip? clip = none ∧ ans = .notFound ∨ (∃ c, s.clip?
      clip = some c ∧ c.state = .unsupported) ∧ ans = .unsupported ∨ (∃ c, s.clip? clip = some c ∧ c.state ≠
      .unsupported ∧ c.order ≠ none) ∧ ans = .busy ∨ (∃ c, s.clip? clip = some c ∧ c.state ≠ .unsupported ∧ c.order =
      none ∧ (6 - c.copies.length) + (c.copies.filter fun x => x.state.reusable).length < named) ∧ ans = .full)) ∧
    (∃ (clip : Nat) (order : Nat) (s : State) (c : Clip) (r : Clip), s.clip? clip = some c ∧ c.order = some order ∧
      c.held = none ∧ (r = { c with order := none, sums := if c.complete then c.sums else none })) ∧
    (∃ (clip : Nat) (order : Nat) (s : State) (c : Clip) (d : Desc) (r : Clip), s.clip? clip = some c ∧ c.order =
      some order ∧ c.held = some d ∧ r = refreshed { c with order := none } d) ∧
    (∃ (clip : Nat) (order : Nat) (s : State), (∀ c, s.clip? clip = some c → c.order ≠ some order)) :=
  ⟨⟨0, 6, withClips [clip0], _, rfl, by decide +kernel, by decide +kernel, by decide +kernel⟩,
   ⟨0, 1, withClips [{ clip0 with copies := sixCopies }], .full, Or.inr (Or.inr (Or.inr ⟨exSome (by decide +kernel),
     rfl⟩))⟩,
   ⟨0, _, withClips [{ clip0 with order := some 5 }], _, _, rfl, rfl, by decide +kernel, rfl⟩,
   ⟨0, _, withClips [{ clip0 with order := some 5, held := some desc0 }], _, _, _, rfl, rfl, rfl, rfl⟩,
   ⟨0, 5, State.reset, allSome (by decide +kernel)⟩⟩

/-- Values that meet the hypotheses of `Obligations.RecordFieldsAndPurge`, clauses 1 to 10 of those that have some. -/
theorem witness_RecordFieldsAndPurge_1 :
    (∃ (clip : Nat) (n : Nat) (s : State) (c : Clip), s.clip? clip = some c ∧ n ≠ c.blocking) ∧
    (∃ (clip : Nat) (s : State) (c : Clip), s.clip? clip = some c ∧ c.overflow = false) ∧
    (∃ (clip : Nat) (s : State) (c : Clip), s.clip? clip = some c ∧ c.overflow = true) ∧
    (∃ (clip : Nat) (s : State) (c : Clip), s.clip? clip = some c) ∧
    (∃ (clip : Nat) (rep : InspReport) (s : State) (c : Clip) (new : Clip), s.clip? clip = some c ∧ (new =
      (match rep with | .addInspected n => { c with inspected := min (c.inspected + n) 16777215 } | .addSkipped n => { c with skipped := min (c.skipped + n) 16777215 } | .start st => { c with inspected := 0, skipped := 0, insp := st } | .setState st only => if only = none ∨ only = some c.insp then { c with insp := st } else c))) ∧
    (∃ (clip : Nat) (n : Nat) (rep : InspReport) (s : State) (r : Instr), s.clip? clip = none ∧ r ∈
      [Instr.blockingCountReport clip n, .overflowHoldSet clip, .overflowHoldClear clip, .inspectionCountReport clip
      rep]) ∧
    (∃ (clip : Nat) (s : State) (c : Clip), clip < 1024 ∧ s.clip? clip = some c) ∧
    (∃ (clip : Nat) (serial : Serial) (made : Nat) (s : State), s.sameClip clip serial made = none) ∧
    (∃ (clip : Nat) (serial : Serial) (made : Nat) (s : State) (c : Clip), s.sameClip clip serial made = some c) ∧
    (∃ (q : Req) (clip : Nat) (slot : LookIx) (s : State) (r : Instr), clip < 1024 ∧ s.clip? clip = none ∧ r ∈
      [Instr.assignLook q clip slot.val, .stampLook q clip]) :=
  ⟨⟨0, 1, withClips [clip0], _, rfl, by decide +kernel⟩,
   ⟨0, withClips [clip0], _, rfl, by decide +kernel⟩,
   ⟨0, withClips [{ clip0 with overflow := true }], _, rfl, by decide +kernel⟩,
   ⟨0, withClips [clip0], _, rfl⟩,
   ⟨0, .addInspected 1, withClips [clip0], _, _, rfl, rfl⟩,
   ⟨0, 1, .addInspected 1, State.reset, .blockingCountReport 0 1, by decide +kernel, by decide +kernel⟩,
   ⟨1023, withClips [{ clip0 with id := 1023 }], _, by decide +kernel, rfl⟩,
   ⟨0, 7, 4, withClips [clip0], by decide +kernel⟩,
   ⟨0, 7, 0, withClips [clip0], _, rfl⟩,
   ⟨⟨0, 0⟩, 1023, 0, State.reset, .stampLook ⟨0, 0⟩ 1023, by decide +kernel, by decide +kernel, by decide +kernel⟩⟩

/-- Values that meet the hypotheses of `Obligations.RecordFieldsAndPurge`, clauses 11 to 19 of those that have some. -/
theorem witness_RecordFieldsAndPurge_2 :
    (∃ (count : Nat), 1 ≤ count ∧ count ≤ 3) ∧
    (∃ (count : Nat), (count < 1 ∨ 3 < count)) ∧
    (∃ (serial : Serial) (s : State), (∀ c ∈ s.cat.clips, c.serial ≠ serial)) ∧
    (∃ (serial : Serial) (s : State) (inBay : Bool), (s.cat.clips.map (·.id)).Nodup ∧ (inBay = true ∨ (∃ c ∈
      s.cat.clips, c.serial = serial))) ∧
    (∃ (serial : Serial) (s : State), s.clipsOf serial = []) ∧
    (∃ (serial : Serial) (s : State), s.clipsOf serial ≠ [] ∧ (∀ c ∈ s.cat.clips, c.serial = serial → c.order = none
      ∧ c.insp ≠ .reinspecting)) ∧
    (∃ (q : Req) (serial : Serial) (s : State) (c : Clip) (r : Instr), c ∈ s.cat.clips ∧ c.serial = serial ∧ c.order
      ≠ none ∧ r ∈ [Instr.purgeCard q serial, .purgeBayAnswer q serial false]) ∧
    (∃ (q : Req) (serial : Serial) (s : State) (c : Clip) (r : Instr), c ∈ s.cat.clips ∧ c.serial = serial ∧ c.insp =
      .reinspecting ∧ (∀ d ∈ s.cat.clips, d.serial = serial → d.order = none) ∧ r ∈ [Instr.purgeCard q serial,
      .purgeBayAnswer q serial false]) ∧
    (∃ (serial : Serial) (s : State) (ids : List Nat), (∀ c ∈ s.cat.clips, c.serial = serial → c.order = none ∧
      c.insp ≠ .reinspecting) ∧ ids = (s.clipsOf serial).map (·.id)) :=
  ⟨⟨3, by decide +kernel, by decide +kernel⟩,
   ⟨4, by decide +kernel⟩,
   ⟨7, State.reset, by decide +kernel⟩,
   ⟨7, withClips [clip0], false, by decide +kernel, by decide +kernel⟩,
   ⟨7, State.reset, by decide +kernel⟩,
   ⟨7, withClips [clip0], by decide +kernel, by decide +kernel⟩,
   ⟨⟨0, 0⟩, 7, withClips [{ clip0 with order := some 5 }], { clip0 with order := some 5 }, .purgeCard ⟨0, 0⟩ 7,
     by decide +kernel, by decide +kernel, by decide +kernel, by decide +kernel⟩,
   ⟨⟨0, 0⟩, 7, withClips [{ clip0 with insp := .reinspecting }], { clip0 with insp := .reinspecting }, .purgeCard ⟨0,
     0⟩ 7, by decide +kernel, by decide +kernel, by decide +kernel, by decide +kernel, by decide +kernel⟩,
   ⟨7, withClips [clip0], _, by decide +kernel, rfl⟩⟩

/-- Values that meet the hypotheses of `Obligations.Posting`, clauses 1 to 9 of those that have some. -/
theorem witness_Posting_1 :
    (∃ (q : Req) (clip : Nat) (ps : List Port) (prio : Nat) (s : State) (o : Order), clip < 1024 ∧ 1 ≤ ps.length ∧
      ps.length ≤ 3 ∧ ps.Nodup ∧ s.ods.orders.length < 64 ∧ o =
      { id := s.ods.freshId, clip := clip, dests := ps, priority := min 3 prio, station := q.st, posting := some (.single q (decide (prio > 3))) }) ∧
    (∃ (clip : Nat) (dests : List Nat), (1024 ≤ clip ∨ dests.length < 1 ∨ 3 < dests.length ∨ ¬dests.Nodup ∨ (∃ d ∈
      dests, 4 ≤ d))) ∧
    (∃ (clip : Nat) (ps : List Port) (s : State), clip < 1024 ∧ 1 ≤ ps.length ∧ ps.length ≤ 3 ∧ ps.Nodup ∧ 64 ≤
      s.ods.orders.length) ∧
    (∃ (q : Req) (ps : List Port) (prio : Nat) (x : CardPost), 1 ≤ ps.length ∧ ps.length ≤ 3 ∧ ps.Nodup ∧ x =
      { q := q, dests := ps, prio := min 3 prio, clamped := decide (prio > 3) }) ∧
    (∃ (q : Req) (s : State) (x : CardPost), s.ods.post? q = some x) ∧
    (∃ (q : Req) (c : Nat) (s : State) (x : CardPost) (o : Order), s.ods.post? q = some x ∧ s.ods.orders.length < 64
      ∧ o =
      { id := s.ods.freshId, clip := c, dests := x.dests, priority := x.prio, station := q.st, posting := some (.card q) }) ∧
    (∃ (order : Nat) (serial : Serial) (letter : Letter) (s : State) (o : Order) (o' : Order) (q : Req) (clamped :
      Bool), (s.ods.orders.find? (fun o => o.id = order && o.state = .reserved) = some o) ∧ o.posting = some (.single
      q clamped) ∧ o' = { o with serial := serial, letter := letter, state := .pending, posting := none }) ∧
    (∃ (order : Nat) (ans : BindAns) (s : State) (o : Order) (q : Req) (clamped : Bool) (a : Answer),
      (s.ods.orders.find? (fun o => o.id = order && o.state = .reserved) = some o) ∧ o.posting = some (.single q
      clamped) ∧ (ans, a) ∈ [(BindAns.notFound, Answer.refused .notFound none []), (.unsupported, .refused .state
      (some .unsupported) []), (.busy, .refused .busy none []), (.full, .refused .full none [])]) ∧
    (∃ (order : Nat) (s : State), (s.ods.orders.find? (fun o => o.id = order && o.state = .reserved) = none)) :=
  ⟨⟨⟨0, 0⟩, 1023, [0, 1, 2], 4, withOrders .hold (List.replicate 63 order0), _, by decide +kernel, by decide +kernel,
     by decide +kernel, by decide +kernel, by decide +kernel, rfl⟩,
   ⟨0, [0, 0], by decide +kernel⟩,
   ⟨0, [0], withOrders .hold (List.replicate 64 order0), by decide +kernel, by decide +kernel, by decide +kernel,
     by decide +kernel, by decide +kernel⟩,
   ⟨⟨0, 0⟩, [3], 3, _, by decide +kernel, by decide +kernel, by decide +kernel, rfl⟩,
   ⟨⟨0, 0⟩, withPosts [post0] [], _, rfl⟩,
   ⟨⟨0, 0⟩, 1, withPosts [post0] [order0], _, _, rfl, by decide +kernel, rfl⟩,
   ⟨5, 7, 0, withOrders .hold [{ order0 with state := .reserved, posting := some (.single ⟨0, 0⟩ false) }], _, _, ⟨0,
     0⟩, _, rfl, rfl, rfl⟩,
   ⟨5, .busy, withOrders .hold [{ order0 with state := .reserved, posting := some (.single ⟨0, 0⟩ false) }], _, ⟨0,
     0⟩, _, .refused .busy none [], rfl, rfl, by decide +kernel⟩,
   ⟨5, State.reset, by decide +kernel⟩⟩

/-- Values that meet the hypotheses of `Obligations.Posting`, clauses 10 to 17 of those that have some. -/
theorem witness_Posting_2 :
    (∃ (d : Dispatcher), d.counter < 65536 ∧ d.orders.length + d.leaving.length < 65536) ∧
    (∃ (d : Dispatcher) (o : Order), d.counter < 65536 ∧ d.orders.length + d.leaving.length < 65536 ∧ o ∈ d.orders) ∧
    (∃ (d : Dispatcher) (l : Leaving), d.counter < 65536 ∧ d.orders.length + d.leaving.length < 65536 ∧ l ∈
      d.leaving) ∧
    (∃ (order : Nat) (serial : Serial) (letter : Letter) (s : State) (o : Order) (o' : Order) (q : Req) (x :
      CardPost), (s.ods.orders.find? (fun o => o.id = order && o.state = .reserved) = some o) ∧ o.posting = some
      (.card q) ∧ s.ods.post? q = some x ∧ o' =
      { o with serial := serial, letter := letter, state := .pending, posting := none }) ∧
    (∃ (order : Nat) (ans : BindAns) (s : State) (o : Order) (q : Req) (x : CardPost), (s.ods.orders.find? (fun o =>
      o.id = order && o.state = .reserved) = some o) ∧ o.posting = some (.card q) ∧ s.ods.post? q = some x ∧ (∀
      serial letter, ans ≠ .bound serial letter)) ∧
    (∃ (x : CardPost), x.left = []) ∧
    (∃ (s : State) (x : CardPost) (c : Nat) (rest : List Nat), x.left = c :: rest ∧ 64 ≤ s.ods.orders.length) ∧
    (∃ (s : State) (x : CardPost) (c : Nat) (rest : List Nat) (o : Order), x.left = c :: rest ∧ s.ods.orders.length <
      64 ∧ o =
      { id := s.ods.freshId, clip := c, dests := x.dests, priority := x.prio, station := x.q.st, posting := some (.card x.q) }) :=
  ⟨⟨{ Dispatcher.reset with counter := 65535 }, by decide +kernel, by decide +kernel⟩,
   ⟨{ Dispatcher.reset with orders := [order0] }, order0, by decide +kernel, by decide +kernel, by decide +kernel⟩,
   ⟨{ Dispatcher.reset with leaving := [⟨order0, .station, true⟩] }, ⟨order0, .station, true⟩, by decide +kernel,
     by decide +kernel, by decide +kernel⟩,
   ⟨5, 7, 0, withPosts [post0] [{ order0 with state := .reserved, posting := some (.card ⟨0, 0⟩) }], _, _, ⟨0, 0⟩,
     post0, rfl, by decide +kernel, by decide +kernel, rfl⟩,
   ⟨5, .busy, withPosts [post0] [{ order0 with state := .reserved, posting := some (.card ⟨0, 0⟩) }], _, ⟨0, 0⟩,
     post0, rfl, by decide +kernel, by decide +kernel, (by intro _ _ h; cases h)⟩,
   ⟨post0, by decide +kernel⟩,
   ⟨withPosts [post0] (List.replicate 64 order0), { post0 with left := [0] }, 0, [], by decide +kernel,
     by decide +kernel⟩,
   ⟨withPosts [post0] [order0], { post0 with left := [1] }, 1, [], _, by decide +kernel, by decide +kernel, rfl⟩⟩

/-- Values that meet the hypotheses of `Obligations.ViewsPassesAndModes`, clauses 1 to 6 of those that have some. -/
theorem witness_ViewsPassesAndModes_1 :
    (∃ (b : Bay) (view : BayView) (s : State) (u : State), (u =
      { s with ods := { s.ods with bays := upd s.ods.bays b fun _ => view } })) ∧
    (∃ (p : Port) (view : DestView) (s : State) (u : State), (u =
      { s with ods := { s.ods with dests := upd s.ods.dests p fun _ => view } })) ∧
    (∃ (s : State), s.ods.mode ≠ .run) ∧
    (∃ (s : State), s.ods.mode = .run ∧ s.ods.pass = none) ∧
    (∃ (order : Nat) (s : State), (∀ p, s.ods.pass = some p → order ∉ p.awaiting)) ∧
    (∃ (order : Nat) (s : State) (p : Pass), s.ods.pass = some p ∧ order ∈ p.awaiting ∧ (∃ n ∈ p.awaiting, n ≠
      order)) :=
  ⟨⟨0, { state := .present, serial := some 7, reading := false }, State.reset, _, rfl⟩,
   ⟨0, { state := .ready, vol := some 9, qual := .untested, indexFull := false, free := 0 }, State.reset, _, rfl⟩,
   ⟨State.reset, by decide +kernel⟩,
   ⟨withOrders .run [], by decide +kernel, by decide +kernel⟩,
   ⟨5, State.reset, allSome (by decide +kernel)⟩,
   ⟨5, withPass { awaiting := [5, 6], reads := [], again := false }, _, rfl, by decide +kernel, by decide +kernel⟩⟩

/-- Values that meet the hypotheses of `Obligations.ViewsPassesAndModes`, clauses 7 to 12 of those that have some. -/
theorem witness_ViewsPassesAndModes_2 :
    (∃ (order : Nat) (rec : Option Clip) (s : State) (p : Pass) (t : State), s.ods.pass = some p ∧ order ∈ p.awaiting
      ∧ (∀ n ∈ p.awaiting, n = order) ∧ t = State.passLoop (p.reads ++ [(order, rec)]) 4
      { s with ods := { s.ods with pass := none } }) ∧
    (∃ (s : State) (m : PartMode), s.ods.mode = .run ∧ (m =
      (if ∃ o ∈ s.ods.orders, o.state.running = true then PartMode.holding else .hold))) ∧
    (∃ (mode : Nat) (s : State), (mode = 1 ∧ s.ods.mode = .run ∨ mode = 3 ∧ s.ods.mode ≠ .run)) ∧
    (∃ (mode : Nat), mode ≠ 1 ∧ mode ≠ 3) ∧
    (∃ (s : State), s.ods.mode = .holding ∧ (∀ o ∈ s.ods.orders, o.state.running = false)) ∧
    (∃ (s : State), (s.ods.mode ≠ .holding ∨ (∃ o ∈ s.ods.orders, o.state.running = true))) :=
  ⟨⟨5, none, withPass { awaiting := [5], reads := [], again := false }, _, _, rfl, by decide +kernel,
     by decide +kernel, rfl⟩,
   ⟨withOrders .run [run0], _, by decide +kernel, rfl⟩,
   ⟨3, State.reset, by decide +kernel⟩,
   ⟨2, by decide +kernel, by decide +kernel⟩,
   ⟨withOrders .holding [order0], by decide +kernel, by decide +kernel⟩,
   ⟨State.reset, by decide +kernel⟩⟩

/-- Values that meet the hypotheses of `Obligations.DispatchPasses`, clauses 1 to 10 of those that have some. -/
theorem witness_DispatchPasses_1 :
    (∃ (d : Dispatcher) (serial : Serial) (b : Bay), d.bayOf serial = some b) ∧
    (∃ (d : Dispatcher) (serial : Serial) (b : Bay), d.bayOf serial = none ∧ d.bays[b].serial = some serial) ∧
    (∃ (d : Dispatcher), d.mode ≠ .run) ∧
    (∃ (d : Dispatcher) (o : Order), d.mode = .run ∧ d.bayOf o.serial = none) ∧
    (∃ (d : Dispatcher) (o : Order) (b : Bay), d.mode = .run ∧ d.bayOf o.serial = some b ∧ (d.bays[b].reading = true
      ∨ (∃ x ∈ d.orders, x.state = .active ∧ x.serial = o.serial))) ∧
    (∃ (d : Dispatcher) (reads : List (Nat × Option Clip)) (o : Order) (b : Bay) (c : Clip) (n : Disposition → Nat),
      d.mode = .run ∧ d.bayOf o.serial = some b ∧ d.bays[b].reading = false ∧ (∀ x ∈ d.orders, ¬(x.state = .active ∧
      x.serial = o.serial)) ∧ readOf reads o = some c ∧ (n = (fun k => (o.dests.filter fun p => disposition
      d.dests[p] c = k).length))) ∧
    (∃ (s : State), s.ods.mode ≠ .run) ∧
    (∃ (s : State) (p : Pass), s.ods.mode = .run ∧ s.ods.pass = some p) ∧
    (∃ (s : State) (asks : List Order), s.ods.mode = .run ∧ s.ods.pass = none ∧ (asks = s.ods.orders.filter (fun o =>
      o.state = .pending && s.ods.early o = none))) ∧
    (∃ (s : State) (reads : List (Nat × Option Clip)) (u : State), (u =
      { s with ods := { s.ods with orders := s.ods.orders.map fun o => if o.state = .pending then { o with cause := s.ods.causeOf reads o } else o } })) :=
  ⟨⟨ready0.ods, 0, _, rfl⟩,
   ⟨{ ready0.ods with bays := upd ready0.ods.bays 0 fun _ => { state := .listing, serial := some 0, reading := false } },
     0, 0, by decide +kernel, by decide +kernel⟩,
   ⟨{ ready0.ods with mode := .hold }, by decide +kernel⟩,
   ⟨ready0.ods, { order0 with serial := 8 }, by decide +kernel, by decide +kernel⟩,
   ⟨{ ready0.ods with bays := upd ready0.ods.bays 0 fun _ => { state := .present, serial := some 0, reading := true } },
     order0, _, by decide +kernel, rfl, by decide +kernel⟩,
   ⟨ready0.ods, reads0, order0, _, _, _, by decide +kernel, rfl, by decide +kernel, by decide +kernel, rfl, rfl⟩,
   ⟨State.reset, by decide +kernel⟩,
   ⟨{ ready0 with ods := { ready0.ods with pass := some { awaiting := [0], reads := [], again := false } } }, _,
     by decide +kernel, rfl⟩,
   ⟨ready0, _, by decide +kernel, by decide +kernel, rfl⟩,
   ⟨ready0, reads0, _, rfl⟩⟩

/-- Values that meet the hypotheses of `Obligations.DispatchPasses`, clauses 11 to 19 of those that have some. -/
theorem witness_DispatchPasses_2 :
    (∃ (s : State) (reads : List (Nat × Option Clip)) (u : State), (u =
      { s with ods := { s.ods with orders := s.ods.orders.map fun o => if o.state = .pending then { o with cause := s.ods.causeOf reads o } else o } })
      ∧ (u.ods.freeChan = none ∨ (∀ o ∈ u.ods.orders, u.ods.dispatchable reads o = false))) ∧
    (∃ (s : State) (reads : List (Nat × Option Clip)) (u : State) (ch : Chan) (o : Order) (c : Clip), (u =
      { s with ods := { s.ods with orders := s.ods.orders.map fun o => if o.state = .pending then { o with cause := s.ods.causeOf reads o } else o } })
      ∧ u.ods.freeChan = some ch ∧ bestOrder (u.ods.orders.filter (u.ods.dispatchable reads)) = some o ∧ readOf reads
      o = some c) ∧
    (∃ (s : State) (t : State) (reads : List (Nat × Option Clip)), t = State.passLoop reads 4 s) ∧
    (∃ (s : State) (t : State) (reads : List (Nat × Option Clip)) (o : Order), t = State.passLoop reads 4 s ∧ o ∈
      t.ods.orders ∧ o.state = .pending) ∧
    (∃ (ch : Chan) (c : Chan), c < ch) ∧
    (∃ (s : State) (o : Order) (x : Order), (s.ods.orders.map (·.id)).Nodup ∧ o ∈ s.ods.orders ∧ x ∈ s.ods.orders ∧
      x.id ≠ o.id) ∧
    (∃ (s : State) (ch : Chan) (o : Order) (o' : Order), o ∈ s.ods.orders ∧ o' =
      { o with state := .active, chan := some ch, cause := none }) ∧
    (∃ (s : State) (ch : Chan) (o : Order) (o' : Order) (y : Chan), o ∈ s.ods.orders ∧ o' =
      { o with state := .active, chan := some ch, cause := none } ∧ y ≠ ch) ∧
    (∃ (s : State) (ch : Chan) (o : Order) (c : Clip) (o' : Order) (x : Dest), o ∈ s.ods.orders ∧ o' =
      { o with state := .active, chan := some ch, cause := none } ∧ x ∈ s.ods.judge o c) :=
  ⟨⟨ready0, [], _, rfl, by decide +kernel⟩,
   ⟨ready0, reads0, _, 0, _, _, rfl, by decide +kernel, rfl, rfl⟩,
   ⟨ready0, _, reads0, rfl⟩,
   ⟨ready0, _, [], { order0 with cause := none }, rfl, by decide +kernel, by decide +kernel⟩,
   ⟨2, 1, by decide +kernel⟩,
   ⟨withOrders .run [order0, { order0 with id := 6 }], order0, { order0 with id := 6 }, by decide +kernel,
     by decide +kernel, by decide +kernel, by decide +kernel⟩,
   ⟨withOrders .run [order0], 0, order0, _, by decide +kernel, rfl⟩,
   ⟨withOrders .run [order0], 0, order0, _, 2, by decide +kernel, rfl, by decide +kernel⟩,
   ⟨ready0, 0, order0, { clip0 with required := 1 }, _, ⟨0, .write, some 9⟩, by decide +kernel, rfl,
     by decide +kernel⟩⟩

/-- Values that meet the hypotheses of `Obligations.OrderProgressAndAborts`, clauses 1 to 9 of those that have some. -/
theorem witness_OrderProgressAndAborts_1 :
    (∃ (order : Nat) (s : State) (o : Order) (o' : Order), s.ods.seen order = some o ∧ o.state = .active ∧ o' =
      { o with state := .verifying }) ∧
    (∃ (order : Nat) (s : State) (o : Order) (o' : Order), s.ods.seen order = some o ∧ o.state = .verifying ∧ o' =
      { o with state := .repairing }) ∧
    (∃ (order : Nat) (s : State) (o : Order) (o' : Order), s.ods.seen order = some o ∧ o.state = .repairing ∧ o' =
      { o with state := .verifying }) ∧
    (∃ (order : Nat) (s : State), (∀ o, s.ods.seen order = some o → o.state ≠ .active)) ∧
    (∃ (order : Nat) (s : State), (∀ o, s.ods.seen order = some o → o.state ≠ .verifying)) ∧
    (∃ (order : Nat) (s : State), (∀ o, s.ods.seen order = some o → o.state ≠ .repairing)) ∧
    (∃ (ch : Chan) (order : Nat) (s : State) (o : Order), s.ods.seen order = some o ∧ o.chan = some ch ∧ o.ending =
      none) ∧
    (∃ (ch : Chan) (order : Nat) (s : State), (∀ o, s.ods.seen order = some o → o.chan ≠ some ch ∨ o.ending ≠ none)) ∧
    (∃ (order : Nat) (s : State) (o : Order) (kind : EndKind) (ch : Chan), (s.ods.leaving.find? (fun l => l.order.id
      = order) = none) ∧ s.ods.seen order = some o ∧ o.ending = some kind ∧ o.chan = some ch) :=
  ⟨⟨5, withOrders .run [run0], _, _, rfl, by decide +kernel, rfl⟩,
   ⟨5, withOrders .run [{ run0 with state := .verifying }], _, _, rfl, by decide +kernel, rfl⟩,
   ⟨5, withOrders .run [{ run0 with state := .repairing }], _, _, rfl, by decide +kernel, rfl⟩,
   ⟨5, State.reset, allSome (by decide +kernel)⟩,
   ⟨5, State.reset, allSome (by decide +kernel)⟩,
   ⟨5, State.reset, allSome (by decide +kernel)⟩,
   ⟨_, 5, withOrders .run [run0], _, rfl, rfl, by decide +kernel⟩,
   ⟨0, 5, State.reset, allSome (by decide +kernel)⟩,
   ⟨5, withOrders .run [{ run0 with ending := some .complete }], _, _, _, by decide +kernel, rfl, rfl, rfl⟩⟩

/-- Values that meet the hypotheses of `Obligations.OrderProgressAndAborts`, clauses 10 to 18 of those that have some. -/
theorem witness_OrderProgressAndAborts_2 :
    (∃ (order : Nat) (s : State), (s.ods.leaving.find? (fun l => l.order.id = order) = none) ∧ (∀ o, s.ods.seen order
      = some o → o.ending = none)) ∧
    (∃ (order : Nat) (s : State) (o : Order), s.ods.seen order = some o ∧ o.ending = none ∧ o.state = .pending) ∧
    (∃ (order : Nat) (s : State) (o : Order) (ch : Chan), s.ods.seen order = some o ∧ o.ending = none ∧ o.state ≠
      .pending ∧ o.abort = false ∧ o.chan = some ch) ∧
    (∃ (order : Nat) (s : State) (o : Order), s.ods.seen order = some o ∧ o.ending = none ∧ o.state ≠ .pending ∧
      o.abort = true) ∧
    (∃ (order : Nat) (s : State), s.ods.seen order = none) ∧
    (∃ (order : Nat) (s : State) (l : Leaving), (s.ods.leaving.find? (fun l => l.order.id = order) = some l)) ∧
    (∃ (order : Nat) (s : State) (o : Order), s.ods.seen order = some o ∧ o.state = .pending) ∧
    (∃ (order : Nat) (s : State), (∀ o, s.ods.seen order = some o → o.state ≠ .pending)) ∧
    (∃ (s : State) (gone : List Order), (s.ods.orders.map (·.id)).Nodup ∧ (gone = s.ods.orders.filter (fun o =>
      o.state = .pending))) :=
  ⟨⟨5, State.reset, by decide +kernel, allSome (by decide +kernel)⟩,
   ⟨5, withOrders .run [order0], _, rfl, by decide +kernel, by decide +kernel⟩,
   ⟨5, withOrders .run [run0], _, _, rfl, by decide +kernel, by decide +kernel, by decide +kernel, rfl⟩,
   ⟨5, withOrders .run [{ run0 with abort := true }], _, rfl, by decide +kernel, by decide +kernel,
     by decide +kernel⟩,
   ⟨5, State.reset, by decide +kernel⟩,
   ⟨5, withLeaving [⟨order0, .station, true⟩] [], _, rfl⟩,
   ⟨5, withOrders .run [order0], _, rfl, by decide +kernel⟩,
   ⟨5, State.reset, allSome (by decide +kernel)⟩,
   ⟨withOrders .run [order0, { run0 with id := 6 }], _, by decide +kernel, rfl⟩⟩

/-- Values that meet the hypotheses of `Obligations.ChannelAndReadStart`, clauses 1 to 8 of those that have some. -/
theorem witness_ChannelAndReadStart_1 :
    (∃ (ch : Chan) (s : State), (s.chan ch).phase = .idle) ∧
    (∃ (ch : Chan) (s : State), (s.chan ch).phase ≠ .idle) ∧
    (∃ (ch : Chan) (order : Nat) (s : State) (c : Channel), c = s.chan ch ∧ c.phase = .starting ∧ c.order = some
      order ∧ c.lookup = true) ∧
    (∃ (ch : Chan) (order : Nat) (p : Port) (s : State) (c : Channel) (e : Elem), c = s.chan ch ∧ c.phase = .starting
      ∧ c.order = some order ∧ c.elem? p = some e ∧ e.phase = .reserving) ∧
    (∃ (ch : Chan) (order : Nat) (p : Port) (s : State) (c : Channel) (e : Elem), c = s.chan ch ∧ c.phase ≠ .idle ∧
      c.order = some order ∧ c.elem? p = some e ∧ e.phase = .reserving) ∧
    (∃ (ch : Chan) (order : Nat) (p : Port) (s : State) (c : Channel) (e : Elem), c = s.chan ch ∧ c.phase = .starting
      ∧ c.order = some order ∧ c.elem? p = some e ∧ e.phase = .creating ∧ e.lossSeen = false) ∧
    (∃ (ch : Chan) (order : Nat) (p : Port) (s : State) (c : Channel) (e : Elem) (ans : CreateAns) (why : DropCause),
      c = s.chan ch ∧ c.phase ≠ .idle ∧ c.order = some order ∧ c.elem? p = some e ∧ e.phase = .creating ∧ (ans, why)
      ∈ [(CreateAns.full, DropCause.full), (.busy, .busy)]) ∧
    (∃ (ch : Chan) (order : Nat) (p : Port) (s : State) (c : Channel) (e : Elem), c = s.chan ch ∧ c.phase ≠ .idle ∧
      c.phase ≠ .ending ∧ c.order = some order ∧ c.elem? p = some e ∧ e.phase = .header) :=
  ⟨⟨0, State.reset, by decide +kernel⟩,
   ⟨0, withChan chan0, by decide +kernel⟩,
   ⟨0, _, withChan { chan0 with phase := .starting, lookup := true }, _, rfl, by decide +kernel, rfl,
     by decide +kernel⟩,
   ⟨0, _, 0, withChan { chan0 with phase := .starting, dests := [{ elem0 with phase := .reserving }] }, _, _, rfl,
     by decide +kernel, rfl, rfl, by decide +kernel⟩,
   ⟨0, _, 0, withChan { chan0 with phase := .starting, dests := [{ elem0 with phase := .reserving }] }, _, _, rfl,
     by decide +kernel, rfl, rfl, by decide +kernel⟩,
   ⟨0, _, 0, withChan { chan0 with phase := .starting, dests := [{ elem0 with phase := .creating }] }, _, _, rfl,
     by decide +kernel, rfl, rfl, by decide +kernel, by decide +kernel⟩,
   ⟨0, _, 0, withChan { chan0 with phase := .starting, dests := [{ elem0 with phase := .creating }] }, _, _, .busy,
     .busy, rfl, by decide +kernel, rfl, rfl, by decide +kernel, by decide +kernel⟩,
   ⟨0, _, 0, withChan { chan0 with phase := .starting }, _, _, rfl, by decide +kernel, by decide +kernel, rfl, rfl,
     by decide +kernel⟩⟩

/-- Values that meet the hypotheses of `Obligations.ChannelAndReadStart`, clauses 9 to 16 of those that have some. -/
theorem witness_ChannelAndReadStart_2 :
    (∃ (ch : Chan) (order : Nat) (s : State) (c : Channel) (i : ReadInfo), c = s.chan ch ∧ c.phase = .starting ∧
      c.order = some order ∧ c.asked = true ∧ c.begun = false ∧ i.mode = .record) ∧
    (∃ (ch : Chan) (order : Nat) (s : State) (c : Channel) (i : ReadInfo), c = s.chan ch ∧ c.phase = .starting ∧
      c.order = some order ∧ c.asked = true ∧ c.begun = false ∧ i.mode = .compare) ∧
    (∃ (ch : Chan) (order : Nat) (s : State) (c : Channel), c = s.chan ch ∧ c.phase = .starting ∧ c.order = some
      order ∧ c.asked = true ∧ c.begun = false) ∧
    (∃ (ch : Chan) (order : Nat) (s : State) (c : Channel), c = s.chan ch ∧ c.phase = .starting ∧ c.order = some
      order ∧ c.mode = some .compare ∧ c.claimAsked = false ∧ c.claim = .none) ∧
    (∃ (ch : Chan) (tag : Nat) (s : State) (c : Channel), c = s.chan ch ∧ c.claimTag = tag ∧ c.claimAsked = true ∧
      c.claim ≠ .held ∧ c.phase = .starting) ∧
    (∃ (ch : Chan) (tag : Nat) (s : State) (c : Channel), c = s.chan ch ∧ c.claimTag = tag ∧ c.claimAsked = true ∧
      c.claim = .none ∧ c.phase = .starting) ∧
    (∃ (ch : Chan) (tag : Nat) (s : State) (c : Channel), c = s.chan ch ∧ c.claimTag = tag ∧ (c.claimAsked = true ∨
      c.claim ≠ .none) ∧ (c.phase = .starting ∨ c.phase = .reading)) ∧
    (∃ (ch : Chan) (tag : Nat) (s : State) (c : Channel), c = s.chan ch ∧ (c.claimTag ≠ tag ∨ (c.claimAsked = false ∧
      c.claim = .none))) :=
  ⟨⟨0, _, withChan { chan0 with phase := .starting, asked := true }, _, info0, rfl, by decide +kernel, rfl,
     by decide +kernel, by decide +kernel, by decide +kernel⟩,
   ⟨0, _, withChan { chan0 with phase := .starting, asked := true }, _, { info0 with mode := .compare }, rfl,
     by decide +kernel, rfl, by decide +kernel, by decide +kernel, by decide +kernel⟩,
   ⟨0, _, withChan { chan0 with phase := .starting, asked := true }, _, rfl, by decide +kernel, rfl,
     by decide +kernel, by decide +kernel⟩,
   ⟨0, _, withChan { chan0 with phase := .starting, mode := some .compare }, _, rfl, by decide +kernel, rfl,
     by decide +kernel, by decide +kernel, by decide +kernel⟩,
   ⟨0, 3, withChan { chan0 with phase := .starting, claimTag := 3, claimAsked := true }, _, rfl, by decide +kernel,
     by decide +kernel, by decide +kernel, by decide +kernel⟩,
   ⟨0, 3, withChan { chan0 with phase := .starting, claimTag := 3, claimAsked := true }, _, rfl, by decide +kernel,
     by decide +kernel, by decide +kernel, by decide +kernel⟩,
   ⟨0, 3, withChan { chan0 with claimTag := 3, claim := .held }, _, rfl, by decide +kernel, by decide +kernel,
     by decide +kernel⟩,
   ⟨0, 3, withChan { chan0 with claimTag := 3 }, _, rfl, by decide +kernel⟩⟩

/-- Values that meet the hypotheses of `Obligations.ChannelAndReadStart`, clauses 17 to 22 of those that have some. -/
theorem witness_ChannelAndReadStart_3 :
    (∃ (ch : Chan) (order : Nat) (p : Port) (s : State) (c : Channel) (e : Elem), c = s.chan ch ∧ c.phase ≠ .idle ∧
      c.order = some order ∧ c.elem? p = some e ∧ e.phase = .creating) ∧
    (∃ (ch : Chan) (order : Nat) (p : Port) (s : State) (c : Channel) (e : Elem) (x : CopyState × CopyCause), c =
      s.chan ch ∧ c.phase ≠ .idle ∧ c.order = some order ∧ c.elem? p = some e ∧ e.phase = .creating ∧ (e.lossSeen =
      true ∧ x = (CopyState.failed, CopyCause.lostDrive) ∨ e.lossSeen = false ∧ c.phase = .ending ∧ x = endState
      (c.ended.getD .aborted))) ∧
    (∃ (ch : Chan) (order : Nat) (p : Port) (s : State) (c : Channel) (e : Elem) (ans : WriteAns), c = s.chan ch ∧
      c.phase ≠ .idle ∧ c.order = some order ∧ c.elem? p = some e ∧ e.phase = .header ∧ (ans = WriteAns.withdrawn ∨
      ans = .done ∧ c.phase = .ending)) ∧
    (∃ (ch : Chan) (order : Nat) (p : Port) (s : State) (c : Channel) (e : Elem), c = s.chan ch ∧ c.phase ≠ .idle ∧
      c.order = some order ∧ c.elem? p = some e ∧ e.phase = .header ∧ (∀ b ∈ s.sts.bufs, b.owner = ch → p ∉ b.pend)) ∧
    (∃ (s : State) (ch : Chan) (c : Channel), c = s.chan ch ∧ c.phase = .starting ∧ c.lookup = false ∧ c.asked =
      false ∧ (∀ e ∈ c.dests, e.phase ≠ .reserving ∧ e.phase ≠ .creating ∧ e.phase ≠ .header)) ∧
    (∃ (s : State) (ch : Chan) (c : Channel), c = s.chan ch ∧ c.phase = .starting ∧ (c.lookup = true ∨ c.asked = true
      ∨ ∃ e ∈ c.dests, e.phase = .reserving ∨ e.phase = .creating ∨ e.phase = .header)) :=
  ⟨⟨0, _, 0, withChan { chan0 with phase := .starting, dests := [{ elem0 with phase := .creating }] }, _, _, rfl,
     by decide +kernel, rfl, rfl, by decide +kernel⟩,
   ⟨0, _, 0, withChan
     { chan0 with phase := .ending, ended := some .aborted, dests := [{ elem0 with phase := .creating }] }, _, _, _,
     rfl, by decide +kernel, rfl, rfl, by decide +kernel, Or.inr ⟨by decide +kernel, by decide +kernel, rfl⟩⟩,
   ⟨0, _, 0, withChan { chan0 with phase := .ending, ended := some .aborted }, _, _, .done, rfl, by decide +kernel,
     rfl, rfl, by decide +kernel, by decide +kernel⟩,
   ⟨0, _, 0, withChan { chan0 with phase := .starting }, _, _, rfl, by decide +kernel, rfl, rfl, by decide +kernel,
     by decide +kernel⟩,
   ⟨withChan { chan0 with phase := .starting, dests := [{ elem0 with phase := .writing }] }, 0, _, rfl,
     by decide +kernel, by decide +kernel, by decide +kernel, by decide +kernel⟩,
   ⟨withChan { chan0 with phase := .starting }, 0, _, rfl, by decide +kernel, Or.inr (Or.inr ⟨elem0,
     by decide +kernel, Or.inr (Or.inr rfl)⟩)⟩⟩

/-- Values that meet the hypotheses of `Obligations.StagingStore`, clauses 1 to 7 of those that have some. -/
theorem witness_StagingStore_1 :
    (∃ (ch : Chan) (s : State) (n : Nat), s.sts.lowestFree = some n ∧ s.sts.held ch < 96) ∧
    (∃ (ch : Chan) (s : State), (s.sts.lowestFree = none ∨ 96 ≤ s.sts.held ch)) ∧
    (∃ (ch : Chan) (tag : Nat) (s : State) (c : Channel) (f : Filling), c = s.chan ch ∧ c.fill = some f ∧ f.tag = tag
      ∧ f.num = none) ∧
    (∃ (ch : Chan) (tag : Nat) (s : State) (c : Channel), c = s.chan ch ∧ (∀ f, c.fill = some f → f.tag ≠ tag ∨ f.num
      ≠ none)) ∧
    (∃ (s : State) (n : Nat) (x : Staging), (s.sts.buf? n).isSome ∧ (x =
      { s.sts with bufs := s.sts.bufs.filter fun b => b.num ≠ n }) ∧ x.winner = none) ∧
    (∃ (s : State) (n : Nat) (x : Staging) (w : Waiter), (s.sts.buf? n).isSome ∧ (x =
      { s.sts with bufs := s.sts.bufs.filter fun b => b.num ≠ n }) ∧ x.winner = some w) ∧
    (∃ (s : State) (ch : Chan) (p : Port) (n : Nat) (b : Buffer), s.sts.buf? n = some b ∧ b.owner = ch ∧ p ∈ b.pend ∧
      (∃ x ∈ b.pend, x ≠ p)) :=
  ⟨⟨0, withBufs ((List.range 95).map fun n => { buf0 with num := n }) State.reset, 95, by decide +kernel,
     by decide +kernel⟩,
   ⟨0, withBufs ((List.range 96).map fun n => { buf0 with num := n }) State.reset, by decide +kernel⟩,
   ⟨0, 3, withChan { chan0 with fill := some { fill0 with num := none } }, _, _, rfl, rfl, by decide +kernel,
     by decide +kernel⟩,
   ⟨0, 3, withChan chan0, _, rfl, allSome (by decide +kernel)⟩,
   ⟨withBufs [buf0] State.reset, 0, _, by decide +kernel, rfl, by decide +kernel⟩,
   ⟨{ withBufs [buf0] State.reset with sts := staging0 }, 0, _, _, by decide +kernel, rfl, rfl⟩,
   ⟨withBufs [{ buf0 with pend := [0, 1] }] State.reset, 0, 0, 0, _, rfl, by decide +kernel, by decide +kernel,
     by decide +kernel⟩⟩

/-- Values that meet the hypotheses of `Obligations.StagingStore`, clauses 8 to 14 of those that have some. -/
theorem witness_StagingStore_2 :
    (∃ (s : State) (ch : Chan) (p : Port) (n : Nat) (b : Buffer), s.sts.buf? n = some b ∧ b.owner = ch ∧ p ∈ b.pend ∧
      (∀ x ∈ b.pend, x = p)) ∧
    (∃ (s : State) (ch : Chan) (p : Port) (n : Nat), (∀ b, s.sts.buf? n = some b → b.owner ≠ ch ∨ p ∉ b.pend)) ∧
    (∃ (x : Staging) (b : Buffer), b ∈ x.bufs) ∧
    (∃ (n : Nat) (m : Nat), m < n) ∧
    (∃ (x : Staging) (v : Waiter), v ∈ x.waits) ∧
    (∃ (x : Staging) (w : Waiter), x.winner = some w) ∧
    (∃ (x : Staging) (w : Waiter) (v : Waiter), x.winner = some w ∧ v ∈ x.waits ∧ x.held v.ch < 96) :=
  ⟨⟨withBufs [{ buf0 with pend := [0] }] State.reset, 0, 0, 0, _, rfl, by decide +kernel, by decide +kernel,
     by decide +kernel⟩,
   ⟨withBufs [buf0] State.reset, 0, 0, 0, allSome (by decide +kernel)⟩,
   ⟨staging0, buf0, by decide +kernel⟩,
   ⟨1, 0, by decide +kernel⟩,
   ⟨staging0, waiter0, by decide +kernel⟩,
   ⟨staging0, _, rfl⟩,
   ⟨staging0, _, waiter0, rfl, by decide +kernel, by decide +kernel⟩⟩

/-- Values that meet the hypotheses of `Obligations.ChannelReads`, clauses 1 to 6 of those that have some. -/
theorem witness_ChannelReads_1 :
    (∃ (ch : Chan) (bytes : List Byte) (s : State) (c : Channel) (f : Filling) (num : Nat), c = s.chan ch ∧
      c.burstOut = true ∧ c.phase = .reading ∧ c.fill = some f ∧ f.num = some num ∧ f.pass = .read ∧ f.bytes +
      bytes.length < extentLen c.dataLen f.ext) ∧
    (∃ (ch : Chan) (bytes : List Byte) (s : State) (c : Channel) (f : Filling) (num : Nat) (b : Buffer), c = s.chan
      ch ∧ c.burstOut = true ∧ c.phase = .reading ∧ c.fill = some f ∧ f.num = some num ∧ f.pass = .read ∧ extentLen
      c.dataLen f.ext ≤ f.bytes + bytes.length ∧ c.extents ≤ c.next + 1 ∧ s.sts.buf? num = some b) ∧
    (∃ (ch : Chan) (s : State) (c : Channel), c = s.chan ch ∧ c.burstOut = true ∧ c.phase ≠ .ending) ∧
    (∃ (ch : Chan) (s : State) (c : Channel) (ans : BurstAns), c = s.chan ch ∧ c.burstOut = true ∧ c.phase ≠ .ending
      ∧ (ans = .cardGone ∨ ans = .notBound)) ∧
    (∃ (ch : Chan) (s : State), (s.chan ch).burstOut = false) ∧
    (∃ (ch : Chan) (order : Nat) (ext : Nat) (s : State) (c : Channel) (num : Nat) (b : Buffer) (ans : SumAns) (es :
      List Elem), c = s.chan ch ∧ c.phase = .reading ∧ c.order = some order ∧ (c.summing.find? (fun x => x.2.1 = ext
      && x.2.2 = .read) = some (num, ext, .read)) ∧ (ans = .stored ∨ ans = .equal) ∧ ext + 1 ≠ c.extents ∧ s.sts.buf?
      num = some b ∧ (es = c.dests.filter (fun e => e.phase = .writing)) ∧ es ≠ []) :=
  ⟨⟨0, [1], withChan { chan0 with burstOut := true, fill := some { fill0 with bytes := 4998 } }, _, _, _, rfl,
     by decide +kernel, by decide +kernel, rfl, rfl, by decide +kernel, by decide +kernel⟩,
   ⟨0, [1], withBufs [buf0] (withChan
     { chan0 with burstOut := true, next := 1, fill := some { fill0 with bytes := 4999 } }), _, _, _, _, rfl,
     by decide +kernel, by decide +kernel, rfl, rfl, by decide +kernel, by decide +kernel, by decide +kernel, rfl⟩,
   ⟨0, withChan { chan0 with burstOut := true }, _, rfl, by decide +kernel, by decide +kernel⟩,
   ⟨0, withChan { chan0 with burstOut := true }, _, .cardGone, rfl, by decide +kernel, by decide +kernel,
     by decide +kernel⟩,
   ⟨0, State.reset, by decide +kernel⟩,
   ⟨0, _, 0, withBufs [buf0] (withChan
     { chan0 with extents := 2, dests := [{ elem0 with phase := .writing }], summing := [(0, 0, .read)] }), _, _, _,
     .stored, _, rfl, by decide +kernel, rfl, rfl, by decide +kernel, by decide +kernel, rfl, rfl, by decide +kernel⟩⟩

/-- Values that meet the hypotheses of `Obligations.ChannelReads`, clauses 7 to 12 of those that have some. -/
theorem witness_ChannelReads_2 :
    (∃ (ch : Chan) (order : Nat) (ext : Nat) (s : State) (c : Channel) (num : Nat) (b : Buffer) (ans : SumAns) (es :
      List Elem), c = s.chan ch ∧ c.phase = .reading ∧ c.order = some order ∧ c.claim = .held ∧ (c.summing.find? (fun
      x => x.2.1 = ext && x.2.2 = .read) = some (num, ext, .read)) ∧ (ans = .stored ∨ ans = .equal) ∧ ext + 1 =
      c.extents ∧ s.sts.buf? num = some b ∧ (es = c.dests.filter (fun e => e.phase = .writing))) ∧
    (∃ (ch : Chan) (order : Nat) (ext : Nat) (s : State) (c : Channel) (num : Nat) (b : Buffer) (ans : SumAns) (es :
      List Elem), c = s.chan ch ∧ c.phase = .reading ∧ c.order = some order ∧ c.claim = .held ∧ (c.summing.find? (fun
      x => x.2.1 = ext && x.2.2 = .read) = some (num, ext, .read)) ∧ (ans = .stored ∨ ans = .equal) ∧ ext + 1 =
      c.extents ∧ s.sts.buf? num = some b ∧ (es = c.dests.filter (fun e => e.phase = .writing)) ∧ es = []) ∧
    (∃ (ch : Chan) (order : Nat) (ext : Nat) (s : State) (c : Channel) (num : Nat) (b : Buffer) (ans : SumAns) (es :
      List Elem), c = s.chan ch ∧ c.phase = .reading ∧ c.order = some order ∧ c.claim = .held ∧ (c.summing.find? (fun
      x => x.2.1 = ext && x.2.2 = .read) = some (num, ext, .read)) ∧ (ans = .stored ∨ ans = .equal) ∧ ext + 1 =
      c.extents ∧ s.sts.buf? num = some b ∧ (es = c.dests.filter (fun e => e.phase = .writing)) ∧ es ≠ []) ∧
    (∃ (ch : Chan) (order : Nat) (ext : Nat) (pass : PassKind) (s : State) (c : Channel) (num : Nat), c = s.chan ch ∧
      c.phase ≠ .idle ∧ c.phase ≠ .ending ∧ c.order = some order ∧ (c.summing.find? (fun x => x.2.1 = ext && x.2.2 =
      pass) = some (num, ext, pass))) ∧
    (∃ (ch : Chan) (bytes : List Byte) (s : State) (c : Channel) (f : Filling) (num : Nat) (b : Buffer), c = s.chan
      ch ∧ c.burstOut = true ∧ c.phase = .reading ∧ c.fill = some f ∧ f.num = some num ∧ f.pass = .read ∧ extentLen
      c.dataLen f.ext ≤ f.bytes + bytes.length ∧ c.next + 1 < c.extents ∧ s.sts.buf? num = some b) ∧
    (∃ (ch : Chan) (order : Nat) (ext : Nat) (s : State) (c : Channel) (num : Nat) (b : Buffer) (ans : SumAns), c =
      s.chan ch ∧ c.phase = .reading ∧ c.order = some order ∧ (c.summing.find? (fun x => x.2.1 = ext && x.2.2 =
      .read) = some (num, ext, .read)) ∧ (ans = .stored ∨ ans = .equal) ∧ ext + 1 ≠ c.extents ∧ s.sts.buf? num = some
      b ∧ (∀ e ∈ c.dests, e.phase ≠ .writing)) :=
  ⟨⟨0, _, 0, withBufs [buf0] (withChan
     { chan0 with claim := .held, summing := [(0, 0, .read)], dests := [{ elem0 with phase := .writing }] }), _, _,
     _, .stored, _, rfl, by decide +kernel, rfl, by decide +kernel, rfl, by decide +kernel, by decide +kernel, rfl,
     rfl⟩,
   ⟨0, _, 0, withBufs [buf0] (withChan { chan0 with claim := .held, summing := [(0, 0, .read)] }), _, _, _, .equal,
     _, rfl, by decide +kernel, rfl, by decide +kernel, rfl, by decide +kernel, by decide +kernel, rfl, rfl,
     by decide +kernel⟩,
   ⟨0, _, 0, withBufs [buf0] (withChan
     { chan0 with claim := .held, summing := [(0, 0, .read)], dests := [{ elem0 with phase := .writing }] }), _, _,
     _, .stored, _, rfl, by decide +kernel, rfl, by decide +kernel, rfl, by decide +kernel, by decide +kernel, rfl,
     rfl, by decide +kernel⟩,
   ⟨0, _, 0, .repair, withChan { chan0 with summing := [(0, 0, .repair)] }, _, _, rfl, by decide +kernel,
     by decide +kernel, rfl, rfl⟩,
   ⟨0, [1], withBufs [buf0] (withChan
     { chan0 with extents := 2, burstOut := true, fill := some { fill0 with bytes := 4999 } }), _, _, _, _, rfl,
     by decide +kernel, by decide +kernel, rfl, rfl, by decide +kernel, by decide +kernel, by decide +kernel, rfl⟩,
   ⟨0, _, 0, withBufs [buf0] (withChan { chan0 with extents := 2, summing := [(0, 0, .read)] }), _, _, _, .stored,
     rfl, by decide +kernel, rfl, rfl, by decide +kernel, by decide +kernel, rfl, by decide +kernel⟩⟩

/-- Values that meet the hypotheses of `Obligations.CopiesAreWrittenAndVerified`, clauses 1 to 10 of those that have some. -/
theorem witness_CopiesAreWrittenAndVerified_1 :
    (∃ (ch : Chan) (order : Nat) (p : Port) (num : Nat) (s : State) (c : Channel) (e : Elem) (b : State), c = s.chan
      ch ∧ c.phase ≠ .idle ∧ c.phase ≠ .ending ∧ c.order = some order ∧ c.elem? p = some e ∧ e.phase = .writing ∧ b =
      s.drained ch p num) ∧
    (∃ (ch : Chan) (order : Nat) (p : Port) (num : Nat) (s : State) (c : Channel) (e : Elem) (b : State), c = s.chan
      ch ∧ c.phase ≠ .idle ∧ c.order = some order ∧ c.elem? p = some e ∧ e.phase.alive = true ∧ c.outstanding[p] ≤ 1
      ∧ b = s.drained ch p num) ∧
    (∃ (s : State) (ch : Chan) (p : Port) (c : Channel) (e : Elem), c = s.chan ch ∧ c.elem? p = some e) ∧
    (∃ (ch : Chan) (order : Nat) (p : Port) (ext : Nat) (ans : VerifyAns) (s : State) (c : Channel) (e : Elem) (l :
      List Nat), c = s.chan ch ∧ c.phase ≠ .idle ∧ c.phase ≠ .ending ∧ c.order = some order ∧ c.elem? p = some e ∧
      e.phase = .verify ∧ (ans = .matched ∨ ans = .mismatch) ∧ (l =
      (if ans = .mismatch then insertAsc ext e.repairList else e.repairList)) ∧ e.nextVerify + 1 < c.extents) ∧
    (∃ (ch : Chan) (order : Nat) (p : Port) (s : State) (c : Channel) (e : Elem), c = s.chan ch ∧ c.phase ≠ .idle ∧
      c.phase ≠ .ending ∧ c.order = some order ∧ c.elem? p = some e ∧ e.phase = .verify ∧ e.repairList = [] ∧
      c.extents ≤ e.nextVerify + 1) ∧
    (∃ (ch : Chan) (order : Nat) (p : Port) (ext : Nat) (s : State) (c : Channel) (e : Elem) (l : List Nat), c =
      s.chan ch ∧ c.phase ≠ .idle ∧ c.phase ≠ .ending ∧ c.order = some order ∧ c.elem? p = some e ∧ e.phase = .verify
      ∧ l = insertAsc ext e.repairList ∧ c.extents ≤ e.nextVerify + 1 ∧ e.passes < 2) ∧
    (∃ (ch : Chan) (order : Nat) (p : Port) (s : State) (c : Channel) (e : Elem), c = s.chan ch ∧ c.phase ≠ .idle ∧
      c.order = some order ∧ c.elem? p = some e ∧ e.phase = .rewrite) ∧
    (∃ (ch : Chan) (order : Nat) (p : Port) (s : State) (c : Channel) (e : Elem) (r : Instr), c = s.chan ch ∧ c.phase
      ≠ .idle ∧ c.order = some order ∧ c.elem? p = some e ∧ c.outstanding[p] ≤ 1 ∧ (r = .headerWriteAnswer ch order p
      .failed ∧ e.phase = .header ∨ r = .headerRewriteAnswer ch order p .failed ∧ e.phase = .rewrite)) ∧
    (∃ (ch : Chan) (p : Port) (vol : Serial) (s : State) (e : Elem), (s.chan ch).elem? p = some e ∧ e.vol = some vol
      ∧ e.phase.alive = true ∧ (∀ b ∈ s.sts.bufs, b.owner = ch → p ∉ b.pend)) ∧
    (∃ (ch : Chan) (p : Port) (vol : Serial) (s : State), (∀ e, (s.chan ch).elem? p = some e → e.vol ≠ some vol)) :=
  ⟨⟨0, _, 0, 0, withBufs [{ buf0 with pend := [0, 1] }] (withChan
     { chan0 with dests := [{ elem0 with phase := .writing }] }), _, _, _, rfl, by decide +kernel, by decide +kernel,
     rfl, rfl, by decide +kernel, rfl⟩,
   ⟨0, _, 0, 0, withBufs [{ buf0 with pend := [0] }] (withChan
     { chan0 with outstanding := #v[1, 0, 0, 0], dests := [{ elem0 with phase := .writing }] }), _, _, _, rfl,
     by decide +kernel, rfl, rfl, by decide +kernel, by decide +kernel, rfl⟩,
   ⟨withChan chan0, 0, 0, _, _, rfl, rfl⟩,
   ⟨0, _, 0, 0, .mismatch, withChan { chan0 with extents := 2, dests := [{ elem0 with phase := .verify }] }, _, _, _,
     rfl, by decide +kernel, by decide +kernel, rfl, rfl, by decide +kernel, by decide +kernel, rfl,
     by decide +kernel⟩,
   ⟨0, _, 0, withChan { chan0 with dests := [{ elem0 with phase := .verify }] }, _, _, rfl, by decide +kernel,
     by decide +kernel, rfl, rfl, by decide +kernel, by decide +kernel, by decide +kernel⟩,
   ⟨0, _, 0, 0, withChan { chan0 with dests := [{ elem0 with phase := .verify, passes := 1 }] }, _, _, _, rfl,
     by decide +kernel, by decide +kernel, rfl, rfl, by decide +kernel, rfl, by decide +kernel, by decide +kernel⟩,
   ⟨0, _, 0, withChan { chan0 with dests := [{ elem0 with phase := .rewrite }] }, _, _, rfl, by decide +kernel, rfl,
     rfl, by decide +kernel⟩,
   ⟨0, _, 0, withChan { chan0 with outstanding := #v[1, 0, 0, 0] }, _, _, .headerWriteAnswer 0 5 0 .failed, rfl,
     by decide +kernel, rfl, rfl, by decide +kernel, by decide +kernel⟩,
   ⟨0, 0, _, withChan chan0, _, rfl, rfl, by decide +kernel, by decide +kernel⟩,
   ⟨0, 0, 9, State.reset, allSome (by decide +kernel)⟩⟩

/-- Values that meet the hypotheses of `Obligations.CopiesAreWrittenAndVerified`, clauses 11 to 20 of those that have some. -/
theorem witness_CopiesAreWrittenAndVerified_2 :
    (∃ (s : State) (ch : Chan) (c : Channel) (ms : List Elem), c = s.chan ch ∧ c.phase = .finishing ∧ c.repair = none
      ∧ (∀ e ∈ c.dests, ¬(e.phase = .writing ∧ e.written = c.extents)) ∧ (ms = c.dests.filter (fun e => e.phase =
      .repairWait)) ∧ ms ≠ []) ∧
    (∃ (ch : Chan) (tag : Nat) (s : State) (c : Channel) (r : RepairPass) (ext : Nat), c = s.chan ch ∧ c.claimTag =
      tag ∧ (c.claimAsked = true ∨ c.claim = .waiting) ∧ c.claim ≠ .held ∧ c.phase = .finishing ∧ c.repair = some r ∧
      r.exts[r.done]? = some ext) ∧
    (∃ (ch : Chan) (tag : Nat) (s : State) (c : Channel), c = s.chan ch ∧ c.claimTag = tag ∧ c.claimAsked = true ∧
      c.claim = .none ∧ c.phase = .finishing) ∧
    (∃ (ch : Chan) (tag : Nat) (s : State) (c : Channel), c = s.chan ch ∧ c.claimTag = tag ∧ c.claimAsked = true ∧
      c.phase = .finishing ∧ (c.dests.map (·.port)).Nodup) ∧
    (∃ (ch : Chan) (tag : Nat) (s : State) (c : Channel), c = s.chan ch ∧ c.claimTag = tag ∧ c.claimAsked = false ∧
      c.claim ≠ .none ∧ c.phase = .finishing) ∧
    (∃ (ch : Chan) (bytes : List Byte) (s : State) (c : Channel) (f : Filling) (num : Nat), c = s.chan ch ∧
      c.burstOut = true ∧ c.phase ≠ .ending ∧ c.fill = some f ∧ f.num = some num ∧ f.pass = .repair ∧ f.bytes +
      bytes.length < extentLen c.dataLen f.ext) ∧
    (∃ (ch : Chan) (bytes : List Byte) (s : State) (c : Channel) (f : Filling) (num : Nat) (b : Buffer) (r :
      RepairPass), c = s.chan ch ∧ c.burstOut = true ∧ c.phase ≠ .ending ∧ c.fill = some f ∧ f.num = some num ∧
      f.pass = .repair ∧ extentLen c.dataLen f.ext ≤ f.bytes + bytes.length ∧ c.repair = some r ∧ r.exts.length ≤
      r.done + 1 ∧ s.sts.buf? num = some b) ∧
    (∃ (ch : Chan) (order : Nat) (ext : Nat) (s : State) (c : Channel) (num : Nat) (r : RepairPass) (es : List Elem),
      c = s.chan ch ∧ c.phase ≠ .idle ∧ c.phase ≠ .ending ∧ c.order = some order ∧ (c.summing.find? (fun x => x.2.1 =
      ext && x.2.2 = .repair) = some (num, ext, .repair)) ∧ c.repair = some r ∧ (es = c.dests.filter (fun e =>
      c.member e && e.repairList.contains ext)) ∧ es ≠ [] ∧ r.exts.getLast? = some ext ∧ r.done = r.exts.length ∧
      c.claim = .held) ∧
    (∃ (ch : Chan) (order : Nat) (ext : Nat) (s : State) (c : Channel) (num : Nat) (r : RepairPass) (es : List Elem),
      c = s.chan ch ∧ c.phase ≠ .idle ∧ c.phase ≠ .ending ∧ c.order = some order ∧ (c.summing.find? (fun x => x.2.1 =
      ext && x.2.2 = .repair) = some (num, ext, .repair)) ∧ c.repair = some r ∧ (es = c.dests.filter (fun e =>
      c.member e && e.repairList.contains ext)) ∧ r.exts.getLast? ≠ some ext) ∧
    (∃ (ch : Chan) (order : Nat) (ext : Nat) (s : State) (c : Channel) (num : Nat) (r : RepairPass) (es : List Elem),
      c = s.chan ch ∧ c.phase ≠ .idle ∧ c.phase ≠ .ending ∧ c.order = some order ∧ (c.summing.find? (fun x => x.2.1 =
      ext && x.2.2 = .repair) = some (num, ext, .repair)) ∧ c.repair = some r ∧ (es = c.dests.filter (fun e =>
      c.member e && e.repairList.contains ext)) ∧ r.exts.getLast? ≠ some ext ∧ es = []) :=
  ⟨⟨withChan { chan0 with phase := .finishing, dests := [{ elem0 with phase := .repairWait, repairList := [0] }] },
     0, _, _, rfl, by decide +kernel, by decide +kernel, by decide +kernel, rfl, by decide +kernel⟩,
   ⟨0, 3, withChan
     { chan0 with phase := .finishing, claimTag := 3, claimAsked := true, repair := some ⟨[0], 0, [0], false⟩, dests := [{ elem0 with phase := .repair, repairList := [0], toWrite := [0] }] },
     _, _, _, rfl, by decide +kernel, by decide +kernel, by decide +kernel, by decide +kernel, rfl, rfl⟩,
   ⟨0, 3, withChan { chan0 with phase := .finishing, claimTag := 3, claimAsked := true }, _, rfl, by decide +kernel,
     by decide +kernel, by decide +kernel, by decide +kernel⟩,
   ⟨0, 3, withChan
     { chan0 with phase := .finishing, claimTag := 3, claimAsked := true, dests := [elem0, { elem0 with port := 1 }] },
     _, rfl, by decide +kernel, by decide +kernel, by decide +kernel, by decide +kernel⟩,
   ⟨0, 3, withChan { chan0 with phase := .finishing, claimTag := 3, claim := .held }, _, rfl, by decide +kernel,
     by decide +kernel, by decide +kernel, by decide +kernel⟩,
   ⟨0, [1], withBufs [buf0] (withChan
     { chan0 with phase := .finishing, burstOut := true, fill := some { fill0 with pass := .repair } }), _, _, _,
     rfl, by decide +kernel, by decide +kernel, rfl, rfl, by decide +kernel, by decide +kernel⟩,
   ⟨0, [1], withBufs [buf0] (withChan
     { chan0 with phase := .finishing, burstOut := true, fill := some { fill0 with pass := .repair, bytes := 4999 }, repair := some ⟨[0], 0, [0], true⟩ }),
     _, _, _, _, _, rfl, by decide +kernel, by decide +kernel, rfl, rfl, by decide +kernel, by decide +kernel, rfl,
     by decide +kernel, rfl⟩,
   ⟨0, _, 0, withBufs [buf0] (withChan
     { chan0 with phase := .finishing, claim := .held, summing := [(0, 0, .repair)], repair := some ⟨[0], 1, [0], true⟩, dests := [{ elem0 with phase := .repair, repairList := [0], toWrite := [0] }] }),
     _, _, _, _, rfl, by decide +kernel, by decide +kernel, rfl, rfl, rfl, rfl, by decide +kernel, by decide +kernel,
     by decide +kernel, by decide +kernel⟩,
   ⟨0, _, 0, withBufs [buf0] (withChan
     { chan0 with phase := .finishing, claim := .held, summing := [(0, 0, .repair)], repair := some ⟨[0, 1], 1, [0], true⟩, dests := [{ elem0 with phase := .repair, repairList := [0], toWrite := [0] }] }),
     _, _, _, _, rfl, by decide +kernel, by decide +kernel, rfl, rfl, rfl, rfl, by decide +kernel⟩,
   ⟨0, _, 0, withBufs [buf0] (withChan
     { chan0 with phase := .finishing, claim := .held, summing := [(0, 0, .repair)], repair := some ⟨[0, 1], 1, [0], true⟩ }),
     _, _, _, _, rfl, by decide +kernel, by decide +kernel, rfl, rfl, rfl, rfl, by decide +kernel, by decide +kernel⟩⟩

/-- Values that meet the hypotheses of `Obligations.CopiesAreWrittenAndVerified`, clauses 21 to 30 of those that have some. -/
theorem witness_CopiesAreWrittenAndVerified_3 :
    (∃ (ch : Chan) (order : Nat) (ext : Nat) (s : State) (c : Channel) (num : Nat) (r : RepairPass) (es : List Elem),
      c = s.chan ch ∧ c.phase ≠ .idle ∧ c.phase ≠ .ending ∧ c.order = some order ∧ (c.summing.find? (fun x => x.2.1 =
      ext && x.2.2 = .repair) = some (num, ext, .repair)) ∧ c.repair = some r ∧ (es = c.dests.filter (fun e =>
      c.member e && e.repairList.contains ext)) ∧ r.exts.getLast? ≠ some ext ∧ es ≠ []) ∧
    (∃ (ch : Chan) (order : Nat) (p : Port) (num : Nat) (ext : Nat) (s : State) (c : Channel) (e : Elem) (b : State),
      c = s.chan ch ∧ c.phase ≠ .idle ∧ c.phase ≠ .ending ∧ c.order = some order ∧ c.elem? p = some e ∧ e.phase =
      .repair ∧ (s.sts.buf? num).map (·.ext) = some ext ∧ (∃ n ∈ e.toWrite, n ≠ ext) ∧ b = s.drained ch p num) ∧
    (∃ (ch : Chan) (order : Nat) (p : Port) (num : Nat) (ext : Nat) (s : State) (c : Channel) (e : Elem) (b : State)
      (n : Nat) (l : List Nat), c = s.chan ch ∧ c.phase ≠ .idle ∧ c.phase ≠ .ending ∧ c.order = some order ∧ c.elem?
      p = some e ∧ e.phase = .repair ∧ (s.sts.buf? num).map (·.ext) = some ext ∧ (∀ n ∈ e.toWrite, n = ext) ∧
      e.repairList = n :: l ∧ b = s.drained ch p num) ∧
    (∃ (ch : Chan) (order : Nat) (p : Port) (ext : Nat) (ans : VerifyAns) (s : State) (c : Channel) (e : Elem) (l :
      List Nat) (n : Nat) (rest : List Nat), c = s.chan ch ∧ c.phase ≠ .idle ∧ c.phase ≠ .ending ∧ c.order = some
      order ∧ c.elem? p = some e ∧ e.phase = .reverify ∧ (ans = .matched ∨ ans = .mismatch) ∧ (l =
      (if ans = .mismatch then insertAsc ext e.newList else e.newList)) ∧ e.repairList = n :: rest) ∧
    (∃ (ch : Chan) (order : Nat) (p : Port) (ext : Nat) (ans : VerifyAns) (s : State) (c : Channel) (e : Elem) (l :
      List Nat), c = s.chan ch ∧ c.phase ≠ .idle ∧ c.phase ≠ .ending ∧ c.order = some order ∧ c.elem? p = some e ∧
      e.phase = .reverify ∧ (ans = .matched ∨ ans = .mismatch) ∧ (l =
      (if ans = .mismatch then insertAsc ext e.newList else e.newList)) ∧ e.repairList = []) ∧
    (∃ (ch : Chan) (order : Nat) (p : Port) (s : State) (c : Channel) (e : Elem), c = s.chan ch ∧ c.phase ≠ .idle ∧
      c.phase ≠ .ending ∧ c.order = some order ∧ c.elem? p = some e ∧ e.phase = .verify ∧ c.extents ≤ e.nextVerify +
      1 ∧ 2 ≤ e.passes) ∧
    (∃ (ch : Chan) (p : Port) (vol : Serial) (s : State) (e : Elem), (s.chan ch).elem? p = some e ∧ e.vol = some vol
      ∧ e.phase.alive = false ∧ e.phase ≠ .creating) ∧
    (∃ (ch : Chan) (p : Port) (vol : Serial) (s : State) (e : Elem), (s.chan ch).elem? p = some e ∧ e.vol = some vol
      ∧ e.phase = .creating) ∧
    (∃ (s : State) (ch : Chan) (c : Channel) (es : List Elem), c = s.chan ch ∧ c.phase = .finishing ∧ (c.dests.map
      (·.port)).Nodup ∧ (es = c.dests.filter (fun e => e.phase = .writing ∧ e.written = c.extents))) ∧
    (∃ (ch : Chan) (order : Nat) (p : Port) (s : State) (c : Channel) (e : Elem), c = s.chan ch ∧ c.phase ≠ .idle ∧
      c.phase ≠ .ending ∧ c.order = some order ∧ c.elem? p = some e ∧ e.phase = .verify ∧ e.repairList ≠ [] ∧
      c.extents ≤ e.nextVerify + 1) :=
  ⟨⟨0, _, 0, withBufs [buf0] (withChan
     { chan0 with phase := .finishing, claim := .held, summing := [(0, 0, .repair)], repair := some ⟨[0, 1], 1, [0], true⟩, dests := [{ elem0 with phase := .repair, repairList := [0], toWrite := [0] }] }),
     _, _, _, _, rfl, by decide +kernel, by decide +kernel, rfl, rfl, rfl, rfl, by decide +kernel, by decide +kernel⟩,
   ⟨0, _, 0, 0, 0, withBufs [{ buf0 with pend := [0] }] (withChan
     { chan0 with phase := .finishing, dests := [{ elem0 with phase := .repair, repairList := [0, 1], toWrite := [0, 1] }] }),
     _, _, _, rfl, by decide +kernel, by decide +kernel, rfl, rfl, by decide +kernel, by decide +kernel,
     by decide +kernel, rfl⟩,
   ⟨0, _, 0, 0, 0, withBufs [{ buf0 with pend := [0] }] (withChan
     { chan0 with phase := .finishing, dests := [{ elem0 with phase := .repair, repairList := [0], toWrite := [0] }] }),
     _, _, _, 0, [], rfl, by decide +kernel, by decide +kernel, rfl, rfl, by decide +kernel, by decide +kernel,
     by decide +kernel, by decide +kernel, rfl⟩,
   ⟨0, _, 0, 0, .mismatch, withChan
     { chan0 with phase := .finishing, dests := [{ elem0 with phase := .reverify, repairList := [0, 1] }] }, _, _, _,
     0, [1], rfl, by decide +kernel, by decide +kernel, rfl, rfl, by decide +kernel, by decide +kernel, rfl,
     by decide +kernel⟩,
   ⟨0, _, 0, 0, .matched, withChan { chan0 with phase := .finishing, dests := [{ elem0 with phase := .reverify }] },
     _, _, _, rfl, by decide +kernel, by decide +kernel, rfl, rfl, by decide +kernel, by decide +kernel, rfl,
     by decide +kernel⟩,
   ⟨0, _, 0, withChan { chan0 with dests := [{ elem0 with phase := .verify, passes := 2 }] }, _, _, rfl,
     by decide +kernel, by decide +kernel, rfl, rfl, by decide +kernel, by decide +kernel, by decide +kernel⟩,
   ⟨0, 0, 9, withChan { chan0 with dests := [{ elem0 with phase := .dropped }] }, _, rfl, by decide +kernel,
     by decide +kernel, by decide +kernel⟩,
   ⟨0, 0, 9, withChan { chan0 with dests := [{ elem0 with phase := .creating }] }, _, rfl, by decide +kernel,
     by decide +kernel⟩,
   ⟨withChan
     { chan0 with phase := .finishing, dests := [{ elem0 with phase := .writing, written := 1 }, { elem0 with port := 1, phase := .repairWait, repairList := [0] }] },
     0, _, _, rfl, by decide +kernel, by decide +kernel, rfl⟩,
   ⟨0, _, 0, withChan
     { chan0 with phase := .finishing, dests := [{ elem0 with phase := .verify, repairList := [0] }] }, _, _, rfl,
     by decide +kernel, by decide +kernel, rfl, rfl, by decide +kernel, by decide +kernel, by decide +kernel⟩⟩

/-- Values that meet the hypotheses of `Obligations.ChannelEnds`, clauses 1 to 8 of those that have some. -/
theorem witness_ChannelEnds_1 :
    (∃ (p : Port) (ch : Chan) (order : Nat) (s : State), (s.chan ch).aliveFor p order = true) ∧
    (∃ (p : Port) (ch : Chan) (order : Nat) (s : State), (s.chan ch).aliveFor p order = false) ∧
    (∃ (s : State) (ch : Chan) (c : Channel) (w : Port × Chan × Nat), w ∈ (s.setChan ch c).cc.watches ∧ w.2.1 = ch) ∧
    (∃ (ch : Chan) (order : Nat) (s : State) (c : Channel), c = s.chan ch ∧ c.phase ≠ .idle ∧ c.phase ≠ .ending ∧
      c.order = some order) ∧
    (∃ (ch : Chan) (order : Nat) (s : State) (c : Channel), c = s.chan ch ∧ (c.phase = .idle ∨ c.phase = .ending ∨
      c.order ≠ some order)) ∧
    (∃ (s : State) (ch : Chan) (k : EndKind) (t : State), t = s.enterEnding ch k) ∧
    (∃ (s : State) (ch : Chan) (c : Channel) (k : EndKind), c = s.chan ch ∧ c.phase = .ending ∧ c.ended = some k ∧
      s.sts.held ch = 0 ∧ c.claim = .none ∧ c.claimAsked = false ∧ c.burstOut = false ∧ c.noneOutstanding = true ∧ (∀
      e ∈ c.dests, e.phase ≠ .reserving ∧ e.phase ≠ .creating)) ∧
    (∃ (s : State) (ch : Chan) (c : Channel), c = s.chan ch ∧ c.phase = .finishing ∧ c.repair = none ∧ (∀ e ∈
      c.dests, e.phase = .skipped ∨ e.phase = .dropped) ∧ s.sts.held ch = 0 ∧ c.noneOutstanding = true) :=
  ⟨⟨0, 0, 5, withChan chan0, by decide +kernel⟩,
   ⟨0, 0, 5, State.reset, by decide +kernel⟩,
   ⟨{ State.reset with cc := { State.reset.cc with watches := [(0, 0, 5)] } }, 0, chan0, (0, 0, 5),
     by decide +kernel, by decide +kernel⟩,
   ⟨0, _, withChan chan0, _, rfl, by decide +kernel, by decide +kernel, rfl⟩,
   ⟨0, 5, State.reset, _, rfl, by decide +kernel⟩,
   ⟨State.reset, 0, .aborted, _, rfl⟩,
   ⟨withChan { chan0 with phase := .ending, ended := some .aborted }, 0, _, _, rfl, by decide +kernel, rfl,
     by decide +kernel, by decide +kernel, by decide +kernel, by decide +kernel, by decide +kernel,
     by decide +kernel⟩,
   ⟨withChan { chan0 with phase := .finishing, dests := [{ elem0 with phase := .dropped }] }, 0, _, rfl,
     by decide +kernel, by decide +kernel, by decide +kernel, by decide +kernel, by decide +kernel⟩⟩

/-- Values that meet the hypotheses of `Obligations.ChannelEnds`, clauses 9 to 16 of those that have some. -/
theorem witness_ChannelEnds_2 :
    (∃ (s : State) (ch : Chan) (c : Channel) (ports : List Port), c = s.chan ch ∧ c.phase ≠ .idle ∧ c.burstOut = true
      ∧ (ports = (List.finRange 4).filter (fun p : Port => c.outstanding[p] ≠ 0))) ∧
    (∃ (s : State) (ch : Chan) (c : Channel) (ports : List Port) (nums : List Nat) (f : State), c = s.chan ch ∧
      c.phase ≠ .idle ∧ c.burstOut = false ∧ (ports = (List.finRange 4).filter (fun p : Port => c.outstanding[p] ≠
      0)) ∧ (nums = ((s.sts.bufs.filter fun b => b.owner = ch && b.pend.isEmpty).map (·.num)).filter (fun n =>
      (c.fill.bind (·.num)) = some n || c.summing.any fun x => x.1 = n)) ∧ (f = nums.foldl State.freeBuffer
      (if c.bufferWait = true then s.leaveWaits ch else s))) ∧
    (∃ (ch : Chan) (s : State) (c : Channel) (nums : List Nat) (f : State), c = s.chan ch ∧ c.phase = .ending ∧
      c.burstOut = true ∧ (nums = ((s.sts.bufs.filter fun b => b.owner = ch && b.pend.isEmpty).map (·.num)).filter
      (fun n => (c.fill.bind (·.num)) = some n || c.summing.any fun x => x.1 = n)) ∧ (f = nums.foldl State.freeBuffer
      (if c.bufferWait = true then s.leaveWaits ch else s))) ∧
    (∃ (s : State) (ch : Chan) (c : Channel) (closed : List (Port × Chan × Nat)), (closed = s.cc.watches.filter (fun
      w => w.2.1 = ch ∧ c.aliveFor w.1 w.2.2 = false))) ∧
    (∃ (ch : Chan) (order : Nat) (p : Port) (s : State) (c : Channel) (e : Elem), c = s.chan ch ∧ c.phase ≠ .idle ∧
      c.order = some order ∧ c.elem? p = some e ∧ e.phase = .rewrite ∧ (p, ch, order) ∈ s.cc.watches) ∧
    (∃ (ch : Chan) (p : Port) (vol : Serial) (order : Nat) (s : State) (c : Channel) (e : Elem), c = s.chan ch ∧
      c.order = some order ∧ c.elem? p = some e ∧ e.vol = some vol ∧ e.phase.alive = true ∧ (p, ch, order) ∈
      s.cc.watches) ∧
    (∃ (s : State) (ch : Chan) (w : Port × Chan × Nat), w ∈ s.cc.watches ∧ w.2.1 = ch) ∧
    (∃ (s : State) (ch : Chan) (w : Waiter), w ∈ (s.leaveWaits ch).sts.waits) :=
  ⟨⟨withChan { chan0 with burstOut := true, begun := true, outstanding := #v[1, 0, 0, 0] }, 0, _, _, rfl,
     by decide +kernel, by decide +kernel, rfl⟩,
   ⟨withBufs [buf0] (withChan { chan0 with begun := true, claim := .held, bufferWait := true, fill := some fill0 }),
     0, _, _, _, _, rfl, by decide +kernel, by decide +kernel, rfl, rfl, rfl⟩,
   ⟨0, withBufs [buf0] (withChan
     { chan0 with phase := .ending, burstOut := true, claim := .held, fill := some fill0 }), _, _, _, rfl,
     by decide +kernel, by decide +kernel, rfl, rfl⟩,
   ⟨{ withChan chan0 with cc := { (withChan chan0).cc with watches := [(0, 0, 5)] } }, 0, {}, _, rfl⟩,
   ⟨0, _, 0,
     { withChan { chan0 with phase := .ending, dests := [{ elem0 with phase := .rewrite }] } with cc := { (withChan { chan0 with phase := .ending, dests := [{ elem0 with phase := .rewrite }] }).cc with watches := [(0, 0, 5)] } },
     _, _, rfl, by decide +kernel, rfl, rfl, by decide +kernel, by decide +kernel⟩,
   ⟨0, 0, 9, _, { withChan chan0 with cc := { (withChan chan0).cc with watches := [(0, 0, 5)] } }, _, _, rfl, rfl,
     rfl, by decide +kernel, by decide +kernel, by decide +kernel⟩,
   ⟨{ withChan chan0 with cc := { (withChan chan0).cc with watches := [(0, 0, 5)] } }, 0, (0, 0, 5),
     by decide +kernel, by decide +kernel⟩,
   ⟨{ State.reset with sts := { State.reset.sts with waits := [⟨1, 0, 0, 0, .read, 5000⟩] } }, 0, ⟨1, 0, 0, 0, .read,
     5000⟩, by decide +kernel⟩⟩

/-- Values that meet the hypotheses of `Obligations.AttachAndScan`, clauses 1 to 6 of those that have some. -/
theorem witness_AttachAndScan_1 :
    (∃ (p : Port) (s : State) (c : PortCtx) (e : PortCtx), c = s.port p ∧ c.state = .absent ∧ e =
      { state := .scanning, test := c.test, op := some { kind := .ident, tok := s.token, attempt := 1, cmd := .identify } }) ∧
    (∃ (p : Port) (s : State), (s.port p).state ≠ .absent) ∧
    (∃ (p : Port) (tok : Nat) (capacity : Nat) (s : State) (c : PortCtx) (o : DriveOp) (e : PortCtx), c = s.port p ∧
      c.op = some o ∧ o.tok = tok ∧ o.kind = .ident ∧ e =
      { c with capacity := some capacity, op := some { kind := .label, tok := s.token, attempt := 1, cmd := .read 0 1 } }) ∧
    (∃ (p : Port) (tok : Nat) (bytes : List Byte) (s : State) (c : PortCtx) (o : DriveOp) (why : ScanCause) (e :
      PortCtx), c = s.port p ∧ c.op = some o ∧ o.tok = tok ∧ o.kind = .label ∧ readLabel (c.capacity.getD 0) bytes =
      .error why ∧ e = { c with state := .unformatted, vol := none, op := none }) ∧
    (∃ (p : Port) (tok : Nat) (bytes : List Byte) (s : State) (c : PortCtx) (o : DriveOp) (serial : Serial) (recEnd :
      Nat) (e : PortCtx), c = s.port p ∧ c.op = some o ∧ o.tok = tok ∧ o.kind = .label ∧ readLabel (c.capacity.getD
      0) bytes = .ok (serial, recEnd) ∧ e = { c with vol := some serial, recEnd := some recEnd, op := none }) ∧
    (∃ (p : Port) (tok : Nat) (bytes : List Byte) (s : State) (c : PortCtx) (o : DriveOp) (pos : Nat), c = s.port p ∧
      c.op = some o ∧ o.tok = tok ∧ o.kind = .walk pos ∧ readClipHdr (c.vol.getD 0) (c.recEnd.getD 0) pos bytes =
      none) :=
  ⟨⟨0, State.reset, _, _, rfl, by decide +kernel, rfl⟩,
   ⟨0, withPort port0, by decide +kernel⟩,
   ⟨0, 3, 100, withPort { state := .scanning, op := some (op0 .ident) }, _, _, _, rfl, rfl, by decide +kernel,
     by decide +kernel, rfl⟩,
   ⟨0, 3, [], withPort { state := .scanning, capacity := some 100, op := some (op0 .label) }, _, _, .labelAbsent, _,
     rfl, rfl, by decide +kernel, by decide +kernel, by rfl, rfl⟩,
   ⟨0, 3, labelBytes 7 100 100, withPort { state := .scanning, capacity := some 100, op := some (op0 .label) }, _, _,
     7, 100, _, rfl, rfl, by decide +kernel, by decide +kernel, by rfl, rfl⟩,
   ⟨0, 3, [], withPort { port0 with state := .scanning, op := some (op0 (.walk 1)) }, _, _, 1, rfl, rfl,
     by decide +kernel, by decide +kernel, by decide +kernel⟩⟩

/-- Values that meet the hypotheses of `Obligations.AttachAndScan`, clauses 7 to 11 of those that have some. -/
theorem witness_AttachAndScan_2 :
    (∃ (p : Port) (tok : Nat) (bytes : List Byte) (s : State) (c : PortCtx) (o : DriveOp) (pos : Nat) (h : FoundHdr)
      (e : PortCtx), c = s.port p ∧ c.op = some o ∧ o.tok = tok ∧ o.kind = .walk pos ∧ readClipHdr (c.vol.getD 0)
      (c.recEnd.getD 0) pos bytes = some h ∧ h.complete = false ∧ e =
      { c with index := c.index ++ [h.entry], op := none }) ∧
    (∃ (p : Port) (tok : Nat) (bytes : List Byte) (s : State) (c : PortCtx) (o : DriveOp) (pos : Nat) (h : FoundHdr),
      c = s.port p ∧ c.op = some o ∧ o.tok = tok ∧ o.kind = .walk pos ∧ readClipHdr (c.vol.getD 0) (c.recEnd.getD 0)
      pos bytes = some h ∧ h.complete = true) ∧
    (∃ (p : Port) (tok : Nat) (bytes : List Byte) (s : State) (c : PortCtx) (o : DriveOp) (pos : Nat) (x :
      IndexEntry) (check : Sum32) (n : Nat) (e : PortCtx), c = s.port p ∧ c.op = some o ∧ o.tok = tok ∧ o.kind =
      .sumList pos x check ∧ n = extentsOf x.len ∧ 4 * n ≤ bytes.length ∧ (e =
      { c with op := none, index := c.index ++ [{ x with sums := if extentSum (bytes.take (4 * n)) = check then some (readSumList n (bytes.take (4 * n))) else none }] })) ∧
    (∃ (s : State) (p : Port) (pos : Nat) (c : PortCtx), c = s.port p ∧ pos < c.recEnd.getD 0 ∧ c.index.length <
      4096) ∧
    (∃ (s : State) (p : Port) (pos : Nat) (c : PortCtx) (e : PortCtx), c = s.port p ∧ (c.recEnd.getD 0 ≤ pos ∨ 4096 ≤
      c.index.length) ∧ e = { c with state := .ready, alloc := c.recEnd }) :=
  ⟨⟨0, 3, clipHdrBytes 9 .incomplete 7 1 5000 0, withPort
     { port0 with state := .scanning, recEnd := some 5, op := some (op0 (.walk 1)) }, _, _, 1, ⟨entry0, false, 0⟩, _,
     rfl, rfl, by decide +kernel, by decide +kernel, by decide +kernel, by decide +kernel, rfl⟩,
   ⟨0, 3, clipHdrBytes 9 .complete 7 1 5000 6, withPort
     { port0 with state := .scanning, recEnd := some 5, op := some (op0 (.walk 1)) }, _, _, 1, ⟨entry0, true, 6⟩,
     rfl, rfl, by decide +kernel, by decide +kernel, by decide +kernel, by decide +kernel⟩,
   ⟨0, 3, [1, 2, 3, 4], withPort { port0 with state := .scanning, op := some (op0 (.sumList 1 entry0 6)) }, _, _, 1,
     entry0, 6, _, _, rfl, rfl, by decide +kernel, by decide +kernel, rfl, by decide +kernel, rfl⟩,
   ⟨withPort { port0 with state := .scanning, recEnd := some 2 }, 0, 1, _, rfl, by decide +kernel, by decide +kernel⟩,
   ⟨withPort { port0 with state := .scanning, recEnd := some 2 }, 0, 2, _, _, rfl, by decide +kernel, rfl⟩⟩

/-- Values that meet the hypotheses of `Obligations.FormattingAndSoakTest`, clauses 1 to 10 of those that have some. -/
theorem witness_FormattingAndSoakTest_1 :
    (∃ (p : Port) (serial : Serial) (s : State) (c : PortCtx) (e : PortCtx), c = s.port p ∧ serial ≠ 0 ∧ c.vol ≠ some
      serial ∧ c.test = none ∧ (c.state = .unformatted ∨ c.state = .ready ∧ c.index = [] ∧ c.holding = []) ∧ 2 ≤
      c.capacity.getD 0 ∧ c.format = none ∧ e =
      { c with state := .unformatted, vol := none, index := [], alloc := none, format := some serial, plays := [], reads := [], writes := [] }) ∧
    (∃ (p : Port) (serial : Serial) (s : State) (c : PortCtx), c = s.port p ∧ serial ≠ 0 ∧ c.vol ≠ some serial ∧
      c.state = .ready ∧ 2 ≤ c.capacity.getD 0 ∧ c.format = none ∧ c.index = [] ∧ c.test = none ∧ c.holding ≠ []) ∧
    (∃ (p : Port) (serial : Serial) (s : State) (c : PortCtx) (ch : Chan) (h : Nat × Nat), c = s.port p ∧ serial ≠ 0
      ∧ c.vol ≠ some serial ∧ c.state = .ready ∧ 2 ≤ c.capacity.getD 0 ∧ c.format = none ∧ c.index = [] ∧ c.test =
      none ∧ c.holding ≠ [] ∧ c.holders[ch] = some h) ∧
    (∃ (port : Nat) (serial : Serial) (s : State), (4 ≤ port ∨ serial = 0 ∨ ∃ p : Port, p.val = port ∧ (s.port p).vol
      = some serial)) ∧
    (∃ (p : Port) (serial : Serial) (s : State) (c : PortCtx) (why : Reason), c = s.port p ∧ serial ≠ 0 ∧ c.vol ≠
      some serial ∧ c.test = none ∧ ((c.state ≠ .unformatted ∧ c.state ≠ .ready ∧ why = Reason.notReady) ∨ ((c.state
      = .unformatted ∨ c.state = .ready) ∧ (c.capacity.getD 0 < 2 ∧ why = .noCapacity ∨ 2 ≤ c.capacity.getD 0 ∧
      (c.format ≠ none ∧ why = .already ∨ c.format = none ∧ c.state = .ready ∧ c.index ≠ [] ∧ why = .volumeInUse))))) ∧
    (∃ (p : Port) (tok : Nat) (s : State) (c : PortCtx) (o : DriveOp) (serial : Serial) (r : Instr), c = s.port p ∧
      c.op = some o ∧ o.tok = tok ∧ o.kind = .format serial ∧ 3 ≤ o.attempt ∧ (r = .driveError p tok false ∨ r =
      .driveAttemptExpiry p tok false)) ∧
    (∃ (p : Port) (tok : Nat) (s : State) (c : PortCtx) (o : DriveOp) (serial : Serial) (e : PortCtx), c = s.port p ∧
      c.op = some o ∧ o.tok = tok ∧ o.kind = .format serial ∧ e =
      { c with state := .ready, vol := some serial, recEnd := some 1, alloc := some 1, index := [], qual := .untested, holders := Vector.replicate 3 none, format := none, op := none }) ∧
    (∃ (p : Port) (len : Nat) (threshold : Nat) (s : State) (c : PortCtx) (e : PortCtx) (n : Nat), c = s.port p ∧
      c.state = .ready ∧ c.format = none ∧ c.alloc ≠ c.capacity ∧ c.test = none ∧ c.holding = [] ∧ (n = min (min 4096
      (if len = 0 then 256 else len) * 256) c.free) ∧ e =
      { c with state := .soaking, qual := .untested, soak := some { len := n, limit := min 65535 threshold } }) ∧
    (∃ (p : Port) (len : Nat) (threshold : Nat) (s : State) (c : PortCtx) (what : TestFor), c = s.port p ∧ c.state =
      .ready ∧ c.format = none ∧ c.alloc ≠ c.capacity ∧ c.test = none ∧ c.holding ≠ [] ∧ (what = TestFor.soak (min
      4096 (if len = 0 then 256 else len)) (min 65535 threshold) (decide (len > 4096 ∨ threshold > 65535)))) ∧
    (∃ (p : Port) (len : Nat) (threshold : Nat) (s : State) (c : PortCtx) (what : TestFor) (ch : Chan) (h : Nat ×
      Nat), c = s.port p ∧ c.state = .ready ∧ c.format = none ∧ c.alloc ≠ c.capacity ∧ c.test = none ∧ c.holding ≠ []
      ∧ (what = TestFor.soak (min 4096 (if len = 0 then 256 else len)) (min 65535 threshold) (decide (len > 4096 ∨
      threshold > 65535))) ∧ c.holders[ch] = some h) :=
  ⟨⟨0, 7, withPort { state := .unformatted, capacity := some 2 }, _, _, rfl, by decide +kernel, by decide +kernel,
     by decide +kernel, by decide +kernel, by decide +kernel, by decide +kernel, rfl⟩,
   ⟨0, 7, withPort { port0 with holders := #v[some (5, 1), none, none] }, _, rfl, by decide +kernel,
     by decide +kernel, by decide +kernel, by decide +kernel, by decide +kernel, by decide +kernel,
     by decide +kernel, by decide +kernel⟩,
   ⟨0, 7, withPort { port0 with holders := #v[none, none, some (5, 1)] }, _, 2, _, rfl, by decide +kernel,
     by decide +kernel, by decide +kernel, by decide +kernel, by decide +kernel, by decide +kernel,
     by decide +kernel, by decide +kernel, rfl⟩,
   ⟨4, 7, State.reset, Or.inl (by decide)⟩,
   ⟨0, 7, withPort { port0 with capacity := some 1 }, _, .noCapacity, rfl, by decide +kernel, by decide +kernel,
     by decide +kernel, by decide +kernel⟩,
   ⟨0, 3, withPort { port0 with op := some { op0 (.format 7) with attempt := 3 } }, _, _, 7, .driveError 0 3 false,
     rfl, rfl, by decide +kernel, by decide +kernel, by decide +kernel, by decide +kernel⟩,
   ⟨0, 3, withPort { port0 with op := some (op0 (.format 7)) }, _, _, 7, _, rfl, rfl, by decide +kernel,
     by decide +kernel, rfl⟩,
   ⟨0, 0, 70000, withPort port0, _, _, _, rfl, by decide +kernel, by decide +kernel, by decide +kernel,
     by decide +kernel, by decide +kernel, rfl, rfl⟩,
   ⟨0, 0, 70000, withPort { port0 with holders := #v[some (5, 1), none, none] }, _, _, rfl, by decide +kernel,
     by decide +kernel, by decide +kernel, by decide +kernel, by decide +kernel, rfl⟩,
   ⟨0, 0, 70000, withPort { port0 with holders := #v[none, none, some (5, 1)] }, _, _, 2, _, rfl, by decide +kernel,
     by decide +kernel, by decide +kernel, by decide +kernel, by decide +kernel, rfl, rfl⟩⟩

/-- Values that meet the hypotheses of `Obligations.FormattingAndSoakTest`, clauses 11 to 19 of those that have some. -/
theorem witness_FormattingAndSoakTest_2 :
    (∃ (p : Port) (s : State) (c : PortCtx) (why : Reason), c = s.port p ∧ c.test = none ∧ ((c.state ≠ .ready ∨
      c.format ≠ none) ∧ why = Reason.notReady ∨ c.state = .ready ∧ c.format = none ∧ c.alloc = c.capacity ∧ why =
      .noRoom)) ∧
    (∃ (p : Port) (tok : Nat) (s : State) (c : PortCtx) (o : DriveOp) (k : Soak) (blocks : Nat), c = s.port p ∧ c.op
      = some o ∧ o.tok = tok ∧ o.kind = .soakWrite blocks ∧ c.soak = some k) ∧
    (∃ (p : Port) (tok : Nat) (bytes : List Byte) (s : State) (c : PortCtx) (o : DriveOp) (k : Soak) (blocks : Nat),
      c = s.port p ∧ c.op = some o ∧ o.tok = tok ∧ o.kind = .soakRead blocks ∧ c.soak = some k ∧ bytes.length =
      blocks * 4096 ∧ k.pos + blocks < k.len) ∧
    (∃ (p : Port) (tok : Nat) (bytes : List Byte) (s : State) (c : PortCtx) (o : DriveOp) (k : Soak) (blocks : Nat)
      (k' : Soak) (e : PortCtx), c = s.port p ∧ c.op = some o ∧ o.tok = tok ∧ o.kind = .soakRead blocks ∧ c.soak =
      some k ∧ bytes.length = blocks * 4096 ∧ k.len ≤ k.pos + blocks ∧ k' = bytes.foldl Soak.feedByte k ∧ (e =
      { c with op := none, state := .ready, soak := none, qual := if k'.errors ≤ k'.limit then .passed else .failed })) ∧
    (∃ (p : Port) (tok : Nat) (s : State) (c : PortCtx) (o : DriveOp) (k : Soak) (blocks : Nat) (e : PortCtx) (r :
      Instr), c = s.port p ∧ c.op = some o ∧ o.tok = tok ∧ c.soak = some k ∧ 3 ≤ o.attempt ∧ (o.kind = .soakWrite
      blocks ∨ o.kind = .soakRead blocks) ∧ (r = .driveError p tok false ∨ r = .driveAttemptExpiry p tok false) ∧ e =
      { c with op := none, state := .ready, qual := .failed, soak := none }) ∧
    (∃ (p : Port) (tok : Nat) (bytes : List Byte) (s : State) (c : PortCtx) (o : DriveOp) (r : Instr) (k : OpKind), c
      = s.port p ∧ c.op = some o ∧ o.tok = tok ∧ o.kind = .discarded k ∧ (r = .soakWriteDone p tok ∨ r =
      .soakReadDone p tok bytes ∨ r = .formatWriteDone p tok)) ∧
    (∃ (p : Port) (s : State) (c : PortCtx) (o : DriveOp) (e : PortCtx), c = s.port p ∧ c.state = .soaking ∧ c.op =
      some o ∧ e = { c with state := .ready, soak := none, op := some (discardSoak o) }) ∧
    (∃ (p : Port) (s : State), (s.port p).state ≠ .soaking) ∧
    (∃ (k : Soak), k.loaded = true) :=
  ⟨⟨0, withPort { port0 with alloc := some 100 }, _, .noRoom, rfl, by decide +kernel, by decide +kernel⟩,
   ⟨0, 3, withPort { port0 with state := .soaking, soak := some soak0, op := some (op0 (.soakWrite 1)) }, _, _, _, 1,
     rfl, rfl, by decide +kernel, by decide +kernel, rfl⟩,
   ⟨0, 3, List.replicate (1 * 4096) 0, withPort
     { port0 with state := .soaking, soak := some { soak0 with len := 2 }, op := some (op0 (.soakRead 1)) }, _, _, _,
     1, rfl, rfl, by decide +kernel, by decide +kernel, rfl, List.length_replicate, by decide +kernel⟩,
   ⟨0, 3, List.replicate (1 * 4096) 0, withPort
     { port0 with state := .soaking, soak := some soak0, op := some (op0 (.soakRead 1)) }, _, _, _, 1, _, _, rfl,
     rfl, by decide +kernel, by decide +kernel, rfl, List.length_replicate, by decide +kernel, rfl, rfl⟩,
   ⟨0, 3, withPort
     { port0 with state := .soaking, soak := some soak0, op := some { op0 (.soakWrite 1) with attempt := 3 } }, _, _,
     soak0, 1, _, .driveError 0 3 false, rfl, rfl, by decide +kernel, by decide +kernel, by decide +kernel,
     by decide +kernel, by decide +kernel, rfl⟩,
   ⟨0, 3, [], withPort { port0 with op := some (op0 (.discarded (.soakWrite 1))) }, _, _, .soakWriteDone 0 3,
     .soakWrite 1, rfl, rfl, by decide +kernel, by decide +kernel, by decide +kernel⟩,
   ⟨0, withPort { port0 with state := .soaking, soak := some soak0, op := some (op0 (.soakWrite 1)) }, _, _, _, rfl,
     by decide +kernel, rfl, rfl⟩,
   ⟨0, withPort port0, by decide +kernel⟩,
   ⟨{ soak0 with loaded := true }, by decide +kernel⟩⟩

/-- Values that meet the hypotheses of `Obligations.ReservationsAndHolders`, clauses 1 to 7 of those that have some. -/
theorem witness_ReservationsAndHolders_1 :
    (∃ (ch : Chan) (p : Port) (order : Nat) (vol : Serial) (blocks : Nat) (s : State) (c : PortCtx) (e : PortCtx), c
      = s.port p ∧ c.state = .ready ∧ c.format = none ∧ c.vol = some vol ∧ c.index.length < 4096 ∧ blocks ≤ c.free ∧
      (e =
      { c with alloc := some (c.alloc.getD 0 + blocks), test := c.test.map fun x => { x with failed := true }, holders := upd c.holders ch fun _ => some (order, c.alloc.getD 0) })) ∧
    (∃ (p : Port) (vol : Serial) (blocks : Nat) (s : State) (c : PortCtx) (why : DropCause), c = s.port p ∧ (why =
      (if c.state = .absent then DropCause.absent else if c.state ≠ .ready ∨ c.format ≠ none then .notReady else if c.vol ≠ some vol then .volumeChanged else if 4096 ≤ c.index.length then .indexFull else .noSpace))
      ∧ (c.state ≠ .ready ∨ c.format ≠ none ∨ c.vol ≠ some vol ∨ 4096 ≤ c.index.length ∨ c.free < blocks)) ∧
    (∃ (p : Port) (ch : Chan) (s : State) (c : PortCtx), c = s.port p ∧ (∀ x, c.test = some x → ch ∉ x.awaiting)) ∧
    (∃ (p : Port) (ch : Chan) (s : State) (c : PortCtx) (x : HolderTest), c = s.port p ∧ c.test = some x ∧ ch ∈
      x.awaiting ∧ (∃ d ∈ x.awaiting, d ≠ ch)) ∧
    (∃ (p : Port) (ch : Chan) (s : State) (c : PortCtx) (x : HolderTest), c = s.port p ∧ c.test = some x ∧ x.awaiting
      = [ch] ∧ x.failed = true) ∧
    (∃ (s : State) (p : Port) (serial : Serial) (c : PortCtx) (e : PortCtx), c = s.port p ∧ (c.state = .unformatted ∨
      c.state = .ready ∧ c.index = []) ∧ 2 ≤ c.capacity.getD 0 ∧ c.format = none ∧ e =
      { c with state := .unformatted, vol := none, index := [], alloc := none, format := some serial, plays := [], reads := [], writes := [] }) ∧
    (∃ (s : State) (p : Port) (len : Nat) (limit : Nat) (c : PortCtx) (e : PortCtx) (n : Nat), c = s.port p ∧ c.state
      = .ready ∧ c.format = none ∧ c.alloc ≠ c.capacity ∧ n = min (len * 256) c.free ∧ e =
      { c with state := .soaking, qual := .untested, soak := some { len := n, limit := limit } }) :=
  ⟨⟨0, 0, 5, _, 99, withPort { port0 with test := some test0 }, _, _, rfl, by decide +kernel, by decide +kernel, rfl,
     by decide +kernel, by decide +kernel, rfl⟩,
   ⟨0, 9, 100, withPort port0, _, _, rfl, rfl, by decide +kernel⟩,
   ⟨0, 0, withPort port0, _, rfl, allSome (by decide +kernel)⟩,
   ⟨0, 0, withPort { port0 with test := some { test0 with awaiting := [0, 1] } }, _, _, rfl, rfl, by decide +kernel,
     by decide +kernel⟩,
   ⟨0, 0, withPort { port0 with test := some { test0 with failed := true } }, _, _, rfl, rfl, by decide +kernel,
     by decide +kernel⟩,
   ⟨withPort { state := .unformatted, capacity := some 2 }, 0, 7, _, _, rfl, by decide +kernel, by decide +kernel,
     by decide +kernel, rfl⟩,
   ⟨withPort port0, 0, 1, 0, _, _, _, rfl, by decide +kernel, by decide +kernel, by decide +kernel, rfl, rfl⟩⟩

/-- Values that meet the hypotheses of `Obligations.ReservationsAndHolders`, clauses 8 to 14 of those that have some. -/
theorem witness_ReservationsAndHolders_2 :
    (∃ (s : State) (p : Port) (what : TestFor) (c : PortCtx) (why : Reason), c = s.port p ∧ ((∃ len limit clamped,
      what = .soak len limit clamped) ∧ ((c.state ≠ .ready ∨ c.format ≠ none) ∧ why = Reason.notReady ∨ c.state =
      .ready ∧ c.format = none ∧ c.alloc = c.capacity ∧ why = .noRoom) ∨ (∃ serial, what = .format serial) ∧ (c.state
      ≠ .unformatted ∧ c.state ≠ .ready ∧ why = Reason.notReady ∨ (c.state = .unformatted ∨ c.state = .ready) ∧
      (c.capacity.getD 0 < 2 ∧ why = .noCapacity ∨ 2 ≤ c.capacity.getD 0 ∧ (c.format ≠ none ∧ why = .already ∨
      c.format = none ∧ c.state = .ready ∧ c.index ≠ [] ∧ why = .volumeInUse))))) ∧
    (∃ (p : Port) (s : State), (s.port p).test ≠ none) ∧
    (∃ (p : Port) (serial : Serial) (s : State), (s.port p).test ≠ none ∧ serial ≠ 0 ∧ (s.port p).vol ≠ some serial) ∧
    (∃ (p : Port) (ch : Chan) (s : State) (c : PortCtx) (x : HolderTest), c = s.port p ∧ c.test = some x ∧ x.awaiting
      = [ch]) ∧
    (∃ (p : Port) (ch : Chan) (s : State) (c : PortCtx) (x : HolderTest), c = s.port p ∧ c.test = some x ∧ x.awaiting
      = [ch] ∧ x.failed = false) ∧
    (∃ (p : Port) (ch : Chan) (order : Nat) (s : State) (c : PortCtx) (e : PortCtx), c = s.port p ∧ c.state =
      .detaching ∧ c.watching = [(ch, order)] ∧ (e =
      { c with holders := upd c.holders ch (fun h => h.filter fun x => x.1 ≠ order), state := .detached, watching := [] })) ∧
    (∃ (p : Port) (ch : Chan) (order : Nat) (s : State) (c : PortCtx), c = s.port p ∧ (c.state ≠ .detaching ∨ (ch,
      order) ∉ c.watching)) :=
  ⟨⟨withPort { port0 with capacity := some 1 }, 0, .format 7, _, .noCapacity, rfl, Or.inr ⟨⟨7, rfl⟩,
     by decide +kernel⟩⟩,
   ⟨0, withPort { port0 with test := some test0 }, by decide +kernel⟩,
   ⟨0, 7, withPort { port0 with test := some test0 }, by decide +kernel, by decide +kernel, by decide +kernel⟩,
   ⟨0, 0, withPort { port0 with test := some test0 }, _, _, rfl, rfl, by decide +kernel⟩,
   ⟨0, 0, withPort { port0 with test := some test0 }, _, _, rfl, rfl, by decide +kernel, by decide +kernel⟩,
   ⟨0, 0, 5, withPort { port0 with state := .detaching, watching := [(0, 5)] }, _, _, rfl, by decide +kernel,
     by decide +kernel, rfl⟩,
   ⟨0, 0, 6, withPort { port0 with state := .detaching, watching := [(0, 5)] }, _, rfl, by decide +kernel⟩⟩

/-- Values that meet the hypotheses of `Obligations.PortRequests`. -/
theorem witness_PortRequests :
    (∃ (ch : Chan) (p : Port) (order : Nat) (vol : Serial) (hb : Nat) (serial : Serial) (clipNo : Nat) (len : Nat)
      (sums : List Sum32) (num : Nat) (block : Nat) (s : State) (c : PortCtx) (r : Instr) (w : WriteReq), c = s.port
      p ∧ c.state ≠ .scanning ∧ c.vol = some vol ∧ c.state ≠ .soaking ∧ c.state ≠ .detached ∧ (r = Instr.headerWrite
      ch p order vol hb serial clipNo len ∧ w = WriteReq.header ch order hb serial clipNo len ∨ r = .headerRewrite ch
      p order vol hb sums ∧ w = .rewrite ch order hb sums ∨ r = .extentWrite ch p order vol num block ∧ w = .extent
      ch order num block)) ∧
    (∃ (p : Port) (vol : Serial) (s : State) (c : PortCtx) (ans : WriteAns), c = s.port p ∧ ((c.state = .scanning ∨
      c.vol ≠ some vol) ∧ ans = WriteAns.lost ∨ c.vol = some vol ∧ (c.state = .soaking ∨ c.state = .detached) ∧ ans =
      .failed)) ∧
    (∃ (ch : Chan) (p : Port) (order : Nat) (vol : Serial) (ext : Nat) (block : Nat) (len : Nat) (sum : Sum32) (first
      : Nat) (count : Nat) (run : Nat) (s : State) (c : PortCtx) (r : Instr) (w : ReadReq), c = s.port p ∧ c.state ≠
      .scanning ∧ c.vol = some vol ∧ (r = Instr.verifyRead ch p order vol ext block len sum ∧ w = ReadReq.verify ch
      order ext block len sum ∧ c.state ≠ .detached ∨ r = .reinspectionRead p vol first count run ∧ w = .reinspect
      first count run)) ∧
    (∃ (p : Port) (vol : Serial) (s : State) (c : PortCtx), c = s.port p ∧ c.state ≠ .scanning ∧ c.vol = some vol) ∧
    (∃ (p : Port) (vol : Serial) (s : State) (c : PortCtx), c = s.port p ∧ c.state = .detached ∧ c.vol = some vol) ∧
    (∃ (p : Port) (vol : Serial) (s : State) (c : PortCtx), c = s.port p ∧ (c.state = .scanning ∨ c.vol ≠ some vol)) :=
  ⟨⟨0, 0, 5, _, 1, 7, 1, 5000, [], 0, 4, withPort port0, _, .extentWrite 0 0 5 9 0 4, .extent 0 5 0 4, rfl,
     by decide +kernel, rfl, by decide +kernel, by decide +kernel, by decide +kernel⟩,
   ⟨0, 9, withPort { port0 with state := .detached }, _, .failed, rfl, by decide +kernel⟩,
   ⟨0, 0, 5, _, 0, 1, 5000, 1, 1, 2, 4, withPort port0, _, .reinspectionRead 0 9 1 2 4, .reinspect 1 2 4, rfl,
     by decide +kernel, rfl, by decide +kernel⟩,
   ⟨0, _, withPort port0, _, rfl, by decide +kernel, rfl⟩,
   ⟨0, _, withPort { port0 with state := .detached }, _, rfl, by decide +kernel, rfl⟩,
   ⟨0, 9, withPort { port0 with state := .scanning }, _, rfl, by decide +kernel⟩⟩

/-- Values that meet the hypotheses of `Obligations.ArbiterFailuresAndRemoval`, clauses 1 to 8 of those that have some. -/
theorem witness_ArbiterFailuresAndRemoval_1 :
    (∃ (s : State) (p : Port), (s.port p).op ≠ none) ∧
    (∃ (s : State) (p : Port) (c : PortCtx) (r : PlayReq) (rest : List PlayReq), c = s.port p ∧ c.op = none ∧ c.state
      ≠ .absent ∧ c.state ≠ .scanning ∧ c.format = none ∧ c.soak = none ∧ c.plays = r :: rest) ∧
    (∃ (s : State) (p : Port) (c : PortCtx) (r : ReadReq) (rest : List ReadReq), c = s.port p ∧ c.op = none ∧ c.state
      ≠ .absent ∧ c.state ≠ .scanning ∧ c.format = none ∧ c.soak = none ∧ c.plays = [] ∧ c.reads = r :: rest ∧
      (c.writes = [] ∨ c.lastClass = .write)) ∧
    (∃ (s : State) (p : Port) (c : PortCtx), c = s.port p ∧ c.op = none ∧ c.state ≠ .absent ∧ c.state ≠ .scanning ∧
      c.format = none ∧ c.soak = none ∧ c.plays = [] ∧ c.writes ≠ [] ∧ (c.reads = [] ∨ c.lastClass = .read)) ∧
    (∃ (s : State) (p : Port) (c : PortCtx) (v : WriteReq), c = s.port p ∧ c.op = none ∧ c.state ≠ .absent ∧ c.state
      ≠ .scanning ∧ c.format = none ∧ c.soak = none ∧ c.plays = [] ∧ c.writes ≠ [] ∧ (c.reads = [] ∨ c.lastClass =
      .read) ∧ v ∈ c.writes) ∧
    (∃ (s : State) (p : Port) (c : PortCtx) (k : Soak), c = s.port p ∧ c.op = none ∧ c.state ≠ .absent ∧ c.state ≠
      .scanning ∧ c.format = none ∧ c.soak = some k) ∧
    (∃ (p : Port) (tok : Nat) (raised : Bool) (s : State) (c : PortCtx) (o : DriveOp) (r : Instr), c = s.port p ∧
      c.op = some o ∧ o.tok = tok ∧ o.attempt < o.kind.attempts ∧ (raised = false ∨ o.raise = none) ∧ (r =
      .driveError p tok raised ∨ r = .driveAttemptExpiry p tok raised)) ∧
    (∃ (k : OpKind), (∀ x, k ≠ .play x) ∧ (∀ w, k ≠ .discarded w)) :=
  ⟨⟨withPort { port0 with op := some (op0 .ident) }, 0, by decide +kernel⟩,
   ⟨withPort { port0 with plays := [{ k := 0, first := 1, count := 1, cut := none, rtok := 2 }] }, 0, _, _, _, rfl,
     by decide +kernel, by decide +kernel, by decide +kernel, by decide +kernel, by decide +kernel, rfl⟩,
   ⟨withPort { port0 with reads := [.reinspect 1 2 4] }, 0, _, _, _, rfl, by decide +kernel, by decide +kernel,
     by decide +kernel, by decide +kernel, by decide +kernel, by decide +kernel, rfl, by decide +kernel⟩,
   ⟨withPort { port0 with writes := [.extent 0 5 0 4] }, 0, _, rfl, by decide +kernel, by decide +kernel,
     by decide +kernel, by decide +kernel, by decide +kernel, by decide +kernel, by decide +kernel,
     by decide +kernel⟩,
   ⟨withPort { port0 with writes := [.extent 0 5 0 4] }, 0, _, .extent 0 5 0 4, rfl, by decide +kernel,
     by decide +kernel, by decide +kernel, by decide +kernel, by decide +kernel, by decide +kernel,
     by decide +kernel, by decide +kernel, by decide +kernel⟩,
   ⟨withPort { port0 with state := .soaking, soak := some soak0 }, 0, _, _, rfl, by decide +kernel,
     by decide +kernel, by decide +kernel, by decide +kernel, rfl⟩,
   ⟨0, 3, false, withPort { port0 with op := some { op0 .label with attempt := 2 } }, _, _, .driveError 0 3 false,
     rfl, rfl, by decide +kernel, by decide +kernel, by decide +kernel, by decide +kernel⟩,
   ⟨.ident, (by intro x h; cases h), (by intro x h; cases h)⟩⟩

/-- Values that meet the hypotheses of `Obligations.ArbiterFailuresAndRemoval`, clauses 9 to 16 of those that have some. -/
theorem witness_ArbiterFailuresAndRemoval_2 :
    (∃ (p : Port) (tok : Nat) (s : State) (c : PortCtx) (o : DriveOp) (r : Instr) (w : Wire), c = s.port p ∧ c.op =
      some o ∧ o.tok = tok ∧ o.kind.attempts ≤ o.attempt ∧ (r = .driveError p tok false ∨ r = .driveAttemptExpiry p
      tok false) ∧ ((∃ x, o.kind = .write x ∧ w = writeAnswerOf p x .failed) ∨ (∃ x, o.kind = .read x ∧ w =
      readAnswerOf p x .failed) ∨ (∃ x, o.kind = .play x ∧ w = playAnswerOf p x .failed))) ∧
    (∃ (p : Port) (tok : Nat) (s : State) (c : PortCtx) (o : DriveOp) (r : Instr) (why : ScanCause) (e : PortCtx), c
      = s.port p ∧ c.op = some o ∧ o.tok = tok ∧ 3 ≤ o.attempt ∧ (r = .driveError p tok false ∨ r =
      .driveAttemptExpiry p tok false) ∧ (o.kind = .ident ∧ why = ScanCause.noIdentity ∨ o.kind = .label ∧ why =
      .labelUnreadable) ∧ e = { c with op := none, state := .unformatted, vol := none }) ∧
    (∃ (p : Port) (tok : Nat) (s : State) (c : PortCtx) (o : DriveOp) (r : Instr) (pos : Nat), c = s.port p ∧ c.op =
      some o ∧ o.tok = tok ∧ 3 ≤ o.attempt ∧ (r = .driveError p tok false ∨ r = .driveAttemptExpiry p tok false) ∧
      o.kind = .walk pos) ∧
    (∃ (p : Port) (tok : Nat) (s : State) (c : PortCtx) (o : DriveOp) (r : Instr) (pos : Nat) (x : IndexEntry) (check
      : Sum32) (e : PortCtx), c = s.port p ∧ c.op = some o ∧ o.tok = tok ∧ 3 ≤ o.attempt ∧ (r = .driveError p tok
      false ∨ r = .driveAttemptExpiry p tok false) ∧ o.kind = .sumList pos x check ∧ e =
      { c with op := none, index := c.index ++ [x] }) ∧
    (∃ (p : Port) (tok : Nat) (s : State), (∀ o, (s.port p).op = some o → o.tok ≠ tok)) ∧
    (∃ (p : Port) (s : State) (c : PortCtx), c = s.port p) ∧
    (∃ (p : Port) (s : State) (c : PortCtx) (e : PortCtx), c = s.port p ∧ c.state = .ready ∧ c.holding ≠ [] ∧ e =
      { c with state := .detaching, watching := c.watchList }) ∧
    (∃ (p : Port) (s : State) (c : PortCtx) (e : PortCtx) (ch : Chan) (h : Nat × Nat), c = s.port p ∧ c.state =
      .ready ∧ c.holding ≠ [] ∧ e = { c with state := .detaching, watching := c.watchList } ∧ c.holders[ch] = some h) :=
  ⟨⟨0, 3, withPort
     { port0 with op := some (op0 (.play { k := 0, first := 1, count := 1, cut := none, rtok := 2 })) }, _, _,
     .driveError 0 3 false, playAnswerOf 0 { k := 0, first := 1, count := 1, cut := none, rtok := 2 } .failed, rfl,
     rfl, by decide +kernel, by decide +kernel, by decide +kernel, Or.inr (Or.inr ⟨_, rfl, rfl⟩)⟩,
   ⟨0, 3, withPort { state := .scanning, op := some { op0 .ident with attempt := 3 } }, _, _, .driveError 0 3 false,
     .noIdentity, _, rfl, rfl, by decide +kernel, by decide +kernel, by decide +kernel, by decide +kernel, rfl⟩,
   ⟨0, 3, withPort { port0 with state := .scanning, op := some { op0 (.walk 1) with attempt := 3 } }, _, _,
     .driveError 0 3 false, 1, rfl, rfl, by decide +kernel, by decide +kernel, by decide +kernel, by decide +kernel⟩,
   ⟨0, 3, withPort { port0 with state := .scanning, op := some { op0 (.sumList 1 entry0 6) with attempt := 3 } }, _,
     _, .driveError 0 3 false, 1, entry0, 6, _, rfl, rfl, by decide +kernel, by decide +kernel, by decide +kernel,
     by decide +kernel, rfl⟩,
   ⟨0, 3, withPort port0, allSome (by decide +kernel)⟩,
   ⟨0, withPort port0, _, rfl⟩,
   ⟨0, withPort { port0 with holders := #v[some (5, 1), none, none] }, _, _, rfl, by decide +kernel,
     by decide +kernel, rfl⟩,
   ⟨0, withPort { port0 with holders := #v[some (5, 1), none, none] }, _, _, 0, (5, 1), rfl, by decide +kernel,
     by decide +kernel, rfl, by decide +kernel⟩⟩

/-- Values that meet the hypotheses of `Obligations.ArbiterFailuresAndRemoval`, clauses 17 to 22 of those that have some. -/
theorem witness_ArbiterFailuresAndRemoval_3 :
    (∃ (p : Port) (s : State) (c : PortCtx), c = s.port p ∧ c.state = .ready ∧ c.holding = []) ∧
    (∃ (p : Port) (s : State) (c : PortCtx), c = s.port p ∧ (c.state = .scanning ∨ c.state = .unformatted)) ∧
    (∃ (p : Port) (s : State) (c : PortCtx) (o : DriveOp) (e : PortCtx), c = s.port p ∧ c.state = .soaking ∧ c.op =
      some o ∧ e = { c with state := .detached, soak := none, watching := [], op := some (discardSoak o) }) ∧
    (∃ (p : Port) (s : State) (c : PortCtx) (why : Reason), c = s.port p ∧ (c.state = .absent ∧ why = .noDrive ∨
      (c.state = .detaching ∨ c.state = .detached) ∧ why = .already)) ∧
    (∃ (p : Port) (s : State) (c : PortCtx), c = s.port p ∧ c.state ≠ .absent) ∧
    (∃ (p : Port) (s : State), (s.port p).state = .absent) :=
  ⟨⟨0, withPort port0, _, rfl, by decide +kernel, by decide +kernel⟩,
   ⟨0, withPort { state := .unformatted }, _, rfl, by decide +kernel⟩,
   ⟨0, withPort { port0 with state := .soaking, soak := some soak0, op := some (op0 (.soakWrite 1)) }, _, _, _, rfl,
     by decide +kernel, rfl, rfl⟩,
   ⟨0, State.reset, _, .noDrive, rfl, by decide +kernel⟩,
   ⟨0, withPort port0, _, rfl, by decide +kernel⟩,
   ⟨0, State.reset, by decide +kernel⟩⟩

/-- Values that meet the hypotheses of `Obligations.PortCompletions`. -/
theorem witness_PortCompletions :
    (∃ (p : Port) (tok : Nat) (s : State) (c : PortCtx) (o : DriveOp) (ch : Chan) (order : Nat) (hb : Nat) (serial :
      Serial) (clipNo : Nat) (len : Nat) (e : PortCtx), c = s.port p ∧ c.op = some o ∧ o.tok = tok ∧ o.kind = .write
      (.header ch order hb serial clipNo len) ∧ c.index.length < 4096 ∧ (e =
      { c with op := none, recEnd := (if o.raise.isSome then o.raise else c.recEnd), index := insertEntry { hb := hb, serial := serial, clipNo := clipNo, len := len, sums := none } c.index })) ∧
    (∃ (p : Port) (tok : Nat) (s : State) (c : PortCtx) (o : DriveOp) (ch : Chan) (order : Nat) (hb : Nat) (sums :
      List Sum32) (e : PortCtx), c = s.port p ∧ c.op = some o ∧ o.tok = tok ∧ o.kind = .write (.rewrite ch order hb
      sums) ∧ (∃ x ∈ c.index, x.hb = hb) ∧ (e =
      { c with op := none, index := c.index.map fun x => if x.hb = hb then { x with sums := some sums } else x, holders := upd c.holders ch fun h => h.filter fun y => y.2 ≠ hb })) ∧
    (∃ (p : Port) (tok : Nat) (s : State) (c : PortCtx) (o : DriveOp) (ch : Chan) (order : Nat) (num : Nat) (block :
      Nat), c = s.port p ∧ c.op = some o ∧ o.tok = tok ∧ o.kind = .write (.extent ch order num block)) ∧
    (∃ (p : Port) (tok : Nat) (bytes : List Byte) (s : State) (c : PortCtx) (o : DriveOp) (ch : Chan) (order : Nat)
      (ext : Nat) (block : Nat) (len : Nat) (sum : Sum32), c = s.port p ∧ c.op = some o ∧ o.tok = tok ∧ o.kind =
      .read (.verify ch order ext block len sum) ∧ len ≤ bytes.length) ∧
    (∃ (p : Port) (tok : Nat) (bytes : List Byte) (s : State) (c : PortCtx) (o : DriveOp) (r : PlayReq), c = s.port p
      ∧ c.op = some o ∧ o.tok = tok ∧ o.kind = .play r ∧ bytes.length = r.blocks bytes * 4096) ∧
    (∃ (p : Port) (tok : Nat) (bytes : List Byte) (s : State) (c : PortCtx) (o : DriveOp) (first : Nat) (count : Nat)
      (run : Nat), c = s.port p ∧ c.op = some o ∧ o.tok = tok ∧ o.kind = .read (.reinspect first count run) ∧
      bytes.length = count * 4096) ∧
    (∃ (p : Port) (tok : Nat) (bytes : List Byte) (n : Nat) (s : State) (r : Instr), (∀ o, (s.port p).op = some o →
      o.tok ≠ tok) ∧ r ∈ [Instr.identificationReadDone p tok n, .labelReadDone p tok bytes, .walkReadDone p tok
      bytes, .formatWriteDone p tok, .headerWriteDone p tok, .headerRewriteDone p tok, .extentWriteDone p tok,
      .verifyReadDone p tok bytes, .playbackReadDone p tok bytes, .reinspectionReadDone p tok bytes, .soakWriteDone p
      tok, .soakReadDone p tok bytes]) :=
  ⟨⟨0, 3, withPort { port0 with op := some (op0 (.write (.header 0 5 1 7 1 5000))) }, _, _, 0, 5, 1, 7, 1, 5000, _,
     rfl, rfl, by decide +kernel, by decide +kernel, by decide +kernel, rfl⟩,
   ⟨0, 3, withPort { port0 with index := [entry0], op := some (op0 (.write (.rewrite 0 5 1 [1]))) }, _, _, 0, 5, 1,
     [1], _, rfl, rfl, by decide +kernel, by decide +kernel, by decide +kernel, rfl⟩,
   ⟨0, 3, withPort { port0 with op := some (op0 (.write (.extent 0 5 0 4))) }, _, _, 0, 5, 0, 4, rfl, rfl,
     by decide +kernel, by decide +kernel⟩,
   ⟨0, 3, [1, 2], withPort { port0 with op := some (op0 (.read (.verify 0 5 0 1 2 1))) }, _, _, 0, 5, 0, 1, 2, 1,
     rfl, rfl, by decide +kernel, by decide +kernel, by decide +kernel⟩,
   ⟨0, 3, List.replicate (1 * 4096) 0, withPort
     { port0 with op := some (op0 (.play { k := 0, first := 1, count := 1, cut := none, rtok := 2 })) }, _, _,
     { k := 0, first := 1, count := 1, cut := none, rtok := 2 }, rfl, rfl, by decide +kernel, by decide +kernel,
     List.length_replicate⟩,
   ⟨0, 3, List.replicate (1 * 4096) 0, withPort { port0 with op := some (op0 (.read (.reinspect 1 1 4))) }, _, _, 1,
     1, 4, rfl, rfl, by decide +kernel, by decide +kernel, List.length_replicate⟩,
   ⟨0, 3, [], 0, State.reset, .formatWriteDone 0 3, allSome (by decide +kernel), by decide +kernel⟩⟩

/-- Values that meet the hypotheses of `Obligations.LivePass`, clauses 1 to 10 of those that have some. -/
theorem witness_LivePass_1 :
    (∃ (ch : Chan) (s : State), (s.liveCtx ch).asking = false) ∧
    (∃ (ch : Chan) (s : State) (x : LiveCtx) (r : Instr) (e : LiveEvent), x = s.liveCtx ch ∧ x.asking = true ∧ ((∃
      clip desc, r = Instr.livePassBegin ch clip desc ∧ e = LiveEvent.start clip desc) ∨ (∃ bs, r = .liveBytes ch bs
      ∧ e = .bytes bs) ∨ r = .livePassEndOfData ch ∧ e = .endOfData ∨ r = .livePassCutOff ch ∧ e = .cutOff)) ∧
    (∃ (ch : Chan) (pass : Nat) (rec : Option Clip) (s : State) (x : LiveCtx) (on : Bool), x = s.liveCtx ch ∧
      x.asking = true ∧ x.pass = pass ∧ x.held = [] ∧ (on = !(rec.any fun c : Clip => c.insp = .reinspecting))) ∧
    (∃ (ch : Chan) (pass : Nat) (s : State), ((s.liveCtx ch).asking = false ∨ (s.liveCtx ch).pass ≠ pass)) ∧
    (∃ (s : State) (ch : Chan) (b : Byte) (x : LiveCtx) (h : ChunkHdr), x = s.liveCtx ch ∧ x.parse.state = .parsing ∧
      x.parse.chunk = none ∧ x.parse.gather.length = 63 ∧ x.parse.pos < x.parse.dataLen ∧ readChunkHdr x.parse.pos
      x.parse.dataLen (x.parse.gather ++ [b]) = some h ∧ x.inspecting = true ∧ h.preview = 0) ∧
    (∃ (s : State) (ch : Chan) (b : Byte) (x : LiveCtx) (h : ChunkHdr) (t : State), x = s.liveCtx ch ∧ x.parse.state
      = .parsing ∧ x.parse.chunk = none ∧ x.parse.gather.length = 63 ∧ x.parse.pos < x.parse.dataLen ∧ readChunkHdr
      x.parse.pos x.parse.dataLen (x.parse.gather ++ [b]) = some h ∧ t = (s.setLive ch
      { x with parse := x.parse.accept h }).liveHeader ch h) ∧
    (∃ (s : State) (ch : Chan) (x : LiveCtx) (step : Nat), x = s.liveCtx ch ∧ x.inspecting = true ∧ (step =
      (if s.pp.free < 8 then min 8 (2 * s.fx.steps[ch]) else if 32 < s.pp.free then max 1 (s.fx.steps[ch] / 2) else s.fx.steps[ch]))) ∧
    (∃ (s : State) (ch : Chan) (x : LiveCtx), x = s.liveCtx ch ∧ x.inspecting = false) ∧
    (∃ (s : State) (ch : Chan) (b : Byte) (x : LiveCtx) (k : Chunk) (t : State), x = s.liveCtx ch ∧ x.parse.state =
      .parsing ∧ x.parse.chunk = some k ∧ k.offered = true ∧ k.taken + 1 = 64 + k.hdr.preview ∧ t = (s.setLive ch
      { x with parse := { x.parse with chunk := some { k with taken := k.taken + 1 }, planeRev := b :: x.parse.planeRev } }).livePlane
      ch) ∧
    (∃ (s : State) (ch : Chan) (x : LiveCtx) (n : Nat) (newest : Bool) (holders : List Holder) (old : List Slot)
      (slots : List Slot), x = s.liveCtx ch ∧ s.pp.lowestFree = some n ∧ newest = (!x.inspecting || decide (0 <
      s.pp.counts[ch])) ∧ (holders = (if x.inspecting then [Holder.inspect] else []) ++
      (if newest then [.newest ch] else [])) ∧ (old =
      (if newest then dropHolder (.newest ch) (fun _ => true) s.pp.slots else s.pp.slots)) ∧ slots = insertSlot
      { num := n, src := .live ch x.pass, hdr := x.parse.currentHdr, plane := x.parse.planeRev.reverse, holders := holders }
      old) :=
  ⟨⟨0, State.reset, by decide +kernel⟩,
   ⟨0, withLive { asking := true }, _, .livePassEndOfData 0, .endOfData, rfl, by decide +kernel, Or.inr (Or.inr
     (Or.inl ⟨rfl, rfl⟩))⟩,
   ⟨0, 3, some clip0, withLive { asking := true, pass := 3 }, _, _, rfl, by decide +kernel, by decide +kernel,
     by decide +kernel, rfl⟩,
   ⟨0, 3, State.reset, by decide +kernel⟩,
   ⟨withLive { inspecting := true, parse := { parse0 with gather := (chunkHdr 0).take 63 } }, 0, (chunkHdr 0).getD 63
     0, _, ⟨64, 0, tc0, 0⟩, rfl, by decide +kernel, by decide +kernel, by decide +kernel, by decide +kernel,
     by decide +kernel, by decide +kernel, by decide +kernel⟩,
   ⟨withLive { parse := { parse0 with gather := (chunkHdr 0).take 63 } }, 0, (chunkHdr 0).getLast (by decide), _,
     ⟨64, 0, tc0, 0⟩, _, rfl, by decide +kernel, by decide +kernel, by decide +kernel, by decide +kernel,
     by decide +kernel, rfl⟩,
   ⟨withLive { inspecting := true }, 0, _, _, rfl, by decide +kernel, rfl⟩,
   ⟨State.reset, 0, _, rfl, by decide +kernel⟩,
   ⟨withLive { parse := { parse0 with chunk := some ⟨⟨65, 0, tc0, 1⟩, 64, true⟩ } }, 0, 0, _, ⟨⟨65, 0, tc0, 1⟩, 64,
     true⟩, _, rfl, by decide +kernel, by decide +kernel, by decide +kernel, by decide +kernel, rfl⟩,
   ⟨withLive { parse := parse0, inspecting := true }, 0, _, 0, _, _, _, _, rfl, by decide +kernel, rfl, rfl, rfl,
     rfl⟩⟩

/-- Values that meet the hypotheses of `Obligations.LivePass`, clauses 11 to 20 of those that have some. -/
theorem witness_LivePass_2 :
    (∃ (s : State) (ch : Chan) (x : LiveCtx), x = s.liveCtx ch ∧ s.pp.lowestFree = none) ∧
    (∃ (p : Pool) (x : Slot), x ∈ p.slots) ∧
    (∃ (n : Nat) (m : Nat), m < n) ∧
    (∃ (s : State) (ch : Chan) (b : Byte) (x : LiveCtx) (n : Nat), x = s.liveCtx ch ∧ x.parse.state = .parsing ∧
      x.parse.chunk = none ∧ x.parse.gather.length = 63 ∧ x.parse.pos < x.parse.dataLen ∧ readChunkHdr x.parse.pos
      x.parse.dataLen (x.parse.gather ++ [b]) = none ∧ (n =
      (match x.parse.lastIndex with | some i => (i + 1) % 16777216 | none => 0))) ∧
    (∃ (s : State) (ch : Chan), (s.liveCtx ch).parse.state ≠ .parsing) ∧
    (∃ (ch : Chan) (s : State) (x : LiveCtx), x = s.liveCtx ch ∧ x.asking = false ∧ x.parse.state = .parsing ∧
      x.inspecting = true ∧ (∀ y ∈ s.pp.slots, y.src = .live ch x.pass → .inspect ∉ y.holders)) ∧
    (∃ (ch : Chan) (s : State) (x : LiveCtx) (r : Instr), x = s.liveCtx ch ∧ x.asking = false ∧ x.parse.state ≠
      .parsing ∧ r ∈ [Instr.livePassEndOfData ch, .livePassCutOff ch]) ∧
    (∃ (ch : Chan) (s : State) (x : LiveCtx) (n : Nat), x = s.liveCtx ch ∧ x.asking = false ∧ x.parse.state =
      .parsing ∧ x.inspecting = true ∧ (n = (s.pp.slots.filter fun y => y.src = .live ch x.pass && .inspect ∈
      y.holders).length) ∧ n ≠ 0) ∧
    (∃ (ch : Chan) (s : State) (x : LiveCtx) (n : Nat) (d : Chan), x = s.liveCtx ch ∧ x.asking = false ∧
      x.parse.state = .parsing ∧ x.inspecting = true ∧ (n = (s.pp.slots.filter fun y => y.src = .live ch x.pass &&
      .inspect ∈ y.holders).length) ∧ n ≠ 0 ∧ d ≠ ch) ∧
    (∃ (ch : Chan) (s : State) (x : LiveCtx) (r : Instr) (how : PassEnd), x = s.liveCtx ch ∧ x.asking = false ∧
      x.parse.state = .parsing ∧ x.inspecting = false ∧ (r = Instr.livePassEndOfData ch ∧ how = PassEnd.finish
      x.parse.ordinal ∨ r = .livePassCutOff ch ∧ how = .cutOff)) :=
  ⟨⟨withSlots ((List.range 64).map fun n => { slot0 with num := n }) State.reset, 0, _, rfl, by decide +kernel⟩,
   ⟨{ State.reset.pp with slots := [slot0] }, slot0, by decide +kernel⟩,
   ⟨1, 0, by decide +kernel⟩,
   ⟨withLive { parse := { parse0 with gather := List.replicate 63 0 } }, 0, 0, _, _, rfl, by decide +kernel,
     by decide +kernel, by decide +kernel, by decide +kernel, by decide +kernel, rfl⟩,
   ⟨State.reset, 0, by decide +kernel⟩,
   ⟨0, withLive { inspecting := true, parse := parse0 }, _, rfl, by decide +kernel, by decide +kernel,
     by decide +kernel, by decide +kernel⟩,
   ⟨0, State.reset, _, .livePassCutOff 0, rfl, by decide +kernel, by decide +kernel, by decide +kernel⟩,
   ⟨0, withSlots [slot0] (withLive { parse := parse0, pass := 3, inspecting := true }), _, _, rfl, by decide +kernel,
     by decide +kernel, by decide +kernel, rfl, by decide +kernel⟩,
   ⟨0, withSlots [slot0] (withLive { parse := parse0, pass := 3, inspecting := true }), _, _, 1, rfl,
     by decide +kernel, by decide +kernel, by decide +kernel, rfl, by decide +kernel, by decide +kernel⟩,
   ⟨0, withLive { parse := parse0, pass := 3 }, _, .livePassCutOff 0, .cutOff, rfl, by decide +kernel,
     by decide +kernel, by decide +kernel, by decide +kernel⟩⟩

/-- Values that meet the hypotheses of `Obligations.PreviewSlots`, clauses 1 to 6 of those that have some. -/
theorem witness_PreviewSlots_1 :
    (∃ (c : Chan) (s : State), (∀ x ∈ s.pp.slots, .newest c ∉ x.holders)) ∧
    (∃ (c : Chan) (s : State) (x : Slot), (s.pp.slots.find? (fun y => .newest c ∈ y.holders) = some x)) ∧
    (∃ (k : Outp) (n : Nat) (s : State) (r : Instr) (slots : List Slot), (r = .slotDrop k n ∧ slots = dropHolder
      (.output k) (fun y => y.num = n) s.pp.slots ∨ r = .dropAll k ∧ slots = dropHolder (.output k) (fun _ => true)
      s.pp.slots)) ∧
    (∃ (n : Nat), n ≠ 0) ∧
    (∃ (n : Nat) (s : State), (∀ x ∈ s.pp.slots, x.num = n → .inspect ∉ x.holders)) ∧
    (∃ (n : Nat) (s : State) (x : Slot) (c : Chan) (pass : Nat), (s.pp.slots.find? (fun y => y.num = n && .inspect ∈
      y.holders) = some x) ∧ x.src = .live c pass) :=
  ⟨⟨0, State.reset, by decide +kernel⟩,
   ⟨0, withSlots [{ slot0 with holders := [.newest 0] }] State.reset, _, rfl⟩,
   ⟨0, 0, State.reset, .dropAll 0, [], by decide +kernel⟩,
   ⟨1, by decide +kernel⟩,
   ⟨0, State.reset, by decide +kernel⟩,
   ⟨0, withSlots [slot0] State.reset, _, 0, 3, rfl, by decide +kernel⟩⟩

/-- Values that meet the hypotheses of `Obligations.PreviewSlots`, clauses 7 to 11 of those that have some. -/
theorem witness_PreviewSlots_2 :
    (∃ (s : State) (pass : Nat) (e : Settle), (s.fx.settle.find? (fun y => y.pass = pass) = some e) ∧ e.left ≤ 1) ∧
    (∃ (n : Nat) (s : State) (x : Slot) (slots : List Slot) (out : List Wire), (s.pp.slots.find? (fun y => y.num = n
      && .inspect ∈ y.holders) = some x) ∧ x.src = .reinspect ∧ (slots = dropHolder .inspect (fun y => y.num = n)
      s.pp.slots) ∧ (out =
      (if slots.length ≠ s.pp.slots.length then [⟨.pp, .fx, .reinspectPlaneResume (64 - slots.length)⟩] else []))) ∧
    (∃ (n : Nat) (s : State) (x : Slot) (k : Outp) (slots : List Slot) (out : List Wire), (s.pp.slots.find? (fun y =>
      y.num = n && .inspect ∈ y.holders) = some x) ∧ x.src = .playback k ∧ (slots = dropHolder .inspect (fun y =>
      y.num = n) s.pp.slots) ∧ (out =
      (if slots.length ≠ s.pp.slots.length then [⟨.pp, .fx, .reinspectPlaneResume (64 - slots.length)⟩] else []))) ∧
    (∃ (s : State) (pass : Nat) (e : Settle), (s.fx.settle.find? (fun y => y.pass = pass) = some e) ∧ 2 ≤ e.left) ∧
    (∃ (s : State) (pass : Nat), (∀ y ∈ s.fx.settle, y.pass ≠ pass)) :=
  ⟨⟨{ State.reset with fx := { State.reset.fx with settle := [{ pass := 3, clip := 0, skipped := 0, left := 1 }] } },
     3, _, rfl, by decide +kernel⟩,
   ⟨0, withSlots [{ slot0 with src := .reinspect }] State.reset, _, _, _, rfl, by decide +kernel, rfl, rfl⟩,
   ⟨0, withSlots [{ slot0 with src := .playback 0 }] State.reset, _, 0, _, _, rfl, by decide +kernel, rfl, rfl⟩,
   ⟨{ State.reset with fx := { State.reset.fx with settle := [{ pass := 3, clip := 0, skipped := 1, left := 2 }] } },
     3, { pass := 3, clip := 0, skipped := 1, left := 2 }, by decide +kernel, by decide +kernel⟩,
   ⟨{ State.reset with fx := { State.reset.fx with settle := [{ pass := 3, clip := 0, skipped := 1, left := 2 }] } },
     4, by decide +kernel⟩⟩

end Sys2Proof.Tests
end

