-- ==== Sys2Proof/Tests/WitnessesCases.lean ====
section
/-! SUPPORT. Values that meet the hypotheses of the last clauses of the statements that say a command's rarer cases. -/

namespace Sys2Proof.Tests

set_option Elab.async false

open Sys2Proof Sys2Proof.Machine

/-- Values that meet the hypotheses of `Obligations.BurstsAndReadErrors`: those of its last clauses that have some, in their order. -/
theorem witness_BurstsAndReadErrors_3 :
    (∃ (ch : Chan) (serial : Serial) (clipNo : Nat) (s : State) (b : Bay), s.bayOf serial = some b ∧ (s.bay b).reader = some ch ∧
  ∀ m ∈ (s.bay b).map, m.clipNo ≠ clipNo) ∧
    (∃ (b : Bay) (tok : Nat) (s : State), (s.bay b).burst = none ∨
  (∃ x, (s.bay b).burst = some x ∧ (x.running = false ∨ x.tok ≠ tok))) ∧
    (∃ (ch : Chan) (serial : Serial) (s : State), s.bayOf serial = none ∨ (∃ b, s.bayOf serial = some b ∧ ((s.bay b).burst = none ∨
  ∃ x, (s.bay b).burst = some x ∧ (x.ch ≠ ch ∨ x.running = true)))) :=
  ⟨⟨0, 7, 2, withBay { bay0 with reader := some 0, map := [{ clipNo := 1, first := 0, count := 1, len := 10 }] }, 0,
  by decide +kernel, by decide +kernel, by decide +kernel⟩,
   ⟨0, 4, withBay { bay0 with burst := some burst0 }, .inr ⟨burst0, by decide +kernel, by decide +kernel⟩⟩,
   ⟨0, 7, withBay bay0, .inr ⟨0, by decide +kernel, .inl (by decide +kernel)⟩⟩⟩

/-- Values that meet the hypotheses of `Obligations.CardRemovalAndRelease`: those of its last clauses that have some, in their order. -/
theorem witness_CardRemovalAndRelease_2 :
    (∃ (serial : Serial) (s : State) (c : Clip), catalogOk s ∧ c ∈ s.cat.clips ∧ c.serial = serial ∧
  ¬(c.state = .verified ∧ c.blocking = 0 ∧ c.overflow = false) ∧
  ∀ x ∈ s.cat.clips, x.serial = serial → x.id < c.id → x.state = .verified ∧ x.blocking = 0 ∧ x.overflow = false) ∧
    (∃ (b : Bay) (ins : Nat) (s : State) (why : Reason), ((s.bay b).ins ≠ ins ∧ why = .noCard ∨
  (s.bay b).ins = ins ∧ (s.bay b).state = .released ∧ why = .already ∨
  (s.bay b).ins = ins ∧ ((s.bay b).state = .empty ∨ (s.bay b).state = .listing ∨ (s.bay b).state = .unreadable) ∧
    why = .noCard)) ∧
    (∃ bay : Nat, 6 ≤ bay) :=
  ⟨⟨7, withClips [{ clip0 with state := .verified }, { clip0 with id := 1, clipNo := 2, state := .verified, overflow := true }],
  { clip0 with id := 1, clipNo := 2, state := .verified, overflow := true },
  ⟨by decide +kernel, by decide +kernel, by decide +kernel⟩, by decide +kernel, by decide +kernel, by decide +kernel,
  by decide +kernel⟩,
   ⟨0, 0, withBay { bay0 with state := .released }, .already, by decide +kernel⟩,
   ⟨6, by decide⟩⟩

/-- Values that meet the hypotheses of `Obligations.CatalogListing`: those of its last clauses that have some, in their order. -/
theorem witness_CatalogListing_3 :
    (∃ s : State, catalogOk s) ∧
    (∃ (s : State) (c : Clip), catalogOk s ∧ ∀ x ∈ s.cat.clips, x.id ≠ c.id) :=
  ⟨⟨withClips [clip0], by decide +kernel, by decide +kernel, by decide +kernel⟩,
   ⟨withClips [{ clip0 with id := 1 }], clip0, ⟨by decide +kernel, by decide +kernel, by decide +kernel⟩, by decide +kernel⟩⟩

/-- Values that meet the hypotheses of `Obligations.CopiesMadeAndFound`: those of its last clauses that have some, in their order. -/
theorem witness_CopiesMadeAndFound_2 :
    (∃ l : List Copy, l.length < 6) ∧
    (∃ (pre post : List Copy) (y : Copy), 6 ≤ (pre ++ y :: post).length ∧
  (∀ z ∈ pre, z.state ≠ .failed ∧ z.state ≠ .abandoned ∧ z.state ≠ .stale) ∧
  (y.state = .failed ∨ y.state = .abandoned ∨ y.state = .stale)) ∧
    (∃ l : List Copy, 6 ≤ l.length ∧ ∀ z ∈ l, z.state ≠ .failed ∧ z.state ≠ .abandoned ∧ z.state ≠ .stale) :=
  ⟨⟨[copy0], by decide⟩,
   ⟨sixCopies.take 5, [], { copy0 with state := .stale }, by decide +kernel, by decide +kernel, by decide +kernel⟩,
   ⟨sixCopies, by decide +kernel, by decide +kernel⟩⟩

/-- Values that meet the hypotheses of `Obligations.SourceSums`: those of its last clauses that have some, in their order. -/
theorem witness_SourceSums_2 :
    (∃ (clip order ext : Nat) (s : State) (c : Clip), s.clip? clip = some c ∧ c.order = some order ∧ c.complete = false ∧
  ext ≠ (c.sums.getD []).length) :=
  ⟨0, 5, 1, withClips [{ clip0 with order := some 5, sums := some [] }], _, rfl, by decide +kernel, by decide +kernel,
  by decide +kernel⟩

/-- Values that meet the hypotheses of `Obligations.BindAndUnbind`: those of its last clauses that have some, in their order. -/
theorem witness_BindAndUnbind_2 :
    ((∃ c : Clip, c.sums = none) ∧
    (∃ c : Clip, c.sums ≠ none ∧ c.required ≤ (c.copies.filter fun x => x.state = .verified).length) ∧
    (∃ c : Clip, c.sums ≠ none ∧ (c.copies.filter fun x => x.state = .verified).length < c.required)) :=
  ⟨⟨clip0, rfl⟩, ⟨{ clip0 with sums := some [1], required := 6, copies := sixCopies }, by decide +kernel, by decide +kernel⟩,
  ⟨{ clip0 with sums := some [1], required := 1 }, by decide +kernel, by decide +kernel⟩⟩

/-- Values that meet the hypotheses of `Obligations.RecordFieldsAndPurge`: those of its last clauses that have some, in their order. -/
theorem witness_RecordFieldsAndPurge_3 :
    (∃ clip slot : Nat, 1024 ≤ clip ∨ 32 ≤ slot) ∧
    (∃ clip : Nat, 1024 ≤ clip) :=
  ⟨⟨1023, 32, by decide⟩,
   ⟨1024, by decide⟩⟩

/-- Values that meet the hypotheses of `Obligations.Posting`: those of its last clauses that have some, in their order. -/
theorem witness_Posting_3 :
    (∃ dests : List Nat, dests.length < 1 ∨ 3 < dests.length ∨ ¬dests.Nodup ∨ ∃ d ∈ dests, 4 ≤ d) :=
  ⟨[0, 4], by decide⟩

/-- Values that meet the hypotheses of `Obligations.OrderProgressAndAborts`: those of its last clauses that have some, in their order. -/
theorem witness_OrderProgressAndAborts_3 :
    (∃ (order : Nat) (s : State) (o : Order), s.ods.seen order = some o ∧ o.ending ≠ none) :=
  ⟨5, withOrders .run [{ run0 with ending := some .complete }], _, rfl, by decide +kernel⟩

/-- Values that meet the hypotheses of the clause of `Obligations.ChannelAndReadStart` on a claim that is granted, after
WAITING too. -/
theorem witness_ChannelAndReadStart_4 :
    ∃ (ch : Chan) (tag : Nat) (s : State) (c : Channel), c = s.chan ch ∧ c.claimTag = tag ∧ c.claimAsked = false ∧
      c.claim = .waiting ∧ c.claim ≠ .held ∧ c.phase = .starting :=
  ⟨0, 3, withChan { chan0 with phase := .starting, claim := .waiting, claimTag := 3 }, _, rfl, by decide +kernel,
   by decide +kernel, by decide +kernel, by decide +kernel, by decide +kernel⟩

/-- Values that meet the hypotheses of `Obligations.CopiesAreWrittenAndVerified`: those of its last clauses that have some, in their order. -/
theorem witness_CopiesAreWrittenAndVerified_4 :
    (∃ (ch : Chan) (order : Nat) (p : Port) (ans : WriteAns) (s : State) (c : Channel) (e : Elem), c = s.chan ch ∧ c.phase ≠ .idle ∧
  c.order = some order ∧ c.elem? p = some e ∧ (ans = WriteAns.withdrawn ∨ ans = .done ∧ c.phase = .ending ∨
    ans = .failed ∧ e.phase.alive = false ∨ ans = .lost ∧ e.phase.alive = false ∧ e.phase ≠ .creating)) ∧
    (∃ (ch : Chan) (order : Nat) (p : Port) (s : State) (c : Channel) (e : Elem), c = s.chan ch ∧ c.phase ≠ .idle ∧
  c.order = some order ∧ c.elem? p = some e ∧ e.phase.alive = true) ∧
    (∃ (ch : Chan) (order ext : Nat) (p : Port) (vol : Serial) (s : State) (c : Channel) (e : Elem) (b : Buffer) (r : Instr) (n : Nat),
  c = s.chan ch ∧ c.phase ≠ .idle ∧ c.order = some order ∧ c.elem? p = some e ∧ e.phase.alive = true ∧ b ∈ s.sts.bufs ∧
  b.owner = ch ∧ p ∈ b.pend ∧ (r = .verifyReadAnswer ch order p ext .lost ∧ n = c.outstanding[p] - 1 ∨
    r = .headerWriteAnswer ch order p .lost ∧ e.phase = .header ∧ n = c.outstanding[p] - 1 ∨
    r = .headerRewriteAnswer ch order p .lost ∧ e.phase = .rewrite ∧ n = c.outstanding[p] - 1 ∨
    r = .channelLostVolume ch p vol ∧ e.vol = some vol ∧ n = c.outstanding[p])) ∧
    (∃ (ch : Chan) (order ext : Nat) (p : Port) (s : State) (c : Channel) (e : Elem) (r : Instr), c = s.chan ch ∧ c.phase ≠ .idle ∧
  c.order = some order ∧ c.elem? p = some e ∧ (r = .verifyReadAnswer ch order p ext .withdrawn ∨
    r = .headerRewriteAnswer ch order p .withdrawn ∨
    r = .verifyReadAnswer ch order p ext .lost ∧ e.phase.alive = false ∧ e.phase ≠ .creating ∨
    r = .headerRewriteAnswer ch order p .lost ∧ e.phase ≠ .rewrite)) ∧
    (∃ (ch : Chan) (order num : Nat) (p : Port) (s : State) (c : Channel) (e : Elem) (r : Instr) (b : State), c = s.chan ch ∧
  c.phase ≠ .idle ∧ c.order = some order ∧ c.elem? p = some e ∧ e.phase.alive = true ∧ 2 ≤ c.outstanding[p] ∧
  (r = .extentWriteAnswer ch order p num .failed ∧ b = s.drained ch p num ∨
    r = .headerWriteAnswer ch order p .failed ∧ e.phase = .header ∧ b = s ∨
    r = .headerRewriteAnswer ch order p .failed ∧ e.phase = .rewrite ∧ b = s)) ∧
    (∃ (ch : Chan) (bytes : List Byte) (s : State) (c : Channel) (f : Filling) (num n : Nat) (b : Buffer) (r : RepairPass),
  c = s.chan ch ∧ c.burstOut = true ∧ c.phase ≠ .ending ∧ c.fill = some f ∧ f.num = some num ∧ f.pass = .repair ∧
  extentLen c.dataLen f.ext ≤ f.bytes + bytes.length ∧ c.repair = some r ∧ r.exts[r.done + 1]? = some n ∧ s.sts.buf? num = some b) ∧
    (∃ (ch : Chan) (order ext num : Nat) (s : State) (c : Channel) (r : RepairPass), c = s.chan ch ∧ c.phase ≠ .idle ∧ c.phase ≠ .ending ∧
  c.order = some order ∧ c.summing.find? (fun x => x.2.1 = ext && x.2.2 = .repair) = some (num, ext, .repair) ∧ c.repair = some r ∧
  (∀ e ∈ c.dests, ¬(c.member e = true ∧ ext ∈ e.repairList)) ∧ r.exts.getLast? = some ext ∧ r.done = r.exts.length ∧
  c.claim = .held) :=
  ⟨⟨0, 5, 0, .lost, withChan { chan0 with dests := [{ elem0 with phase := .dropped }] }, _, { elem0 with phase := .dropped }, rfl,
  by decide +kernel, by decide +kernel, by decide +kernel, by decide +kernel⟩,
   ⟨0, 5, 0, withChan chan0, _, elem0, rfl, by decide +kernel, by decide +kernel, by decide +kernel, by decide +kernel⟩,
   ⟨0, 5, 0, 0, 9, withBufs [{ num := 0, owner := 0, clip := 0, ext := 0, pass := .read, len := 5000, pend := [0] }] (withChan chan0),
  chan0, elem0, { num := 0, owner := 0, clip := 0, ext := 0, pass := .read, len := 5000, pend := [0] },
  .channelLostVolume 0 0 9, 0, by decide +kernel, by decide +kernel, by decide +kernel, by decide +kernel, by decide +kernel,
  by decide +kernel, by decide +kernel, by decide +kernel, .inr (.inr (.inr ⟨rfl, by decide +kernel, by decide +kernel⟩))⟩,
   ⟨0, 5, 0, 0, withChan chan0, chan0, elem0, _, by decide +kernel, by decide +kernel, by decide +kernel, by decide +kernel, .inl rfl⟩,
   ⟨0, 5, 0, 0, withChan { chan0 with dests := [{ elem0 with phase := .writing }], outstanding := upd chan0.outstanding 0 fun _ => 2 },
  _, { elem0 with phase := .writing }, _, _, rfl, by decide +kernel, by decide +kernel, by decide +kernel, by decide +kernel,
  by decide +kernel, .inl ⟨rfl, rfl⟩⟩,
   ⟨0, [], withBufs [{ num := 0, owner := 0, clip := 0, ext := 0, pass := .repair, len := 5000 }]
    (withChan { chan0 with phase := .finishing, burstOut := true, fill := some { ext := 0, pass := .repair, tag := 3, num := some 0, bytes := 5000 }
                           repair := some { exts := [0, 2], members := [0] } }),
  _, { ext := 0, pass := .repair, tag := 3, num := some 0, bytes := 5000 }, 0, 2,
  { num := 0, owner := 0, clip := 0, ext := 0, pass := .repair, len := 5000 }, { exts := [0, 2], members := [0] }, rfl,
  by decide +kernel, by decide +kernel, by decide +kernel, by decide +kernel, by decide +kernel, by decide +kernel,
  by decide +kernel, by decide +kernel, by decide +kernel⟩,
   ⟨0, 5, 0, 0, withChan
     { chan0 with phase := .finishing, claim := .held, summing := [(0, 0, .repair)]
                  repair := some { exts := [0], members := [], done := 1 } }, _,
  { exts := [0], members := [], done := 1 }, rfl, by decide +kernel, by decide +kernel, by decide +kernel, by decide +kernel,
  by decide +kernel, by decide +kernel, by decide +kernel, by decide +kernel, by decide +kernel⟩⟩

/-- Values that meet the hypotheses of `Obligations.ArbiterFailuresAndRemoval`: those of its last clauses that have some, in their order. -/
theorem witness_ArbiterFailuresAndRemoval_4 :
    (∃ (p : Port) (s : State), (s.port p).state = .scanning) ∧
    (∃ (p : Port) (s : State), (s.port p).state = .unformatted) ∧
    (∃ (p : Port) (tok : Nat) (s : State) (c : PortCtx) (o : DriveOp) (r : Instr) (n : Nat), c = s.port p ∧ c.op = some o ∧
  o.tok = tok ∧ o.attempt < o.kind.attempts ∧ o.raise = some n ∧
  (r = .driveError p tok true ∨ r = .driveAttemptExpiry p tok true)) ∧
    (∃ (p : Port) (tok : Nat) (s : State) (c : PortCtx) (o : DriveOp) (r : Instr) (n : Nat) (x : WriteReq), c = s.port p ∧
  c.op = some o ∧ o.tok = tok ∧ o.kind.attempts ≤ o.attempt ∧ o.raise = some n ∧ o.kind = .write x ∧
  (r = .driveError p tok true ∨ r = .driveAttemptExpiry p tok true)) :=
  ⟨⟨0, withPort { port0 with state := .scanning, op := some (op0 (.walk 1)) }, by decide +kernel⟩,
   ⟨0, withPort { port0 with state := .unformatted, op := some (op0 (.format 8)) }, by decide +kernel⟩,
   ⟨0, 3, withPort { port0 with op := some { op0 (.write (.header 0 5 1 7 1 5000)) with raise := some 4 } }, _, _, _, 4, rfl, rfl,
  by decide +kernel, by decide +kernel, by decide +kernel, .inl rfl⟩,
   ⟨0, 3, withPort { port0 with op := some { op0 (.write (.header 0 5 1 7 1 5000)) with raise := some 4, attempt := 3 } }, _, _, _, 4, _,
  rfl, rfl, by decide +kernel, by decide +kernel, by decide +kernel, rfl, .inl rfl⟩⟩

/-- Values that meet the hypotheses of `Obligations.ReservationsAndHolders`: those of its last clauses that have some, in their order. -/
theorem witness_ReservationsAndHolders_3 :
    (∃ (p : Port) (ch : Chan) (order : Nat) (s : State) (c : PortCtx), c = s.port p ∧ c.state = .detaching ∧ (ch, order) ∈ c.watching ∧
  ∃ w ∈ c.watching, w ≠ (ch, order)) :=
  ⟨0, 0, 5, withPort { port0 with state := .detaching, watching := [(0, 5), (1, 6)] }, _, rfl, by decide +kernel, by decide +kernel,
  (1, 6), by decide +kernel, by decide +kernel⟩

/-- Values that meet the hypotheses of `Obligations.PortCompletions`: those of its last clauses that have some, in their order. -/
theorem witness_PortCompletions_2 :
    (∃ (p : Port) (tok : Nat) (s : State) (c : PortCtx) (o : DriveOp) (ch : Chan) (order hb : Nat) (serial : Serial) (clipNo len : Nat),
  c = s.port p ∧ c.op = some o ∧ o.tok = tok ∧ o.kind = .write (.header ch order hb serial clipNo len) ∧ 4096 ≤ c.index.length) ∧
    (∃ (p : Port) (tok : Nat) (s : State) (c : PortCtx) (o : DriveOp) (ch : Chan) (order hb : Nat) (sums : List Sum32),
  c = s.port p ∧ c.op = some o ∧ o.tok = tok ∧ o.kind = .write (.rewrite ch order hb sums) ∧ ∀ x ∈ c.index, x.hb ≠ hb) :=
  ⟨⟨0, 3, withPort { port0 with op := some (op0 (.write (.header 0 5 1 7 1 5000))), index := List.replicate 4096 entry0 }, _, _, _, _, _,
  _, _, _, rfl, rfl, rfl, rfl, by decide +kernel⟩,
   ⟨0, 3, withPort { port0 with op := some (op0 (.write (.rewrite 0 5 1 []))) }, _, _, 0, 5, 1, [], rfl, rfl, rfl, rfl,
  by decide +kernel⟩⟩

/-- Values that meet the hypotheses of `Obligations.LivePass`: those of its last clauses that have some, in their order. -/
theorem witness_LivePass_3 :
    (∃ (s : State) (ch : Chan) (x : LiveCtx), x = s.liveCtx ch ∧ x.parse.state = .parsing ∧ x.parse.chunk = none ∧
  x.parse.gather.length < 63 ∧ x.parse.pos < x.parse.dataLen ∧ x.parse.dataLen ≤ x.parse.pos + (x.parse.gather.length + 1)) :=
  ⟨withLive { parse := .start 0 1 1, pass := 4 }, 0, _, rfl, by decide +kernel⟩

/-- Values that meet the hypotheses of `Obligations.PlaybackAndReinspectionReading`: those of its last clauses that have some, in their order. -/
theorem witness_PlaybackAndReinspectionReading_5 :
    (∃ (k : Outp) (rtok : Nat) (s : State) (x : PlayCtx) (f : Nat × Nat) (rest : List (Nat × Nat)), x = s.playCtx k ∧
  x.rtok = some rtok ∧ x.fetches = f :: rest ∧ rest ≠ []) ∧
    ((∃ (k : Outp) (rtok : Nat) (bytes : List Byte) (s : State) (x : PlayCtx) (f : Nat × Nat) (rest : List (Nat × Nat)) (h : ChunkHdr)
    (p : Parse), x = s.playCtx k ∧ x.rtok = some rtok ∧ x.fetches = f :: rest ∧ rest ≠ [] ∧ p = x.parse ∧
    readChunkHdr p.pos p.dataLen ((bytes.drop (p.pos % 4096)).take 64) = some h ∧ p.ordinal < f.2) ∧
  (∃ (k : Outp) (rtok : Nat) (bytes : List Byte) (s : State) (x : PlayCtx) (f : Nat × Nat) (rest : List (Nat × Nat)) (h : ChunkHdr)
    (p : Parse), x = s.playCtx k ∧ x.rtok = some rtok ∧ x.fetches = f :: rest ∧ rest ≠ [] ∧ p = x.parse ∧
    readChunkHdr p.pos p.dataLen ((bytes.drop (p.pos % 4096)).take 64) = some h ∧ f.2 ≤ p.ordinal ∧ h.preview = 0) ∧
  (∃ (k : Outp) (rtok : Nat) (bytes : List Byte) (s : State) (x : PlayCtx) (f : Nat × Nat) (rest : List (Nat × Nat)) (h : ChunkHdr)
    (p : Parse) (n : Nat), x = s.playCtx k ∧ x.rtok = some rtok ∧ x.fetches = f :: rest ∧ rest ≠ [] ∧ p = x.parse ∧
    readChunkHdr p.pos p.dataLen ((bytes.drop (p.pos % 4096)).take 64) = some h ∧ f.2 ≤ p.ordinal ∧ h.preview ≠ 0 ∧
    s.pp.lowestFree = some n)) ∧
    ((∃ (k : Outp) (s : State), (s.playCtx k).src = none) ∧
  (∃ (k : Outp) (f : Nat × Nat) (s : State) (x : PlayCtx) (p : Parse) (src : Source), x = s.playCtx k ∧
    p = (if f.2 < x.parse.ordinal then { x.parse with pos := 0, ordinal := 0, lastIndex := none } else x.parse) ∧ x.src = some src ∧
    p.dataLen ≤ p.pos) ∧
  (∃ (k : Outp) (f : Nat × Nat) (s : State) (x : PlayCtx) (p : Parse) (src : Source), x = s.playCtx k ∧
    p = (if f.2 < x.parse.ordinal then { x.parse with pos := 0, ordinal := 0, lastIndex := none } else x.parse) ∧ x.src = some src ∧
    p.pos < p.dataLen ∧ p.dataLen < p.pos + 64) ∧
  (∃ (k : Outp) (f : Nat × Nat) (s : State) (x : PlayCtx) (p : Parse) (src : Source), x = s.playCtx k ∧
    p = (if f.2 < x.parse.ordinal then { x.parse with pos := 0, ordinal := 0, lastIndex := none } else x.parse) ∧ x.src = some src ∧
    p.pos + 64 ≤ p.dataLen)) ∧
    (∃ (s : State), s.fx.re.parse.state = .waiting ∧ s.fx.re.held = []) ∧
    (∃ (free : Nat) (s : State) (n : Nat), s.fx.re.parse.state = .waiting ∧ 16 ≤ free ∧ 16 ≤ s.pp.free ∧ s.pp.lowestFree = some n) ∧
    (∃ (s : State) (x : ReCtx), x = s.fx.re ∧ x.parse.state = .parsing ∧ x.parse.chunk = none ∧ x.parse.gather.length < 63 ∧
  x.parse.pos < x.parse.dataLen ∧ x.parse.dataLen ≤ x.parse.pos + (x.parse.gather.length + 1)) :=
  ⟨⟨0, 3, withPlay { rtok := some 3, fetches := [(0, 1), (0, 2)] }, _, _, _, rfl, rfl, rfl, by decide +kernel⟩,
   ⟨⟨0, 2, chunkHdr 0, withPlay { parse := { parse0 with dataLen := 64 }, rtok := some 2, fetches := [(1, 1), (1, 2)] }, _, _, _,
    ⟨64, 0, tc0, 0⟩, _, rfl, rfl, rfl, by decide +kernel, rfl, by decide +kernel, by decide +kernel⟩,
   ⟨0, 2, chunkHdr 0, withPlay { parse := { parse0 with dataLen := 64 }, rtok := some 2, fetches := [(1, 0), (1, 1)] }, _, _, _,
    ⟨64, 0, tc0, 0⟩, _, rfl, rfl, rfl, by decide +kernel, rfl, by decide +kernel, by decide +kernel, by decide +kernel⟩,
   ⟨0, 2, chunkHdr 2332800, withPlay { parse := { parse0 with dataLen := 2332864 }, rtok := some 2, fetches := [(1, 0), (1, 1)] },
    _, _, _, ⟨2332864, 0, tc0, 2332800⟩, _, 0, rfl, rfl, rfl, by decide +kernel, rfl, by decide +kernel, by decide +kernel,
    by decide +kernel, by decide +kernel⟩⟩,
   ⟨⟨0, State.reset, by decide +kernel⟩,
   ⟨0, (1, 0), withPlay { parse := { parse0 with dataLen := 64, pos := 64 }, src := some src0 }, _, _, src0, rfl, rfl,
    by decide +kernel, by decide +kernel⟩,
   ⟨0, (1, 0), withPlay { parse := { parse0 with dataLen := 64, pos := 1 }, src := some src0 }, _, _, src0, rfl, rfl,
    by decide +kernel, by decide +kernel⟩,
   ⟨0, (1, 0), withPlay { parse := { parse0 with dataLen := 64 }, src := some src0 }, _, _, src0, rfl, rfl,
    by decide +kernel, by decide +kernel⟩⟩,
   ⟨withRe { parse := { Parse.start 0 5000 1 with state := .waiting } }, by decide +kernel⟩,
   ⟨16, withRe { parse := { Parse.start 0 5000 1 with state := .waiting } }, 0, by decide +kernel, by decide +kernel, by decide +kernel,
  by decide +kernel⟩,
   ⟨withRe { parse := .start 0 1 1 }, _, rfl, by decide +kernel⟩⟩

/-- Values that meet the hypotheses of `Obligations.Reinspection`: those of its last clauses that have some, in their order. -/
theorem witness_Reinspection_4 :
    (∃ (run : Nat) (s : State) (r : Reader) (ans : ReReadAns), r = s.ins.reader ∧ r.run = run ∧ r.readOut = true ∧
  (r.state = .draining ∧ (ans = ReReadAns.failed ∨ ans = .lost) ∨ ans = .withdrawn)) ∧
    (∃ (s : State), s.ins.reader.state ≠ .reading) :=
  ⟨⟨3, withReader { state := .draining, run := 3, readOut := true }, _, .lost, rfl, by decide +kernel, by decide +kernel, by decide +kernel⟩,
   ⟨withReader { state := .draining, run := 3, readOut := true }, by decide +kernel⟩⟩

/-- Values that meet the hypotheses of `Obligations.FrameBoundaries`: those of its last clauses that have some, in their order. -/
theorem witness_FrameBoundaries_3 :
    ((∃ (s : State) (o : Output), o = s.out 0 ∧ o.enabled = true ∧ o.group = none ∧ o.bnd = none ∧ o.route = .none ∧
      o.current = some current0) ∧
    (∃ (s : State) (o : Output), o = s.out 0 ∧ o.enabled = true ∧ o.group = none ∧ o.bnd = none ∧ o.route = .playback ∧
      o.play = .playing ∧ o.statusOf o.pos = some .noSlot) ∧
    (∃ (s : State) (o : Output), o = s.out 0 ∧ o.enabled = true ∧ o.group = none ∧ o.bnd = none ∧ o.route = .playback ∧
      o.play = .playing ∧ o.statusOf o.pos = some .beyondEnd) ∧
    ∃ (s : State) (o : Output), o = s.out 0 ∧ o.enabled = true ∧ o.group = none ∧ o.bnd = none ∧ o.route = .playback ∧
      o.current ≠ none ∧ (o.play = .paused ∨ o.play = .ended)) :=
  ⟨⟨withOut { out0 with current := some current0 }, _, rfl, rfl, rfl, rfl, rfl, rfl⟩,
    ⟨withOut { playing0 with prefetch := [{ frame := 0, run := 3, src := none, status := .noSlot }] }, _, rfl, rfl, rfl, rfl,
      rfl, rfl, rfl⟩,
    ⟨withOut { playing0 with prefetch := [{ frame := 0, run := 3, src := none, status := .beyondEnd }] }, _, rfl, rfl, rfl,
      rfl, rfl, rfl, rfl⟩,
    ⟨withOut { playing0 with play := .paused, current := some current0 }, _, rfl, rfl, rfl, rfl, rfl,
      (fun h => by cases h), .inl rfl⟩⟩

/-- Values that meet the hypotheses of `Obligations.GroupBoundaries`: those of its last clauses that have some, in their order. -/
theorem witness_GroupBoundaries_4 :
    ((∃ (s : State) (o : Output), (∀ j ∈ s.members 0, (s.out j).bnd = none) ∧ 0 ∈ s.members 0 ∧ o = s.out 0 ∧
      o.route = .playback ∧ o.unsynced = true ∧ o.play = .playing ∧ o.statusOf o.pos = none ∧ o.current ≠ none) ∧
    (∃ (s : State) (o : Output), (∀ j ∈ s.members 0, (s.out j).bnd = none) ∧ 0 ∈ s.members 0 ∧ o = s.out 0 ∧
      o.route = .playback ∧ o.unsynced = true ∧ o.play = .playing ∧ o.statusOf o.pos = some .unparsable) ∧
    (∃ (s : State) (o : Output), (∀ j ∈ s.members 0, (s.out j).bnd = none) ∧ 0 ∈ s.members 0 ∧ o = s.out 0 ∧
      o.route = .pattern) ∧
    (∃ (s : State) (o : Output) (x : PlayClip) (r n : Nat), (∀ j ∈ s.members 0, (s.out j).bnd = none) ∧ 0 ∈ s.members 0 ∧
      o = s.out 0 ∧ o.route = .playback ∧ o.unsynced = false ∧ o.play = .playing ∧ o.clip = some x ∧
      (s.clock 0).rate = some r ∧ n = tcDiff r (tcPlus r ((after (.groupBoundary 0) s).clock 0).tc o.offset) x.start ∧
      n < x.frames ∧ o.current = none ∧ o.statusOf n = some .beyondEnd) ∧
    ∃ (s : State) (o : Output) (x : PlayClip) (r n : Nat), (∀ j ∈ s.members 0, (s.out j).bnd = none) ∧ 0 ∈ s.members 0 ∧
      o = s.out 0 ∧ o.route = .playback ∧ o.unsynced = false ∧ o.play = .playing ∧ o.clip = some x ∧
      (s.clock 0).rate = some r ∧ n = tcDiff r (tcPlus r ((after (.groupBoundary 0) s).clock 0).tc o.offset) x.start ∧
      x.frames ≤ n) ∧
    ((∃ (s : State) (ks : List Outp), ks ≠ [] ∧ ∃ k ∈ ks, (s.out k).readySlot = none) ∧
    ∃ (s : State) (ks : List Outp), ks ≠ [] ∧ ∀ k ∈ ks, (s.out k).readySlot ≠ none) ∧
    ((∃ (s : State) (ks : List Outp), ks = s.members 0 ∧ ks ≠ [] ∧ (∀ k ∈ ks, (s.out k).bnd = none) ∧
      ∀ k ∈ ks, (s.out k).route = .none ∨ (s.out k).route = .pattern) ∧
    ∃ (s : State) (ks : List Outp), ks = s.members 0 ∧ ks ≠ [] ∧ (∀ k ∈ ks, (s.out k).bnd = none) ∧
      ∃ k ∈ ks, ∃ c, (s.out k).route = .live c) :=
  ⟨⟨⟨withOuts { grouped0 with unsynced := true, current := some current0 } {} clock0, _, by decide, by decide, rfl, rfl, rfl,
      rfl, rfl, (fun h => by cases h)⟩,
    ⟨withOuts { grouped0 with unsynced := true, prefetch := [{ frame := 0, run := 3, src := none, status := .unparsable }] }
      {} clock0, _, by decide, by decide, rfl, rfl, rfl, rfl, rfl⟩,
    ⟨withOuts { grouped0 with route := .pattern } {} clock0, _, by decide, by decide, rfl, rfl⟩,
    ⟨withOuts { grouped0 with prefetch := [{ frame := 0, run := 3, src := none, status := .beyondEnd }] }
      {} { clock0 with first := true }, _, play0, 1, 0, by decide, by decide, rfl, rfl, rfl, rfl, rfl, rfl, by decide +revert, by decide,
      rfl, rfl⟩,
    ⟨withOuts grouped0 {} { clock0 with tc := ⟨1, 0, 0, 0⟩ }, _, play0, 1, _, by decide, by decide, rfl, rfl, rfl, rfl, rfl,
      rfl, rfl, by decide⟩⟩,
   ⟨⟨State.reset, [0], (fun h => by cases h), 0, by decide, by decide⟩,
    ⟨withOut { out0 with bnd := some { bnd0 with stage := .ready 0 } }, [0], (fun h => by cases h), by decide⟩⟩,
   ⟨⟨withOuts { out0 with group := some 0, route := .none } { out0 with group := some 0, route := .pattern } clock0, [0, 1],
      by decide, by decide, by decide, by decide⟩,
    ⟨withOuts { out0 with group := some 0, route := .live 0 } {} clock0, [0], by decide, by decide, by decide, 0, by decide, 0,
      rfl⟩⟩⟩

/-- Values that meet the hypotheses of `Obligations.LatchAndRender`: those of its last clauses that have some, in their order. -/
theorem witness_LatchAndRender_3 :
    ((∃ (s : State) (o : Output) (b : Boundary) (c : Chan) (i : LookIx), o = s.out 0 ∧ o.bnd = some b ∧ b.stage = .pool c ∧
      b.grp = some 0 ∧ (∀ x pass, o.current = some x → x.src ≠ .live c pass) ∧ i = missSlot o ∧
      ∃ j ∈ s.taking 0 b.event, j ≠ 0 ∧ (s.out j).readySlot = none) ∧
    ∃ (s : State) (o : Output) (b : Boundary) (c : Chan) (i : LookIx), o = s.out 0 ∧ o.bnd = some b ∧ b.stage = .pool c ∧
      b.grp = some 0 ∧ o.override_ = some i ∧ ∀ j ∈ s.taking 0 b.event, j ≠ 0 → (s.out j).readySlot ≠ none) ∧
    ((∃ (s : State) (o : Output) (b : Boundary) (c : Chan) (clip : Nat), o = s.out 0 ∧ o.bnd = some b ∧ b.stage = .pool c ∧
      o.override_ = none ∧ ∃ x pass, o.current = some x ∧ x.src = .live c pass ∧ clip = x.hdr.clip) ∧
    ∃ (s : State) (o : Output) (b : Boundary) (c : Chan) (clip n : Nat) (hdr : FrameHdr), o = s.out 0 ∧ o.bnd = some b ∧
      b.stage = .pool c ∧ o.override_ = none ∧ clip = hdr.clip ∧
      ∀ x pass, o.current = some x → x.src = .live c pass → x.seq ≠ n) ∧
    (∃ (s : State) (outs : List (Outp × Nat × LookIx × Nat × LookRec)), outs ≠ [] ∧ (outs.map (·.1)).Nodup ∧
      ∀ x ∈ outs, ∀ b, (s.out x.1).bnd = some b → b.tok = x.2.1 → b.stage ≠ .latching) :=
  ⟨⟨⟨withOuts { out0 with bnd := some { bnd0 with grp := some 0 } } { out0 with bnd := some { bnd0 with grp := some 0 } } clock0,
      _, _, _, _, rfl, rfl, rfl, rfl, (fun x _ h => by cases h), rfl, 1, by decide, by decide, by decide⟩,
    ⟨withOuts { out0 with bnd := some { bnd0 with grp := some 0 }, override_ := some 2 }
      { out0 with bnd := some { bnd0 with grp := some 0, stage := .ready 0 } } clock0, _, _, _, _, rfl, rfl, rfl, rfl, rfl,
      by decide⟩⟩,
   ⟨⟨withOut { out0 with bnd := some bnd0, current := some live0 }, _, _, _, _, rfl, rfl, rfl, rfl, _, _, rfl, rfl, rfl⟩,
    ⟨withOut { out0 with bnd := some bnd0 }, _, _, _, _, 0, frame0, rfl, rfl, rfl, rfl, rfl, (fun x _ h => by cases h)⟩⟩,
   ⟨withOut { out0 with bnd := some { bnd0 with stage := .latching } }, [(0, 2, 0, 0, identityLook)], by simp, by simp,
    fun x hx b hb ht => by
      simp only [List.mem_singleton] at hx; subst hx; cases hb; exact absurd ht (by decide)⟩⟩

/-- Values that meet the hypotheses of `Obligations.Play`: those of its last clauses that have some, in their order. -/
theorem witness_Play_4 :
    ((∃ (s : State) (o : Output) (e : Prefetch), o = s.out 0 ∧ e ∈ o.prefetch ∧ e.status = .requested ∧ e.waits = true ∧
      (o.prefetch.map (·.frame)).Nodup) ∧
    ∃ (s : State) (o : Output) (e : Prefetch), o = s.out 0 ∧ e ∈ o.prefetch ∧ e.waits = true ∧
      (o.prefetch.map (·.frame)).Nodup ∧ e.src = o.src ∧ o.play = .ended ∧ o.why = some .sourceLost) ∧
    (∃ (s : State) (o : Output) (e : Prefetch), o = s.out 0 ∧ e ∈ o.prefetch ∧ e.waits = true ∧
      (o.prefetch.map (·.frame)).Nodup ∧ e.src = o.src ∧ o.play = .ended ∧ o.why ≠ some .sourceLost) :=
  ⟨⟨⟨withOut { playing0 with prefetch := [{ frame := 0, run := 3, src := some src0, status := .requested }] }, _, _, rfl,
      .head _, rfl, rfl, by decide⟩,
    ⟨withOut { playing0 with play := .ended, why := some .sourceLost,
                             prefetch := [{ frame := 0, run := 3, src := some src0, status := .late }] }, _, _, rfl, .head _,
      rfl, by decide, rfl, rfl, rfl⟩⟩,
   ⟨withOut
     { playing0 with play := .ended, why := some .purged
                     prefetch := [{ frame := 0, run := 3, src := some src0, status := .late }] }, _, _, rfl, .head _,
    rfl, by decide, rfl, rfl, by decide⟩⟩

/-- Values that meet the hypotheses of `Obligations.PlayEndsAndGroups`: those of its last clauses that have some, in their order. -/
theorem witness_PlayEndsAndGroups_3 :
    (∃ (s : State) (o : Output), o = s.out 0 ∧ o.group = some 0 ∧ o.play ≠ .stopped ∧ slotDrops 0 o ≠ []) ∧
    ((∃ (s : State) (r : Instr) (hit : Output → Bool), r = Instr.outputLostVolume 0 9 ∧
      hit = (fun o => o.src.any fun x => x.vol = 9) ∧ hit (s.out 0) = true ∧ (s.out 0).play = .playing) ∧
    ∃ (s : State) (r : Instr) (hit : Output → Bool), r = Instr.outputPurgeList [0] ∧
      hit = (fun o => o.clip.any fun c => [0].contains c.clip) ∧ hit (s.out 0) = true ∧ (s.out 0).play = .ended ∧
      (s.out 0).why ≠ some .purged) :=
  ⟨⟨withOuts { grouped0 with current := some current0 } {} clock0, _, rfl, rfl, by decide, by decide⟩,
   ⟨⟨withOut playing0, _, _, rfl, rfl, rfl, rfl⟩,
    ⟨withOut { playing0 with play := .ended, why := some .lastFrame }, _, _, rfl, rfl, rfl, rfl, by decide⟩⟩⟩

/-- Values that meet the hypotheses of `Obligations.RequestsAndResponses`: those of its last clauses that have some, in their order. -/
theorem witness_RequestsAndResponses_3 :
    (∃ n : Nat, n < 256) ∧
    (∃ n : Nat, n < 65536) ∧
    (∃ n m l k : Nat, n < 256 ∧ k < 256 ∧ m < 65536 ∧ l < 4294967296) ∧
    (∃ (n m cls : Nat) (c : Option Nat) (ns : List Nat), n < 256 ∧ m < 65536 ∧ cls < 256 ∧ (∀ k, c = some k → k < 65536) ∧
      ns.length < 65536 ∧ (∀ k ∈ ns, k < 256) ∧ ns ≠ [] ∧ c ≠ none) ∧
    (∃ (n m : Nat) (target : PlayTarget) (preset : Preset) (clip start : Option Nat) (tc : Option Timecode), n < 256 ∧ m < 256 ∧
      (∀ k, target = PlayTarget.output k ∨ target = .group k → k < 256) ∧ (∀ k, preset = Preset.copy k → k < 256) ∧
      (∀ k, clip = some k → k < 65536) ∧ (∀ k, start = some k → k < 4294967296) ∧
      ∀ t : Timecode, tc = some t → t.h < 256 ∧ t.m < 256 ∧ t.s < 256 ∧ t.f < 256) ∧
    (∃ (n : Nat) (a : LookItems) (b : RouteItems) (c : ThresholdItems) (d : FilterItems), n < 256 ∧ lookItemsFit a ∧
      routeItemsFit b ∧ thresholdItemsFit c ∧ filterItemsFit d) ∧
    (∃ (bs : List Byte), bs.length < 1) :=
  ⟨⟨255, by decide⟩,
   ⟨65535, by decide⟩,
   ⟨255, 65535, 4294967295, 255, by decide⟩,
   ⟨2, 1023, 3, some 1023, [0, 3], by decide, by decide, by decide, (fun k h => by cases h; decide), by decide, by decide,
    by decide, by decide⟩,
   ⟨3, 31, .group 2, .copy 31, some 1023, some 0, some tc0, by decide, by decide, (fun k h => by rcases h with h | h <;> cases h; decide),
    (fun k h => by cases h; decide), (fun k h => by cases h; decide), (fun k h => by cases h; decide),
    (fun t h => by cases h; decide)⟩,
   ⟨0, items0, {}, {}, filter0, by decide,
    ⟨(fun m h => by cases h), (fun m h => by cases h), (fun m h => by cases h), (fun m h => by cases h), (fun m h => by cases h)⟩,
    ⟨(fun n h => by rcases h with h | h | h | h | h <;> cases h), (fun v h => by cases h)⟩,
    ⟨(fun n h => by rcases h with h | h | h | h <;> cases h), (fun v h => by cases h), (fun v h => by cases h)⟩,
    ⟨by decide, (fun n h => by rcases h with h | h | h <;> cases h), by decide⟩⟩,
   ⟨[], by decide⟩⟩

end Sys2Proof.Tests
end

