-- ==== Sys2Proof/Tests/WitnessesFrames.lean ====
section
/-! SUPPORT. For every statement with hypotheses, values that meet them, with one conjunct for each clause, in the order of the
statement. -/

namespace Sys2Proof.Tests

set_option Elab.async false

open Sys2Proof Sys2Proof.Machine

/-- Values that meet the hypotheses of `Obligations.PlaybackAndReinspectionReading`, clauses 1 to 9 of those that have some. -/
theorem witness_PlaybackAndReinspectionReading_1 :
    (∃ (k : Outp) (s : State) (x : PlayCtx), x = s.playCtx k ∧ x.parse.state = .parsing ∧ x.fetches ≠ []) ∧
    (∃ (k : Outp) (n : Nat) (s : State) (x : PlayCtx) (p : Parse) (src : Source) (first : Nat) (last : Nat), x =
      s.playCtx k ∧ x.parse.state = .parsing ∧ x.fetches = [] ∧ x.src = some src ∧ (p =
      (if n < x.parse.ordinal then { x.parse with pos := 0, ordinal := 0, lastIndex := none } else x.parse)) ∧ p.pos
      + 64 ≤ p.dataLen ∧ first = p.pos ∧ (last =
      (if p.ordinal < n then p.pos + 63 else min (p.pos + 64 + 2332800) p.dataLen - 1))) ∧
    (∃ (k : Outp) (n : Nat) (s : State) (x : PlayCtx) (src : Source), x = s.playCtx k ∧ x.parse.state = .parsing ∧
      x.fetches = [] ∧ x.src = some src ∧ x.parse.ordinal ≤ n ∧ x.parse.dataLen ≤ x.parse.pos) ∧
    (∃ (k : Outp) (s : State) (ans : FetchAns), ((s.playCtx k).parse.state = .halted ∧ ans = FetchAns.unparsable ∨
      (s.playCtx k).parse.state = .idle ∧ ans = .cancelled)) ∧
    (∃ (k : Outp) (rtok : Nat) (s : State), (s.playCtx k).rtok ≠ some rtok) ∧
    (∃ (k : Outp) (rtok : Nat) (bytes : List Byte) (s : State) (x : PlayCtx) (f : Nat × Nat) (h : ChunkHdr) (p :
      Parse), x = s.playCtx k ∧ x.rtok = some rtok ∧ x.fetches = [f] ∧ p = x.parse ∧ readChunkHdr p.pos p.dataLen
      ((bytes.drop (p.pos % 4096)).take 64) = some h ∧ p.ordinal = f.2 ∧ h.preview = 0) ∧
    (∃ (k : Outp) (rtok : Nat) (bytes : List Byte) (s : State) (x : PlayCtx) (f : Nat × Nat) (h : ChunkHdr) (p :
      Parse), x = s.playCtx k ∧ x.rtok = some rtok ∧ x.fetches = [f] ∧ p = x.parse ∧ readChunkHdr p.pos p.dataLen
      ((bytes.drop (p.pos % 4096)).take 64) = some h ∧ p.ordinal = f.2 ∧ h.preview ≠ 0 ∧ s.pp.lowestFree = none) ∧
    (∃ (k : Outp) (rtok : Nat) (s : State) (x : PlayCtx) (f : Nat × Nat), x = s.playCtx k ∧ x.rtok = some rtok ∧
      x.fetches = [f]) ∧
    (∃ (k : Outp) (rtok : Nat) (s : State) (x : PlayCtx), x = s.playCtx k ∧ x.rtok = some rtok ∧ x.fetches ≠ []) :=
  ⟨⟨0, withPlay { parse := parse0, fetches := [(1, 0)] }, _, rfl, by decide +kernel, by decide +kernel⟩,
   ⟨0, 0, withPlay { parse := { parse0 with dataLen := 64 }, src := some src0 }, _, _, _, _, _, rfl,
     by decide +kernel, by decide +kernel, rfl, rfl, by decide +kernel, rfl, rfl⟩,
   ⟨0, 0, withPlay { parse := { parse0 with pos := 5000 }, src := some src0 }, _, _, rfl, by decide +kernel,
     by decide +kernel, rfl, by decide +kernel, by decide +kernel⟩,
   ⟨0, State.reset, .cancelled, by decide +kernel⟩,
   ⟨0, 1, State.reset, by decide +kernel⟩,
   ⟨0, 2, chunkHdr 0, withPlay { parse := { parse0 with dataLen := 64 }, rtok := some 2, fetches := [(1, 0)] }, _,
     (1, 0), ⟨64, 0, tc0, 0⟩, _, rfl, by decide +kernel, by decide +kernel, rfl, by decide +kernel,
     by decide +kernel, by decide +kernel⟩,
   ⟨0, 3, chunkHdr 2332800, withSlots ((List.range 64).map fun n => { slot0 with num := n }) (withPlay
     { parse := { parse0 with dataLen := 3000000 }, src := some src0, fetches := [(2, 0)], rtok := some 3 }), _, (2,
     0), ⟨2332864, 0, tc0, 2332800⟩, _, rfl, by decide +kernel, by decide +kernel, rfl, by decide +kernel,
     by decide +kernel, by decide +kernel, by decide +kernel⟩,
   ⟨0, 3, withPlay { parse := parse0, src := some src0, fetches := [(2, 0)], rtok := some 3 }, _, (2, 0), rfl,
     by decide +kernel, by decide +kernel⟩,
   ⟨0, 3, withPlay { parse := parse0, src := some src0, fetches := [(2, 0)], rtok := some 3 }, _, rfl,
     by decide +kernel, by decide +kernel⟩⟩

/-- Values that meet the hypotheses of `Obligations.PlaybackAndReinspectionReading`, clauses 10 to 18 of those that have some. -/
theorem witness_PlaybackAndReinspectionReading_2 :
    (∃ (k : Outp) (rtok : Nat) (bytes : List Byte) (s : State) (x : PlayCtx) (f : Nat × Nat) (h : ChunkHdr) (p :
      Parse) (n : Nat) (hdr : FrameHdr), x = s.playCtx k ∧ x.rtok = some rtok ∧ x.fetches = [f] ∧ p = x.parse ∧
      readChunkHdr p.pos p.dataLen ((bytes.drop (p.pos % 4096)).take 64) = some h ∧ p.ordinal = f.2 ∧ h.preview ≠ 0 ∧
      s.pp.lowestFree = some n ∧ hdr =
      { clip := p.clip.getD 0, index := h.index, tc := h.tc, ordinal := p.ordinal + 1 }) ∧
    (∃ (k : Outp) (rtok : Nat) (bytes : List Byte) (s : State) (x : PlayCtx) (p : Parse), x = s.playCtx k ∧ x.rtok =
      some rtok ∧ x.fetches ≠ [] ∧ p = x.parse ∧ readChunkHdr p.pos p.dataLen ((bytes.drop (p.pos % 4096)).take 64) =
      none) ∧
    (∃ (k : Outp) (rtok : Nat) (s : State) (x : PlayCtx), x = s.playCtx k ∧ x.rtok = some rtok) ∧
    (∃ (k : Outp) (s : State) (x : PlayCtx), x = s.playCtx k) ∧
    (∃ (s : State), s.fx.re.early = none) ∧
    (∃ (run : Nat) (s : State) (x : ReCtx), x = s.fx.re ∧ x.parse.state = .parsing ∧ x.run = run) ∧
    (∃ (run : Nat) (bytes : List Byte) (s : State) (x : ReCtx), x = s.fx.re ∧ x.parse.state = .waiting ∧ x.run = run
      ∧ bytes ≠ []) ∧
    (∃ (s : State) (x : ReCtx), x = s.fx.re ∧ x.parse.state = .idle) ∧
    (∃ (run : Nat) (s : State), s.fx.re.parse.state = .halted ∧ s.fx.re.run = run) :=
  ⟨⟨0, 2, chunkHdr 2332800, withPlay
     { parse := { parse0 with dataLen := 2332864 }, rtok := some 2, fetches := [(1, 0)] }, _, (1, 0), ⟨2332864, 0,
     tc0, 2332800⟩, _, 0, _, rfl, by decide +kernel, by decide +kernel, rfl, by decide +kernel, by decide +kernel,
     by decide +kernel, by decide +kernel, rfl⟩,
   ⟨0, 2, [], withPlay { parse := { parse0 with dataLen := 64 }, rtok := some 2, fetches := [(1, 0)] }, _, _, rfl,
     by decide +kernel, by decide +kernel, rfl, by decide +kernel⟩,
   ⟨0, 2, withPlay { parse := parse0, rtok := some 2 }, _, rfl, by decide +kernel⟩,
   ⟨0, State.reset, _, rfl⟩,
   ⟨State.reset, by decide +kernel⟩,
   ⟨_, withRe { parse := parse0 }, _, rfl, by decide +kernel, rfl⟩,
   ⟨_, [1], withRe { parse := { parse0 with state := .waiting } }, _, rfl, by decide +kernel, rfl, by decide +kernel⟩,
   ⟨State.reset, _, rfl, by decide +kernel⟩,
   ⟨_, withRe { parse := { parse0 with state := .halted } }, by decide +kernel, rfl⟩⟩

/-- Values that meet the hypotheses of `Obligations.PlaybackAndReinspectionReading`, clauses 19 to 27 of those that have some. -/
theorem witness_PlaybackAndReinspectionReading_3 :
    (∃ (s : State), s.fx.re.parse.state = .parsing) ∧
    (∃ (s : State) (x : ReCtx) (c : Chunk), x = s.fx.re ∧ x.parse.state = .parsing ∧ x.parse.chunk = some c ∧
      c.offered = true ∧ c.taken + 1 = 64 + c.hdr.preview ∧ s.pp.free < 16) ∧
    (∃ (free : Nat) (s : State), (s.fx.re.parse.state ≠ .waiting ∨ free < 16 ∨ s.pp.free < 16)) ∧
    (∃ (free : Nat) (s : State) (x : ReCtx) (n : Nat), x = s.fx.re ∧ x.parse.state = .waiting ∧ 16 ≤ free ∧ 16 ≤
      s.pp.free ∧ s.pp.lowestFree = some n) ∧
    (∃ (run : Nat) (s : State) (x : ReCtx) (r : Instr) (rep : ReReport), x = s.fx.re ∧ x.parse.state ≠ .idle ∧ x.run
      = run ∧ (r = .reinspectContextCancel run ∧ rep = ReReport.counts x.placed x.skipped ∨ r = .reinspectReadLost
      run ∧ rep = .lost x.placed x.skipped x.parse.ordinal)) ∧
    (∃ (run : Nat) (s : State), (s.fx.re.parse.state = .idle ∨ s.fx.re.run ≠ run)) ∧
    (∃ (s : State) (b : Byte) (x : ReCtx) (c : Chunk) (n : Nat) (u : State), x = s.fx.re ∧ x.parse.state = .parsing ∧
      x.parse.chunk = some c ∧ c.offered = true ∧ c.taken + 1 = 64 + c.hdr.preview ∧ 16 ≤ s.pp.free ∧ s.pp.lowestFree
      = some n ∧ u =
      { s with fx := { s.fx with re := { x with placed := x.placed + 1, parse := { x.parse with chunk := some { c with taken := c.taken + 1 }, planeRev := b :: x.parse.planeRev } } }, pp := { s.pp with queue := s.pp.queue ++ [n], slots := insertSlot { num := n, src := .reinspect, plane := (b :: x.parse.planeRev).reverse, holders := [.inspect], hdr := { clip := x.parse.clip.getD 0, index := c.hdr.index, tc := c.hdr.tc, ordinal := x.parse.ordinal } } s.pp.slots }, wire := s.wire ++ [⟨.pp, .fx, .reinspectPlaneResume (64 - (s.pp.slots.length + 1))⟩] }) ∧
    (∃ (s : State) (b : Byte) (x : ReCtx) (h : ChunkHdr), x = s.fx.re ∧ x.parse.state = .parsing ∧ x.parse.chunk =
      none ∧ x.parse.gather.length = 63 ∧ x.parse.pos < x.parse.dataLen ∧ readChunkHdr x.parse.pos x.parse.dataLen
      (x.parse.gather ++ [b]) = some h ∧ h.preview = 0) ∧
    (∃ (s : State) (b : Byte) (x : ReCtx) (h : ChunkHdr), x = s.fx.re ∧ x.parse.state = .parsing ∧ x.parse.chunk =
      none ∧ x.parse.gather.length = 63 ∧ x.parse.pos < x.parse.dataLen ∧ readChunkHdr x.parse.pos x.parse.dataLen
      (x.parse.gather ++ [b]) = some h ∧ h.preview ≠ 0) :=
  ⟨⟨withRe { parse := parse0 }, by decide +kernel⟩,
   ⟨withSlots ((List.range 49).map fun n => { slot0 with num := n }) (withRe
     { parse := { parse0 with chunk := some ⟨⟨65, 0, tc0, 1⟩, 64, true⟩ } }), _, _, rfl, by decide +kernel, rfl,
     by decide +kernel, by decide +kernel, by decide +kernel⟩,
   ⟨15, State.reset, by decide +kernel⟩,
   ⟨16, withRe { parse := { parse0 with state := .waiting } }, _, 0, rfl, by decide +kernel, by decide +kernel,
     by decide +kernel, by decide +kernel⟩,
   ⟨3, withRe { parse := parse0, run := 3 }, _, .reinspectReadLost 3, .lost 0 0 0, rfl, by decide +kernel,
     by decide +kernel, by decide +kernel⟩,
   ⟨1, State.reset, by decide +kernel⟩,
   ⟨withRe { parse := { parse0 with chunk := some ⟨⟨65, 0, tc0, 1⟩, 64, true⟩ } }, 0, _, ⟨⟨65, 0, tc0, 1⟩, 64, true⟩,
     0, _, rfl, by decide +kernel, by decide +kernel, by decide +kernel, by decide +kernel, by decide +kernel,
     by decide +kernel, rfl⟩,
   ⟨withRe { parse := { parse0 with gather := (chunkHdr 0).take 63 } }, (chunkHdr 0).getLast (by decide), _, ⟨64, 0,
     tc0, 0⟩, rfl, by decide +kernel, by decide +kernel, by decide +kernel, by decide +kernel, by decide +kernel,
     by decide +kernel⟩,
   ⟨withRe { parse := { parse0 with dataLen := 3000000, gather := (chunkHdr 2332800).take 63 } }, (chunkHdr
     2332800).getLast (by decide), _, ⟨2332864, 0, tc0, 2332800⟩, rfl, by decide +kernel, by decide +kernel,
     by decide +kernel, by decide +kernel, by decide +kernel, by decide +kernel⟩⟩

/-- Values that meet the hypotheses of `Obligations.PlaybackAndReinspectionReading`, clauses 28 to 33 of those that have some. -/
theorem witness_PlaybackAndReinspectionReading_4 :
    (∃ (s : State) (b : Byte) (x : ReCtx) (n : Nat), x = s.fx.re ∧ x.parse.state = .parsing ∧ x.parse.chunk = none ∧
      x.parse.gather.length = 63 ∧ x.parse.pos < x.parse.dataLen ∧ readChunkHdr x.parse.pos x.parse.dataLen
      (x.parse.gather ++ [b]) = none ∧ (n =
      (match x.parse.lastIndex with | some i => (i + 1) % 16777216 | none => 0))) ∧
    (∃ (s : State) (x : ReCtx) (c : Chunk), x = s.fx.re ∧ x.parse.state = .parsing ∧ x.parse.chunk = some c ∧
      (c.offered = true → c.taken + 1 ≠ 64 + c.hdr.preview) ∧ c.hdr.len ≤ c.taken + 1 ∧ x.parse.dataLen ≤ x.parse.pos
      + c.hdr.len) ∧
    (∃ (s : State) (x : ReCtx) (c : Chunk), x = s.fx.re ∧ x.parse.state = .parsing ∧ x.parse.chunk = some c) ∧
    (∃ (s : State) (x : ReCtx) (c : Chunk), x = s.fx.re ∧ x.parse.state = .parsing ∧ x.parse.chunk = some c ∧ c.taken
      < c.hdr.len) ∧
    (∃ (s : State) (x : ReCtx) (c : Chunk), x = s.fx.re ∧ x.parse.state = .parsing ∧ x.parse.chunk = some c ∧
      c.hdr.len ≤ c.taken ∧ x.parse.pos + c.hdr.len < x.parse.dataLen) ∧
    (∃ (s : State) (x : ReCtx) (c : Chunk), x = s.fx.re ∧ x.parse.state = .parsing ∧ x.parse.chunk = some c ∧
      c.hdr.len ≤ c.taken ∧ x.parse.dataLen ≤ x.parse.pos + c.hdr.len) :=
  ⟨⟨withRe { parse := { parse0 with gather := List.replicate 63 0 } }, 0, _, _, rfl, by decide +kernel,
     by decide +kernel, by decide +kernel, by decide +kernel, by decide +kernel, rfl⟩,
   ⟨withRe { parse := { parse0 with dataLen := 65, chunk := some ⟨⟨65, 0, tc0, 0⟩, 64, false⟩ } }, _, ⟨⟨65, 0, tc0,
     0⟩, 64, false⟩, rfl, by decide +kernel, by decide +kernel, by decide +kernel, by decide +kernel,
     by decide +kernel⟩,
   ⟨withRe { parse := { parse0 with chunk := some ⟨⟨65, 0, tc0, 0⟩, 64, false⟩ } }, _, ⟨⟨65, 0, tc0, 0⟩, 64, false⟩,
     rfl, by decide +kernel, by decide +kernel⟩,
   ⟨withRe { parse := { parse0 with chunk := some ⟨⟨65, 0, tc0, 0⟩, 64, false⟩ } }, _, ⟨⟨65, 0, tc0, 0⟩, 64, false⟩,
     rfl, by decide +kernel, by decide +kernel, by decide +kernel⟩,
   ⟨withRe { parse := { parse0 with chunk := some ⟨⟨65, 0, tc0, 0⟩, 65, false⟩ } }, _, ⟨⟨65, 0, tc0, 0⟩, 65, false⟩,
     rfl, by decide +kernel, by decide +kernel, by decide +kernel, by decide +kernel⟩,
   ⟨withRe { parse := { parse0 with dataLen := 65, chunk := some ⟨⟨65, 0, tc0, 0⟩, 65, false⟩ } }, _, ⟨⟨65, 0, tc0,
     0⟩, 65, false⟩, rfl, by decide +kernel, by decide +kernel, by decide +kernel, by decide +kernel⟩⟩

/-- Values that meet the hypotheses of `Obligations.ContinuityIsChecked`. -/
theorem witness_ContinuityIsChecked :
    (∃ (ch : Chan) (pass : Nat) (s : State) (c : Continuity), c = s.ins.conts[ch] ∧ c.checking = true ∧ c.pass =
      pass) ∧
    (∃ (l : Nat) (n : Nat), l + 1 < n) ∧
    (∃ (l : Nat) (n : Nat), n < l) ∧
    (∃ (c : Continuity) (tc : Timecode), tcValid c.rate tc = false) ∧
    (∃ (c : Continuity) (n : Nat) (tc : Timecode) (l : Nat) (t : Timecode), tcValid c.rate tc = true ∧ c.lastIndex =
      some l ∧ c.lastTc = some t ∧ n = l + 1 ∧ c.drop = false) ∧
    (∃ (c : Continuity) (n : Nat) (tc : Timecode), tcValid c.rate tc = true ∧ (c.lastTc = none ∨ c.drop = true ∨
      c.lastIndex ≠ some (n - 1) ∨ n = 0)) ∧
    (∃ (ch : Chan) (pass : Nat) (how : PassEnd) (s : State) (c : Continuity) (d : Nat), c = s.ins.conts[ch] ∧
      c.checking = true ∧ c.pass = pass ∧ (d =
      (match how with | .finish n => (n - c.frames) + (c.frames - n) | .cutOff => 0 | .halted => 0))) ∧
    (∃ (ch : Chan) (pass : Nat) (s : State), ((s.ins.conts[ch]).checking = false ∨ (s.ins.conts[ch]).pass ≠ pass)) :=
  ⟨⟨0, _, withCont { checking := true, pass := 3 }, _, rfl, by decide +kernel, rfl⟩,
   ⟨5, 7, by decide +kernel⟩,
   ⟨5, 4, by decide +kernel⟩,
   ⟨{ rate := 1 }, ⟨0, 0, 0, 24⟩, by decide +kernel⟩,
   ⟨{ rate := 1, lastIndex := some 5, lastTc := some tc0 }, _, tc0, _, _, by decide +kernel, rfl, rfl, rfl,
     by decide +kernel⟩,
   ⟨{ rate := 1 }, 0, tc0, by decide +kernel, by decide +kernel⟩,
   ⟨0, _, .finish 10, withCont { checking := true, pass := 3, frames := 9 }, _, _, rfl, by decide +kernel, rfl, rfl⟩,
   ⟨0, 0, State.reset, by decide +kernel⟩⟩

/-- Values that meet the hypotheses of `Obligations.AnalysisAndThresholds`, clauses 1 to 10 of those that have some. -/
theorem witness_AnalysisAndThresholds_1 :
    (∃ (tok : Nat) (s : State) (a : Analysis), s.ins.engine = some a ∧ a.tok = tok ∧ a.letter = none ∧ a.done =
      false) ∧
    (∃ (tok : Nat) (s : State) (a : Analysis), s.ins.engine = some a ∧ a.tok = tok ∧ a.letter = none) ∧
    (∃ (tok : Nat) (s : State) (a : Analysis) (l : Option Letter), s.ins.engine = some a ∧ a.tok = tok ∧ a.letter =
      some l) ∧
    (∃ (tok : Nat) (s : State) (a : Analysis), s.ins.engine = some a ∧ a.tok = tok ∧ a.letter = none ∧ a.done = true) ∧
    (∃ (tok : Nat) (s : State), (∀ a, s.ins.engine = some a → a.tok ≠ tok)) ∧
    (∃ (s : State) (a : Analysis) (l : Letter) (xs : List Sample) (ys : List Nat) (mean : Nat) (run : AnalysisCtx ×
      Option (Nat × Nat)) (live : List Site × List Wire), xs = planeSamples a.plane ∧ ys = xs.map luma ∧ mean =
      frameMean ys ∧ run = clipRun a.limits s.ins.ctxs[ctxOf a.src] (decide (a.limits.clipArea ≤ clippedCount
      a.limits.clipLevel xs)) a.hdr.index ∧ (live =
      (match a.src with | .live _ _ => sitesOffered l a.hdr.clip (candidates a.limits mean ys) s.ins.sites | .reinspect | .playback _ => (s.ins.sites, [])))) ∧
    (∃ (s : State) (n : Nat) (rest : List Nat) (x : Slot), s.ins.engine = none ∧ s.pp.queue = n :: rest ∧
      (s.pp.slots.find? (fun y => y.num = n) = some x)) ∧
    (∃ (s : State), (s.ins.engine ≠ none ∨ s.pp.queue = [])) ∧
    (∃ (t : Thresholds) (mean : Nat), t.darkLimit < mean) ∧
    (∃ (t : Thresholds) (mean : Nat), mean ≤ t.darkLimit) :=
  ⟨⟨3, withEngine analysis0, _, rfl, by decide +kernel, by decide +kernel, by decide +kernel⟩,
   ⟨3, withEngine analysis0, _, rfl, by decide +kernel, by decide +kernel⟩,
   ⟨3, withEngine { analysis0 with letter := some (some 0) }, _, _, rfl, by decide +kernel, rfl⟩,
   ⟨3, withEngine { analysis0 with done := true }, _, rfl, by decide +kernel, by decide +kernel, by decide +kernel⟩,
   ⟨3, State.reset, allSome (by decide +kernel)⟩,
   ⟨State.reset, analysis0, 0, _, _, _, _, _, rfl, rfl, rfl, rfl, rfl⟩,
   ⟨{ withSlots [slot0] State.reset with pp := { State.reset.pp with slots := [slot0], queue := [0] } }, 0, [], _,
     by decide +kernel, by decide +kernel, rfl⟩,
   ⟨State.reset, by decide +kernel⟩,
   ⟨{}, 300, by decide +kernel⟩,
   ⟨{}, 0, by decide +kernel⟩⟩

/-- Values that meet the hypotheses of `Obligations.AnalysisAndThresholds`, clauses 11 to 19 of those that have some. -/
theorem witness_AnalysisAndThresholds_2 :
    (∃ (t : Thresholds) (mean : Nat) (ys : List Nat) (c : Nat × Nat), mean ≤ t.darkLimit ∧ isHot ys t.hotLevel c) ∧
    (∃ (c : AnalysisCtx) (index : Nat) (first : Nat) (run : Nat), (first =
      (if c.run = 0 then index else c.runFirst.getD index)) ∧ run = min 64 (c.run + 1)) ∧
    (∃ (sites : List Site) (letter : Letter) (x : Nat) (y : Nat) (e : Site) (older : List Site) (younger : List Site)
      (hits : Nat), sites = older ++ e :: younger ∧ e.letter = letter ∧ e.x = x ∧ e.y = y ∧ (∀ z ∈ older ++ younger,
      ¬(z.letter = letter ∧ z.x = x ∧ z.y = y)) ∧ hits = min 255 (e.hits + 1)) ∧
    (∃ (sites : List Site) (letter : Letter) (x : Nat) (y : Nat) (clip : Nat) (new : Site), (∀ z ∈ sites, ¬(z.letter
      = letter ∧ z.x = x ∧ z.y = y)) ∧ new =
      { letter := letter, x := x, y := y, hits := 1, reported := false, clip := clip }) ∧
    (∃ (sites : List Site) (letter : Letter) (x : Nat) (y : Nat) (clip : Nat) (new : Site), (∀ z ∈ sites, ¬(z.letter
      = letter ∧ z.x = x ∧ z.y = y)) ∧ new =
      { letter := letter, x := x, y := y, hits := 1, reported := false, clip := clip } ∧ sites.length < 256) ∧
    (∃ (sites : List Site) (letter : Letter) (x : Nat) (y : Nat) (clip : Nat) (new : Site), (∀ z ∈ sites, ¬(z.letter
      = letter ∧ z.x = x ∧ z.y = y)) ∧ new =
      { letter := letter, x := x, y := y, hits := 1, reported := false, clip := clip } ∧ 256 ≤ sites.length) ∧
    (∃ (sites : List Site) (letter : Letter) (x : Nat) (y : Nat) (clip : Nat) (new : Site) (older : List Site) (e :
      Site) (younger : List Site), (∀ z ∈ sites, ¬(z.letter = letter ∧ z.x = x ∧ z.y = y)) ∧ new =
      { letter := letter, x := x, y := y, hits := 1, reported := false, clip := clip } ∧ 256 ≤ sites.length ∧ sites =
      older ++ e :: younger ∧ e.hits = 1 ∧ (∀ z ∈ older, z.hits ≠ 1)) ∧
    (∃ (sites : List Site) (letter : Letter) (x : Nat) (y : Nat) (clip : Nat) (new : Site), (∀ z ∈ sites, ¬(z.letter
      = letter ∧ z.x = x ∧ z.y = y)) ∧ new =
      { letter := letter, x := x, y := y, hits := 1, reported := false, clip := clip } ∧ 256 ≤ sites.length ∧ (∀ z ∈
      sites, z.hits ≠ 1)) ∧
    (∃ (items : ThresholdItems) (m : Bool), (m = (items.clipLevel.any (fun v => v < 1 || 4095 < v) ||
      items.clipArea.any (fun v => v < 1 || 518400 < v) || items.clipRun.any (fun v => v < 1 || 64 < v) ||
      items.blackLevel.any (fun v => 4095 < v) || items.darkLimit.any (fun v => 4095 < v) || items.hotLevel.any (fun
      v => v < 2 || 4095 < v)))) :=
  ⟨⟨{}, 0, hotFrame, (1, 1), by decide +kernel, by unfold isHot; decide +kernel⟩,
   ⟨{}, 4, _, _, rfl, rfl⟩,
   ⟨[site0], 0, 1, 1, site0, [], [], _, by decide +kernel, by decide +kernel, by decide +kernel, by decide +kernel,
     by decide +kernel, rfl⟩,
   ⟨[], 0, 1, 1, 0, _, by decide +kernel, rfl⟩,
   ⟨[site0], 0, 2, 1, 0, _, by decide +kernel, rfl, by decide +kernel⟩,
   ⟨List.replicate 256 site0, 0, 2, 1, 0, _, by decide +kernel, rfl, by decide +kernel⟩,
   ⟨List.replicate 255 site0 ++ [{ site0 with hits := 1 }], 0, 2, 1, 0, _, List.replicate 255 site0,
     { site0 with hits := 1 }, [], by decide +kernel, rfl, by decide +kernel, by decide +kernel, by decide +kernel,
     by decide +kernel⟩,
   ⟨List.replicate 256 site0, 0, 2, 1, 0, _, by decide +kernel, rfl, by decide +kernel, by decide +kernel⟩,
   ⟨⟨some 0, none, none, none, none, none⟩, _, rfl⟩⟩

/-- Values that meet the hypotheses of `Obligations.Reinspection`, clauses 1 to 9 of those that have some. -/
theorem witness_Reinspection_1 :
    (∃ (clip : Nat) (s : State) (c : Clip) (cs : List Candidate), clip < 1024 ∧ s.clip? clip = some c ∧
      s.ins.reader.state = .idle ∧ c.insp ≠ .live ∧ (cs = (verifiedSources c).map (fun x => ({ src := x } :
      Candidate))) ∧ cs ≠ []) ∧
    (∃ (q : Req) (clip : Nat) (s : State) (w : Wire), (1024 ≤ clip ∧ w = refuseOf .ins q .value ∨ clip < 1024 ∧
      s.clip? clip = none ∧ w = refuseOf .ins q .notFound ∨ clip < 1024 ∧ ∃ c, s.clip? clip = some c ∧
      (s.ins.reader.state ≠ .idle ∧ w = refuseOf .ins q .busy ∨ s.ins.reader.state = .idle ∧ (c.insp = .live ∧ w =
      refuseStateOf .ins q .livePass ∨ c.insp ≠ .live ∧ (∀ x ∈ c.copies, x.state ≠ .verified) ∧ w = refuseOf .ins q
      .notFound)))) ∧
    (∃ (ix : Nat) (yes : Bool) (s : State) (r : Reader) (cs : List Candidate), r = s.ins.reader ∧ r.state = .locating
      ∧ (cs = r.cands.zipIdx.map (fun c => if c.2 = ix then { c.1 with answer := some yes } else c.1))) ∧
    (∃ (ix : Nat) (yes : Bool) (s : State) (r : Reader) (cs : List Candidate) (c : Candidate), r = s.ins.reader ∧
      r.state = .locating ∧ (cs = r.cands.zipIdx.map (fun c => if c.2 = ix then { c.1 with answer := some yes } else
      c.1)) ∧ c ∈ cs) ∧
    (∃ (s : State), s.ins.reader.state ≠ .locating) ∧
    (∃ (rec : Option Clip) (s : State) (r : Reader) (q : Req) (w : Wire), r = s.ins.reader ∧ r.state = .locating ∧
      allAnswered r.cands = true ∧ r.q = some q ∧ (rec = none ∧ w = refuseOf .ins q .notFound ∨ (∃ c, rec = some c ∧
      c.insp = .live) ∧ w = refuseStateOf .ins q .livePass ∨ (∃ c, rec = some c ∧ c.insp ≠ .live) ∧ (∀ x ∈ r.cands,
      x.answer ≠ some true) ∧ w = refuseOf .ins q .notFound)) ∧
    (∃ (c : Clip) (s : State) (r : Reader) (q : Req) (x : Candidate) (src : Source), r = s.ins.reader ∧ r.state =
      .locating ∧ allAnswered r.cands = true ∧ r.q = some q ∧ c.insp ≠ .live ∧ (r.cands.find? (fun y => y.answer =
      some true) = some x) ∧ src = { x.src with span := spanOf c.extents } ∧ dataBlocks c.desc.dataLen ≠ 0) ∧
    (∃ (run : Nat) (s : State) (r : Reader) (n : Nat), r = s.ins.reader ∧ r.run = run ∧ r.readOut = true ∧ r.consumed
      = false ∧ n = min 2048 r.left) ∧
    (∃ (run : Nat) (s : State) (r : Reader) (src : Source) (n : Nat) (left : Nat), r = s.ins.reader ∧ r.run = run ∧
      r.readOut = true ∧ r.consumed = true ∧ r.state = .reading ∧ r.src = some src ∧ n = min 2048 r.left ∧ left =
      r.left - n) :=
  ⟨⟨1023, withClips [{ clip0 with id := 1023, copies := [{ copy0 with state := .verified }] }], _, _,
     by decide +kernel, rfl, by decide +kernel, by decide +kernel, rfl, by decide +kernel⟩,
   ⟨⟨0, 0⟩, 1024, State.reset, refuseOf .ins ⟨0, 0⟩ .value, Or.inl ⟨by decide, rfl⟩⟩,
   ⟨0, true, withReader { state := .locating, cands := [cand0] }, _, _, rfl, by decide +kernel, rfl⟩,
   ⟨0, true, withReader { state := .locating, cands := [cand0] }, _, _, { cand0 with answer := some true }, rfl,
     by decide +kernel, rfl, by decide +kernel⟩,
   ⟨State.reset, by decide +kernel⟩,
   ⟨none, withReader { state := .locating, q := some ⟨0, 0⟩, cands := [{ cand0 with answer := some false }] }, _, ⟨0,
     0⟩, refuseOf .ins ⟨0, 0⟩ .notFound, rfl, by decide +kernel, by decide +kernel, by decide +kernel, Or.inl ⟨rfl,
     rfl⟩⟩,
   ⟨clip0, withReader { state := .locating, q := some ⟨0, 0⟩, cands := [{ cand0 with answer := some true }] }, _, ⟨0,
     0⟩, _, _, rfl, by decide +kernel, by decide +kernel, by decide +kernel, by decide +kernel, rfl, rfl,
     by decide +kernel⟩,
   ⟨_, withReader { state := .reading, readOut := true, left := 2049 }, _, _, rfl, rfl, by decide +kernel,
     by decide +kernel, rfl⟩,
   ⟨0, withReader { state := .reading, src := some src0, left := 3000, readOut := true, consumed := true }, _, _, _,
     _, rfl, by decide +kernel, by decide +kernel, by decide +kernel, by decide +kernel, rfl, rfl, rfl⟩⟩

/-- Values that meet the hypotheses of `Obligations.Reinspection`, clauses 10 to 18 of those that have some. -/
theorem witness_Reinspection_2 :
    (∃ (run : Nat) (s : State) (r : Reader) (kind : ReEnd) (m : Instr) (ans : ReReadAns), r = s.ins.reader ∧ r.run =
      run ∧ r.readOut = true ∧ r.state = .reading ∧ (ans = ReReadAns.failed ∧ kind = ReEnd.failed ∧ m =
      Instr.reinspectContextCancel run ∨ ans = .lost ∧ kind = .lost ∧ m = .reinspectReadLost run)) ∧
    (∃ (run : Nat) (s : State), (s.ins.reader.run ≠ run ∨ s.ins.reader.readOut = false)) ∧
    (∃ (run : Nat) (s : State) (r : Reader) (src : Source), r = s.ins.reader ∧ r.run = run ∧ r.state = .reading ∧
      r.readOut = false ∧ r.src = some src ∧ r.left ≠ 0) ∧
    (∃ (run : Nat) (s : State) (r : Reader), r = s.ins.reader ∧ r.run = run ∧ r.state = .reading ∧ r.readOut = true) ∧
    (∃ (run : Nat) (s : State), (s.ins.reader.run ≠ run ∨ s.ins.reader.state ≠ .reading)) ∧
    (∃ (run : Nat) (s : State) (r : Reader), r = s.ins.reader ∧ r.run = run ∧ r.state = .reading) ∧
    (∃ (run : Nat) (rep : ReReport) (s : State) (r : Reader) (kind : ReEnd) (p : Nat) (k : Nat), r = s.ins.reader ∧
      r.run = run ∧ r.state = .reading ∧ r.final = false ∧ r.anal ≠ p ∧ (rep = ReReport.ended p k ∧ kind =
      ReEnd.finish ∨ (∃ f, rep = .halted f p k) ∧ kind = .halted ∨ (∃ n, rep = .lost p k n) ∧ kind = .lost)) ∧
    (∃ (run : Nat) (s : State), (s.ins.reader.run ≠ run ∨ s.ins.reader.state = .idle ∨ s.ins.reader.state =
      .locating)) ∧
    (∃ (vol : Serial) (s : State) (r : Reader) (src : Source), r = s.ins.reader ∧ r.state = .reading ∧ r.src = some
      src ∧ src.vol = vol) :=
  ⟨⟨0, withReader { state := .reading, readOut := true }, _, .failed, .reinspectContextCancel 0, .failed, rfl,
     by decide +kernel, by decide +kernel, by decide +kernel, by decide +kernel⟩,
   ⟨0, State.reset, by decide +kernel⟩,
   ⟨_, withReader { state := .reading, src := some src0, left := 1 }, _, _, rfl, rfl, by decide +kernel,
     by decide +kernel, rfl, by decide +kernel⟩,
   ⟨_, withReader { state := .reading, readOut := true }, _, rfl, rfl, by decide +kernel, by decide +kernel⟩,
   ⟨0, State.reset, by decide +kernel⟩,
   ⟨_, withReader { state := .reading }, _, rfl, rfl, by decide +kernel⟩,
   ⟨0, .ended 1 0, withReader { state := .reading }, _, .finish, 1, 0, rfl, by decide +kernel, by decide +kernel,
     by decide +kernel, by decide +kernel, Or.inl ⟨rfl, rfl⟩⟩,
   ⟨0, State.reset, by decide +kernel⟩,
   ⟨9, withReader { state := .reading, src := some src0 }, _, _, rfl, by decide +kernel, rfl, by decide +kernel⟩⟩

/-- Values that meet the hypotheses of `Obligations.Reinspection`, clauses 19 to 26 of those that have some. -/
theorem witness_Reinspection_3 :
    (∃ (vol : Serial) (s : State), (∀ src, s.ins.reader.src = some src → src.vol ≠ vol)) ∧
    (∃ (s : State) (r : Reader) (clip : Nat) (n : Nat) (st : InspState), r = s.ins.reader ∧ r.state = .draining ∧
      r.final = true ∧ r.anal = r.placed ∧ clip = r.clip.getD 0 ∧ (n =
      (if r.ended = some .finish then 0 else r.frames - r.placed - r.skipped)) ∧ (st =
      (if r.ended = some .finish then InspState.complete else if r.ended = some .halted then .halted else .partiall))) ∧
    (∃ (n : Nat) (s : State) (x : Slot) (r : Reader), r = s.ins.reader ∧ (s.pp.slots.find? (fun y => y.num = n &&
      .inspect ∈ y.holders) = some x) ∧ x.src = .reinspect ∧ (r.state ≠ .draining ∨ r.final = false ∨ r.anal + 1 ≠
      r.placed)) ∧
    (∃ (n : Nat) (s : State) (x : Slot) (r : Reader), r = s.ins.reader ∧ (s.pp.slots.find? (fun y => y.num = n &&
      .inspect ∈ y.holders) = some x) ∧ x.src = .reinspect ∧ r.state = .draining ∧ r.final = true ∧ r.anal + 1 =
      r.placed) ∧
    (∃ (run : Nat) (rep : ReReport) (s : State) (r : Reader) (p : Nat) (k : Nat), r = s.ins.reader ∧ r.run = run ∧
      r.state = .draining ∧ r.final = false ∧ (rep = ReReport.ended p k ∨ (∃ f, rep = .halted f p k) ∨ (∃ n, rep =
      .lost p k n) ∨ rep = .counts p k)) ∧
    (∃ (run : Nat) (rep : ReReport) (s : State) (r : Reader), r = s.ins.reader ∧ r.run = run ∧ r.state = .draining ∧
      (r.final = true ∨ rep = .placed)) ∧
    (∃ (run : Nat) (rep : ReReport) (s : State) (r : Reader) (kind : ReEnd) (p : Nat) (k : Nat), r = s.ins.reader ∧
      r.run = run ∧ r.state = .reading ∧ r.final = false ∧ r.anal = p ∧ (rep = ReReport.ended p k ∧ kind =
      ReEnd.finish ∨ (∃ f, rep = .halted f p k) ∧ kind = .halted ∨ (∃ n, rep = .lost p k n) ∧ kind = .lost)) ∧
    (∃ (s : State) (r : Reader), r = s.ins.reader ∧ (r.state ≠ .draining ∨ r.final = false ∨ r.anal ≠ r.placed)) :=
  ⟨⟨9, State.reset, allSome (by decide +kernel)⟩,
   ⟨withReader { state := .draining, final := true, ended := some .finish }, _, _, _, _, rfl, by decide +kernel,
     by decide +kernel, by decide +kernel, rfl, rfl, rfl⟩,
   ⟨0, withSlots [{ slot0 with src := .reinspect }] (withReader { state := .reading }), _, _, rfl, rfl,
     by decide +kernel, by decide +kernel⟩,
   ⟨0, withSlots [{ slot0 with src := .reinspect }] (withReader { state := .draining, final := true, placed := 1 }),
     _, _, rfl, rfl, by decide +kernel, by decide +kernel, by decide +kernel, by decide +kernel⟩,
   ⟨0, .counts 1 2, withReader { state := .draining, placed := 1 }, _, 1, 2, rfl, by decide +kernel,
     by decide +kernel, by decide +kernel, Or.inr (Or.inr (Or.inr rfl))⟩,
   ⟨0, .counts 1 2, withReader { state := .draining, final := true }, _, rfl, by decide +kernel, by decide +kernel,
     by decide +kernel⟩,
   ⟨0, .ended 1 2, withReader { state := .reading, anal := 1 }, _, .finish, 1, 2, rfl, by decide +kernel,
     by decide +kernel, by decide +kernel, by decide +kernel, Or.inl ⟨rfl, rfl⟩⟩,
   ⟨withReader { state := .draining, final := true, placed := 1 }, _, rfl, by decide +kernel⟩⟩

/-- Values that meet the hypotheses of `Obligations.OccurrencesArePlaced`, clauses 1 to 10 of those that have some. -/
theorem witness_OccurrencesArePlaced_1 :
    (∃ (o : Occurrence) (clip : Nat) (vol : Serial) (s : State) (r : Instr) (i : FaultItem) (who : Asker), (r =
      Instr.occurrence o ∧ i = FaultItem.occ o ∧ who = Asker.occurrence s.token ∧ clip = o.clip ∨ r =
      .verifiedCopyReport clip vol ∧ i = .verified clip vol ∧ who = .verified s.token)) ∧
    (∃ (o : Occurrence) (clip : Nat) (vol : Serial) (s : State) (r : Instr) (i : FaultItem) (who : Asker), (r =
      Instr.occurrence o ∧ i = FaultItem.occ o ∧ who = Asker.occurrence s.token ∧ clip = o.clip ∨ r =
      .verifiedCopyReport clip vol ∧ i = .verified clip vol ∧ who = .verified s.token) ∧ s.fl.queue ≠ []) ∧
    (∃ (o : Occurrence) (clip : Nat) (vol : Serial) (s : State) (r : Instr) (i : FaultItem) (who : Asker), (r =
      Instr.occurrence o ∧ i = FaultItem.occ o ∧ who = Asker.occurrence s.token ∧ clip = o.clip ∨ r =
      .verifiedCopyReport clip vol ∧ i = .verified clip vol ∧ who = .verified s.token) ∧ s.fl.queue = []) ∧
    (∃ (tok : Nat) (s : State) (o : Occurrence) (rest : List FaultItem), tok ∈ s.fl.asks ∧ s.fl.queue = .occ o ::
      rest ∧ s.fl.purgedSince o.clip tok = false) ∧
    (∃ (tok : Nat) (rec : Option Clip) (s : State) (o : Occurrence) (clip : Nat) (vol : Serial) (r : Instr), tok ∈
      s.fl.asks ∧ (rec = none ∨ s.fl.purgedSince clip tok = true) ∧ (r = Instr.occurrenceLookupAnswer tok rec ∧
      s.fl.queue = [.occ o] ∧ o.clip = clip ∨ r = .verifiedReportLookupAnswer tok rec ∧ s.fl.queue = [.verified clip
      vol])) ∧
    (∃ (tok : Nat) (s : State), tok ∉ s.fl.asks) ∧
    (∃ (s : State) (o : Occurrence) (f : Finding), (s.fl.list.map (·.id)).Nodup ∧ s.fl.list.filter (merges o) = [f]) ∧
    (∃ (s : State) (o : Occurrence) (c : Clip) (f : Finding), s.fl.list.filter (merges o) = [] ∧ s.fl.list.length <
      512 ∧ f =
      { id := s.fl.freshId, clip := o.clip, serial := c.serial, letter := c.desc.letter, kind := o.kind, cls := s.fl.classes[o.kind.ix], qual := o.qual, span := o.span, count := min 65535 o.count }) ∧
    (∃ (s : State) (o : Occurrence), s.fl.list.filter (merges o) = [] ∧ 512 ≤ s.fl.list.length ∧ (∀ f ∈ s.fl.list,
      f.state ≠ .cleared ∧ f.cls ≠ .advisory ∧ (f.cls = .blocking ∨ s.fl.classes[o.kind.ix] ≠ .blocking))) ∧
    (∃ (s : State) (o : Occurrence) (f : Finding) (others : List Finding) (a : Nat) (b : Nat), (s.fl.list.map
      (·.id)).Nodup ∧ s.fl.list.filter (merges o) = f :: others ∧ others ≠ [] ∧ o.kind.spans = true ∧ o.span = some
      (a, b)) :=
  ⟨⟨occ0, 0, 9, State.reset, .occurrence occ0, .occ occ0, .occurrence 0, by decide +kernel⟩,
   ⟨occ0, 0, 9, withQueue [.occ occ0], .occurrence occ0, .occ occ0, .occurrence 0, by decide +kernel,
     by decide +kernel⟩,
   ⟨occ0, 0, 9, State.reset, .verifiedCopyReport 0 9, .verified 0 9, .verified 0, by decide +kernel,
     by decide +kernel⟩,
   ⟨3, withQueue [.occ occ0], _, _, by decide +kernel, rfl, by decide +kernel⟩,
   ⟨3, none, withQueue [.occ occ0], occ0, 0, 9, .occurrenceLookupAnswer 3 none, by decide +kernel, by decide +kernel,
     Or.inl ⟨rfl, rfl, rfl⟩⟩,
   ⟨3, State.reset, by decide +kernel⟩,
   ⟨withFindings [finding0], occ0, finding0, by decide +kernel, by decide +kernel⟩,
   ⟨State.reset, occ0, clip0, _, by decide +kernel, by decide +kernel, rfl⟩,
   ⟨withFindings ((List.range 512).map fun n => { finding0 with id := n, clip := 1 }), occ0, by decide +kernel,
     by decide +kernel, by decide +kernel⟩,
   ⟨withFindings [{ finding0 with kind := .clipping, span := some (1, 2) },
     { finding0 with id := 6, kind := .clipping, span := some (30, 31) }],
     { occ0 with kind := .clipping, span := some (10, 20) },
     { finding0 with kind := .clipping, span := some (1, 2) },
     [{ finding0 with id := 6, kind := .clipping, span := some (30, 31) }], 10, 20, by decide +kernel,
     by decide +kernel, by decide +kernel, by decide +kernel, by decide +kernel⟩⟩

/-- Values that meet the hypotheses of `Obligations.OccurrencesArePlaced`, clauses 11 to 20 of those that have some. -/
theorem witness_OccurrencesArePlaced_2 :
    (∃ (s : State) (o : Occurrence) (f : Finding) (others : List Finding) (a : Nat) (b : Nat) (x : Finding),
      (s.fl.list.map (·.id)).Nodup ∧ s.fl.list.filter (merges o) = f :: others ∧ others ≠ [] ∧ o.kind.spans = true ∧
      o.span = some (a, b) ∧ x ∈ f :: others) ∧
    (∃ (s : State) (o : Occurrence) (f : Finding) (others : List Finding) (a : Nat) (b : Nat), (s.fl.list.map
      (·.id)).Nodup ∧ s.fl.list.filter (merges o) = f :: others ∧ others ≠ [] ∧ o.kind.spans = true ∧ o.span = some
      (a, b) ∧ (∃ x ∈ f :: others, x.state = .opened)) ∧
    (∃ (s : State) (o : Occurrence) (f : Finding) (others : List Finding) (a : Nat) (b : Nat), (s.fl.list.map
      (·.id)).Nodup ∧ s.fl.list.filter (merges o) = f :: others ∧ others ≠ [] ∧ o.kind.spans = true ∧ o.span = some
      (a, b) ∧ (∀ x ∈ f :: others, x.state ≠ .opened)) ∧
    (∃ (l : FaultList) (n : Nat), l.list.length < 65536 ∧ n = l.freshId) ∧
    (∃ (l : FaultList) (n : Nat) (f : Finding), l.list.length < 65536 ∧ n = l.freshId ∧ f ∈ l.list) ∧
    (∃ (l : List Finding) (new : FindingClass) (e : Finding), evictee l new = some e) ∧
    (∃ (l : List Finding) (f : Finding), f ∈ l) ∧
    (∃ (s : State) (o : Occurrence) (c : Clip) (e : Finding) (l : List Finding) (f : Finding), s.fl.list.filter
      (merges o) = [] ∧ 512 ≤ s.fl.list.length ∧ evictee s.fl.list s.fl.classes[o.kind.ix] = some e ∧ (l =
      s.fl.list.filter (fun x => x.id ≠ e.id)) ∧ f =
      { id := { s.fl with list := l }.freshId, clip := o.clip, serial := c.serial, letter := c.desc.letter, kind := o.kind, cls := s.fl.classes[o.kind.ix], qual := o.qual, span := o.span, count := min 65535 o.count }) ∧
    (∃ (tok : Nat) (s : State) (clip : Nat) (vol : Serial) (rest : List FaultItem), tok ∈ s.fl.asks ∧ s.fl.queue =
      .verified clip vol :: rest ∧ s.fl.purgedSince clip tok = false) ∧
    (∃ (o : Occurrence), o.kind.spans = true) :=
  ⟨⟨withFindings [{ finding0 with kind := .clipping, span := some (1, 2) },
     { finding0 with id := 6, kind := .clipping, span := some (30, 31) }],
     { occ0 with kind := .clipping, span := some (10, 20) },
     { finding0 with kind := .clipping, span := some (1, 2) },
     [{ finding0 with id := 6, kind := .clipping, span := some (30, 31) }], 10, 20,
     { finding0 with kind := .clipping, span := some (1, 2) }, by decide +kernel, by decide +kernel,
     by decide +kernel, by decide +kernel, by decide +kernel, by decide +kernel⟩,
   ⟨withFindings [{ finding0 with kind := .clipping, span := some (1, 2) },
     { finding0 with id := 6, kind := .clipping, span := some (30, 31) }],
     { occ0 with kind := .clipping, span := some (10, 20) },
     { finding0 with kind := .clipping, span := some (1, 2) },
     [{ finding0 with id := 6, kind := .clipping, span := some (30, 31) }], 10, 20, by decide +kernel,
     by decide +kernel, by decide +kernel, by decide +kernel, by decide +kernel, by decide +kernel⟩,
   ⟨withFindings [{ finding0 with kind := .clipping, span := some (1, 2), state := .acknowledged },
     { finding0 with id := 6, kind := .clipping, span := some (30, 31), state := .acknowledged }],
     { occ0 with kind := .clipping, span := some (10, 20) },
     { finding0 with kind := .clipping, span := some (1, 2), state := .acknowledged },
     [{ finding0 with id := 6, kind := .clipping, span := some (30, 31), state := .acknowledged }], 10, 20,
     by decide +kernel, by decide +kernel, by decide +kernel, by decide +kernel, by decide +kernel,
     by decide +kernel⟩,
   ⟨{ State.reset.fl with list := [finding0] }, _, by decide +kernel, rfl⟩,
   ⟨{ State.reset.fl with list := [finding0] }, _, finding0, by decide +kernel, rfl, by decide +kernel⟩,
   ⟨[{ finding0 with state := .cleared }], .advisory, { finding0 with state := .cleared }, by decide +kernel⟩,
   ⟨[finding0], finding0, by decide +kernel⟩,
   ⟨withFindings ((List.range 512).map fun n => { finding0 with id := n, clip := 1, state := .cleared }), occ0,
     clip0, { finding0 with id := 0, clip := 1, state := .cleared }, _, _, by decide +kernel, by decide +kernel,
     by decide +kernel, rfl, rfl⟩,
   ⟨3, withQueue [.verified 0 9], 0, 9, _, by decide +kernel, rfl, by decide +kernel⟩,
   ⟨{ occ0 with kind := .clipping, span := some (40, 44) }, by decide +kernel⟩⟩

/-- Values that meet the hypotheses of `Obligations.FindingActionsAndRemoval`, clauses 1 to 6 of those that have some. -/
theorem witness_FindingActionsAndRemoval_1 :
    (∃ (kind : Nat) (cls : Nat) (k : FindingKind) (c : FindingClass), kindOf kind = some k ∧ classOf cls = some c) ∧
    (∃ (kind : Nat) (cls : Nat), (kind < 1 ∨ 18 < kind ∨ cls < 1 ∨ 3 < cls)) ∧
    (∃ (q : Req) (n : Nat) (s : State) (f : Finding) (g : Finding), s.fl.find? n = some f ∧ f.state = .opened ∧ g =
      { f with state := .acknowledged, ackBy := some q.st }) ∧
    (∃ (q : Req) (n : Nat) (s : State) (f : Finding) (g : Finding) (sup : Bool), s.fl.find? n = some f ∧ f.state ≠
      .cleared ∧ (f.cls ≠ .blocking ∨ sup = true) ∧ g =
      { f with state := .cleared, clearBy := some (.station q.st) }) ∧
    (∃ (q : Req) (n : Nat) (sup : Bool) (s : State) (w : Wire) (r : Instr), (r = Instr.ackFinding q n ∧ (s.fl.find? n
      = none ∧ w = refuseOf .fl q .notFound ∨ (∃ f, s.fl.find? n = some f ∧ f.state = .acknowledged) ∧ w =
      refuseStateOf .fl q .already ∨ (∃ f, s.fl.find? n = some f ∧ f.state = .cleared) ∧ w = refuseStateOf .fl q
      .cleared) ∨ r = .clearFinding q n sup ∧ (s.fl.find? n = none ∧ w = refuseOf .fl q .notFound ∨ (∃ f, s.fl.find?
      n = some f ∧ f.state = .cleared) ∧ w = refuseStateOf .fl q .already ∨ (∃ f, s.fl.find? n = some f ∧ f.state ≠
      .cleared ∧ f.cls = .blocking) ∧ sup = false ∧ w = refuseOf .fl q .rights))) ∧
    (∃ (clip : Nat), clip < 1024) :=
  ⟨⟨18, 3, _, _, rfl, rfl⟩,
   ⟨19, 3, by decide +kernel⟩,
   ⟨⟨0, 0⟩, 5, withFindings [finding0], _, _, rfl, by decide +kernel, rfl⟩,
   ⟨⟨0, 0⟩, 5, withFindings [finding0], _, _, true, rfl, by decide +kernel, by decide +kernel, rfl⟩,
   ⟨⟨0, 0⟩, 5, false, State.reset, refuseOf .fl ⟨0, 0⟩ .notFound, .ackFinding ⟨0, 0⟩ 5, Or.inl ⟨rfl, Or.inl
     ⟨by decide +kernel, rfl⟩⟩⟩,
   ⟨1023, by decide +kernel⟩⟩

/-- Values that meet the hypotheses of `Obligations.FindingActionsAndRemoval`, clauses 7 to 12 of those that have some. -/
theorem witness_FindingActionsAndRemoval_2 :
    (∃ (clip : Nat), 1024 ≤ clip) ∧
    (∃ (q : Req) (tok : Nat) (clip : Nat) (rec : Option Clip) (s : State) (ws : List Wire), tok ∈ s.fl.asks ∧ (rec =
      none ∧ ws = [refuseOf .fl q .notFound] ∨ (∃ c, rec = some c ∧ c.overflow = false) ∧ ws = [refuseStateOf .fl q
      .already] ∨ (∃ c : Clip, rec = some c ∧ c.overflow = true) ∧ ws = [acceptOf .fl q [], ⟨.fl, .cat,
      .overflowHoldClear clip⟩])) ∧
    (∃ (tok : Nat) (s : State), tok ∉ s.fl.asks) ∧
    (∃ (clips : List Nat) (s : State) (c : Nat) (tok : Nat), c ∈ clips ∧ tok ∈ s.fl.asks) ∧
    (∃ (s : State) (clip : Nat), s.fl.blocking clip = s.fl.lastSent clip) ∧
    (∃ (s : State) (clip : Nat) (n : Nat), n = s.fl.blocking clip ∧ n ≠ s.fl.lastSent clip) :=
  ⟨⟨1024, by decide +kernel⟩,
   ⟨⟨0, 0⟩, 3, 0, none, withQueue [], [refuseOf .fl ⟨0, 0⟩ .notFound], by decide +kernel, Or.inl ⟨rfl, rfl⟩⟩,
   ⟨3, State.reset, by decide +kernel⟩,
   ⟨[0], withQueue [], 0, 3, by decide +kernel, by decide +kernel⟩,
   ⟨State.reset, 0, by decide +kernel⟩,
   ⟨withFindings [finding0], 0, _, rfl, by decide +kernel⟩⟩

/-- Values that meet the hypotheses of `Obligations.LookEdits`, clauses 1 to 7 of those that have some. -/
theorem witness_LookEdits_1 :
    (∃ (i : LookIx) (s : State) (x : LookSlot), x = s.look i ∧ s.lb.covered i = false ∧ x.holder = none) ∧
    (∃ (q : Req) (i : LookIx) (s : State) (x : LookSlot) (items : LookItems) (p : LookRec), x = s.look i ∧
      s.lb.covered i = false ∧ x.holder = some q.st ∧ x.pending = some p ∧ lookItemsOk items = true) ∧
    (∃ (q : Req) (i : LookIx) (s : State) (x : LookSlot) (items : LookItems), x = s.look i ∧ s.lb.covered i = false ∧
      x.holder = some q.st ∧ lookItemsOk items = false) ∧
    (∃ (q : Req) (i : LookIx) (s : State) (x : LookSlot) (p : LookRec) (n : List Nat) (v : Nat), x = s.look i ∧
      s.lb.covered i = false ∧ x.holder = some q.st ∧ x.pending = some p ∧ x.pendingName = some n ∧ v = (x.version +
      1) % 65536) ∧
    (∃ (q : Req) (i : LookIx) (s : State) (x : LookSlot), x = s.look i ∧ s.lb.covered i = false ∧ x.holder = some
      q.st) ∧
    (∃ (q : Req) (i : LookIx) (s : State) (x : LookSlot) (items : LookItems) (keep : Bool) (w : Wire) (r : Instr), x
      = s.look i ∧ (s.lb.covered i = true ∧ w = refuseOf .lb q .busy ∨ s.lb.covered i = false ∧ x.holder = none ∧ w =
      refuseStateOf .lb q .notHeld ∨ s.lb.covered i = false ∧ (∃ h, x.holder = some h ∧ h ≠ q.st ∧ w = answerOf .lb q
      (.refused .held none (u8 h.val)))) ∧ r ∈ [Instr.writeLook q i.val items, .commitLook q i.val keep, .cancelLook
      q i.val]) ∧
    (∃ (q : Req) (slot : Nat) (items : LookItems) (keep : Bool) (r : Instr), 32 ≤ slot ∧ r ∈ [Instr.holdLook q slot,
      .writeLook q slot items, .commitLook q slot keep, .cancelLook q slot]) :=
  ⟨⟨0, State.reset, _, rfl, by decide +kernel, by decide +kernel⟩,
   ⟨⟨0, 0⟩, 0, withLook heldLook, _, items0, _, rfl, by decide +kernel, by decide +kernel, rfl, by decide +kernel⟩,
   ⟨⟨0, 0⟩, 0, withLook heldLook, _, { items0 with enc := .values 3 }, rfl, by decide +kernel, by decide +kernel,
     by decide +kernel⟩,
   ⟨⟨0, 0⟩, 0, withLook { heldLook with version := 65535 }, _, _, _, _, rfl, by decide +kernel, by decide +kernel,
     rfl, rfl, rfl⟩,
   ⟨⟨0, 0⟩, 0, withLook heldLook, _, rfl, by decide +kernel, by decide +kernel⟩,
   ⟨⟨0, 0⟩, 0, withLook { heldLook with holder := some 1 }, _, items0, false, answerOf .lb ⟨0, 0⟩ (.refused .held
     none (u8 1)), .cancelLook ⟨0, 0⟩ 0, rfl, Or.inr (Or.inr ⟨by decide +kernel, 1, rfl, by decide +kernel, rfl⟩),
     by decide +kernel⟩,
   ⟨⟨0, 0⟩, 32, items0, false, .holdLook ⟨0, 0⟩ 32, by decide +kernel, by decide +kernel⟩⟩

/-- Values that meet the hypotheses of `Obligations.LookEdits`, clauses 8 to 14 of those that have some. -/
theorem witness_LookEdits_2 :
    (∃ (q : Req) (i : LookIx) (s : State) (w : Wire), (s.lb.covered i = true ∧ w = refuseOf .lb q .busy ∨
      s.lb.covered i = false ∧ ∃ h, (s.look i).holder = some h ∧ w = answerOf .lb q (.refused .held none (u8
      h.val)))) ∧
    (∃ (w : LookItems), w.enc = .notCarried) ∧
    (∃ (w : LookItems), w.enc = .values 1) ∧
    (∃ (w : LookItems), w.enc = .values 2) ∧
    (∃ (w : LookItems) (t : Vector Trim 3) (c : Trim), w.trim = .values t ∧ c ∈ t.toList) ∧
    (∃ (w : LookItems) (n : List Nat), w.name = some n) ∧
    (∃ (w : LookItems) (n : List Nat) (x : Nat), w.name = some n ∧ x ∈ n) :=
  ⟨⟨⟨0, 0⟩, 0, withLook heldLook, _, Or.inr ⟨by decide +kernel, 0, by decide +kernel, rfl⟩⟩,
   ⟨items0, by decide +kernel⟩,
   ⟨{ items0 with enc := .values 1 }, by decide +kernel⟩,
   ⟨{ items0 with enc := .values 2 }, by decide +kernel⟩,
   ⟨{ items0 with trim := .values #v[⟨0, 0⟩, ⟨0, 0⟩, ⟨4095, 2047⟩] }, #v[⟨0, 0⟩, ⟨0, 0⟩, ⟨4095, 2047⟩], ⟨4095, 2047⟩,
     by decide +kernel, by decide +kernel⟩,
   ⟨{ items0 with name := some [32, 126] }, [32, 126], by decide +kernel⟩,
   ⟨{ items0 with name := some [32, 126] }, [32, 126], 126, by decide +kernel, by decide +kernel⟩⟩

/-- Values that meet the hypotheses of `Obligations.BankFills`. -/
theorem witness_BankFills :
    (∃ (q : Req) (first : Nat) (last : Nat) (preset : Preset) (s : State) (l : LookRec) (f : Fill), first < 32 ∧ last
      < 32 ∧ first ≤ last ∧ s.fillLook preset = some l ∧ s.lb.fill = none ∧ (∀ i : LookIx, first ≤ i.val → i.val ≤
      last → (s.look i).holder = none) ∧ f =
      { first := first, last := last, st := q.st, next := first, look := l, preset := preset, tok := s.token }) ∧
    (∃ (q : Req) (first : Nat) (last : Nat) (preset : Preset) (s : State) (w : Wire), ((32 ≤ first ∨ 32 ≤ last ∨ last
      < first ∨ s.fillLook preset = none) ∧ w = refuseOf .lb q .value ∨ first < 32 ∧ last < 32 ∧ first ≤ last ∧
      s.fillLook preset ≠ none ∧ s.lb.fill ≠ none ∧ w = refuseOf .lb q .busy)) ∧
    (∃ (s : State) (f : Fill) (i : LookIx), s.lb.fill = some f ∧ f.next = i.val ∧ f.next < f.last) ∧
    (∃ (s : State) (f : Fill) (i : LookIx), s.lb.fill = some f ∧ f.next = i.val ∧ f.next = f.last ∧ f.first ≤ f.last) ∧
    (∃ (tok : Nat) (s : State), (∀ f, s.lb.fill = some f → f.tok ≠ tok)) ∧
    (∃ (s : State) (f : Fill), s.lb.fill = some f) ∧
    (∃ (s : State), s.lb.fill = none) ∧
    (∃ (letter : Nat) (slot : Nat) (s : State) (l : Letter) (i : LookIx) (vals : List Field), letterOf letter = some
      l ∧ ix? 32 slot = some i ∧ vals = u8 (s.lb.defaults[l]).val ++ u8 slot) ∧
    (∃ (first : Nat) (last : Nat) (preset : Preset) (s : State) (i : LookIx) (h : Stn), first < 32 ∧ last < 32 ∧
      first ≤ i.val ∧ i.val ≤ last ∧ s.fillLook preset ≠ none ∧ s.lb.fill = none ∧ (s.look i).holder = some h ∧ (∀ j
      : LookIx, first ≤ j.val → j.val < i.val → (s.look j).holder = none)) ∧
    (∃ (letter : Nat) (slot : Nat), (letterOf letter = none ∨ 32 ≤ slot)) :=
  ⟨⟨⟨0, 0⟩, 0, 31, .identity, State.reset, _, _, by decide +kernel, by decide +kernel, by decide +kernel, rfl,
     by decide +kernel, by decide +kernel, rfl⟩,
   ⟨⟨0, 0⟩, 32, 0, .identity, State.reset, refuseOf .lb ⟨0, 0⟩ .value, Or.inl ⟨Or.inl (by decide), rfl⟩⟩,
   ⟨withFill bankFill0, _, 0, rfl, by decide +kernel, by decide +kernel⟩,
   ⟨withFill { bankFill0 with next := 1 }, _, 1, rfl, by decide +kernel, by decide +kernel, by decide +kernel⟩,
   ⟨3, State.reset, allSome (by decide +kernel)⟩,
   ⟨withFill bankFill0, _, rfl⟩,
   ⟨State.reset, by decide +kernel⟩,
   ⟨72, 31, State.reset, _, _, _, rfl, rfl, rfl⟩,
   ⟨0, 1, .identity,
     { State.reset with lb := { State.reset.lb with slots := upd State.reset.lb.slots 1 fun _ => heldLook } }, 1, 0,
     by decide +kernel, by decide +kernel, by decide +kernel, by decide +kernel, by decide +kernel,
     by decide +kernel, by decide +kernel, by decide +kernel⟩,
   ⟨65, 32, by decide +kernel⟩⟩

/-- Values that meet the hypotheses of `Obligations.RoutesAreSet`, clauses 1 to 9 of those that have some. -/
theorem witness_RoutesAreSet_1 :
    (∃ (n : Nat) (items : RouteItems), (4 ≤ n ∨ routeItemsOk items = false)) ∧
    (∃ (k : Outp) (items : RouteItems) (s : State) (o : Output) (g : Grp) (j : Outp), o = (s.out k).withItems items ∧
      routeItemsOk items = true ∧ o.enabled = true ∧ o.group = some g ∧ j ≠ k ∧ (s.out j).enabled = true ∧ (s.out
      j).group = some g ∧ (s.out j).rate ≠ o.rate) ∧
    (∃ (k : Outp) (items : RouteItems) (s : State) (old : Output) (o : Output) (n : Notice), old = s.out k ∧ o =
      old.withItems items ∧ routeItemsOk items = true ∧ (o.enabled = false ∨ ∀ g j, o.group = some g → j ≠ k → (s.out
      j).enabled = true → (s.out j).group = some g → (s.out j).rate = o.rate) ∧ n = outNotice .outRouteSet k none
      (fSettings o)) ∧
    (∃ (k : Outp) (items : RouteItems) (s : State) (old : Output) (o : Output) (n : Notice) (j : Outp), old = s.out k
      ∧ o = old.withItems items ∧ routeItemsOk items = true ∧ (o.enabled = false ∨ ∀ g j, o.group = some g → j ≠ k →
      (s.out j).enabled = true → (s.out j).group = some g → (s.out j).rate = o.rate) ∧ n = outNotice .outRouteSet k
      none (fSettings o) ∧ j ≠ k) ∧
    (∃ (k : Outp) (items : RouteItems) (s : State) (old : Output) (o : Output) (n : Notice), old = s.out k ∧ o =
      old.withItems items ∧ routeItemsOk items = true ∧ (o.enabled = false ∨ ∀ g j, o.group = some g → j ≠ k → (s.out
      j).enabled = true → (s.out j).group = some g → (s.out j).rate = o.rate) ∧ n = outNotice .outRouteSet k none
      (fSettings o) ∧ old.enabled = true ∧ o.enabled = false) ∧
    (∃ (k : Outp) (items : RouteItems) (s : State) (old : Output) (o : Output) (n : Notice) (b : Boundary) (g : Grp)
      (js : List Outp), old = s.out k ∧ o = old.withItems items ∧ routeItemsOk items = true ∧ (o.enabled = false ∨ ∀
      g j, o.group = some g → j ≠ k → (s.out j).enabled = true → (s.out j).group = some g → (s.out j).rate = o.rate)
      ∧ n = outNotice .outRouteSet k none (fSettings o) ∧ old.enabled = true ∧ o.enabled = false ∧ old.bnd = some b ∧
      b.grp = some g ∧ (js = (s.taking g b.event).filter (fun j => j ≠ k)) ∧ js ≠ [] ∧ (∀ j ∈ js, (s.out j).readySlot
      ≠ none)) ∧
    (∃ (k : Outp) (items : RouteItems) (s : State) (old : Output) (o : Output) (n : Notice), old = s.out k ∧ o =
      old.withItems items ∧ routeItemsOk items = true ∧ (o.enabled = false ∨ ∀ g j, o.group = some g → j ≠ k → (s.out
      j).enabled = true → (s.out j).group = some g → (s.out j).rate = o.rate) ∧ n = outNotice .outRouteSet k none
      (fSettings o) ∧ old.route = .playback ∧ o.route ≠ .playback) ∧
    (∃ (q : Req) (k : Outp) (items : RouteItems) (s : State) (old : Output) (o : Output) (n : Notice) (c : Chan) (t :
      _), old = s.out k ∧ o = old.withItems items ∧ routeItemsOk items = true ∧ (o.enabled = false ∨ ∀ g j, o.group =
      some g → j ≠ k → (s.out j).enabled = true → (s.out j).group = some g → (s.out j).rate = o.rate) ∧ n = outNotice
      .outRouteSet k none (fSettings o) ∧ t.liveCount c ≠ s.liveCount c ∧ exec (.setRoute q k.val items) s = .next t) ∧
    (∃ (q : Req) (k : Outp) (items : RouteItems) (s : State) (old : Output) (o : Output) (n : Notice) (g : Grp) (t :
      _), old = s.out k ∧ o = old.withItems items ∧ routeItemsOk items = true ∧ (o.enabled = false ∨ ∀ g j, o.group =
      some g → j ≠ k → (s.out j).enabled = true → (s.out j).group = some g → (s.out j).rate = o.rate) ∧ n = outNotice
      .outRouteSet k none (fSettings o) ∧ t.members g = [] ∧ exec (.setRoute q k.val items) s = .next t) :=
  ⟨⟨4, {}, by decide +kernel⟩,
   ⟨0, { enabled := some true, group := some 1 }, withOuts {} { enabled := true, rate := 2, group := some 0 } {}, _,
     _, 1, rfl, by decide +kernel, by decide +kernel, rfl, by decide +kernel, by decide +kernel, by decide +kernel,
     by decide +kernel⟩,
   ⟨0, { enabled := some true }, withOut {}, _, _, _, rfl, rfl, by decide +kernel, by decide +kernel, rfl⟩,
   ⟨0, { enabled := some true }, withOut {}, _, _, _, 1, rfl, rfl, by decide +kernel, by decide +kernel, rfl,
     by decide +kernel⟩,
   ⟨0, { enabled := some false }, withOut out0, _, _, _, rfl, rfl, by decide +kernel, by decide +kernel, rfl,
     by decide +kernel, by decide +kernel⟩,
   ⟨0, { enabled := some false }, withOuts { grouped0 with bnd := some { bnd0 with grp := some 0 } }
     { grouped0 with bnd := some { bnd0 with tok := 4, grp := some 0, stage := .ready 5 } } clock0, _, _, _,
     { bnd0 with grp := some 0 }, 0, [1], rfl, rfl, by decide +kernel, by decide +kernel, rfl, by decide +kernel,
     by decide +kernel, by decide +kernel, by decide +kernel, by decide +kernel, by decide +kernel,
     by decide +kernel⟩,
   ⟨0, { route := some 1 }, withOut { out0 with route := .playback }, _, _, _, rfl, rfl, by decide +kernel,
     by decide +kernel, rfl, by decide +kernel, by decide +kernel⟩,
   ⟨⟨0, 0⟩, 0, { enabled := some false }, withOut { out0 with route := .live 0 }, _, _, _, 0, after (.setRoute ⟨0, 0⟩
     0 { enabled := some false }) (withOut { out0 with route := .live 0 }), rfl, rfl, by decide +kernel,
     by decide +kernel, rfl, by decide +kernel, after_eq (by decide +kernel)⟩,
   ⟨⟨0, 0⟩, 0, {}, withOut out0, _, _, _, 0, after (.setRoute ⟨0, 0⟩ 0 {}) (withOut out0), rfl, rfl,
     by decide +kernel, by decide +kernel, rfl, by decide +kernel, after_eq (by decide +kernel)⟩⟩

/-- Values that meet the hypotheses of `Obligations.RoutesAreSet`, clauses 10 to 17 of those that have some. -/
theorem witness_RoutesAreSet_2 :
    (∃ (q : Req) (k : Outp) (items : RouteItems) (s : State) (old : Output) (o : Output) (n : Notice) (g : Grp) (t :
      _), old = s.out k ∧ o = old.withItems items ∧ routeItemsOk items = true ∧ (o.enabled = false ∨ ∀ g j, o.group =
      some g → j ≠ k → (s.out j).enabled = true → (s.out j).group = some g → (s.out j).rate = o.rate) ∧ n = outNotice
      .outRouteSet k none (fSettings o) ∧ t.members g = [] ∧ (s.clock g).running = true ∧ exec (.setRoute q k.val
      items) s = .next t) ∧
    (∃ (q : Req) (k : Outp) (items : RouteItems) (s : State) (old : Output) (o : Output) (n : Notice) (g : Grp) (m :
      Outp) (ms : List Outp) (t : _), old = s.out k ∧ o = old.withItems items ∧ routeItemsOk items = true ∧
      (o.enabled = false ∨ ∀ g j, o.group = some g → j ≠ k → (s.out j).enabled = true → (s.out j).group = some g →
      (s.out j).rate = o.rate) ∧ n = outNotice .outRouteSet k none (fSettings o) ∧ t.members g = m :: ms ∧ exec
      (.setRoute q k.val items) s = .next t) ∧
    (∃ (q : Req) (k : Outp) (items : RouteItems) (s : State) (old : Output) (o : Output) (n : Notice) (g : Grp) (m :
      Outp) (ms : List Outp) (t : _), old = s.out k ∧ o = old.withItems items ∧ routeItemsOk items = true ∧
      (o.enabled = false ∨ ∀ g j, o.group = some g → j ≠ k → (s.out j).enabled = true → (s.out j).group = some g →
      (s.out j).rate = o.rate) ∧ n = outNotice .outRouteSet k none (fSettings o) ∧ t.members g = m :: ms ∧ (s.clock
      g).rate = (t.clock g).rate ∧ exec (.setRoute q k.val items) s = .next t) ∧
    (∃ (q : Req) (k : Outp) (items : RouteItems) (s : State) (old : Output) (o : Output) (n : Notice) (g : Grp) (m :
      Outp) (ms : List Outp) (t : _), old = s.out k ∧ o = old.withItems items ∧ routeItemsOk items = true ∧
      (o.enabled = false ∨ ∀ g j, o.group = some g → j ≠ k → (s.out j).enabled = true → (s.out j).group = some g →
      (s.out j).rate = o.rate) ∧ n = outNotice .outRouteSet k none (fSettings o) ∧ t.members g = m :: ms ∧ (s.clock
      g).running = true ∧ (s.clock g).rate ≠ (t.clock g).rate ∧ exec (.setRoute q k.val items) s = .next t) ∧
    (∃ (q : Req) (k : Outp) (items : RouteItems) (s : State) (old : Output) (o : Output) (n : Notice) (j : Outp) (g :
      Grp) (c : PlayClip) (t : _), old = s.out k ∧ o = old.withItems items ∧ routeItemsOk items = true ∧ (o.enabled =
      false ∨ ∀ g j, o.group = some g → j ≠ k → (s.out j).enabled = true → (s.out j).group = some g → (s.out j).rate
      = o.rate) ∧ n = outNotice .outRouteSet k none (fSettings o) ∧ (t.out j).group = some g ∧ (t.out j).clip = some
      c ∧ exec (.setRoute q k.val items) s = .next t) ∧
    (∃ (s : State) (g : Grp) (c : Clock), c = s.clock g ∧ s.members g = []) ∧
    (∃ (s : State) (g : Grp) (c : Clock) (m : Outp) (ms : List Outp) (r : Nat), c = s.clock g ∧ s.members g = m :: ms
      ∧ r = (s.out m).rate ∧ c.running = true ∧ c.rate ≠ some r) ∧
    (∃ (s : State) (g : Grp) (c : Clock) (m : Outp) (ms : List Outp) (r : Nat), c = s.clock g ∧ s.members g = m :: ms
      ∧ r = (s.out m).rate ∧ (c.running = false ∨ c.rate = some r)) :=
  ⟨⟨⟨0, 0⟩, 0, {}, withOuts out0 {} clock0, _, _, _, 0, after (.setRoute ⟨0, 0⟩ 0 {}) (withOuts out0 {} clock0), rfl,
     rfl, by decide +kernel, by decide +kernel, rfl, by decide +kernel, by decide +kernel, after_eq
     (by decide +kernel)⟩,
   ⟨⟨0, 0⟩, 0, {}, withOut grouped0, _, _, _, 0, 0, [], after (.setRoute ⟨0, 0⟩ 0 {}) (withOut grouped0), rfl, rfl,
     by decide +kernel, by decide +kernel, rfl, by decide +kernel, after_eq (by decide +kernel)⟩,
   ⟨⟨0, 0⟩, 0, {}, withOuts grouped0 {} clock0, _, _, _, 0, 0, [], after (.setRoute ⟨0, 0⟩ 0 {}) (withOuts grouped0
     {} clock0), rfl, rfl, by decide +kernel, by decide +kernel, rfl, by decide +kernel, by decide +kernel, after_eq
     (by decide +kernel)⟩,
   ⟨⟨0, 0⟩, 0, { rate := some 2 }, withOuts grouped0 {} clock0, _, _, _, 0, 0, [], after (.setRoute ⟨0, 0⟩ 0
     { rate := some 2 }) (withOuts grouped0 {} clock0), rfl, rfl, by decide +kernel, by decide +kernel, rfl,
     by decide +kernel, by decide +kernel, by decide +kernel, after_eq (by decide +kernel)⟩,
   ⟨⟨0, 0⟩, 0, {}, withOut grouped0, _, _, _, 0, 0, play0, after (.setRoute ⟨0, 0⟩ 0 {}) (withOut grouped0), rfl,
     rfl, by decide +kernel, by decide +kernel, rfl, by decide +kernel, by decide +kernel, after_eq
     (by decide +kernel)⟩,
   ⟨withOuts out0 {} clock0, 0, _, rfl, by decide +kernel⟩,
   ⟨withOuts { grouped0 with rate := 2 } {} clock0, 0, _, 0, [], _, rfl, by decide +kernel, rfl, by decide +kernel,
     by decide +kernel⟩,
   ⟨withOuts grouped0 {} clock0, 0, _, 0, [], _, rfl, by decide +kernel, rfl, by decide +kernel⟩⟩

/-- Values that meet the hypotheses of `Obligations.FrameBoundaries`, clauses 1 to 10 of those that have some. -/
theorem witness_FrameBoundaries_1 :
    (∃ (k : Outp) (s : State), ((s.out k).enabled = false ∨ (s.out k).group ≠ none ∨ (s.out k).bnd ≠ none)) ∧
    (∃ (k : Outp) (s : State) (o : Output), o = s.out k ∧ o.enabled = true ∧ o.group = none ∧ o.bnd = none) ∧
    (∃ (k : Outp) (s : State) (o : Output), o = s.out k ∧ o.enabled = true ∧ o.group = none ∧ o.bnd = none ∧ (o.route
      = .none ∨ o.route = .playback ∧ (o.play = .stopped ∨ o.current = none ∧ (o.play = .paused ∨ o.play = .ended)))) ∧
    (∃ (k : Outp) (s : State) (o : Output), o = s.out k ∧ o.enabled = true ∧ o.group = none ∧ o.bnd = none ∧ o.route
      = .pattern) ∧
    (∃ (k : Outp) (s : State) (o : Output) (c : Chan), o = s.out k ∧ o.enabled = true ∧ o.group = none ∧ o.bnd = none
      ∧ o.route = .live c) ∧
    (∃ (k : Outp) (s : State) (o : Output) (c : Current), o = s.out k ∧ o.enabled = true ∧ o.group = none ∧ o.bnd =
      none ∧ o.route = .playback ∧ (o.play = .paused ∨ o.play = .ended) ∧ o.current = some c) ∧
    (∃ (k : Outp) (s : State) (o : Output) (c : PlayClip) (slot : Nat) (hdr : FrameHdr), o = s.out k ∧ o.enabled =
      true ∧ o.group = none ∧ o.bnd = none ∧ o.route = .playback ∧ o.play = .playing ∧ o.clip = some c ∧ o.statusOf
      o.pos = some (.placed slot hdr)) ∧
    (∃ (k : Outp) (s : State) (o : Output) (c : PlayClip) (slot : Nat) (hdr : FrameHdr), o = s.out k ∧ o.enabled =
      true ∧ o.group = none ∧ o.bnd = none ∧ o.route = .playback ∧ o.play = .playing ∧ o.clip = some c ∧ o.statusOf
      o.pos = some (.placed slot hdr) ∧ o.pos + 1 ≠ c.frames) ∧
    (∃ (k : Outp) (s : State) (o : Output) (c : PlayClip) (slot : Nat) (hdr : FrameHdr), o = s.out k ∧ o.enabled =
      true ∧ o.group = none ∧ o.bnd = none ∧ o.route = .playback ∧ o.play = .playing ∧ o.clip = some c ∧ o.statusOf
      o.pos = some (.placed slot hdr) ∧ o.pos + 1 = c.frames) ∧
    (∃ (k : Outp) (s : State) (o : Output) (c : PlayClip), o = s.out k ∧ o.enabled = true ∧ o.group = none ∧ o.bnd =
      none ∧ o.route = .playback ∧ o.play = .playing ∧ o.clip = some c ∧ (∀ st, o.statusOf o.pos = some st → st ≠
      .beyondEnd ∧ st ≠ .unparsable ∧ ∀ slot hdr, st ≠ .placed slot hdr)) :=
  ⟨⟨0, State.reset, by decide +kernel⟩,
   ⟨0, withOut out0, _, rfl, by decide +kernel, by decide +kernel, by decide +kernel⟩,
   ⟨0, withOut out0, _, rfl, by decide +kernel, by decide +kernel, by decide +kernel, by decide +kernel⟩,
   ⟨0, withOut { out0 with route := .pattern }, _, rfl, by decide +kernel, by decide +kernel, by decide +kernel,
     by decide +kernel⟩,
   ⟨0, withOut { out0 with route := .live 2 }, _, _, rfl, by decide +kernel, by decide +kernel, by decide +kernel,
     rfl⟩,
   ⟨0, withOut { playing0 with play := .paused, current := some current0 }, _, _, rfl, by decide +kernel,
     by decide +kernel, by decide +kernel, by decide +kernel, by decide +kernel, rfl⟩,
   ⟨0, withOut { playing0 with prefetch := [⟨0, 0, some src0, .placed 0 frame0⟩] }, _, _, _, _, rfl,
     by decide +kernel, by decide +kernel, by decide +kernel, by decide +kernel, by decide +kernel, rfl, rfl⟩,
   ⟨0, withOut { playing0 with pos := 8, prefetch := [⟨8, 0, some src0, .placed 0 frame0⟩] }, _, _, _, _, rfl,
     by decide +kernel, by decide +kernel, by decide +kernel, by decide +kernel, by decide +kernel, rfl, rfl,
     by decide +kernel⟩,
   ⟨0, withOut { playing0 with pos := 9, prefetch := [⟨9, 0, some src0, .placed 0 frame0⟩] }, _, _, _, _, rfl,
     by decide +kernel, by decide +kernel, by decide +kernel, by decide +kernel, by decide +kernel, rfl, rfl,
     by decide +kernel⟩,
   ⟨0, withOut playing0, _, _, rfl, by decide +kernel, by decide +kernel, by decide +kernel, by decide +kernel,
     by decide +kernel, rfl, noSome (by decide +kernel)⟩⟩

/-- Values that meet the hypotheses of `Obligations.FrameBoundaries`, clauses 11 to 19 of those that have some. -/
theorem witness_FrameBoundaries_2 :
    (∃ (k : Outp) (s : State) (o : Output) (c : PlayClip), o = s.out k ∧ o.enabled = true ∧ o.group = none ∧ o.bnd =
      none ∧ o.route = .playback ∧ o.play = .playing ∧ o.clip = some c ∧ (∀ st, o.statusOf o.pos = some st → st ≠
      .beyondEnd ∧ st ≠ .unparsable ∧ ∀ slot hdr, st ≠ .placed slot hdr) ∧ o.pos + 1 ≠ c.frames) ∧
    (∃ (k : Outp) (s : State) (o : Output) (c : PlayClip), o = s.out k ∧ o.enabled = true ∧ o.group = none ∧ o.bnd =
      none ∧ o.route = .playback ∧ o.play = .playing ∧ o.clip = some c ∧ (∀ st, o.statusOf o.pos = some st → st ≠
      .beyondEnd ∧ st ≠ .unparsable ∧ ∀ slot hdr, st ≠ .placed slot hdr) ∧ o.pos + 1 = c.frames) ∧
    (∃ (k : Outp) (s : State) (o : Output) (c : PlayClip) (st : FetchStatus) (why : PlayEnd), o = s.out k ∧ o.enabled
      = true ∧ o.group = none ∧ o.bnd = none ∧ o.route = .playback ∧ o.play = .playing ∧ o.clip = some c ∧ o.statusOf
      o.pos = some st ∧ (st = .beyondEnd ∧ why = PlayEnd.dataEnd ∨ st = .unparsable ∧ why = .unparsable)) ∧
    (∃ (s : State) (k : Outp) (o : Output) (w : List Nat) (kept : List Prefetch) (ns : List Nat), o = s.out k ∧ w =
      s.window k ∧ (kept = ((o.prefetch.map fun e => if e.status = .requested ∧ e.frame ∉ w then
      { e with status := .late } else e).filter fun e => e.status = .late ∨ e.frame ∈ w)) ∧ (ns = (w.filter fun n =>
      ∀ e ∈ kept, e.frame ≠ n).take (3 - (kept.filter fun e => e.status = .requested ∨ e.status = .late).length))) ∧
    (∃ (s : State) (k : Outp) (o : Output) (c : PlayClip), o = s.out k ∧ o.clip = some c ∧ (o.play = .playing ∨
      o.play = .paused) ∧ o.group = none) ∧
    (∃ (s : State) (k : Outp) (o : Output), o = s.out k ∧ (o.clip = none ∨ o.play = .stopped ∨ o.play = .ended)) ∧
    (∃ (s : State) (k : Outp) (b : Boundary), (s.out k).bnd = some b ∧ b.grp = none) ∧
    (∃ (s : State) (k : Outp) (b : Boundary) (i : LookIx), (s.out k).bnd = some b ∧ b.grp = none ∧ b.stage = .ready
      i) ∧
    (∃ (s : State) (k : Outp) (b : Boundary), (s.out k).bnd = some b ∧ b.grp = none ∧ (∀ i, b.stage ≠ .ready i)) :=
  ⟨⟨0, withOut playing0, _, _, rfl, by decide +kernel, by decide +kernel, by decide +kernel, by decide +kernel,
     by decide +kernel, rfl, noSome (by decide +kernel), by decide +kernel⟩,
   ⟨0, withOut { playing0 with pos := 9 }, _, _, rfl, by decide +kernel, by decide +kernel, by decide +kernel,
     by decide +kernel, by decide +kernel, rfl, noSome (by decide +kernel), by decide +kernel⟩,
   ⟨0, withOut { playing0 with prefetch := [⟨0, 0, some src0, .beyondEnd⟩] }, _, _, _, .dataEnd, rfl,
     by decide +kernel, by decide +kernel, by decide +kernel, by decide +kernel, by decide +kernel, rfl, rfl,
     by decide +kernel⟩,
   ⟨withOut playing0, 0, _, _, _, _, rfl, rfl, rfl, rfl⟩,
   ⟨withOut playing0, 0, _, play0, rfl, by decide +kernel, by decide +kernel, by decide +kernel⟩,
   ⟨withOut out0, 0, _, rfl, by decide +kernel⟩,
   ⟨withOut { playing0 with bnd := some bnd0 }, 0, bnd0, by decide +kernel, by decide +kernel⟩,
   ⟨withOut { playing0 with bnd := some { bnd0 with stage := .ready 0 } }, 0, { bnd0 with stage := .ready 0 }, 0,
     by decide +kernel, by decide +kernel, by decide +kernel⟩,
   ⟨withOut { playing0 with bnd := some bnd0 }, 0, bnd0, by decide +kernel, by decide +kernel, by intro i h; cases h⟩⟩

/-- Values that meet the hypotheses of `Obligations.GroupBoundaries`, clauses 1 to 10 of those that have some. -/
theorem witness_GroupBoundaries_1 :
    (∃ (g : Grp) (s : State), (s.members g = [] ∨ (∃ k ∈ s.members g, (s.out k).bnd ≠ none))) ∧
    (∃ (g : Grp) (s : State) (c : Clock), c = s.clock g ∧ s.members g ≠ [] ∧ (∀ k ∈ s.members g, (s.out k).bnd =
      none)) ∧
    (∃ (g : Grp) (s : State) (c : Clock) (h : Grp), c = s.clock g ∧ s.members g ≠ [] ∧ (∀ k ∈ s.members g, (s.out
      k).bnd = none) ∧ h ≠ g) ∧
    (∃ (g : Grp) (s : State) (c : Clock), c = s.clock g ∧ s.members g ≠ [] ∧ (∀ k ∈ s.members g, (s.out k).bnd =
      none) ∧ c.running = false) ∧
    (∃ (g : Grp) (s : State) (c : Clock), c = s.clock g ∧ s.members g ≠ [] ∧ (∀ k ∈ s.members g, (s.out k).bnd =
      none) ∧ c.running = true ∧ c.first = true) ∧
    (∃ (g : Grp) (s : State) (c : Clock) (r : Nat), c = s.clock g ∧ s.members g ≠ [] ∧ (∀ k ∈ s.members g, (s.out
      k).bnd = none) ∧ c.running = true ∧ c.first = false ∧ c.rate = some r) ∧
    (∃ (g : Grp) (s : State) (c : Clock) (k : Outp), c = s.clock g ∧ s.members g ≠ [] ∧ (∀ k ∈ s.members g, (s.out
      k).bnd = none) ∧ k ∉ s.members g) ∧
    (∃ (g : Grp) (s : State) (c : Clock) (k : Outp), c = s.clock g ∧ s.members g ≠ [] ∧ (∀ k ∈ s.members g, (s.out
      k).bnd = none) ∧ k ∈ s.members g) ∧
    (∃ (g : Grp) (s : State) (c : Clock) (k : Outp) (o : Output) (x : PlayClip) (r : Nat) (n : Nat) (t : _), c =
      s.clock g ∧ s.members g ≠ [] ∧ (∀ k ∈ s.members g, (s.out k).bnd = none) ∧ k ∈ s.members g ∧ o = s.out k ∧
      o.route = .playback ∧ o.group = some g ∧ o.unsynced = false ∧ (o.play = .playing ∨ o.play = .paused) ∧ o.clip =
      some x ∧ c.rate = some r ∧ n = tcDiff r (tcPlus r (t.clock g).tc o.offset) x.start ∧ exec (.groupBoundary g) s
      = .next t) ∧
    (∃ (g : Grp) (s : State) (c : Clock) (k : Outp) (o : Output) (x : PlayClip) (r : Nat) (n : Nat) (t : _), c =
      s.clock g ∧ s.members g ≠ [] ∧ (∀ k ∈ s.members g, (s.out k).bnd = none) ∧ k ∈ s.members g ∧ o = s.out k ∧
      o.route = .playback ∧ o.group = some g ∧ o.unsynced = false ∧ (o.play = .playing ∨ o.play = .paused) ∧ o.clip =
      some x ∧ c.rate = some r ∧ n = tcDiff r (tcPlus r (t.clock g).tc o.offset) x.start ∧ x.frames ≤ n ∧ exec
      (.groupBoundary g) s = .next t) :=
  ⟨⟨0, State.reset, by decide +kernel⟩,
   ⟨0, withOuts grouped0 {} clock0, _, rfl, by decide +kernel, by decide +kernel⟩,
   ⟨0, withOuts grouped0 {} clock0, _, 1, rfl, by decide +kernel, by decide +kernel, by decide +kernel⟩,
   ⟨0, withOuts grouped0 {} {}, _, rfl, by decide +kernel, by decide +kernel, by decide +kernel⟩,
   ⟨0, withOuts grouped0 {} { clock0 with first := true }, _, rfl, by decide +kernel, by decide +kernel,
     by decide +kernel, by decide +kernel⟩,
   ⟨0, withOuts grouped0 {} { clock0 with tc := ⟨23, 59, 59, 23⟩ }, _, _, rfl, by decide +kernel, by decide +kernel,
     by decide +kernel, by decide +kernel, rfl⟩,
   ⟨0, withOuts grouped0 {} clock0, _, 3, rfl, by decide +kernel, by decide +kernel, by decide +kernel⟩,
   ⟨0, withOuts grouped0 {} clock0, _, 0, rfl, by decide +kernel, by decide +kernel, by decide +kernel⟩,
   ⟨_, withOuts grouped0 {} clock0, _, 0, _, _, _, _, after (.groupBoundary 0) (withOuts grouped0 {} clock0), rfl,
     by decide +kernel, by decide +kernel, by decide +kernel, rfl, by decide +kernel, rfl, by decide +kernel,
     by decide +kernel, rfl, rfl, rfl, after_eq (by decide +kernel)⟩,
   ⟨_, withOuts grouped0 {} { clock0 with tc := ⟨0, 0, 0, 9⟩ }, _, 0, _, _, _, _, after (.groupBoundary 0) (withOuts
     grouped0 {} { clock0 with tc := ⟨0, 0, 0, 9⟩ }), rfl, by decide +kernel, by decide +kernel, by decide +kernel,
     rfl, by decide +kernel, rfl, by decide +kernel, by decide +kernel, rfl, rfl, rfl, by decide +kernel, after_eq
     (by decide +kernel)⟩⟩

/-- Values that meet the hypotheses of `Obligations.GroupBoundaries`, clauses 11 to 20 of those that have some. -/
theorem witness_GroupBoundaries_2 :
    (∃ (g : Grp) (s : State) (c : Clock) (k : Outp) (o : Output) (x : PlayClip) (r : Nat) (n : Nat) (cur : Current)
      (t : _), c = s.clock g ∧ s.members g ≠ [] ∧ (∀ k ∈ s.members g, (s.out k).bnd = none) ∧ k ∈ s.members g ∧ o =
      s.out k ∧ o.route = .playback ∧ o.group = some g ∧ o.unsynced = false ∧ (o.play = .playing ∨ o.play = .paused)
      ∧ o.clip = some x ∧ c.rate = some r ∧ n = tcDiff r (tcPlus r (t.clock g).tc o.offset) x.start ∧ n < x.frames ∧
      o.current = some cur ∧ cur.frame = n ∧ cur.src = .playback k ∧ cur.hdr.clip = x.clip ∧ exec (.groupBoundary g)
      s = .next t) ∧
    (∃ (g : Grp) (s : State) (c : Clock) (k : Outp) (o : Output) (x : PlayClip) (r : Nat) (n : Nat) (t : _), c =
      s.clock g ∧ s.members g ≠ [] ∧ (∀ k ∈ s.members g, (s.out k).bnd = none) ∧ k ∈ s.members g ∧ o = s.out k ∧
      o.route = .playback ∧ o.group = some g ∧ o.unsynced = false ∧ (o.play = .playing ∨ o.play = .paused) ∧ o.clip =
      some x ∧ c.rate = some r ∧ n = tcDiff r (tcPlus r (t.clock g).tc o.offset) x.start ∧ n < x.frames ∧ (∀ cur,
      o.current = some cur → ¬(cur.frame = n ∧ cur.src = .playback k ∧ cur.hdr.clip = x.clip)) ∧ exec (.groupBoundary
      g) s = .next t) ∧
    (∃ (g : Grp) (s : State) (c : Clock) (k : Outp) (o : Output) (x : PlayClip) (r : Nat) (n : Nat) (slot : Nat) (hdr
      : FrameHdr) (t : _), c = s.clock g ∧ s.members g ≠ [] ∧ (∀ k ∈ s.members g, (s.out k).bnd = none) ∧ k ∈
      s.members g ∧ o = s.out k ∧ o.route = .playback ∧ o.group = some g ∧ o.unsynced = false ∧ (o.play = .playing ∨
      o.play = .paused) ∧ o.clip = some x ∧ c.rate = some r ∧ n = tcDiff r (tcPlus r (t.clock g).tc o.offset) x.start
      ∧ n < x.frames ∧ (∀ cur, o.current = some cur → ¬(cur.frame = n ∧ cur.src = .playback k ∧ cur.hdr.clip =
      x.clip)) ∧ o.statusOf n = some (.placed slot hdr) ∧ exec (.groupBoundary g) s = .next t) ∧
    (∃ (g : Grp) (s : State) (c : Clock) (k : Outp) (o : Output) (x : PlayClip) (r : Nat) (n : Nat) (st :
      FetchStatus) (t : _), c = s.clock g ∧ s.members g ≠ [] ∧ (∀ k ∈ s.members g, (s.out k).bnd = none) ∧ k ∈
      s.members g ∧ o = s.out k ∧ o.route = .playback ∧ o.group = some g ∧ o.unsynced = false ∧ (o.play = .playing ∨
      o.play = .paused) ∧ o.clip = some x ∧ c.rate = some r ∧ n = tcDiff r (tcPlus r (t.clock g).tc o.offset) x.start
      ∧ n < x.frames ∧ (∀ cur, o.current = some cur → ¬(cur.frame = n ∧ cur.src = .playback k ∧ cur.hdr.clip =
      x.clip)) ∧ o.statusOf n = some st ∧ (st = .beyondEnd ∨ st = .unparsable) ∧ exec (.groupBoundary g) s = .next t) ∧
    (∃ (g : Grp) (s : State) (c : Clock) (k : Outp) (o : Output) (x : PlayClip) (r : Nat) (n : Nat) (t : _), c =
      s.clock g ∧ s.members g ≠ [] ∧ (∀ k ∈ s.members g, (s.out k).bnd = none) ∧ k ∈ s.members g ∧ o = s.out k ∧
      o.route = .playback ∧ o.group = some g ∧ o.unsynced = false ∧ (o.play = .playing ∨ o.play = .paused) ∧ o.clip =
      some x ∧ c.rate = some r ∧ n = tcDiff r (tcPlus r (t.clock g).tc o.offset) x.start ∧ n < x.frames ∧ (∀ cur,
      o.current = some cur → ¬(cur.frame = n ∧ cur.src = .playback k ∧ cur.hdr.clip = x.clip)) ∧ (∀ st, o.statusOf n
      = some st → st ≠ .beyondEnd ∧ st ≠ .unparsable ∧ ∀ slot hdr, st ≠ .placed slot hdr) ∧ exec (.groupBoundary g) s
      = .next t) ∧
    (∃ (g : Grp) (s : State) (k : Outp) (o : Output), (∀ j ∈ s.members g, (s.out j).bnd = none) ∧ k ∈ s.members g ∧ o
      = s.out k ∧ (o.route = .none ∨ o.route = .playback ∧ (o.play = .stopped ∨ o.current = none ∧ (o.play = .ended ∨
      o.unsynced = true ∧ o.play = .paused)))) ∧
    (∃ (g : Grp) (s : State) (k : Outp) (o : Output), (∀ j ∈ s.members g, (s.out j).bnd = none) ∧ k ∈ s.members g ∧ o
      = s.out k ∧ o.route = .pattern) ∧
    (∃ (g : Grp) (s : State) (k : Outp) (o : Output) (c : Chan), (∀ j ∈ s.members g, (s.out j).bnd = none) ∧ k ∈
      s.members g ∧ o = s.out k ∧ o.route = .live c) ∧
    (∃ (g : Grp) (s : State) (k : Outp) (o : Output) (c : Current), (∀ j ∈ s.members g, (s.out j).bnd = none) ∧ k ∈
      s.members g ∧ o = s.out k ∧ o.route = .playback ∧ (o.play = .ended ∨ o.unsynced = true ∧ o.play = .paused) ∧
      o.current = some c) ∧
    (∃ (g : Grp) (s : State) (k : Outp) (o : Output) (c : PlayClip) (slot : Nat) (hdr : FrameHdr), (∀ j ∈ s.members
      g, (s.out j).bnd = none) ∧ k ∈ s.members g ∧ o = s.out k ∧ o.route = .playback ∧ o.unsynced = true ∧ o.play =
      .playing ∧ o.clip = some c ∧ o.statusOf o.pos = some (.placed slot hdr)) :=
  ⟨⟨_, withOuts { grouped0 with current := some current0 } {} { clock0 with running := false }, _, 0, _, _, _, _, _,
     after (.groupBoundary 0) (withOuts { grouped0 with current := some current0 } {}
     { clock0 with running := false }), rfl, by decide +kernel, by decide +kernel, by decide +kernel, rfl,
     by decide +kernel, rfl, by decide +kernel, by decide +kernel, rfl, rfl, rfl, by decide +kernel, rfl,
     by decide +kernel, by decide +kernel, by decide +kernel, after_eq (by decide +kernel)⟩,
   ⟨_, withOuts grouped0 {} { clock0 with tc := ⟨0, 0, 0, 8⟩ }, _, 0, _, _, _, _, after (.groupBoundary 0) (withOuts
     grouped0 {} { clock0 with tc := ⟨0, 0, 0, 8⟩ }), rfl, by decide +kernel, by decide +kernel, by decide +kernel,
     rfl, by decide +kernel, rfl, by decide +kernel, by decide +kernel, rfl, rfl, rfl, by decide +kernel, allSome
     (by decide +kernel), after_eq (by decide +kernel)⟩,
   ⟨_, withOuts { grouped0 with prefetch := [⟨1, 0, some src0, .placed 0 frame0⟩] } {} clock0, _, 0, _, _, _, _, 0,
     frame0, after (.groupBoundary 0) (withOuts { grouped0 with prefetch := [⟨1, 0, some src0, .placed 0 frame0⟩] }
     {} clock0), rfl, by decide +kernel, by decide +kernel, by decide +kernel, rfl, by decide +kernel, rfl,
     by decide +kernel, by decide +kernel, rfl, rfl, rfl, by decide +kernel, allSome (by decide +kernel),
     by decide +kernel, after_eq (by decide +kernel)⟩,
   ⟨_, withOuts { grouped0 with prefetch := [⟨1, 0, some src0, .unparsable⟩] } {} clock0, _, 0, _, _, _, _,
     .unparsable, after (.groupBoundary 0) (withOuts { grouped0 with prefetch := [⟨1, 0, some src0, .unparsable⟩] }
     {} clock0), rfl, by decide +kernel, by decide +kernel, by decide +kernel, rfl, by decide +kernel, rfl,
     by decide +kernel, by decide +kernel, rfl, rfl, rfl, by decide +kernel, allSome (by decide +kernel),
     by decide +kernel, by decide +kernel, after_eq (by decide +kernel)⟩,
   ⟨_, withOuts grouped0 {} clock0, _, 0, _, _, _, _, after (.groupBoundary 0) (withOuts grouped0 {} clock0), rfl,
     by decide +kernel, by decide +kernel, by decide +kernel, rfl, by decide +kernel, rfl, by decide +kernel,
     by decide +kernel, rfl, rfl, rfl, by decide +kernel, allSome (by decide +kernel), noSome (by decide +kernel),
     after_eq (by decide +kernel)⟩,
   ⟨0, withOuts { grouped0 with play := .ended } {} clock0, 0, _, by decide +kernel, by decide +kernel, rfl,
     by decide +kernel⟩,
   ⟨0, withOuts { grouped0 with route := .pattern } {} clock0, 0, _, by decide +kernel, by decide +kernel, rfl,
     by decide +kernel⟩,
   ⟨0, withOuts { grouped0 with route := .live 0 } {} clock0, 0, _, 0, by decide +kernel, by decide +kernel, rfl,
     by decide +kernel⟩,
   ⟨0, withOuts { grouped0 with play := .ended, current := some current0 } {} clock0, 0, _, current0,
     by decide +kernel, by decide +kernel, rfl, by decide +kernel, by decide +kernel, by decide +kernel⟩,
   ⟨0, withOuts
     { grouped0 with unsynced := true, prefetch := [{ frame := 0, run := 0, src := some src0, status := .placed 0 frame0 }] }
     {} clock0, 0, _, play0, 0, frame0, by decide +kernel, by decide +kernel, rfl, by decide +kernel,
     by decide +kernel, by decide +kernel, by decide +kernel, by decide +kernel⟩⟩

/-- Values that meet the hypotheses of `Obligations.GroupBoundaries`, clauses 21 to 28 of those that have some. -/
theorem witness_GroupBoundaries_3 :
    (∃ (g : Grp) (s : State) (k : Outp) (o : Output) (c : PlayClip) (slot : Nat) (hdr : FrameHdr), (∀ j ∈ s.members
      g, (s.out j).bnd = none) ∧ k ∈ s.members g ∧ o = s.out k ∧ o.route = .playback ∧ o.unsynced = true ∧ o.play =
      .playing ∧ o.clip = some c ∧ o.statusOf o.pos = some (.placed slot hdr) ∧ o.pos + 1 ≠ c.frames) ∧
    (∃ (g : Grp) (s : State) (k : Outp) (o : Output) (c : PlayClip) (slot : Nat) (hdr : FrameHdr), (∀ j ∈ s.members
      g, (s.out j).bnd = none) ∧ k ∈ s.members g ∧ o = s.out k ∧ o.route = .playback ∧ o.unsynced = true ∧ o.play =
      .playing ∧ o.clip = some c ∧ o.statusOf o.pos = some (.placed slot hdr) ∧ o.pos + 1 = c.frames) ∧
    (∃ (g : Grp) (s : State) (k : Outp) (o : Output) (c : PlayClip), (∀ j ∈ s.members g, (s.out j).bnd = none) ∧ k ∈
      s.members g ∧ o = s.out k ∧ o.route = .playback ∧ o.unsynced = true ∧ o.play = .playing ∧ o.clip = some c ∧ (∀
      st, o.statusOf o.pos = some st → st ≠ .beyondEnd ∧ st ≠ .unparsable ∧ ∀ slot hdr, st ≠ .placed slot hdr)) ∧
    (∃ (g : Grp) (s : State) (k : Outp) (o : Output) (c : PlayClip), (∀ j ∈ s.members g, (s.out j).bnd = none) ∧ k ∈
      s.members g ∧ o = s.out k ∧ o.route = .playback ∧ o.unsynced = true ∧ o.play = .playing ∧ o.clip = some c ∧ (∀
      st, o.statusOf o.pos = some st → st ≠ .beyondEnd ∧ st ≠ .unparsable ∧ ∀ slot hdr, st ≠ .placed slot hdr) ∧
      o.pos + 1 ≠ c.frames) ∧
    (∃ (g : Grp) (s : State) (k : Outp) (o : Output) (c : PlayClip), (∀ j ∈ s.members g, (s.out j).bnd = none) ∧ k ∈
      s.members g ∧ o = s.out k ∧ o.route = .playback ∧ o.unsynced = true ∧ o.play = .playing ∧ o.clip = some c ∧ (∀
      st, o.statusOf o.pos = some st → st ≠ .beyondEnd ∧ st ≠ .unparsable ∧ ∀ slot hdr, st ≠ .placed slot hdr) ∧
      o.pos + 1 = c.frames) ∧
    (∃ (g : Grp) (s : State) (k : Outp) (o : Output) (c : PlayClip) (st : FetchStatus) (why : PlayEnd), (∀ j ∈
      s.members g, (s.out j).bnd = none) ∧ k ∈ s.members g ∧ o = s.out k ∧ o.route = .playback ∧ o.unsynced = true ∧
      o.play = .playing ∧ o.clip = some c ∧ o.statusOf o.pos = some st ∧ (st = .beyondEnd ∧ why = PlayEnd.dataEnd ∨
      st = .unparsable ∧ why = .unparsable)) ∧
    (∃ (s : State) (k : Outp) (o : Output) (c : PlayClip) (g : Grp) (r : Nat) (next : Timecode) (m : Nat), o = s.out
      k ∧ o.clip = some c ∧ (o.play = .playing ∨ o.play = .paused) ∧ o.group = some g ∧ o.unsynced = false ∧ (s.clock
      g).rate = some r ∧ (next =
      (if (s.clock g).running = true ∧ (s.clock g).first = false then tcNext r (s.clock g).tc else (s.clock g).tc)) ∧
      m = tcDiff r (tcPlus r next o.offset) c.start) ∧
    (∃ (s : State) (k : Outp) (o : Output) (c : PlayClip) (g : Grp), o = s.out k ∧ o.clip = some c ∧ (o.play =
      .playing ∨ o.play = .paused) ∧ o.group = some g ∧ o.unsynced = true) :=
  ⟨⟨0, withOuts
     { grouped0 with unsynced := true, prefetch := [{ frame := 0, run := 0, src := some src0, status := .placed 0 frame0 }] }
     {} clock0, 0, _, play0, 0, frame0, by decide +kernel, by decide +kernel, rfl, by decide +kernel,
     by decide +kernel, by decide +kernel, by decide +kernel, by decide +kernel, by decide +kernel⟩,
   ⟨0, withOuts
     { grouped0 with unsynced := true, pos := 9, prefetch := [{ frame := 9, run := 0, src := some src0, status := .placed 0 frame0 }] }
     {} clock0, 0, _, play0, 0, frame0, by decide +kernel, by decide +kernel, rfl, by decide +kernel,
     by decide +kernel, by decide +kernel, by decide +kernel, by decide +kernel, by decide +kernel⟩,
   ⟨0, withOuts { grouped0 with unsynced := true } {} clock0, 0, _, play0, by decide +kernel, by decide +kernel, rfl,
     by decide +kernel, by decide +kernel, by decide +kernel, by decide +kernel, noSome (by decide +kernel)⟩,
   ⟨0, withOuts { grouped0 with unsynced := true } {} clock0, 0, _, play0, by decide +kernel, by decide +kernel, rfl,
     by decide +kernel, by decide +kernel, by decide +kernel, by decide +kernel, noSome (by decide +kernel),
     by decide +kernel⟩,
   ⟨0, withOuts { grouped0 with unsynced := true, pos := 9 } {} clock0, 0, _, play0, by decide +kernel,
     by decide +kernel, rfl, by decide +kernel, by decide +kernel, by decide +kernel, by decide +kernel, noSome
     (by decide +kernel), by decide +kernel⟩,
   ⟨0, withOuts
     { grouped0 with unsynced := true, prefetch := [{ frame := 0, run := 0, src := some src0, status := .unparsable }] }
     {} clock0, 0, _, play0, .unparsable, .unparsable, by decide +kernel, by decide +kernel, rfl, by decide +kernel,
     by decide +kernel, by decide +kernel, by decide +kernel, by decide +kernel, by decide +kernel⟩,
   ⟨withOuts grouped0 {} clock0, 0, _, play0, 0, _, _, _, rfl, by decide +kernel, by decide +kernel,
     by decide +kernel, by decide +kernel, rfl, rfl, rfl⟩,
   ⟨withOuts { grouped0 with unsynced := true } {} clock0, 0, _, play0, 0, rfl, by decide +kernel, by decide +kernel,
     by decide +kernel, by decide +kernel⟩⟩

/-- Values that meet the hypotheses of `Obligations.LatchAndRender`, clauses 1 to 9 of those that have some. -/
theorem witness_LatchAndRender_1 :
    (∃ (k : Outp) (tok : Nat) (s : State), (∀ b c, (s.out k).bnd = some b → b.tok = tok → b.stage ≠ .pool c)) ∧
    (∃ (k : Outp) (s : State) (o : Output) (b : Boundary) (c : Chan), o = s.out k ∧ o.bnd = some b ∧ b.stage = .pool
      c) ∧
    (∃ (k : Outp) (s : State) (o : Output) (b : Boundary) (c : Chan) (x : Current) (pass : Nat), o = s.out k ∧ o.bnd
      = some b ∧ b.stage = .pool c ∧ o.current = some x ∧ x.src = .live c pass) ∧
    (∃ (k : Outp) (s : State) (o : Output) (b : Boundary) (c : Chan) (x : Current) (pass : Nat), o = s.out k ∧ o.bnd
      = some b ∧ b.stage = .pool c ∧ o.current = some x ∧ x.src = .live c pass ∧ b.grp = none) ∧
    (∃ (k : Outp) (s : State) (o : Output) (b : Boundary) (c : Chan), o = s.out k ∧ o.bnd = some b ∧ b.stage = .pool
      c ∧ (∀ x pass, o.current = some x → x.src ≠ .live c pass)) ∧
    (∃ (k : Outp) (s : State) (o : Output) (b : Boundary) (c : Chan), o = s.out k ∧ o.bnd = some b ∧ b.stage = .pool
      c ∧ (∀ x pass, o.current = some x → x.src ≠ .live c pass) ∧ b.grp = none) ∧
    (∃ (k : Outp) (s : State) (o : Output) (b : Boundary) (c : Chan) (seq : Nat), o = s.out k ∧ o.bnd = some b ∧
      b.stage = .pool c ∧ (∀ x pass, o.current = some x → x.src = .live c pass → x.seq ≠ seq)) ∧
    (∃ (k : Outp) (s : State) (o : Output) (b : Boundary) (c : Chan) (seq : Nat), o = s.out k ∧ o.bnd = some b ∧
      b.stage = .pool c ∧ (∀ x pass, o.current = some x → x.src = .live c pass → x.seq ≠ seq) ∧ b.grp = none) ∧
    (∃ (k : Outp) (tok : Nat) (s : State), (∀ b, (s.out k).bnd = some b → b.tok = tok → b.stage ≠ .lookup)) :=
  ⟨⟨0, 3, State.reset, fun b _ h => (noSome (P := fun _ => False) rfl b h).elim⟩,
   ⟨0, withOut { out0 with bnd := some bnd0 }, _, _, _, rfl, rfl, rfl⟩,
   ⟨0, withOut { out0 with bnd := some bnd0, current := some live0 }, _, _, _, _, _, rfl, rfl, rfl, rfl, rfl⟩,
   ⟨0, withOut { out0 with bnd := some bnd0, current := some live0 }, _, _, _, _, _, rfl, rfl, rfl, rfl, rfl,
     by decide +kernel⟩,
   ⟨0, withOut { out0 with bnd := some bnd0 }, _, _, _, rfl, rfl, rfl, fun x _ h => (noSome (P := fun _ => False) rfl
     x h).elim⟩,
   ⟨0, withOut { out0 with bnd := some bnd0 }, _, _, _, rfl, rfl, rfl, fun x _ h => (noSome (P := fun _ => False) rfl
     x h).elim, by decide +kernel⟩,
   ⟨0, withOut { out0 with bnd := some bnd0 }, _, _, _, 1, rfl, rfl, rfl, fun x _ h => (noSome (P := fun _ => False)
     rfl x h).elim⟩,
   ⟨0, withOut { out0 with bnd := some bnd0 }, _, _, _, 1, rfl, rfl, rfl, fun x _ h => (noSome (P := fun _ => False)
     rfl x h).elim, by decide +kernel⟩,
   ⟨0, 3, State.reset, allSome (by decide +kernel)⟩⟩

/-- Values that meet the hypotheses of `Obligations.LatchAndRender`, clauses 10 to 18 of those that have some. -/
theorem witness_LatchAndRender_2 :
    (∃ (k : Outp) (s : State) (b : Boundary) (rec : Option Clip) (i : LookIx), (s.out k).bnd = some b ∧ b.stage =
      .lookup ∧ (i = (match rec with | some c => c.look | none => 0))) ∧
    (∃ (k : Outp) (s : State) (b : Boundary) (rec : Option Clip) (i : LookIx), (s.out k).bnd = some b ∧ b.stage =
      .lookup ∧ (i = (match rec with | some c => c.look | none => 0)) ∧ b.grp = none) ∧
    (∃ (k : Outp) (s : State) (b : Boundary) (rec : Option Clip) (i : LookIx) (g : Grp) (j : Outp), (s.out k).bnd =
      some b ∧ b.stage = .lookup ∧ (i = (match rec with | some c => c.look | none => 0)) ∧ b.grp = some g ∧ j ≠ k ∧ j
      ∈ s.taking g b.event ∧ (s.out j).readySlot = none) ∧
    (∃ (k : Outp) (s : State) (b : Boundary) (rec : Option Clip) (i : LookIx) (g : Grp), (s.out k).bnd = some b ∧
      b.stage = .lookup ∧ (i = (match rec with | some c => c.look | none => 0)) ∧ b.grp = some g ∧ (∀ j ∈ s.taking g
      b.event, j ≠ k → (s.out j).readySlot ≠ none)) ∧
    (∃ (outs : List (Outp × Nat × LookIx × Nat × LookRec)), (outs.map (·.1)).Nodup) ∧
    (∃ (outs : List (Outp × Nat × LookIx × Nat × LookRec)) (k : Outp), (outs.map (·.1)).Nodup ∧ k ∉ outs.map (·.1)) ∧
    (∃ (outs : List (Outp × Nat × LookIx × Nat × LookRec)) (s : State) (k : Outp) (slot : LookIx) (version : Nat) (l
      : LookRec) (o : Output) (b : Boundary) (store : List Rgb), (outs.map (·.1)).Nodup ∧ o = s.out k ∧ (k, b.tok,
      slot, version, l) ∈ outs ∧ o.bnd = some b ∧ b.stage = .latching ∧ ((∃ x, b.sel = .plane ∧ o.current = some x ∧
      store = (planeSamples (s.planeOf x.slot)).map (renderSample l)) ∨ b.sel = .pattern ∧ store = patternFrame l.enc
      ∨ b.sel = .miss ∧ store = missFrame o.miss l.enc o.store)) ∧
    (∃ (outs : List (Outp × Nat × LookIx × Nat × LookRec)) (s : State) (k : Outp) (slot : LookIx) (version : Nat) (l
      : LookRec) (o : Output) (b : Boundary) (store : List Rgb), (outs.map (·.1)).Nodup ∧ o = s.out k ∧ (k, b.tok,
      slot, version, l) ∈ outs ∧ o.bnd = some b ∧ b.stage = .latching ∧ ((∃ x, b.sel = .plane ∧ o.current = some x ∧
      store = (planeSamples (s.planeOf x.slot)).map (renderSample l)) ∨ b.sel = .pattern ∧ store = patternFrame l.enc
      ∨ b.sel = .miss ∧ store = missFrame o.miss l.enc o.store) ∧ (b.sel ≠ .pattern ∨ o.patternHeld = false)) ∧
    (∃ (outs : List (Outp × Nat × LookIx × Nat × LookRec)) (s : State) (k : Outp) (slot : LookIx) (version : Nat) (l
      : LookRec) (o : Output) (b : Boundary) (store : List Rgb) (n : Nat), (outs.map (·.1)).Nodup ∧ o = s.out k ∧ (k,
      b.tok, slot, version, l) ∈ outs ∧ o.bnd = some b ∧ b.stage = .latching ∧ ((∃ x, b.sel = .plane ∧ o.current =
      some x ∧ store = (planeSamples (s.planeOf x.slot)).map (renderSample l)) ∨ b.sel = .pattern ∧ store =
      patternFrame l.enc ∨ b.sel = .miss ∧ store = missFrame o.miss l.enc o.store) ∧ n ∈ o.stale) :=
  ⟨⟨0, withOut { out0 with bnd := some { bnd0 with stage := .lookup } }, _, none, _, rfl, by decide +kernel, rfl⟩,
   ⟨0, withOut { out0 with bnd := some { bnd0 with stage := .lookup } }, _, none, _, rfl, by decide +kernel, rfl,
     by decide +kernel⟩,
   ⟨0, withOuts { grouped0 with bnd := some { bnd0 with grp := some 0, stage := .lookup } }
     { grouped0 with bnd := some { bnd0 with grp := some 0 } } clock0, { bnd0 with grp := some 0, stage := .lookup },
     none, 0, 0, 1, by decide +kernel, by decide +kernel, by decide +kernel, by decide +kernel, by decide +kernel,
     by decide +kernel, by decide +kernel⟩,
   ⟨0, withOuts { grouped0 with bnd := some { bnd0 with grp := some 0, stage := .lookup } }
     { grouped0 with bnd := some { bnd0 with grp := some 0, event := 1, stage := .latching } } clock0,
     { bnd0 with grp := some 0, stage := .lookup }, none, 0, 0, by decide +kernel, by decide +kernel,
     by decide +kernel, by decide +kernel, by decide +kernel⟩,
   ⟨[(0, 3, 0, 0, identityLook)], by decide +kernel⟩,
   ⟨[(0, 3, 0, 0, identityLook)], 1, by decide +kernel, by decide +kernel⟩,
   ⟨[(0, 3, 0, 0, identityLook)], withOut
     { out0 with bnd := some { bnd0 with sel := .pattern, stage := .latching } }, 0, 0, 0, identityLook, _, _, _,
     by decide +kernel, rfl, by decide +kernel, rfl, by decide +kernel, Or.inr (Or.inl ⟨rfl, rfl⟩)⟩,
   ⟨[(0, 3, 0, 0, identityLook)], withOut
     { out0 with bnd := some { bnd0 with sel := .pattern, stage := .latching } }, 0, 0, 0, identityLook, _, _, _,
     by decide +kernel, rfl, by decide +kernel, rfl, by decide +kernel, Or.inr (Or.inl ⟨rfl, rfl⟩),
     by decide +kernel⟩,
   ⟨[(0, 3, 0, 0, identityLook)], withOut { out0 with stale := [4], bnd := some { bnd0 with stage := .latching } },
     0, 0, 0, identityLook, _, _, _, 4, by decide +kernel, rfl, by decide +kernel, rfl, by decide +kernel, Or.inr
     (Or.inr ⟨rfl, rfl⟩), by decide +kernel⟩⟩

/-- Values that meet the hypotheses of `Obligations.Play`, clauses 1 to 8 of those that have some. -/
theorem witness_Play_1 :
    (∃ (k : Outp) (s : State) (o : Output) (n : Notice), o = s.out k ∧ o.play = .paused ∧ n =
      { outNotice .outPlaying k o.clip [] with port := o.src.map (·.port) }) ∧
    (∃ (q : Req) (n : Nat) (clip : Option Nat) (start : Option Nat) (s : State) (w : Wire), (4 ≤ n ∧ w = refuseOf .ro
      q .value ∨ ∃ k : Outp, n = k.val ∧ (clip = none ∧ (s.out k).play ≠ .paused ∧ w = refuseStateOf .ro q .notPaused
      ∨ ∃ id, clip = some id ∧ (1024 ≤ id ∧ w = refuseOf .ro q .value ∨ id < 1024 ∧ (s.out k).locate ≠ none ∧ w =
      refuseOf .ro q .busy ∨ id < 1024 ∧ (s.out k).locate = none ∧ ((s.out k).enabled = false ∧ w = refuseStateOf .ro
      q .disabled ∨ (s.out k).enabled = true ∧ (s.out k).route ≠ .playback ∧ w = refuseStateOf .ro q .notPlayback ∨
      (s.out k).enabled = true ∧ (s.out k).route = .playback ∧ (s.clip? id = none ∧ w = refuseOf .ro q .notFound ∨ ∃
      c, s.clip? id = some c ∧ (c.desc.frames ≤ start.getD 0 ∧ w = refuseOf .ro q .value ∨ start.getD 0 <
      c.desc.frames ∧ playable c = [] ∧ w = refuseOf .ro q .notFound))))))) ∧
    (∃ (k : Outp) (id : Nat) (start : Option Nat) (s : State) (c : Clip) (cs : List Candidate), id < 1024 ∧ (s.out
      k).locate = none ∧ (s.out k).enabled = true ∧ (s.out k).route = .playback ∧ s.clip? id = some c ∧ start.getD 0
      < c.desc.frames ∧ (cs = (playable c).map (fun x =>
      ({ src := { port := x.port, vol := x.vol, hb := x.hb, span := Clip.span c } } : Candidate))) ∧ cs ≠ []) ∧
    (∃ (k : Outp) (ix : Nat) (yes : Bool) (s : State) (l : Locate) (cs : List Candidate), (s.out k).locate = some l ∧
      (cs = l.cands.zipIdx.map (fun c => if c.2 = ix then { c.1 with answer := some yes } else c.1))) ∧
    (∃ (k : Outp) (ix : Nat) (yes : Bool) (s : State) (l : Locate) (cs : List Candidate) (c : Candidate), (s.out
      k).locate = some l ∧ (cs = l.cands.zipIdx.map (fun c => if c.2 = ix then { c.1 with answer := some yes } else
      c.1)) ∧ c ∈ cs) ∧
    (∃ (k : Outp) (s : State), (s.out k).locate = none) ∧
    (∃ (k : Outp) (rec : Option Clip) (s : State) (o : Output) (l : Locate) (w : Wire), o = s.out k ∧ o.locate = some
      l ∧ allAnswered l.cands = true ∧ (o.enabled = false ∧ w = refuseStateOf .ro l.q .disabled ∨ o.enabled = true ∧
      o.route ≠ .playback ∧ w = refuseStateOf .ro l.q .notPlayback ∨ o.enabled = true ∧ o.route = .playback ∧ (rec =
      none ∧ w = refuseOf .ro l.q .notFound ∨ ∃ c, rec = some c ∧ (c.desc.frames ≤ l.start ∧ w = refuseOf .ro l.q
      .value ∨ l.start < c.desc.frames ∧ (∀ x ∈ l.cands, x.answer ≠ some true) ∧ w = refuseOf .ro l.q .notFound)))) ∧
    (∃ (k : Outp) (c : Clip) (s : State) (o : Output) (l : Locate) (x : Copy) (clip : PlayClip) (src : Source) (n :
      Notice), o = s.out k ∧ o.locate = some l ∧ allAnswered l.cands = true ∧ o.enabled = true ∧ o.route = .playback
      ∧ l.start < c.desc.frames ∧ chooseSource c l.cands = some x ∧ clip =
      { clip := c.id, frames := c.desc.frames, start := c.desc.start, rate := c.desc.rate, letter := c.desc.letter }
      ∧ src = { port := x.port, vol := x.vol, hb := x.hb, span := spanOf c.extents } ∧ n =
      { outNotice .outPlaying k (some clip) [] with port := some x.port }) :=
  ⟨⟨0, withOut { playing0 with play := .paused }, _, _, rfl, by decide +kernel, rfl⟩,
   ⟨⟨0, 0⟩, 4, none, none, State.reset, refuseOf .ro ⟨0, 0⟩ .value, Or.inl ⟨by decide, rfl⟩⟩,
   ⟨0, 1023, some 9,
     { withOut { out0 with route := .playback } with cat := { clips := [{ goodClip with id := 1023 }] } }, _, _,
     by decide +kernel, by decide +kernel, by decide +kernel, by decide +kernel, rfl, by decide +kernel, rfl,
     by decide +kernel⟩,
   ⟨0, 0, true, withOut located0, _, _, rfl, rfl⟩,
   ⟨0, 0, true, withOut located0, _, _, { cand0 with answer := some true }, rfl, rfl, by decide +kernel⟩,
   ⟨0, withOut out0, by decide +kernel⟩,
   ⟨0, none, withOut { located0 with enabled := false }, _, _, refuseStateOf .ro ⟨0, 0⟩ .disabled, rfl, rfl,
     by decide +kernel, Or.inl ⟨rfl, rfl⟩⟩,
   ⟨0, goodClip, withOut located0, _, _, _, _, _, _, rfl, rfl, by decide +kernel, by decide +kernel,
     by decide +kernel, by decide +kernel, rfl, rfl, rfl, rfl⟩⟩

/-- Values that meet the hypotheses of `Obligations.Play`, clauses 9 to 16 of those that have some. -/
theorem witness_Play_2 :
    (∃ (k : Outp) (c : Clip) (s : State) (o : Output) (l : Locate) (x : Copy) (clip : PlayClip) (src : Source) (n :
      Notice) (e : Prefetch) (t : _), o = s.out k ∧ o.locate = some l ∧ allAnswered l.cands = true ∧ o.enabled = true
      ∧ o.route = .playback ∧ l.start < c.desc.frames ∧ chooseSource c l.cands = some x ∧ clip =
      { clip := c.id, frames := c.desc.frames, start := c.desc.start, rate := c.desc.rate, letter := c.desc.letter }
      ∧ src = { port := x.port, vol := x.vol, hb := x.hb, span := spanOf c.extents } ∧ n =
      { outNotice .outPlaying k (some clip) [] with port := some x.port } ∧ e ∈ (t.out k).prefetch ∧ exec
      (.playLookupAnswer k (some c)) s = .next t) ∧
    (∃ (k : Outp) (c : Clip) (s : State) (o : Output) (l : Locate) (x : Copy) (clip : PlayClip) (src : Source) (n :
      Notice), o = s.out k ∧ o.locate = some l ∧ allAnswered l.cands = true ∧ o.enabled = true ∧ o.route = .playback
      ∧ l.start < c.desc.frames ∧ chooseSource c l.cands = some x ∧ clip =
      { clip := c.id, frames := c.desc.frames, start := c.desc.start, rate := c.desc.rate, letter := c.desc.letter }
      ∧ src = { port := x.port, vol := x.vol, hb := x.hb, span := spanOf c.extents } ∧ n =
      { outNotice .outPlaying k (some clip) [] with port := some x.port } ∧ (o.play = .playing ∨ o.play = .paused)) ∧
    (∃ (k : Outp) (c : Clip) (s : State) (o : Output) (l : Locate) (x : Copy) (clip : PlayClip) (src : Source) (n :
      Notice) (e : Prefetch) (slot : Nat) (hdr : FrameHdr), o = s.out k ∧ o.locate = some l ∧ allAnswered l.cands =
      true ∧ o.enabled = true ∧ o.route = .playback ∧ l.start < c.desc.frames ∧ chooseSource c l.cands = some x ∧
      clip =
      { clip := c.id, frames := c.desc.frames, start := c.desc.start, rate := c.desc.rate, letter := c.desc.letter }
      ∧ src = { port := x.port, vol := x.vol, hb := x.hb, span := spanOf c.extents } ∧ n =
      { outNotice .outPlaying k (some clip) [] with port := some x.port } ∧ e ∈ o.prefetch ∧ e.status = .placed slot
      hdr) ∧
    (∃ (c : Clip) (cs : List Candidate) (x : Copy), chooseSource c cs = some x) ∧
    (∃ (c : Clip) (cs : List Candidate) (x : Copy) (y : Copy), chooseSource c cs = some x ∧ y ∈ c.copies ∧ y.state =
      .verified ∧ (∃ a ∈ cs, a.answer = some true ∧ a.src.port = y.port ∧ a.src.vol = y.vol ∧ a.src.hb = y.hb)) ∧
    (∃ (k : Outp) (run : Nat) (n : Nat) (s : State), (∀ e ∈ (s.out k).prefetch, ¬(e.frame = n ∧ e.run = run ∧ e.waits
      = true))) ∧
    (∃ (k : Outp) (s : State) (o : Output) (e : Prefetch) (ans : FetchAns) (st : FetchStatus), o = s.out k ∧ e ∈
      o.prefetch ∧ e.status = .requested ∧ e.frame ∈ s.window k ∧ (o.prefetch.map (·.frame)).Nodup ∧ ((∃ slot hdr,
      ans = FetchAns.placed slot hdr ∧ st = FetchStatus.placed slot hdr) ∨ (∃ x, ans = .noPlane x ∧ st = .noPlane) ∨
      (∃ x, ans = .noSlot x ∧ st = .noSlot) ∨ ans = .failed ∧ st = .failed ∨ ans = .beyondEnd ∧ st = .beyondEnd ∨ ans
      = .unparsable ∧ st = .unparsable)) ∧
    (∃ (k : Outp) (s : State) (o : Output) (e : Prefetch) (ans : FetchAns), o = s.out k ∧ e ∈ o.prefetch ∧ e.status =
      .late ∧ (o.prefetch.map (·.frame)).Nodup ∧ ans ≠ .lost) :=
  ⟨⟨0, goodClip, withOut located0, _, _, _, _, _, _,
     { frame := 0, run := 0, src := some src0, status := .requested }, after (.playLookupAnswer 0 (some goodClip))
     (withOut located0), rfl, rfl, by decide +kernel, by decide +kernel, by decide +kernel, by decide +kernel, rfl,
     rfl, rfl, rfl, by decide +kernel, after_eq (by decide +kernel)⟩,
   ⟨0, goodClip, withOut { playing0 with locate := some locate0 }, _, _, _, _, _, _, rfl, rfl, by decide +kernel,
     by decide +kernel, by decide +kernel, by decide +kernel, rfl, rfl, rfl, rfl, by decide +kernel⟩,
   ⟨0, goodClip, withOut { playing0 with locate := some locate0, prefetch := [⟨0, 0, some src0, .placed 0 frame0⟩] },
     _, _, _, _, _, _, ⟨0, 0, some src0, .placed 0 frame0⟩, _, _, rfl, rfl, by decide +kernel, by decide +kernel,
     by decide +kernel, by decide +kernel, rfl, rfl, rfl, rfl, by decide +kernel, rfl⟩,
   ⟨goodClip, [{ cand0 with answer := some true }], _, rfl⟩,
   ⟨goodClip, [{ cand0 with answer := some true }], _, { copy0 with state := .verified }, rfl, by decide +kernel,
     by decide +kernel, by decide +kernel⟩,
   ⟨0, 0, 0, withOut playing0, by decide +kernel⟩,
   ⟨0, withOut { playing0 with prefetch := [⟨0, 0, some src0, .requested⟩] }, _, ⟨0, 0, some src0, .requested⟩,
     .failed, .failed, rfl, by decide +kernel, by decide +kernel, by decide +kernel, by decide +kernel, Or.inr
     (Or.inr (Or.inr (Or.inl ⟨rfl, rfl⟩)))⟩,
   ⟨0, withOut { playing0 with prefetch := [⟨0, 0, some src0, .late⟩] }, _, ⟨0, 0, some src0, .late⟩, .failed, rfl,
     by decide +kernel, by decide +kernel, by decide +kernel, by decide +kernel⟩⟩

/-- Values that meet the hypotheses of `Obligations.Play`, clauses 17 to 22 of those that have some. -/
theorem witness_Play_3 :
    (∃ (k : Outp) (s : State) (o : Output) (e : Prefetch) (ans : FetchAns) (x : Prefetch) (t : _), o = s.out k ∧ e ∈
      o.prefetch ∧ e.status = .late ∧ (o.prefetch.map (·.frame)).Nodup ∧ ans ≠ .lost ∧ x ∈ (t.out k).prefetch ∧
      x.frame = e.frame ∧ exec (.fetchAnswer k e.run e.frame ans) s = .next t) ∧
    (∃ (k : Outp) (s : State) (o : Output) (e : Prefetch) (ans : FetchAns) (slot : Nat) (hdr : FrameHdr), o = s.out k
      ∧ e ∈ o.prefetch ∧ e.status = .late ∧ (o.prefetch.map (·.frame)).Nodup ∧ ans ≠ .lost ∧ ans = .placed slot hdr) ∧
    (∃ (k : Outp) (s : State) (o : Output) (e : Prefetch), o = s.out k ∧ e ∈ o.prefetch ∧ e.status = .late ∧ e.src ≠
      o.src ∧ (o.prefetch.map (·.frame)).Nodup) ∧
    (∃ (k : Outp) (s : State) (o : Output) (e : Prefetch), o = s.out k ∧ e ∈ o.prefetch ∧ e.waits = true ∧
      (o.prefetch.map (·.frame)).Nodup ∧ e.src = o.src ∧ (o.play = .playing ∨ o.play = .paused)) ∧
    (∃ (c : Clip) (cs : List Candidate) (x : Copy) (y : Copy), chooseSource c cs = some x ∧ x.state ≠ .verified ∧ y ∈
      c.copies ∧ (y.state = .written ∨ y.state = .verifying) ∧ (∃ a ∈ cs, a.answer = some true ∧ a.src.port = y.port
      ∧ a.src.vol = y.vol ∧ a.src.hb = y.hb)) ∧
    (∃ (c : Clip) (y : Copy), y ∈ c.copies ∧ (y.state = .verified ∨ y.state = .written ∨ y.state = .verifying)) :=
  ⟨⟨0, withOut { playing0 with pos := 1, prefetch := [⟨1, 0, some src0, .late⟩] }, _, ⟨1, 0, some src0, .late⟩,
     .failed, ⟨1, 0, some src0, .requested⟩, after (.fetchAnswer 0 0 1 .failed) (withOut
     { playing0 with pos := 1, prefetch := [⟨1, 0, some src0, .late⟩] }), rfl, by decide +kernel, by decide +kernel,
     by decide +kernel, by decide +kernel, by decide +kernel, by decide +kernel, after_eq (by decide +kernel)⟩,
   ⟨0, withOut { playing0 with prefetch := [⟨0, 0, some src0, .late⟩] }, _, ⟨0, 0, some src0, .late⟩, .placed 0
     frame0, 0, frame0, rfl, by decide +kernel, by decide +kernel, by decide +kernel, by decide +kernel,
     by decide +kernel⟩,
   ⟨0, withOut { playing0 with prefetch := [⟨4, 0, none, .late⟩] }, _, ⟨4, 0, none, .late⟩, rfl, by decide +kernel,
     by decide +kernel, by decide +kernel, by decide +kernel⟩,
   ⟨0, withOut { playing0 with prefetch := [⟨4, 0, some src0, .late⟩] }, _, ⟨4, 0, some src0, .late⟩, rfl,
     by decide +kernel, by decide +kernel, by decide +kernel, by decide +kernel, by decide +kernel⟩,
   ⟨{ clip0 with copies := [{ copy0 with state := .written }] }, [{ cand0 with answer := some true }],
     { copy0 with state := .written }, { copy0 with state := .written }, by decide +kernel, by decide +kernel,
     by decide +kernel, by decide +kernel, ⟨{ cand0 with answer := some true }, by decide +kernel, rfl, rfl, rfl,
     rfl⟩⟩,
   ⟨{ clip0 with copies := [{ copy0 with state := .written }] }, { copy0 with state := .written }, by decide +kernel,
     by decide +kernel⟩⟩

/-- Values that meet the hypotheses of `Obligations.PlayEndsAndGroups`, clauses 1 to 10 of those that have some. -/
theorem witness_PlayEndsAndGroups_1 :
    (∃ (k : Outp) (s : State) (o : Output), o = s.out k ∧ (o.group = none ∨ o.unsynced = true) ∧ o.play = .playing) ∧
    (∃ (q : Req) (s : State) (target : PlayTarget) (w : Wire), (((∃ n, 4 ≤ n ∧ target = .output n) ∨ (∃ n, (n = 0 ∨ 3
      ≤ n) ∧ target = .group n)) ∧ w = refuseOf .ro q .value ∨ (∃ k : Outp, target = .output k.val ∧ (s.out k).group
      ≠ none ∧ (s.out k).unsynced = false ∧ w = refuseStateOf .ro q .grouped) ∨ (∃ k : Outp, target = .output k.val ∧
      ((s.out k).group = none ∨ (s.out k).unsynced = true) ∧ (s.out k).play ≠ .playing ∧ w = refuseStateOf .ro q
      .notPlaying) ∨ (∃ g : Grp, target = .group (g.val + 1) ∧ (s.clock g).running = false ∧ w = refuseStateOf .ro q
      .notRunning))) ∧
    (∃ (g : Grp) (s : State) (c : Clock), c = s.clock g ∧ c.running = true) ∧
    (∃ (g : Grp) (s : State) (c : Clock) (h : Grp), c = s.clock g ∧ c.running = true ∧ h ≠ g) ∧
    (∃ (k : Outp) (s : State) (o : Output), o = s.out k ∧ o.play ≠ .stopped) ∧
    (∃ (q : Req) (s : State) (target : PlayTarget) (w : Wire), (((∃ n, 4 ≤ n ∧ target = .output n) ∨ (∃ n, (n = 0 ∨ 3
      ≤ n) ∧ target = .group n)) ∧ w = refuseOf .ro q .value ∨ (∃ k : Outp, target = .output k.val ∧ (s.out k).play =
      .stopped ∧ w = refuseStateOf .ro q .already))) ∧
    (∃ (g : Grp) (s : State) (c : Clock), c = s.clock g) ∧
    (∃ (g : Grp) (s : State) (c : Clock) (h : Grp), c = s.clock g ∧ h ≠ g) ∧
    (∃ (g : Grp) (s : State) (c : Clock) (k : Outp), c = s.clock g ∧ (s.out k).group = some g) ∧
    (∃ (g : Grp) (s : State) (c : Clock) (k : Outp), c = s.clock g ∧ (s.out k).group ≠ some g) :=
  ⟨⟨0, withOut playing0, _, rfl, by decide +kernel, by decide +kernel⟩,
   ⟨⟨0, 0⟩, State.reset, .output 4, refuseOf .ro ⟨0, 0⟩ .value, Or.inl ⟨Or.inl ⟨4, by decide, rfl⟩, rfl⟩⟩,
   ⟨0, withOuts grouped0 {} clock0, _, rfl, by decide +kernel⟩,
   ⟨0, withOuts grouped0 {} clock0, _, 1, rfl, by decide +kernel, by decide +kernel⟩,
   ⟨0, withOut playing0, _, rfl, by decide +kernel⟩,
   ⟨⟨0, 0⟩, State.reset, .group 3, refuseOf .ro ⟨0, 0⟩ .value, Or.inl ⟨Or.inr ⟨3, by decide, rfl⟩, rfl⟩⟩,
   ⟨0, withOuts grouped0 {} clock0, _, rfl⟩,
   ⟨0, withOuts grouped0 {} clock0, _, 1, rfl, by decide +kernel⟩,
   ⟨_, withOuts grouped0 {} clock0, _, 0, rfl, rfl⟩,
   ⟨0, withOuts grouped0 {} clock0, _, 1, rfl, by decide +kernel⟩⟩

/-- Values that meet the hypotheses of `Obligations.PlayEndsAndGroups`, clauses 11 to 20 of those that have some. -/
theorem witness_PlayEndsAndGroups_2 :
    (∃ (g : Grp) (s : State) (c : Clock) (r : Nat) (tc : Timecode) (cue : Bool) (c' : Clock), c = s.clock g ∧
      s.members g ≠ [] ∧ c.rate = some r ∧ tcValid r tc = true ∧ c' =
      { c with tc := tc, first := true, running := !cue }) ∧
    (∃ (g : Grp) (s : State) (c : Clock) (r : Nat) (tc : Timecode) (cue : Bool) (c' : Clock) (h : Grp), c = s.clock g
      ∧ s.members g ≠ [] ∧ c.rate = some r ∧ tcValid r tc = true ∧ c' =
      { c with tc := tc, first := true, running := !cue } ∧ h ≠ g) ∧
    (∃ (g : Grp) (s : State) (c : Clock), c = s.clock g ∧ s.members g ≠ []) ∧
    (∃ (g : Grp) (s : State) (c : Clock) (h : Grp), c = s.clock g ∧ s.members g ≠ [] ∧ h ≠ g) ∧
    (∃ (q : Req) (n : Nat) (start : Option Timecode) (cue : Bool) (s : State) (w : Wire), ((n = 0 ∨ 3 ≤ n) ∧ w =
      refuseOf .ro q .value ∨ ∃ g : Grp, n = g.val + 1 ∧ (cue = true ∧ start = none ∧ w = refuseOf .ro q .value ∨
      (cue = false ∨ start ≠ none) ∧ s.members g = [] ∧ w = refuseStateOf .ro q .noMembers ∨ ∃ tc r, start = some tc
      ∧ s.members g ≠ [] ∧ (s.clock g).rate = some r ∧ tcValid r tc = false ∧ w = refuseOf .ro q .value))) ∧
    (∃ (p : Port) (vol : Serial) (clips : List Nat) (r : Instr) (why : PlayEnd) (hit : Output → Bool), (r =
      Instr.outputLostVolume p vol ∧ why = PlayEnd.sourceLost ∧ hit = (fun o => o.src.any fun x => x.vol = vol) ∨ r =
      .outputPurgeList clips ∧ why = .purged ∧ hit = (fun o => o.clip.any fun c => clips.contains c.clip))) ∧
    (∃ (s : State) (p : Port) (vol : Serial) (clips : List Nat) (r : Instr) (why : PlayEnd) (hit : Output → Bool) (k
      : Outp) (o : Output), (r = Instr.outputLostVolume p vol ∧ why = PlayEnd.sourceLost ∧ hit = (fun o => o.src.any
      fun x => x.vol = vol) ∨ r = .outputPurgeList clips ∧ why = .purged ∧ hit = (fun o => o.clip.any fun c =>
      clips.contains c.clip)) ∧ o = s.out k) ∧
    (∃ (s : State) (p : Port) (vol : Serial) (clips : List Nat) (r : Instr) (why : PlayEnd) (hit : Output → Bool) (k
      : Outp) (o : Output), (r = Instr.outputLostVolume p vol ∧ why = PlayEnd.sourceLost ∧ hit = (fun o => o.src.any
      fun x => x.vol = vol) ∨ r = .outputPurgeList clips ∧ why = .purged ∧ hit = (fun o => o.clip.any fun c =>
      clips.contains c.clip)) ∧ o = s.out k ∧ (hit o = false ∨ o.play = .stopped ∨ o.play = .ended ∧ o.why = some
      why)) ∧
    (∃ (s : State) (p : Port) (vol : Serial) (clips : List Nat) (r : Instr) (why : PlayEnd) (hit : Output → Bool) (k
      : Outp) (o : Output), (r = Instr.outputLostVolume p vol ∧ why = PlayEnd.sourceLost ∧ hit = (fun o => o.src.any
      fun x => x.vol = vol) ∨ r = .outputPurgeList clips ∧ why = .purged ∧ hit = (fun o => o.clip.any fun c =>
      clips.contains c.clip)) ∧ o = s.out k ∧ hit o = true ∧ (o.play = .playing ∨ o.play = .paused)) ∧
    (∃ (s : State) (p : Port) (vol : Serial) (clips : List Nat) (r : Instr) (why : PlayEnd) (hit : Output → Bool) (k
      : Outp) (o : Output), (r = Instr.outputLostVolume p vol ∧ why = PlayEnd.sourceLost ∧ hit = (fun o => o.src.any
      fun x => x.vol = vol) ∨ r = .outputPurgeList clips ∧ why = .purged ∧ hit = (fun o => o.clip.any fun c =>
      clips.contains c.clip)) ∧ o = s.out k ∧ hit o = true ∧ o.play = .ended ∧ o.why ≠ some why) :=
  ⟨⟨0, withOuts grouped0 {} clock0, _, _, ⟨23, 59, 59, 23⟩, true, _, rfl, by decide +kernel, rfl, by decide +kernel,
     rfl⟩,
   ⟨0, withOuts grouped0 {} clock0, _, _, ⟨23, 59, 59, 23⟩, true, _, 1, rfl, by decide +kernel, rfl,
     by decide +kernel, rfl, by decide +kernel⟩,
   ⟨0, withOuts grouped0 {} clock0, _, rfl, by decide +kernel⟩,
   ⟨0, withOuts grouped0 {} clock0, _, 1, rfl, by decide +kernel, by decide +kernel⟩,
   ⟨⟨0, 0⟩, 0, none, false, State.reset, refuseOf .ro ⟨0, 0⟩ .value, Or.inl ⟨Or.inl rfl, rfl⟩⟩,
   ⟨0, 9, [], .outputLostVolume 0 9, .sourceLost, fun o => o.src.any fun x => x.vol = 9, Or.inl ⟨rfl, rfl, rfl⟩⟩,
   ⟨withOut playing0, 0, 9, [], .outputLostVolume 0 9, .sourceLost, fun o => o.src.any fun x => x.vol = 9, 0, _,
     Or.inl ⟨rfl, rfl, rfl⟩, rfl⟩,
   ⟨withOut playing0, 0, 9, [], .outputLostVolume 0 9, .sourceLost, fun o => o.src.any fun x => x.vol = 9, 1, _,
     Or.inl ⟨rfl, rfl, rfl⟩, rfl, by decide +kernel⟩,
   ⟨withOut playing0, 0, 9, [], .outputLostVolume 0 9, .sourceLost, fun o => o.src.any fun x => x.vol = 9, 0, _,
     Or.inl ⟨rfl, rfl, rfl⟩, rfl, by decide +kernel, by decide +kernel⟩,
   ⟨withOut { playing0 with play := .ended, why := some .purged }, 0, 9, [], .outputLostVolume 0 9, .sourceLost, fun
     o => o.src.any fun x => x.vol = 9, 0, _, Or.inl ⟨rfl, rfl, rfl⟩, rfl, by decide +kernel, by decide +kernel,
     by decide +kernel⟩⟩

/-- Values that meet the hypotheses of `Obligations.ResetsAndLinks`, clauses 1 to 6 of those that have some. -/
theorem witness_ResetsAndLinks_1 :
    (∃ (st : Stn) (s : State) (x : Station), x = s.station st ∧ x.link = .down) ∧
    (∃ (st : Stn) (s : State) (x : Station), x = s.station st ∧ x.link = .down ∧ x.strapFault = false) ∧
    (∃ (st : Stn) (s : State) (x : Station), x = s.station st ∧ x.link = .down ∧ x.strapFault = true) ∧
    (∃ (st : Stn) (s : State) (x : Station), x = s.station st ∧ x.link = .up) ∧
    (∃ (st : Stn) (s : State), (s.station st).link = .up) ∧
    (∃ (st : Stn) (s : State), (s.station st).link = .down) :=
  ⟨⟨0, State.reset, _, rfl, by decide +kernel⟩,
   ⟨0, State.reset, _, rfl, by decide +kernel, by decide +kernel⟩,
   ⟨0, withStation { strapFault := true }, _, rfl, by decide +kernel, by decide +kernel⟩,
   ⟨0, withStation up0, _, rfl, by decide +kernel⟩,
   ⟨0, withStation up0, by decide +kernel⟩,
   ⟨0, State.reset, by decide +kernel⟩⟩

/-- Values that meet the hypotheses of `Obligations.ResetsAndLinks`, clauses 7 to 12 of those that have some. -/
theorem witness_ResetsAndLinks_2 :
    (∃ (st : Stn) (s : State) (x : Station) (e : Response) (rest : List Response) (a : Answer), x = s.station st ∧
      x.link = .up ∧ x.responses = e :: rest ∧ e.answer = some a ∧ e.reset = true ∧ (∀ y, (s.station y).backlog =
      [])) ∧
    (∃ (st : Stn) (p : Pins) (s : State) (x : Station) (e : Response) (rest : List Response) (a : Answer) (y : Stn)
      (old : Station) (new : Station) (t : _), x = s.station st ∧ x.link = .up ∧ x.responses = e :: rest ∧ e.answer =
      some a ∧ e.reset = true ∧ (∀ y, (s.station y).backlog = []) ∧ old = s.station y ∧ new = t.station y ∧ exec
      (.responseSent st p) s = .next t) ∧
    (∃ (st : Stn) (p : Pins) (s : State) (x : Station) (e : Response) (rest : List Response) (a : Answer) (y : Stn)
      (old : Station) (new : Station) (t : _), x = s.station st ∧ x.link = .up ∧ x.responses = e :: rest ∧ e.answer =
      some a ∧ e.reset = true ∧ (∀ y, (s.station y).backlog = []) ∧ old = s.station y ∧ new = t.station y ∧ old.link
      = .down ∧ exec (.responseSent st p) s = .next t) ∧
    (∃ (st : Stn) (p : Pins) (s : State) (x : Station) (e : Response) (rest : List Response) (a : Answer) (y : Stn)
      (old : Station) (new : Station) (t : _), x = s.station st ∧ x.link = .up ∧ x.responses = e :: rest ∧ e.answer =
      some a ∧ e.reset = true ∧ (∀ y, (s.station y).backlog = []) ∧ old = s.station y ∧ new = t.station y ∧ old.link
      = .up ∧ exec (.responseSent st p) s = .next t) ∧
    (∃ (st : Stn) (p : Pins) (s : State) (x : Station) (e : Response) (rest : List Response) (a : Answer) (y : Stn)
      (old : Station) (new : Station) (t : _), x = s.station st ∧ x.link = .up ∧ x.responses = e :: rest ∧ e.answer =
      some a ∧ e.reset = true ∧ (∀ y, (s.station y).backlog = []) ∧ old = s.station y ∧ new = t.station y ∧ old.link
      = .up ∧ (Pins.supers p).length ≤ 1 ∧ exec (.responseSent st p) s = .next t) ∧
    (∃ (st : Stn) (p : Pins) (s : State) (x : Station) (e : Response) (rest : List Response) (a : Answer) (y : Stn)
      (old : Station) (new : Station) (t : _), x = s.station st ∧ x.link = .up ∧ x.responses = e :: rest ∧ e.answer =
      some a ∧ e.reset = true ∧ (∀ y, (s.station y).backlog = []) ∧ old = s.station y ∧ new = t.station y ∧ old.link
      = .up ∧ 1 < (Pins.supers p).length ∧ exec (.responseSent st p) s = .next t) :=
  ⟨⟨0, resetting, _, _, _, _, rfl, by decide +kernel, rfl, rfl, by decide +kernel, by decide +kernel⟩,
   ⟨0, pinsAtReset, resetting, _, _, _, _, 1, _, _, after (.responseSent 0 pinsAtReset) resetting, rfl,
     by decide +kernel, rfl, rfl, by decide +kernel, by decide +kernel, rfl, rfl, after_eq (by decide +kernel)⟩,
   ⟨0, pinsAtReset, resetting, _, _, _, _, 1, _, _, after (.responseSent 0 pinsAtReset) resetting, rfl,
     by decide +kernel, rfl, rfl, by decide +kernel, by decide +kernel, rfl, rfl, by decide +kernel, after_eq
     (by decide +kernel)⟩,
   ⟨0, pinsAtReset, resetting, _, _, _, _, 0, _, _, after (.responseSent 0 pinsAtReset) resetting, rfl,
     by decide +kernel, rfl, rfl, by decide +kernel, by decide +kernel, rfl, rfl, by decide +kernel, after_eq
     (by decide +kernel)⟩,
   ⟨0, pinsAtReset, resetting, _, _, _, _, 0, _, _, after (.responseSent 0 pinsAtReset) resetting, rfl,
     by decide +kernel, rfl, rfl, by decide +kernel, by decide +kernel, rfl, rfl, by decide +kernel,
     by decide +kernel, after_eq (by decide +kernel)⟩,
   ⟨0, { pinsAtReset with superStrap := #v[true, true, false, false] }, resetting, _, _, _, _, 0, _, _, after
     (.responseSent 0 { pinsAtReset with superStrap := #v[true, true, false, false] }) resetting, rfl,
     by decide +kernel, rfl, rfl, by decide +kernel, by decide +kernel, rfl, rfl, by decide +kernel,
     by decide +kernel, after_eq (by decide +kernel)⟩⟩

/-- Values that meet the hypotheses of `Obligations.RequestsAndResponses`, clauses 1 to 6 of those that have some. -/
theorem witness_RequestsAndResponses_1 :
    (∃ (st : Stn) (m : Message) (s : State) (x : Station) (code : Nat) (ops : List Byte) (e : Response) (w : List
      Wire), x = s.station st ∧ x.link = .up ∧ x.responses.length < 48 ∧ x.backlog = [] ∧ code = m.code.toNat ∧ ops =
      m.bytes.take m.oplen.toNat ∧ (e =
      { tag := m.tag, rid := s.sp.rid, admitted := false, answer := some (.refused .overrun none []) } ∧ 16 ≤
      x.unanswered ∧ w = [] ∨ e =
      { tag := m.tag, rid := s.sp.rid, admitted := false, answer := some (.refused .value none []) } ∧ x.unanswered <
      16 ∧ (code < 1 ∨ 56 < code ∨ m.bytes.length < m.oplen.toNat) ∧ w = [] ∨ e =
      { tag := m.tag, rid := s.sp.rid, admitted := false, answer := some (.refused .rights none []) } ∧ x.unanswered
      < 16 ∧ 1 ≤ code ∧ code ≤ 56 ∧ m.oplen.toNat ≤ m.bytes.length ∧ allowed code x.role x.sup (decide (∃ y,
      (s.station y).sup = true)) = false ∧ w = [] ∨ e =
      { tag := m.tag, rid := s.sp.rid, admitted := true, answer := none } ∧ x.unanswered < 16 ∧ 1 ≤ code ∧ code ≤ 56
      ∧ m.oplen.toNat ≤ m.bytes.length ∧ allowed code x.role x.sup (decide (∃ y, (s.station y).sup = true)) = true ∧
      ((∃ i, readRequest code { st := st, rid := s.sp.rid } x.sup ops = some i ∧ w = [⟨.station st, owner code ops,
      i⟩]) ∨ readRequest code { st := st, rid := s.sp.rid } x.sup ops = none ∧ w = [refuseOf (owner code ops)
      { st := st, rid := s.sp.rid } .value]))) ∧
    (∃ (st : Stn) (s : State) (x : Station), x = s.station st ∧ x.link = .up ∧ (48 ≤ x.responses.length ∨ x.backlog ≠
      [])) ∧
    (∃ (st : Stn) (s : State), (s.station st).link = .down) ∧
    (∃ (q : Req) (n : Nat) (items : FilterItems) (s : State) (x : Station) (a : Answer × Bool) (r : Instr), x =
      s.station q.st ∧ ((∃ v, r = Instr.blockAnswer q v ∧ a = (v, false)) ∨ r = .resetPart q ∧ a = (.accepted false
      [], true) ∨ (4 ≤ n ∨ filterOf items = none) ∧ r = .setFilter q n items ∧ a = (.refused .value none [], false))) ∧
    (∃ (q : Req) (n : Nat) (i : Fin 4) (items : FilterItems) (f : Machine.Filter) (s : State) (x : Station), x =
      s.station q.st ∧ n = i.val ∧ filterOf items = some f) ∧
    (∃ (st : Stn) (s : State) (x : Station) (e : Response) (rest : List Response) (a : Answer) (y : Station), x =
      s.station st ∧ x.link = .up ∧ x.responses = e :: rest ∧ e.answer = some a ∧ e.reset = false ∧ (y =
      { x with responses := rest, unanswered := if e.admitted then x.unanswered - 1 else x.unanswered, sent := .response (responseMessage e.tag a) })) :=
  ⟨⟨0, { message0 with oplen := 2 }, withStation up0, _, _, _,
     { tag := 0, rid := 0, admitted := false, answer := some (.refused .value none []) }, [], rfl, by decide +kernel,
     by decide +kernel, by decide +kernel, rfl, rfl, Or.inr (Or.inl ⟨by decide +kernel, by decide +kernel,
     by decide +kernel, rfl⟩)⟩,
   ⟨0, withStation { up0 with responses := List.replicate 48 response0 }, _, rfl, by decide +kernel,
     by decide +kernel⟩,
   ⟨0, State.reset, by decide +kernel⟩,
   ⟨⟨0, 0⟩, 0, filter0, State.reset, _, (.accepted false [], true), .resetPart ⟨0, 0⟩, rfl, Or.inr (Or.inl ⟨rfl,
     rfl⟩)⟩,
   ⟨⟨0, 0⟩, _, 3, filter0, _, State.reset, _, rfl, rfl, rfl⟩,
   ⟨0, withStation { up0 with responses := [{ response0 with reset := false }], unanswered := 1 }, _, _, _, _, _,
     rfl, by decide +kernel, rfl, rfl, by decide +kernel, rfl⟩⟩

/-- Values that meet the hypotheses of `Obligations.RequestsAndResponses`, clauses 7 to 12 of those that have some. -/
theorem witness_RequestsAndResponses_2 :
    (∃ (st : Stn) (s : State) (x : Station) (e : Response) (rest : List Response) (a : Answer) (y : Station), x =
      s.station st ∧ x.link = .up ∧ x.responses = e :: rest ∧ e.answer = some a ∧ e.reset = false ∧ (y =
      { x with responses := rest, unanswered := if e.admitted then x.unanswered - 1 else x.unanswered, sent := .response (responseMessage e.tag a) })
      ∧ x.backlog = []) ∧
    (∃ (st : Stn) (s : State) (x : Station), x = s.station st ∧ (x.link = .down ∨ x.responses = [] ∨ (∃ e rest,
      x.responses = e :: rest ∧ e.answer = none))) ∧
    (∃ (code : Nat), 1 ≤ code ∧ code ≤ 56) ∧
    (∃ (s : State) (st : Stn) (m : Message) (ms : List Message), (s.station st).backlog = m :: ms) ∧
    (∃ (s : State) (st : Stn) (m : Message) (ms : List Message), (s.station st).backlog = m :: ms ∧ 48 ≤ (s.station
      st).responses.length) ∧
    (∃ (s : State) (st : Stn) (m : Message) (ms : List Message), (s.station st).backlog = m :: ms ∧ (s.station
      st).responses.length < 48) :=
  ⟨⟨0, withStation { up0 with responses := [{ response0 with reset := false }], unanswered := 1 }, _, _, _, _, _,
     rfl, by decide +kernel, rfl, rfl, by decide +kernel, rfl, by decide +kernel⟩,
   ⟨0, State.reset, _, rfl, Or.inl (by decide +kernel)⟩,
   ⟨56, by decide +kernel, by decide +kernel⟩,
   ⟨withStation { up0 with backlog := [message0] }, 0, _, _, rfl⟩,
   ⟨withStation { up0 with responses := List.replicate 48 response0, backlog := [message0] }, 0, _, _, rfl,
     by decide +kernel⟩,
   ⟨withStation { up0 with responses := List.replicate 47 response0, backlog := [message0] }, 0, _, _, rfl,
     by decide +kernel⟩⟩

/-- Values that meet the hypotheses of `Obligations.NoticesAreDelivered`. -/
theorem witness_NoticesAreDelivered :
    (∃ (s : State) (st : Stn) (x : Station), x = s.station st) ∧
    (∃ (n : Notice) (s : State) (st : Stn) (x : Station), x = s.station st ∧ (x.link = .down ∨ (∃ sts, n.only = some
      sts ∧ st ∉ sts) ∨ n.only = none ∧ x.role ≠ .observer ∧ (∀ f ∈ x.filters.toList, f.passes n = false))) ∧
    (∃ (n : Notice) (s : State) (st : Stn) (x : Station), x = s.station st ∧ x.link = .up ∧ ((∃ sts, n.only = some
      sts ∧ st ∈ sts) ∨ n.only = none ∧ (x.role = .observer ∨ ∃ f ∈ x.filters.toList, f.passes n = true))) ∧
    (∃ (n : Notice), subKind n.sub = .finding) ∧
    (∃ (st : Stn) (s : State) (x : Station) (d : Delivered) (rest : List Delivered), x = s.station st ∧ x.link = .up
      ∧ x.fifo = d :: rest) ∧
    (∃ (st : Stn) (s : State), ((s.station st).link = .down ∨ (s.station st).fifo = [])) :=
  ⟨⟨State.reset, 0, _, rfl⟩,
   ⟨notice0, State.reset, 0, _, rfl, Or.inl (by decide +kernel)⟩,
   ⟨notice0, withStation { up0 with role := .observer }, 0, _, rfl, by decide +kernel, Or.inr ⟨rfl, Or.inl
     (by decide +kernel)⟩⟩,
   ⟨{ sub := .findingFiled }, by decide +kernel⟩,
   ⟨0, withStation { up0 with fifo := [⟨1, false, notice0⟩] }, _, _, _, rfl, by decide +kernel, rfl⟩,
   ⟨0, State.reset, by decide +kernel⟩⟩

/-- Values that meet the hypotheses of `Obligations.QueriesAndReads`, clauses 1 to 8 of those that have some. -/
theorem witness_QueriesAndReads_1 :
    (∃ (q : Req) (n : Nat) (serial : Serial) (r : Instr) (src : Node), (6 ≤ n ∧ r = Instr.queryBay q n ∧ src =
      Node.ci ∨ 1024 ≤ n ∧ r = .queryClip q n ∧ src = .cat ∨ (n < 1 ∨ 999 < n) ∧ r = .findClip q serial n ∧ src =
      .cat ∨ 3 ≤ n ∧ r = .queryChannel q n ∧ src = .cc 0 ∨ 4 ≤ n ∧ r = .queryPort q n ∧ src = .dp 0 ∨ 4 ≤ n ∧ (∃
      first, r = .queryIndex q n first) ∧ src = .dp 0 ∨ 256 ≤ n ∧ r = .querySites q n ∧ src = .ins ∨ 32 ≤ n ∧ r =
      .queryLook q n ∧ src = .lb ∨ 4 ≤ n ∧ r = .queryOutput q n ∧ src = .ro ∨ (∃ clip states cls first, r =
      .listFindings q clip states cls first ∧ (clip = some n ∧ 1024 ≤ n ∨ n ∈ states ∧ (n < 1 ∨ 3 < n) ∨ cls = n ∧ (n
      < 1 ∨ 3 < n))) ∧ src = .fl)) ∧
    (∃ (q : Req) (n : Nat) (serial : Serial) (p : Port) (first : Nat) (s : State) (r : Instr) (src : Node), (n < 1024
      ∧ s.clip? n = none ∧ r = Instr.queryClip q n ∧ src = Node.cat ∨ s.clipsOf serial = [] ∧ r = .listCard q serial
      ∧ src = .cat ∨ 1 ≤ n ∧ n ≤ 999 ∧ s.clipOf serial n = none ∧ r = .findClip q serial n ∧ src = .cat ∨ s.ods.seen
      n = none ∧ r = .queryOrder q n ∧ src = .ods ∨ (s.port p).vol = none ∧ r = .queryIndex q p.val first ∧ src = .dp
      p ∨ s.fl.find? n = none ∧ r = .queryFinding q n ∧ src = .fl)) ∧
    (∃ (n : Nat) (s : State) (c : Clip), n < 1024 ∧ s.clip? n = some c) ∧
    (∃ (serial : Serial) (s : State), s.clipsOf serial ≠ []) ∧
    (∃ (n : Nat) (s : State) (o : Order), s.ods.seen n = some o) ∧
    (∃ (p : Port) (s : State), (s.port p).vol ≠ none) ∧
    (∃ (n : Nat), n < 256) ∧
    (∃ (n : Nat) (s : State) (f : Finding), s.fl.find? n = some f) :=
  ⟨⟨⟨0, 0⟩, 6, 7, .queryBay ⟨0, 0⟩ 6, .ci, Or.inl ⟨by decide, rfl, rfl⟩⟩,
   ⟨⟨0, 0⟩, 1023, 7, 0, 0, State.reset, .queryClip ⟨0, 0⟩ 1023, .cat, Or.inl ⟨by decide, by decide +kernel, rfl,
     rfl⟩⟩,
   ⟨0, withClips [clip0], _, by decide +kernel, rfl⟩,
   ⟨7, withClips [clip0], by decide +kernel⟩,
   ⟨5, withOrders .run [order0], _, rfl⟩,
   ⟨0, withPort port0, by decide +kernel⟩,
   ⟨3, by decide +kernel⟩,
   ⟨5, withFindings [finding0], _, rfl⟩⟩

/-- Values that meet the hypotheses of `Obligations.QueriesAndReads`, clauses 9 to 16 of those that have some. -/
theorem witness_QueriesAndReads_2 :
    (∃ (clip : Option Nat) (states : List Nat) (cls : Nat), (∀ c, clip = some c → c < 1024) ∧ (∀ n ∈ states, 1 ≤ n ∧
      n ≤ 3) ∧ 1 ≤ cls ∧ cls ≤ 3) ∧
    (∃ (n : Nat) (serial : Serial) (s : State) (c : Clip), 1 ≤ n ∧ n ≤ 999 ∧ s.clipOf serial n = some c) ∧
    (∃ (q : Req) (s : State) (x : Station), x = s.station q.st) ∧
    (∃ (q : Req) (n : Nat) (s : State) (x : Station), x = s.station q.st ∧ 4 ≤ n) ∧
    (∃ (q : Req) (n : Nat) (s : State) (x : Station) (st : Stn), x = s.station q.st ∧ n = st.val) ∧
    (∃ (s : State) (p : Port), (s.port p).state ≠ .ready ∧ (s.port p).state ≠ .soaking ∧ (s.port p).state ≠
      .detaching) ∧
    (∃ (s : State) (p : Port) (c : PortCtx) (vol : Serial), c = s.port p ∧ c.vol = some vol ∧ (c.state = .ready ∨
      c.state = .soaking ∨ c.state = .detaching)) ∧
    (∃ (s : State) (r : Instr) (src : Node) (dst : Node) (a : Instr), ((∃ b ins serial, r = Instr.requiredCopiesQuery
      b ins serial ∧ src = Node.cat ∧ dst = Node.ci ∧ a = Instr.requiredCopiesAnswer b ins ((s.clipsOf serial).map
      (·.required)).max?) ∨ (∃ ch clip order, r = .storedSumsRequest ch clip order ∧ src = .cat ∧ dst = .cc ch ∧ a =
      .storedSumsAnswer ch order (((s.clip? clip).bind (·.sums)).getD [])) ∨ (∃ q serial, r = .candidatesRequest q
      serial ∧ src = .cat ∧ dst = .ods ∧ a = .candidatesAnswer q (((s.clipsOf serial).filter fun c => c.state ≠
      .verified ∧ c.state ≠ .unsupported ∧ c.order = none).map (·.id))) ∨ (∃ q b ins serial, r = .releaseTest q b ins
      serial ∧ src = .cat ∧ dst = .ci ∧ a = .releaseTestAnswer q b ins (releaseFailure (s.clipsOf serial))) ∨ (∃ who
      clip, r = .clipLookup who clip ∧ src = .cat ∧ (dst, a) = lookupAnswer who clip (s.clip? clip)) ∨ (∃ letter job,
      r = .defaultRequest letter job ∧ src = .lb ∧ dst = .cat ∧ a = .cameraDefaultAnswer job s.lb.defaults[letter]) ∨
      (∃ outs, r = .latchRead outs ∧ src = .lb ∧ dst = .ro ∧ a = .latchAnswer (outs.map fun x => (x.1, x.2.1, x.2.2,
      (s.look x.2.2).version, (s.look x.2.2).active))) ∨ (∃ q clip serial made slot, r = .versionRequest q clip
      serial made slot ∧ src = .lb ∧ dst = .cat ∧ a = .stampVersionAnswer q clip serial made slot (s.look
      slot).version) ∨ (∃ q serial clips, r = .purgeReaderQuery q serial clips ∧ src = .ins ∧ dst = .cat ∧ a =
      .purgeReaderAnswer q serial (decide (s.ins.reader.state ≠ .idle ∧ ∃ c ∈ clips, s.ins.reader.clip = some c))) ∨
      (∃ q serial, r = .purgeBayQuery q serial ∧ src = .ci ∧ dst = .cat ∧ a = .purgeBayAnswer q serial (decide (∃ b,
      (s.bay b).serial = some serial))) ∨ ∃ who p vol yes, r = .attachmentQuestion who p vol ∧ src = .dp p ∧ yes =
      ((s.port p).state.attached && (s.port p).vol = some vol) ∧ ((∃ ix, who = .reader ix ∧ dst = .ins ∧ a =
      .reinspectAttachmentAnswer ix yes) ∨ ∃ k ix, who = .output k ix ∧ dst = .ro ∧ a = .playAttachmentAnswer k ix
      yes))) :=
  ⟨⟨some 0, [], 1, allSome (by decide +kernel), by decide +kernel, by decide +kernel, by decide +kernel⟩,
   ⟨1, 7, withClips [clip0], _, by decide +kernel, by decide +kernel, rfl⟩,
   ⟨⟨0, 0⟩, State.reset, _, rfl⟩,
   ⟨⟨0, 0⟩, 4, State.reset, _, rfl, by decide +kernel⟩,
   ⟨⟨0, 0⟩, _, State.reset, _, 0, rfl, rfl⟩,
   ⟨State.reset, 0, by decide +kernel, by decide +kernel, by decide +kernel⟩,
   ⟨withPort port0, 0, _, _, rfl, rfl, by decide +kernel⟩,
   ⟨State.reset, .requiredCopiesQuery 0 0 7, .cat, .ci, _, Or.inl ⟨0, 0, 7, rfl, rfl, rfl, rfl⟩⟩⟩

/-- Values that meet the hypotheses of `Obligations.AStepRunsTheFrontCommand`. -/
theorem witness_AStepRunsTheFrontCommand :
    (∃ (s : State) (c : Instr) (rest : List Instr), s.pending = c :: rest) :=
  ⟨queued (.queryStore ⟨0, 0⟩), _, _, rfl⟩

/-- Values that meet the hypotheses of `Obligations.MessagesArriveInOrder`. -/
theorem witness_MessagesArriveInOrder :
    (∃ (s : State), s.pending = [] ∧ s.wire = []) ∧
    (∃ (s : State), s.pending = [] ∧ s.wire ≠ []) :=
  ⟨⟨{ State.reset with wire := [] }, by decide +kernel, by decide +kernel⟩,
   ⟨State.reset, by decide +kernel, by decide +kernel⟩⟩

/-- Values that meet the hypotheses of `Obligations.CommandsCompleteInOneBlock`. -/
theorem witness_CommandsCompleteInOneBlock :
    (∃ (c : Instr), resets c = false) :=
  ⟨.queryStore ⟨0, 0⟩, by decide +kernel⟩

/-- Values that meet the hypotheses of `Obligations.CardTableIsKept`. -/
theorem witness_CardTableIsKept :
    (∃ (s : State) (t : State), cardTableOk s ∧ step s = .next t ∧ t.ci ≠ s.ci) :=
  ⟨{ State.reset with pending := [.cardInserted 0 true] }, after (.cardInserted 0 true) State.reset, cardTable_queued
    _, step_front _ _ rfl (by decide +kernel), by decide +kernel⟩

/-- Values that meet the hypotheses of `Obligations.CatalogAndOrderQueueAreKept`. -/
theorem witness_CatalogAndOrderQueueAreKept :
    (∃ (s : State) (t : State), catalogOk s ∧ step s = .next t ∧ t.cat ≠ s.cat) ∧
    (∃ (s : State) (t : State), queueOk s ∧ s.ods.leaving.length < 65472 ∧ step s = .next t ∧ t.ods ≠ s.ods) :=
  ⟨⟨{ State.reset with pending := [.listingRequest 0 0 7 1 2 desc0] }, after (.listingRequest 0 0 7 1 2 desc0)
     State.reset, by unfold catalogOk; decide +kernel, step_front _ _ rfl (by decide +kernel), by decide +kernel⟩,
   ⟨{ State.reset with pending := [.postOrder ⟨0, 0⟩ 0 [0] 1] }, after (.postOrder ⟨0, 0⟩ 0 [0] 1) State.reset,
     queue_queued _, by decide +kernel, step_front _ _ rfl (by decide +kernel), by decide +kernel⟩⟩

/-- Values that meet the hypotheses of `Obligations.LookBankIsKept`. -/
theorem witness_LookBankIsKept :
    (∃ (s : State) (t : State), lookBankOk s ∧ step s = .next t ∧ t.lb ≠ s.lb) :=
  ⟨{ State.reset with pending := [.holdLook ⟨2, 9⟩ 0] }, after (.holdLook ⟨2, 9⟩ 0) State.reset, lookBank_queued _,
    step_front _ _ rfl (by decide +kernel), by decide +kernel⟩

/-- Values that meet the hypotheses of `Obligations.StationsAreKept`. -/
theorem witness_StationsAreKept :
    (∃ (s : State) (t : State), stationsOk s ∧ step s = .next t ∧ t.sp ≠ s.sp) :=
  ⟨{ State.reset with pending := [.linkUp 0] }, after (.linkUp 0) State.reset, stations_queued _, step_front _ _ rfl
    (by decide +kernel), by decide +kernel⟩

/-- Values that meet the hypotheses of `Obligations.ChannelsStagingPoolAndFaultListAreKept`. -/
theorem witness_ChannelsStagingPoolAndFaultListAreKept :
    (∃ (s : State) (t : State), channelsOk s ∧ step s = .next t ∧ t.cc ≠ s.cc) ∧
    (∃ (s : State) (t : State), stagingOk s ∧ step s = .next t ∧ t.sts ≠ s.sts) ∧
    (∃ (s : State) (t : State), poolOk s ∧ step s = .next t ∧ t.pp ≠ s.pp) ∧
    (∃ (s : State) (t : State), faultListOk s ∧ step s = .next t ∧ t.fl ≠ s.fl) :=
  ⟨⟨{ State.reset with pending := [.startMessage 0 5 0 7 [⟨0, .write, some 9⟩]] }, after (.startMessage 0 5 0 7 [⟨0,
     .write, some 9⟩]) State.reset, channels_queued _, step_front _ _ rfl (by decide +kernel), by decide +kernel⟩,
   ⟨{ State.reset with pending := [.bufferRequest 0 1 0 0 .read 100] }, after (.bufferRequest 0 1 0 0 .read 100)
     State.reset, by unfold stagingOk; decide +kernel, step_front _ _ rfl (by decide +kernel), by decide +kernel⟩,
   ⟨{ withSlots [{ slot0 with holders := [.output 0] }] State.reset with pending := [.slotDrop 0 0] }, after
     (.slotDrop 0 0) (withSlots [{ slot0 with holders := [.output 0] }] State.reset),
     by unfold poolOk; decide +kernel, step_front _ _ rfl (by decide +kernel), by decide +kernel⟩,
   ⟨{ withQueue [.occ occ0] with pending := [.occurrenceLookupAnswer 3 (some clip0)] }, after
     (.occurrenceLookupAnswer 3 (some clip0)) (withQueue [.occ occ0]), ⟨by decide +kernel, by decide +kernel,
     by decide +kernel, fun _ => rfl⟩, step_front _ _ rfl (by decide +kernel), by decide +kernel⟩⟩

/-- Values that meet the hypotheses of `Obligations.PortsAndOutputsAreKept`. -/
theorem witness_PortsAndOutputsAreKept :
    (∃ (s : State) (t : State), portsOk s ∧ step s = .next t ∧ t.dp ≠ s.dp) ∧
    (∃ (s : State) (t : State), outputsOk s ∧ step s = .next t ∧ t.ro ≠ s.ro) :=
  ⟨⟨{ State.reset with pending := [.driveAttach 0] }, after (.driveAttach 0) State.reset, ports_queued _, step_front
     _ _ rfl (by decide +kernel), by decide +kernel⟩,
   ⟨{ State.reset with pending := [.setRoute ⟨0, 0⟩ 0 { enabled := some true }] }, after (.setRoute ⟨0, 0⟩ 0
     { enabled := some true }) State.reset, outputs_queued _, step_front _ _ rfl (by decide +kernel),
     by decide +kernel⟩⟩

/-- Values that meet the hypotheses of `Obligations.LookArithmetic`. -/
theorem witness_LookArithmetic :
    (∃ (t : Trim) (v : Nat), t.gain = 1024 ∧ t.offset = 0 ∧ v ≤ 4095) ∧
    (∃ (u : Vector Nat 33) (v : Nat) (i : Nat) (f : Nat) (a : Nat) (b : Nat), v ≤ 4095 ∧ i = v / 128 ∧ f = v - 128 *
      i ∧ u[i]? = some a ∧ u[i + 1]? = some b) ∧
    (∃ (l : LookRec) (e : Encoding) (x : Sample) (n : Nat), lookOk l ∧ l.enc = e ∧ x.1 ≤ 4095 ∧ x.2.1 ≤ 4095 ∧ x.2.2
      ≤ 4095 ∧ n ∈ [(renderSample l x).r, (renderSample l x).g, (renderSample l x).b]) ∧
    (∃ (l : LookRec) (e : Encoding) (x : Sample) (n : Nat), lookOk l ∧ l.enc = e ∧ x.1 ≤ 4095 ∧ x.2.1 ≤ 4095 ∧ x.2.2
      ≤ 4095 ∧ n ∈ [(renderSample l x).r, (renderSample l x).g, (renderSample l x).b] ∧ e = .legal) ∧
    (∃ (l : LookRec) (e : Encoding) (x : Sample) (n : Nat), lookOk l ∧ l.enc = e ∧ x.1 ≤ 4095 ∧ x.2.1 ≤ 4095 ∧ x.2.2
      ≤ 4095 ∧ n ∈ [(renderSample l x).r, (renderSample l x).g, (renderSample l x).b] ∧ e = .full) ∧
    (∃ (m : Encoding) (x : Rgb) (v : Nat), x ∈ patternRow m ∧ v ∈ [x.r, x.g, x.b]) ∧
    (∃ (m : Encoding) (x : Rgb) (v : Nat), x ∈ patternRow m ∧ v ∈ [x.r, x.g, x.b] ∧ m = .legal) ∧
    (∃ (m : Encoding) (x : Rgb) (v : Nat), x ∈ patternRow m ∧ v ∈ [x.r, x.g, x.b] ∧ m = .full) :=
  ⟨⟨⟨1024, 0⟩, 4095, by decide +kernel, by decide +kernel, by decide +kernel⟩,
   ⟨Vector.replicate 33 5, 4095, _, _, 5, 5, by decide +kernel, rfl, rfl, by decide +kernel, by decide +kernel⟩,
   ⟨identityLook, _, (4095, 0, 4095), (renderSample identityLook (4095, 0, 4095)).r, identity_ok, rfl,
     by decide +kernel, by decide +kernel, by decide +kernel, by simp⟩,
   ⟨identityLook, _, (4095, 0, 4095), (renderSample identityLook (4095, 0, 4095)).r, identity_ok, rfl,
     by decide +kernel, by decide +kernel, by decide +kernel, by simp, by decide +kernel⟩,
   ⟨{ identityLook with enc := .full }, _, (4095, 0, 4095), (renderSample { identityLook with enc := .full } (4095,
     0, 4095)).r, identity_ok, rfl, by decide +kernel, by decide +kernel, by decide +kernel, by simp,
     by decide +kernel⟩,
   ⟨.legal, (patternRow .legal)[0]'(by decide +kernel), ((patternRow .legal)[0]'(by decide +kernel)).r,
     List.getElem_mem _, by simp⟩,
   ⟨.legal, (patternRow .legal)[0]'(by decide +kernel), ((patternRow .legal)[0]'(by decide +kernel)).r,
     List.getElem_mem _, by simp, by decide +kernel⟩,
   ⟨.full, (patternRow .full)[0]'(by decide +kernel), ((patternRow .full)[0]'(by decide +kernel)).r, List.getElem_mem
     _, by simp, by decide +kernel⟩⟩

/-- Values that meet the hypotheses of `Obligations.TimecodeArithmetic`. -/
theorem witness_TimecodeArithmetic :
    (∃ (rate : Nat), 1 ≤ rate ∧ rate ≤ 6) ∧
    (∃ (rate : Nat) (t : Timecode), 1 ≤ rate ∧ rate ≤ 6 ∧ tcValid rate t = true) ∧
    (∃ (rate : Nat) (t : Timecode) (t0 : Timecode), 1 ≤ rate ∧ rate ≤ 6 ∧ tcValid rate t = true ∧ tcValid rate t0 =
      true) :=
  ⟨⟨6, by decide +kernel, by decide +kernel⟩,
   ⟨6, ⟨23, 59, 59, 59⟩, by decide +kernel, by decide +kernel, by decide +kernel⟩,
   ⟨1, tc0, ⟨23, 59, 59, 23⟩, by decide +kernel, by decide +kernel, by decide +kernel, by decide +kernel⟩⟩

/-- Values that meet the hypotheses of `Obligations.LabelsAndHeadersReadBack`. -/
theorem witness_LabelsAndHeadersReadBack :
    (∃ (serial : Serial) (capacity : Nat) (recEnd : Nat), serial ≠ 0 ∧ capacity < 2 ^ 64 ∧ 0 < recEnd ∧ recEnd ≤
      capacity) ∧
    (∃ (clipNo : Nat) (len : Nat) (recEnd : Nat) (pos : Nat), 1 ≤ clipNo ∧ clipNo ≤ 999 ∧ 0 < len ∧ len ≤
      Config.maxClipBytes ∧ pos + spanOf (extentsOf len) + dataBlocks len ≤ recEnd) :=
  ⟨⟨1, 2 ^ 64 - 1, 2 ^ 64 - 1, by decide +kernel, by decide +kernel, by decide +kernel, by decide +kernel⟩,
   ⟨999, Config.maxClipBytes, 16777226, 1, by decide +kernel, by decide +kernel, by decide +kernel,
     by decide +kernel, by decide +kernel⟩⟩

/-- Values that meet the hypotheses of `Obligations.ExtentSums`. -/
theorem witness_ExtentSums :
    (∃ (bs : List Byte) (w : List Nat), (w = (List.range ((bs.length + 1) / 2)).map (fun k => (bs.getD (2 * k)
      0).toNat + 256 * (bs.getD (2 * k + 1) 0).toNat))) :=
  ⟨[1, 2, 3, 4, 5], _, rfl⟩

end Sys2Proof.Tests
end

section
/-! SUPPORT. Which block takes a command, and that a command changes nothing but that block's part of the BX-640 and the
messages on their way (0.3). -/

namespace Sys2Proof.Machine

/-- The part of the BX-640 whose command it is: the block that takes it (0.3). -/
def partOf (i : Instr) : Part :=
  match i with
  | .cardInserted .. | .identificationTimeout .. | .headerReadComplete .. | .requiredCopiesAnswer .. |
  .directoryReadComplete .. | .listingReadFailed .. | .listingAnswer .. | .claim .. | .handBack .. | .burstRequest ..
  | .burstGrantReport .. | .burstCompletion .. | .burstMediaError .. | .burstTimeout .. | .cardRemoved .. |
  .releaseCard .. | .releaseTestAnswer .. | .forceRelease .. | .queryBay .. | .setCopies .. | .purgeBayQuery .. |
  .cardIdentificationResponse .. => .ci
  | .requiredCopiesQuery .. | .releaseTest .. | .listingRequest .. | .cameraDefaultAnswer .. | .orderRemovalAnswer ..
  | .foundOffer .. | .copyCreationRequest .. | .headerWrittenReport .. | .extentWrittenReport .. |
  .verifyBegunReport .. | .mismatchReport .. | .verifyEndedReport .. | .rewriteDoneReport .. | .copyEndReport .. |
  .lostVolumeReport .. | .startReadRequest .. | .storedSumsRequest .. | .sumReport .. | .bindRequest .. |
  .candidatesRequest .. | .unbindRequest .. | .blockingCountReport .. | .overflowHoldSet .. | .overflowHoldClear .. |
  .inspectionCountReport .. | .setCopiesForwarded .. | .assignLook .. | .stampLook .. | .stampVersionAnswer .. |
  .purgeCard .. | .purgeReaderAnswer .. | .purgeBayAnswer .. | .queryClip .. | .listCard .. | .findClip .. |
  .clipLookup .. => .cat
  | .bayViewReport .. | .postOrder .. | .bindAnswer .. | .postCardOrder .. | .candidatesAnswer .. | .destViewReport ..
  | .catalogDispatchReport .. | .readDoneReport .. | .repairBegunReport .. | .repairDoneReport .. | .orderEndReport ..
  | .unbindAnswer .. | .abortOrder .. | .catalogRemovalRequest .. | .abortAll .. | .setMode .. | .queryOrder .. |
  .listOrders .. | .dispatchLookupAnswer .. => .ods
  | .startMessage .. | .clipLengthAnswer .. | .reservationAnswer .. | .creationAnswer .. | .headerWriteAnswer .. |
  .startReadAnswer .. | .storedSumsAnswer .. | .claimAnswer .. | .bufferRequest .. | .bufferWithdrawal .. |
  .bufferGrant .. | .burstAnswer .. | .sumAnswer .. | .extentWriteAnswer .. | .verifyReadAnswer .. |
  .headerRewriteAnswer .. | .channelLostVolume .. | .channelAbort .. | .statusQuery .. | .watch .. | .queryChannel ..
  | .queryStore .. => .cc
  | .foundCopySearch .. | .driveAttach .. | .identificationReadDone .. | .labelReadDone .. | .walkReadDone .. |
  .driveError .. | .driveAttemptExpiry .. | .formatVolume .. | .formatWriteDone .. | .reservationRequest .. |
  .statusQueryAnswer .. | .watchAnswer .. | .headerWrite .. | .headerWriteDone .. | .headerRewrite .. |
  .headerRewriteDone .. | .extentWrite .. | .extentWriteDone .. | .verifyRead .. | .verifyReadDone .. |
  .playbackRead .. | .playbackReadDone .. | .reinspectionRead .. | .reinspectionReadDone .. | .withdrawal .. |
  .readCancel .. | .attachmentQuestion .. | .detach .. | .driveRemoved .. | .startSoak .. | .soakWriteDone .. |
  .soakReadDone .. | .stopSoak .. | .queryPort .. | .queryIndex .. => .dp
  | .purgeReaderQuery .. | .livePassBegin .. | .liveInspectionStateAnswer .. | .liveBytes .. | .livePassEndOfData .. |
  .livePassCutOff .. | .analysisDoneReport .. | .liveCountReport .. | .takeNewest .. | .slotDrop .. | .dropAll .. |
  .playbackStart .. | .fetch .. | .playbackReadAnswer .. | .playbackCancel .. | .reinspectContextStart .. |
  .reinspectBytes .. | .reinspectPlaneResume .. | .reinspectContextCancel .. | .reinspectReadLost .. | .queryPool .. |
  .frameHeader .. | .continuityEnd .. | .analysisComplete .. | .clearSites .. | .setThresholds .. | .passResult .. |
  .reinspect .. | .reinspectAttachmentAnswer .. | .reinspectLookupAnswer .. | .reinspectReadAnswer .. |
  .reinspectReadConsumed .. | .reinspectContextReport .. | .reinspectLostVolume .. | .queryInspector .. |
  .querySites .. | .analysisLookupAnswer .. => .frames
  | .occurrence .. | .occurrenceLookupAnswer .. | .setKindClass .. | .clearOverflowHold .. | .clearHoldLookupAnswer ..
  | .ackFinding .. | .clearFinding .. | .verifiedCopyReport .. | .verifiedReportLookupAnswer .. |
  .reinspectionRemoval .. | .purgeList .. | .queryFinding .. | .listFindings .. | .queryClasses .. => .fl
  | .holdLook .. | .writeLook .. | .commitLook .. | .cancelLook .. | .linkDownReport .. | .bankFill .. |
  .fillSlotWriteDone .. | .cancelFill .. | .setCameraLook .. | .defaultRequest .. | .latchRead .. | .versionRequest ..
  | .queryLook .. | .queryBank .. => .lb
  | .setRoute .. | .frameBoundary .. | .groupBoundary .. | .latchAnswer .. | .takeNewestAnswer .. | .play .. |
  .playAttachmentAnswer .. | .fetchAnswer .. | .pause .. | .stop .. | .outputLostVolume .. | .outputPurgeList .. |
  .playGroup .. | .queryOutput .. | .boundaryLookupAnswer .. | .playLookupAnswer .. => .ro
  | .powerOnReset .. | .linkUp .. | .linkDown .. | .requestMessage .. | .blockAnswer .. | .noticeTaken .. |
  .noticeSent .. | .setFilter .. | .resetPart .. | .queryStation .. | .responseSent .. => .sp

/-- A command that changes more than its part of the BX-640 and the messages on their way: a reset, an event of the pins, or a
listing request, which also takes the number of the record it makes (assumption 58). -/
def changesMore (i : Instr) : Bool :=
  match i with
  | .powerOnReset .. | .responseSent .. | .listingRequest .. | .driveAttach .. | .driveRemoved .. | .cardInserted .. |
  .cardRemoved .. => true
  | _ => false

/-- A command leads to a next state with property `P`. -/
def leadsTo (P : State → Prop) (r : Result) : Prop := ∃ t, r = .next t ∧ P t

@[simp] theorem leadsTo_next {P : State → Prop} {t : State} : leadsTo P (.next t) ↔ P t := by simp [leadsTo]

theorem leadsTo.elim {P : State → Prop} {r : Result} {t : State} (h : leadsTo P r) (e : r = .next t) : P t := by
  obtain ⟨u, eu, hu⟩ := h
  cases e.symm.trans eu
  exact hu

/-- A command leads to a next state that has everything but part `p` as it was. -/
def keepsRest (p : Part) (s : State) (r : Result) : Prop := leadsTo (fun t => t.rest p = s.rest p) r

@[simp] theorem keepsRest_next {p : Part} {s t : State} : keepsRest p s (.next t) ↔ t.rest p = s.rest p := leadsTo_next

/-! ## Operations the frames of Laws/Frames leave open -/

@[simp] theorem State.rest_with_fl_token (s : State) (x : FaultList) (n : Nat) :
    ({ s with fl := x, token := n } : State).rest .fl = s.rest .fl := rfl

@[simp] theorem State.rest_with_lb_token (s : State) (x : LookBank) (n : Nat) :
    ({ s with lb := x, token := n } : State).rest .lb = s.rest .lb := rfl

theorem State.heldBy_rest {s t : State} {q : Req} {slot : Nat} (h : s.heldBy q slot = .error t) :
    t.rest .lb = s.rest .lb := by
  unfold State.heldBy at h
  split at h
  · cases h; simp
  · repeat' split at h
    all_goals cases h <;> simp

/-- What a completion makes of a state, where it makes anything, keeps everything but part `p`. -/
def someKeepsRest (p : Part) (s : State) : Option State → Prop
  | some t => t.rest p = s.rest p
  | none => True

@[simp] theorem someKeepsRest_some {p : Part} {s t : State} : someKeepsRest p s (some t) ↔ t.rest p = s.rest p := .rfl

@[simp] theorem someKeepsRest_none {p : Part} {s : State} : someKeepsRest p s none := trivial

theorem State.complete_rest_of_some (s : State) (p : Port) (tok : Nat) (f : DriveOp → State → Option State)
    (h : ∀ o t, someKeepsRest .dp t (f o t)) : (s.complete p tok f).rest .dp = s.rest .dp :=
  s.complete_rest p tok f fun o u t e => by simpa [e] using h o t

/-! ## The commands of each part

A command is a composition of the operations of its block, each of which keeps the rest (Laws/Frames); so the command does.
`delta exec` takes the command's arm of `exec` without making an equation for each of the others. -/

theorem exec_rest_ci {i : Instr} (s : State) (h : partOf i = .ci) (hm : changesMore i = false) :
    keepsRest .ci s (exec i s) := by
  cases i <;> cases h <;> cases hm
  all_goals (delta exec; dsimp only)
  all_goals simp only [execIdentificationTimeout, execHeaderReadComplete, execRequiredCopiesAnswer,
  execDirectoryReadComplete, execListingReadFailed, execListingAnswer, execClaim, execHandBack, execBurstRequest,
  execBurstGrantReport, execBurstCompletion, execBurstMediaError, execBurstTimeout, execReleaseCard,
  execReleaseTestAnswer, execForceRelease, execQueryBay, execSetCopies, execPurgeBayQuery,
  execCardIdentificationResponse]
  all_goals repeat' first | with_reducible rfl | (simp; done) | intro _ | rw [foldl_rest] | split | simp

theorem exec_rest_cat {i : Instr} (s : State) (h : partOf i = .cat) (hm : changesMore i = false) :
    keepsRest .cat s (exec i s) := by
  cases i <;> cases h <;> cases hm
  all_goals (delta exec; dsimp only)
  all_goals simp only [execRequiredCopiesQuery, execReleaseTest, execCameraDefaultAnswer, execOrderRemovalAnswer,
  execFoundOffer, execCopyCreationRequest, execHeaderWrittenReport, execExtentWrittenReport, execVerifyBegunReport,
  execMismatchReport, execVerifyEndedReport, execRewriteDoneReport, execCopyEndReport, execLostVolumeReport,
  execStartReadRequest, execStoredSumsRequest, execSumReport, execBindRequest, execCandidatesRequest,
  execUnbindRequest, execBlockingCountReport, execOverflowHoldSet, execOverflowHoldClear, execInspectionCountReport,
  execSetCopiesForwarded, execAssignLook, execStampLook, execStampVersionAnswer, execPurgeCard, execPurgeReaderAnswer,
  execPurgeBayAnswer, execQueryClip, execListCard, execFindClip, execClipLookup]
  all_goals repeat' first | with_reducible rfl | (simp; done) | intro _ | rw [foldl_rest] | split | simp

theorem exec_rest_ods {i : Instr} (s : State) (h : partOf i = .ods) (hm : changesMore i = false) :
    keepsRest .ods s (exec i s) := by
  cases i <;> cases h <;> cases hm
  all_goals (delta exec; dsimp only)
  all_goals simp only [execBayViewReport, execPostOrder, execBindAnswer, execPostCardOrder, execCandidatesAnswer,
  execDestViewReport, execCatalogDispatchReport, execReadDoneReport, execRepairBegunReport, execRepairDoneReport,
  execOrderEndReport, execUnbindAnswer, execAbortOrder, execCatalogRemovalRequest, execAbortAll, execSetMode,
  execQueryOrder, execListOrders, execDispatchLookupAnswer]
  all_goals repeat' first | with_reducible rfl | (simp; done) | intro _ | rw [foldl_rest] | split | simp

theorem exec_rest_cc {i : Instr} (s : State) (h : partOf i = .cc) (hm : changesMore i = false) :
    keepsRest .cc s (exec i s) := by
  cases i <;> cases h <;> cases hm
  all_goals (delta exec; dsimp only)
  all_goals simp only [execStartMessage, execClipLengthAnswer, execReservationAnswer, execCreationAnswer,
  execHeaderWriteAnswer, execStartReadAnswer, execStoredSumsAnswer, execClaimAnswer, execBufferRequest,
  execBufferWithdrawal, execBufferGrant, execBurstAnswer, execSumAnswer, execExtentWriteAnswer, execVerifyReadAnswer,
  execHeaderRewriteAnswer, execChannelLostVolume, execChannelAbort, execStatusQuery, execWatch, execQueryChannel,
  execQueryStore]
  all_goals repeat' first | with_reducible rfl | (simp; done) | intro _ | rw [foldl_rest] | split | simp

theorem exec_rest_dp {i : Instr} (s : State) (h : partOf i = .dp) (hm : changesMore i = false) :
    keepsRest .dp s (exec i s) := by
  cases i <;> cases h <;> cases hm
  all_goals (delta exec; dsimp only)
  all_goals simp only [execFoundCopySearch, execIdentificationReadDone, execLabelReadDone, execWalkReadDone,
  execDriveError, execDriveAttemptExpiry, execFormatVolume, execFormatWriteDone, execReservationRequest,
  execStatusQueryAnswer, execWatchAnswer, execHeaderWrite, execHeaderWriteDone, execHeaderRewrite,
  execHeaderRewriteDone, execExtentWrite, execExtentWriteDone, execVerifyRead, execVerifyReadDone, execPlaybackRead,
  execPlaybackReadDone, execReinspectionRead, execReinspectionReadDone, execWithdrawal, execReadCancel,
  execAttachmentQuestion, execDetach, execStartSoak, execSoakWriteDone, execSoakReadDone, execStopSoak, execQueryPort,
  execQueryIndex]
  all_goals repeat' first | with_reducible rfl | (simp; done) | intro _ | rw [foldl_rest] | apply State.complete_rest_of_some | split | simp

theorem exec_rest_frames {i : Instr} (s : State) (h : partOf i = .frames) (hm : changesMore i = false) :
    keepsRest .frames s (exec i s) := by
  cases i <;> cases h <;> cases hm
  all_goals (delta exec; dsimp only)
  all_goals simp only [execPurgeReaderQuery, execLivePassBegin, execLiveInspectionStateAnswer, execLiveBytes,
  execLivePassEndOfData, execLivePassCutOff, execAnalysisDoneReport, execLiveCountReport, execTakeNewest,
  execSlotDrop, execDropAll, execPlaybackStart, execFetch, execPlaybackReadAnswer, execPlaybackCancel,
  execReinspectContextStart, execReinspectBytes, execReinspectPlaneResume, execReinspectContextCancel,
  execReinspectReadLost, execQueryPool, execFrameHeader, execContinuityEnd, execAnalysisComplete, execClearSites,
  execSetThresholds, execPassResult, execReinspect, execReinspectAttachmentAnswer, execReinspectLookupAnswer,
  execReinspectReadAnswer, execReinspectReadConsumed, execReinspectContextReport, execReinspectLostVolume,
  execQueryInspector, execQuerySites, execAnalysisLookupAnswer]
  all_goals repeat' first | with_reducible rfl | (simp; done) | intro _ | rw [foldl_rest] | split | simp

theorem exec_rest_fl {i : Instr} (s : State) (h : partOf i = .fl) (hm : changesMore i = false) :
    keepsRest .fl s (exec i s) := by
  cases i <;> cases h <;> cases hm
  all_goals (delta exec; dsimp only)
  all_goals simp only [execOccurrence, execOccurrenceLookupAnswer, execSetKindClass, execClearOverflowHold,
  execClearHoldLookupAnswer, execAckFinding, execClearFinding, execVerifiedCopyReport, execVerifiedReportLookupAnswer,
  execReinspectionRemoval, execPurgeList, execQueryFinding, execListFindings, execQueryClasses]
  all_goals repeat' first | with_reducible rfl | (simp; done) | intro _ | rw [foldl_rest] | split | simp

theorem exec_rest_lb {i : Instr} (s : State) (h : partOf i = .lb) (hm : changesMore i = false) :
    keepsRest .lb s (exec i s) := by
  cases i <;> cases h <;> cases hm
  all_goals (delta exec; dsimp only)
  all_goals simp only [execHoldLook, execWriteLook, execCommitLook, execCancelLook, execLinkDownReport, execBankFill,
  execFillSlotWriteDone, execCancelFill, execSetCameraLook, execDefaultRequest, execLatchRead, execVersionRequest,
  execQueryLook, execQueryBank]
  all_goals repeat' first | with_reducible rfl | (simp; done) | intro _ | rw [foldl_rest] | (simp only [keepsRest_next]; exact State.heldBy_rest ‹_›) | split | simp

theorem exec_rest_ro {i : Instr} (s : State) (h : partOf i = .ro) (hm : changesMore i = false) :
    keepsRest .ro s (exec i s) := by
  cases i <;> cases h <;> cases hm
  all_goals (delta exec; dsimp only)
  all_goals simp only [execSetRoute, execFrameBoundary, execGroupBoundary, execLatchAnswer, execTakeNewestAnswer,
  execPlay, execPlayAttachmentAnswer, execFetchAnswer, execPause, execStop, execOutputLostVolume, execOutputPurgeList,
  execPlayGroup, execQueryOutput, execBoundaryLookupAnswer, execPlayLookupAnswer]
  all_goals repeat' first | with_reducible rfl | (simp; done) | intro _ | rw [foldl_rest] | split | simp

theorem exec_rest_sp {i : Instr} (s : State) (h : partOf i = .sp) (hm : changesMore i = false) :
    keepsRest .sp s (exec i s) := by
  cases i <;> cases h <;> cases hm
  all_goals (delta exec; dsimp only)
  all_goals simp only [execLinkUp, execLinkDown, execRequestMessage, execBlockAnswer, execNoticeTaken, execNoticeSent,
  execSetFilter, execResetPart, execQueryStation]
  all_goals repeat' first | with_reducible rfl | (simp; done) | intro _ | rw [foldl_rest] | split

/-- Every command but the few of `changesMore` leads to a next state that differs only in its part and in the messages. -/
theorem exec_rest {i : Instr} (s : State) (hm : changesMore i = false) : keepsRest (partOf i) s (exec i s) := by
  cases h : partOf i with
  | ci => exact exec_rest_ci s h hm
  | cat => exact exec_rest_cat s h hm
  | ods => exact exec_rest_ods s h hm
  | cc => exact exec_rest_cc s h hm
  | dp => exact exec_rest_dp s h hm
  | frames => exact exec_rest_frames s h hm
  | fl => exact exec_rest_fl s h hm
  | lb => exact exec_rest_lb s h hm
  | ro => exact exec_rest_ro s h hm
  | sp => exact exec_rest_sp s h hm

/-! ## The commands that change more -/

theorem driveAttach_rest (p : Port) (s : State) :
    keepsRest .dp { s with pins := { s.pins with driveDetect := upd s.pins.driveDetect p fun _ => true } }
      (exec (.driveAttach p) s) := by
  change keepsRest .dp _ (execDriveAttach p s)
  simp [execDriveAttach]

theorem driveRemoved_rest (p : Port) (s : State) :
    keepsRest .dp { s with pins := { s.pins with driveDetect := upd s.pins.driveDetect p fun _ => false } }
      (exec (.driveRemoved p) s) := by
  change keepsRest .dp _ (execDriveRemoved p s)
  simp only [execDriveRemoved]
  repeat' first | with_reducible rfl | (simp; done) | intro _ | rw [foldl_rest] | split | simp

theorem listingRequest_rest (b : Bay) (ins : Nat) (serial : Serial) (clipNo required : Nat) (desc : Desc) (s : State) :
    keepsRest .cat s (exec (.listingRequest b ins serial clipNo required desc) s) ∨
      keepsRest .cat s.tick (exec (.listingRequest b ins serial clipNo required desc) s) := by
  change keepsRest .cat s (execListingRequest b ins serial clipNo required desc s) ∨
    keepsRest .cat s.tick (execListingRequest b ins serial clipNo required desc s)
  simp only [execListingRequest]
  split
  · left
    repeat' first | with_reducible rfl | (simp; done) | split
  · split
    · left; simp
    · right; simp; rfl

end Sys2Proof.Machine
end


section
/-! SUPPORT. The card table is an invariant of every step (R4, R10, R11). -/

namespace Sys2Proof.Machine

/-! ## What the rest says of the card table -/

theorem ci_of_rest {s t : State} {p : Part} (h : t.rest p = s.rest p) (hp : p ≠ .ci) : t.ci = s.ci := by
  have hci := congrArg State.ci h
  cases p <;> first | contradiction | exact hci

/-- Only the Card Interface's commands and the resets touch the card table. -/
theorem exec_ci_of_part {i : Instr} {s t : State} (hp : partOf i ≠ .ci) (hr : resets i = false) (e : exec i s = .next t) :
    t.ci = s.ci := by
  have of_keeps {u : State} {p : Part} (h : keepsRest p u (exec i s)) (hp : p ≠ .ci) (hu : u.ci = s.ci) :
      t.ci = s.ci := (ci_of_rest (h.elim e) hp).trans hu
  by_cases hm : changesMore i = false
  · exact of_keeps (exec_rest s hm) hp rfl
  · cases i with
    | driveAttach p => exact of_keeps (driveAttach_rest p s) hp rfl
    | driveRemoved p => exact of_keeps (driveRemoved_rest p s) hp rfl
    | listingRequest b ins serial clipNo required desc =>
      obtain h | h := listingRequest_rest b ins serial clipNo required desc s
      · exact of_keeps h hp rfl
      · exact of_keeps h hp rfl
    | cardInserted | cardRemoved => exact absurd rfl hp
    | powerOnReset | responseSent => cases hr
    | _ => exact absurd rfl hm

/-! ## The card table, entry by entry -/

/-- The rule of the card table speaks of the card table alone. -/
theorem cardTableOk_congr {s t : State} (h : t.ci = s.ci) : cardTableOk t ↔ cardTableOk s := by
  simp only [cardTableOk, State.bay, h]

@[simp] theorem cardTableOk_send {s : State} {src dst : Node} {ms : List Instr} :
    cardTableOk (s.send src dst ms) ↔ cardTableOk s := .rfl

@[simp] theorem cardTableOk_tick {s : State} : cardTableOk s.tick ↔ cardTableOk s := .rfl

/-- An entry may stand in bay `b`: its reading rights are right, and no other live bay holds its serial. -/
def fitsBay (s : State) (b : Bay) (e : BayEntry) : Prop :=
  bayRights e ∧ ∀ serial, liveBay e.state = true → e.serial = some serial →
    ∀ x, x ≠ b → liveBay (s.bay x).state = true → (s.bay x).serial ≠ some serial

theorem cardTableOk.setBay {s : State} {b : Bay} {e : BayEntry} (h : cardTableOk s) (he : fitsBay s b e) :
    cardTableOk (s.setBay b e) := by
  obtain ⟨rights, unique⟩ := h
  obtain ⟨erights, eunique⟩ := he
  have bay_of (x : Bay) : x = b ∧ (s.setBay b e).bay x = e ∨ x ≠ b ∧ (s.setBay b e).bay x = s.bay x := by
    by_cases hx : x = b
    · exact .inl ⟨hx, by rw [hx, State.setBay_bay]⟩
    · exact .inr ⟨hx, State.setBay_other s b x e hx⟩
  refine ⟨fun x => ?_, fun x y serial lx ly sx sy => ?_⟩
  · obtain ⟨-, hx⟩ | ⟨-, hx⟩ := bay_of x <;> rw [hx]
    exacts [erights, rights x]
  · obtain ⟨ex, hx⟩ | ⟨nx, hx⟩ := bay_of x <;> obtain ⟨ey, hy⟩ | ⟨ny, hy⟩ := bay_of y <;> rw [hx] at lx sx <;>
      rw [hy] at ly sy
    · rw [ex, ey]
    · exact absurd sy (eunique serial lx sx y ny ly)
    · exact absurd sx (eunique serial ly sy x nx lx)
    · exact unique x y serial lx ly sx sy

/-- An entry that keeps its serial, and is live only where it was, takes no serial from another bay. -/
theorem cardTableOk.fits {s : State} {b : Bay} {e : BayEntry} (h : cardTableOk s) (he : bayRights e)
    (hs : e.serial = (s.bay b).serial) (hl : liveBay e.state = true → liveBay (s.bay b).state = true) : fitsBay s b e :=
  ⟨he, fun serial le se x hx lx sx => hx (h.2 x b serial lx (hl le) sx (hs ▸ se))⟩

/-- An entry that is not live may stand in any bay. -/
theorem fitsBay_of_not_live {s : State} {b : Bay} {e : BayEntry} (he : bayRights e) (hl : liveBay e.state = false) :
    fitsBay s b e :=
  ⟨he, fun _ le => by simp [hl] at le⟩

/-- A bay that is being listed is LISTING, and nobody reads it or waits for it. -/
theorem bayRights.of_listing {e : BayEntry} {l : Listing} (h : bayRights e) (hl : e.listing = some l) :
    e.state = .listing ∧ e.reader = none ∧ e.claims = [] := by
  obtain ⟨idle, -, reads, lists⟩ := h
  have hstate := lists l hl
  have hreader : e.reader = none := by
    cases hr : e.reader with
    | none => rfl
    | some r => exact absurd (reads r hr).2 (by simp [hstate])
  exact ⟨hstate, hreader, idle hreader⟩

/-- Nobody is listing a bay that is not LISTING. -/
theorem bayRights.listing_eq_none {e : BayEntry} (h : bayRights e) (hs : e.state ≠ .listing) : e.listing = none := by
  cases hl : e.listing with
  | none => rfl
  | some l => exact absurd (h.of_listing hl).1 hs

/-- A bay that nobody reads and nobody waits for has its rights right, if it is listed only while LISTING. -/
theorem bayRights_of_idle {e : BayEntry} (hr : e.reader = none) (hc : e.claims = [])
    (hl : ∀ l, e.listing = some l → e.state = .listing) : bayRights e := by
  simp [bayRights, hr, hc]
  exact hl

theorem State.bayOf_holds {s : State} {serial : Serial} {b : Bay} (h : s.bayOf serial = some b) :
    (s.bay b).holds serial = true :=
  List.find?_some (p := fun b => (s.bay b).holds serial) h

theorem BayEntry.holds_iff {e : BayEntry} {serial : Serial} :
    e.holds serial = true ↔ (e.state = .present ∨ e.state = .released) ∧ e.serial = some serial := by
  simp [BayEntry.holds]

/-! ## The card table under the operations of the Card Interface -/

@[simp] theorem State.answerClaim_eq (s : State) (ch : Chan) (tag : Nat) (a : ClaimAns) :
    s.answerClaim ch tag a = s.send .ci (.cc ch) [.claimAnswer ch tag a] := rfl

@[simp] theorem State.answerBurst_eq (s : State) (ch : Chan) (a : BurstAns) :
    s.answerBurst ch a = s.send .ci (.cc ch) [.burstAnswer ch a] := rfl

/-- Answering every waiting channel sends the answers, in the order of the queue (R16). -/
theorem State.answerClaims_eq (tags : Vector Nat 3) (a : ClaimAns) (cs : List Chan) (s : State) :
    cs.foldl (fun t c => t.answerClaim c tags[c] a) s =
      { s with wire := s.wire ++ cs.map fun c => ⟨.ci, .cc c, .claimAnswer c tags[c] a⟩ } := by
  induction cs generalizing s with
  | nil => simp
  | cons c cs ih => rw [List.foldl_cons, ih]; simp [State.send]

@[simp] theorem cardTableOk_dropClass {s : State} {b : Bay} {e : BayEntry} :
    cardTableOk (s.dropClass b e) ↔ cardTableOk (s.setBay b e) := .rfl

/-- Storing an entry that differs from the bay's own in no part of the rule keeps the card table right. -/
theorem cardTableOk.setBay_same {s : State} {b : Bay} {e : BayEntry} (h : cardTableOk s)
    (hs : e.state = (s.bay b).state) (hn : e.serial = (s.bay b).serial) (hr : e.reader = (s.bay b).reader)
    (hc : e.claims = (s.bay b).claims) (hl : e.listing.isSome = (s.bay b).listing.isSome) :
    cardTableOk (s.setBay b e) := by
  obtain ⟨idle, nodup, reads, lists⟩ := h.1 b
  refine h.setBay (h.fits ⟨?_, ?_, ?_, fun l he => ?_⟩ hn (by rw [hs]; exact id))
  · rw [hr, hc]; exact idle
  · rw [hc]; exact nodup
  · rw [hr, hc, hs]; exact reads
  · obtain ⟨l', hl'⟩ := Option.isSome_iff_exists.mp (hl.symm.trans (by rw [he]; rfl))
    rw [hs]; exact lists l' hl'

/-- The end of a listing, whichever it is: the bay is left by its listing with nobody reading it. -/
theorem cardTableOk.setBay_listed {s : State} {b : Bay} {e : BayEntry} {l : Listing} (h : cardTableOk s)
    (hl : (s.bay b).listing = some l) (hn : e.serial = (s.bay b).serial) (hr : e.reader = (s.bay b).reader)
    (hc : e.claims = (s.bay b).claims) (he : e.listing = none) : cardTableOk (s.setBay b e) := by
  obtain ⟨hstate, hreader, hclaims⟩ := (h.1 b).of_listing hl
  exact h.setBay (h.fits (bayRights_of_idle (hr.trans hreader) (hc.trans hclaims) (by simp [he])) hn
    (by simp [hstate, liveBay]))

theorem cardTableOk.unreadable {s : State} {b : Bay} {e : BayEntry} {l : Listing} (cause : UnreadCause)
    (h : cardTableOk s) (hl : (s.bay b).listing = some l) (hn : e.serial = (s.bay b).serial)
    (hr : e.reader = (s.bay b).reader) (hc : e.claims = (s.bay b).claims) : cardTableOk (s.unreadable b e cause) := by
  simpa [State.unreadable] using h.setBay_listed (e := { e with state := _, cause := _, listing := none }) hl hn hr hc rfl

theorem cardTableOk.offerNext {s : State} {b : Bay} {e : BayEntry} {l : Listing} (l' : Listing) (h : cardTableOk s)
    (hl : (s.bay b).listing = some l) (hs : e.state = (s.bay b).state) (hn : e.serial = (s.bay b).serial)
    (hr : e.reader = (s.bay b).reader) (hc : e.claims = (s.bay b).claims) : cardTableOk (s.offerNext b e l') := by
  unfold State.offerNext
  split
  · simpa using h.setBay_same (e := { e with listing := some l' }) hs hn hr hc (by simp [hl])
  · simpa using h.setBay_listed (e := { e with state := _, listed := _, listing := none }) hl hn hr hc rfl

theorem cardTableOk.cardIn {s : State} (b : Bay) (wp : Bool) (h : cardTableOk s) : cardTableOk (s.cardIn b wp) := by
  unfold State.cardIn
  split
  · exact h
  · have ht : cardTableOk s.tick := h
    simpa using ht.setBay (e := { state := .listing, wp := wp, ins := s.token, listing := _ })
      ⟨bayRights_of_idle rfl rfl (by simp), by simp⟩

theorem cardTableOk.burstFailed {s : State} (b : Bay) (tok : Nat) (h : cardTableOk s) :
    cardTableOk (s.burstFailed b tok) := by
  have ht : cardTableOk s.tick := h
  simp only [State.burstFailed, State.answerBurst_eq]
  split
  · exact h
  · split
    · exact ht.setBay_same rfl rfl rfl rfl rfl
    · exact cardTableOk_dropClass.mpr (ht.setBay_same rfl rfl rfl rfl rfl)
    · exact cardTableOk_send.mpr (h.setBay_same rfl rfl rfl rfl rfl)

theorem cardTableOk.release {s : State} {b : Bay} (q : Req) (forced : Bool) (h : cardTableOk s)
    (hb : (s.bay b).unreleasable = none) : cardTableOk (s.release q b forced) := by
  have ⟨hp, hr⟩ : (s.bay b).state = .present ∧ (s.bay b).reader = none := by
    unfold BayEntry.unreleasable at hb
    split at hb <;> simp_all
  have hl := (h.1 b).listing_eq_none (by simp [hp])
  simpa [State.release] using h.setBay (h.fits (e := { s.bay b with state := .released })
    (bayRights_of_idle hr ((h.1 b).1 hr) (by simp [hl])) rfl (by simp [hp, liveBay]))

/-! ## The card table under each command of the Card Interface -/

section
variable {s : State}

theorem execCardInserted_cardTableOk (b : Bay) (wp : Bool) (h : cardTableOk s) :
    leadsTo cardTableOk (execCardInserted b wp s) := by
  simp only [execCardInserted, leadsTo_next]
  exact cardTableOk.cardIn b wp h

theorem execCardIdentificationResponse_cardTableOk (b : Bay) (tok advertised capacity : Nat) (h : cardTableOk s) :
    leadsTo cardTableOk (execCardIdentificationResponse b tok advertised capacity s) := by
  have ht : cardTableOk s.tick := h
  simp only [execCardIdentificationResponse]
  split
  next l hl =>
    split
    · exact leadsTo_next.mpr (ht.setBay_same rfl rfl rfl rfl (by simp [hl]))
    · exact leadsTo_next.mpr h
  · exact leadsTo_next.mpr h

theorem execIdentificationTimeout_cardTableOk (b : Bay) (tok : Nat) (h : cardTableOk s) :
    leadsTo cardTableOk (execIdentificationTimeout b tok s) := by
  simp only [execIdentificationTimeout]
  split
  next l hl =>
    rw [leadsTo_next]
    split
    · exact h.unreadable .readFailed hl rfl rfl rfl
    · exact h
  · exact leadsTo_next.mpr h

theorem State.not_duplicate {b : Bay} {serial : Serial} (hd : s.duplicate b serial = false) (x : Bay) (hx : x ≠ b)
    (hl : liveBay (s.bay x).state = true) : (s.bay x).serial ≠ some serial := by
  intro hn
  simp [State.duplicate] at hd
  have := hd x hx hn
  simp_all [liveBay]

theorem execHeaderReadComplete_cardTableOk (b : Bay) (tok : Nat) (bytes : List Byte) (h : cardTableOk s) :
    leadsTo cardTableOk (execHeaderReadComplete b tok bytes s) := by
  simp only [execHeaderReadComplete]
  split
  · exact leadsTo_next.mpr h
  next l hl =>
    split
    · exact leadsTo_next.mpr h
    split
    · exact leadsTo_next.mpr (h.unreadable .headerDamaged hl rfl rfl rfl)
    next hdr _ =>
      split
      · exact leadsTo_next.mpr (h.unreadable .duplicateCard hl rfl rfl rfl)
      next hd =>
        obtain ⟨hstate, hreader, hclaims⟩ := (h.1 b).of_listing hl
        rw [leadsTo_next, cardTableOk_send]
        refine h.setBay ⟨bayRights_of_idle hreader hclaims fun _ _ => hstate, fun serial _ hn x hx hlive => ?_⟩
        cases hn
        exact State.not_duplicate (by simpa using hd) x hx hlive

theorem execRequiredCopiesAnswer_cardTableOk (b : Bay) (ins : Nat) (highest : Option Nat) (h : cardTableOk s) :
    leadsTo cardTableOk (execRequiredCopiesAnswer b ins highest s) := by
  have ht : cardTableOk s.tick := h
  simp only [execRequiredCopiesAnswer]
  split
  next l hl =>
    split
    · exact leadsTo_next.mpr (ht.setBay_same rfl rfl rfl rfl (by simp [hl]))
    · exact leadsTo_next.mpr h
  · exact leadsTo_next.mpr h

theorem execDirectoryReadComplete_cardTableOk (b : Bay) (tok : Nat) (bytes : List Byte) (h : cardTableOk s) :
    leadsTo cardTableOk (execDirectoryReadComplete b tok bytes s) := by
  have ht : cardTableOk s.tick := h
  simp only [execDirectoryReadComplete]
  split
  · exact leadsTo_next.mpr h
  next l hl =>
    split
    · exact leadsTo_next.mpr h
    split
    · exact leadsTo_next.mpr (ht.setBay_same rfl rfl rfl rfl (by simp [hl]))
    split
    · exact leadsTo_next.mpr (h.unreadable .directoryDamaged hl rfl rfl rfl)
    · exact leadsTo_next.mpr (h.offerNext _ hl rfl rfl rfl rfl)

theorem execListingReadFailed_cardTableOk (b : Bay) (tok : Nat) (h : cardTableOk s) :
    leadsTo cardTableOk (execListingReadFailed b tok s) := by
  have ht : cardTableOk s.tick := h
  simp only [execListingReadFailed]
  split
  · exact leadsTo_next.mpr h
  next l hl =>
    split
    · exact leadsTo_next.mpr h
    split
    · exact leadsTo_next.mpr (ht.setBay_same rfl rfl rfl rfl (by simp [hl]))
    · exact leadsTo_next.mpr (cardTableOk_dropClass.mpr (ht.setBay_same rfl rfl rfl rfl (by simp [hl])))
    · exact leadsTo_next.mpr (h.unreadable .readFailed hl rfl rfl rfl)

theorem execListingAnswer_cardTableOk (b : Bay) (ins : Nat) (ans : ListAns) (h : cardTableOk s) :
    leadsTo cardTableOk (execListingAnswer b ins ans s) := by
  simp only [execListingAnswer]
  split
  · exact leadsTo_next.mpr h
  next l hl =>
    have taken (wp : Bool) (o : Occurrence) (l' : Listing) :
        cardTableOk ((if wp then s else s.file .ci o).offerNext b (s.bay b) l') := by
      cases wp with
      | true => exact h.offerNext l' hl rfl rfl rfl rfl
      | false => exact cardTableOk.offerNext l' (cardTableOk_send.mpr h) hl rfl rfl rfl rfl
    split
    · exact leadsTo_next.mpr h
    cases ans with
    | made clip => exact leadsTo_next.mpr (taken _ _ _)
    | relinked clip => exact leadsTo_next.mpr (taken _ _ _)
    | full => exact leadsTo_next.mpr (cardTableOk_send.mpr (h.setBay_listed hl rfl rfl rfl rfl))

theorem execClaim_cardTableOk (ch : Chan) (serial : Serial) (tag : Nat) (h : cardTableOk s) :
    leadsTo cardTableOk (execClaim ch serial tag s) := by
  simp only [execClaim, State.answerClaim_eq]
  split
  · exact leadsTo_next.mpr h
  next b hb =>
    obtain ⟨hstate, hserial⟩ := BayEntry.holds_iff.mp (State.bayOf_holds hb)
    obtain ⟨idle, nodup, reads, -⟩ := h.1 b
    have hl : (s.bay b).listing = none := (h.1 b).listing_eq_none (by rintro e; simp [e] at hstate)
    split
    next hr =>
      have hset : cardTableOk (s.setBay b { s.bay b with
          reader := some ch, errors := 0, state := .present, tags := upd (s.bay b).tags ch fun _ => tag }) :=
        h.setBay (h.fits ⟨by simp, nodup, by simp [idle hr], by simp [hl]⟩ rfl
          fun _ => by obtain e | e := hstate <;> simp [e, liveBay])
      rw [leadsTo_next]
      split <;> exact hset
    next r hr =>
      split
      · exact leadsTo_next.mpr (cardTableOk_send.mpr (h.setBay_same rfl rfl rfl rfl rfl))
      next hch =>
        split
        · exact leadsTo_next.mpr (cardTableOk_send.mpr (h.setBay_same rfl rfl rfl rfl rfl))
        next hq =>
          obtain ⟨hnq, hp⟩ := reads r hr
          have hset : cardTableOk (s.setBay b { s.bay b with
              claims := (s.bay b).claims ++ [ch], tags := upd (s.bay b).tags ch fun _ => tag }) := by
            refine h.setBay (h.fits ⟨by simp [hr], ?_, ?_, by simp [hl]⟩ rfl id)
            · exact List.nodup_append.mpr ⟨nodup, by simp, by rintro x hx y hy rfl; simp_all⟩
            · simp [hr, hnq, hp, hch]
          exact leadsTo_next.mpr (cardTableOk_send.mpr hset)

theorem execHandBack_cardTableOk (ch : Chan) (serial : Serial) (h : cardTableOk s) :
    leadsTo cardTableOk (execHandBack ch serial s) := by
  simp only [execHandBack, State.answerClaim_eq]
  split
  · exact leadsTo_next.mpr h
  next b hb =>
    obtain ⟨idle, nodup, reads, lists⟩ := h.1 b
    split
    next hr =>
      obtain ⟨-, hp⟩ := reads ch hr
      have hl := (h.1 b).listing_eq_none (by simp [hp])
      split
      next hc =>
        exact leadsTo_next.mpr (h.setBay (h.fits (bayRights_of_idle rfl hc (by simp [hl])) rfl id))
      next c cs hc =>
        obtain ⟨hnq, hnd⟩ := List.nodup_cons.mp (hc ▸ nodup)
        exact leadsTo_next.mpr (cardTableOk_send.mpr
          (h.setBay (h.fits ⟨by simp, hnd, by simp [hnq, hp], by simp [hl]⟩ rfl id)))
    · refine leadsTo_next.mpr (h.setBay (h.fits ⟨fun hr => ?_, nodup.filter _, fun r hr => ?_, lists⟩ rfl id))
      · simp [idle hr]
      · obtain ⟨hnq, hp⟩ := reads r hr
        exact ⟨fun hm => hnq (List.mem_of_mem_filter hm), hp⟩

theorem execBurstRequest_cardTableOk (ch : Chan) (serial : Serial) (clipNo ext burst : Nat) (room : Bool)
    (h : cardTableOk s) : leadsTo cardTableOk (execBurstRequest ch serial clipNo ext burst room s) := by
  have ht : cardTableOk s.tick := h
  simp only [execBurstRequest]
  split
  · exact leadsTo_next.mpr h
  · split
    · exact leadsTo_next.mpr h
    split
    · exact leadsTo_next.mpr h
    · exact leadsTo_next.mpr (ht.setBay_same rfl rfl rfl rfl rfl)

theorem execBurstGrantReport_cardTableOk (ch : Chan) (serial : Serial) (h : cardTableOk s) :
    leadsTo cardTableOk (execBurstGrantReport ch serial s) := by
  have ht : cardTableOk s.tick := h
  simp only [execBurstGrantReport]
  split
  · exact leadsTo_next.mpr h
  · split
    · split
      · exact leadsTo_next.mpr (ht.setBay_same rfl rfl rfl rfl rfl)
      · exact leadsTo_next.mpr h
    · exact leadsTo_next.mpr h

theorem execBurstCompletion_cardTableOk (b : Bay) (tok : Nat) (bytes : List Byte) (h : cardTableOk s) :
    leadsTo cardTableOk (execBurstCompletion b tok bytes s) := by
  simp only [execBurstCompletion, State.answerBurst_eq]
  split
  · exact leadsTo_next.mpr h
  · exact leadsTo_next.mpr (cardTableOk_send.mpr (h.setBay_same rfl rfl rfl rfl rfl))

theorem execCardRemoved_cardTableOk (b : Bay) (h : cardTableOk s) : leadsTo cardTableOk (execCardRemoved b s) := by
  simp only [execCardRemoved]
  split
  · exact leadsTo_next.mpr h
  · rw [leadsTo_next, State.raise_eq, cardTableOk_send]
    refine cardTableOk.setBay ?_ (fitsBay_of_not_live (bayRights_of_idle rfl rfl (by simp)) rfl)
    have hci : cardTableOk { s with pins := { s.pins with cardDetect := upd s.pins.cardDetect b fun _ => false } } := h
    rw [State.answerClaims_eq]
    repeat' split
    all_goals exact hci

theorem execReleaseCard_cardTableOk (q : Req) (bay : Nat) (h : cardTableOk s) :
    leadsTo cardTableOk (execReleaseCard q bay s) := by
  simp only [execReleaseCard]
  repeat' split
  all_goals exact leadsTo_next.mpr h

theorem execReleaseTestAnswer_cardTableOk (q : Req) (b : Bay) (ins : Nat) (ans : ReleaseAns) (h : cardTableOk s) :
    leadsTo cardTableOk (execReleaseTestAnswer q b ins ans s) := by
  simp only [execReleaseTestAnswer]
  split
  · exact leadsTo_next.mpr h
  split
  · exact leadsTo_next.mpr h
  next hb =>
    cases ans with
    | fails clip why => exact leadsTo_next.mpr h
    | passed => exact leadsTo_next.mpr (h.release q false hb)

theorem execForceRelease_cardTableOk (q : Req) (bay : Nat) (h : cardTableOk s) :
    leadsTo cardTableOk (execForceRelease q bay s) := by
  simp only [execForceRelease]
  split
  · exact leadsTo_next.mpr h
  split
  · exact leadsTo_next.mpr h
  next hb => exact leadsTo_next.mpr (h.release q true hb)

theorem execSetCopies_cardTableOk (q : Req) (serial : Serial) (count : Nat) (h : cardTableOk s) :
    leadsTo cardTableOk (execSetCopies q serial count s) := by
  simp only [execSetCopies]
  split
  · exact leadsTo_next.mpr h
  · rw [leadsTo_next, cardTableOk_send]
    generalize List.filter _ (List.finRange 6) = bays
    induction bays generalizing s with
    | nil => exact h
    | cons b bays ih => exact ih (h.setBay_same rfl rfl rfl rfl rfl)

end

/-- Every command of the Card Interface keeps the card table right. -/
theorem exec_cardTableOk_of_ci {i : Instr} {s : State} (hp : partOf i = .ci) (h : cardTableOk s) :
    leadsTo cardTableOk (exec i s) := by
  cases i with
  | cardInserted b wp => exact execCardInserted_cardTableOk b wp h
  | identificationTimeout b tok => exact execIdentificationTimeout_cardTableOk b tok h
  | headerReadComplete b tok bytes => exact execHeaderReadComplete_cardTableOk b tok bytes h
  | requiredCopiesAnswer b ins highest => exact execRequiredCopiesAnswer_cardTableOk b ins highest h
  | directoryReadComplete b tok bytes => exact execDirectoryReadComplete_cardTableOk b tok bytes h
  | listingReadFailed b tok => exact execListingReadFailed_cardTableOk b tok h
  | listingAnswer b ins ans => exact execListingAnswer_cardTableOk b ins ans h
  | claim ch serial tag => exact execClaim_cardTableOk ch serial tag h
  | handBack ch serial => exact execHandBack_cardTableOk ch serial h
  | burstRequest ch serial clipNo ext burst room => exact execBurstRequest_cardTableOk ch serial clipNo ext burst room h
  | burstGrantReport ch serial => exact execBurstGrantReport_cardTableOk ch serial h
  | burstCompletion b tok bytes => exact execBurstCompletion_cardTableOk b tok bytes h
  | burstMediaError b tok => exact leadsTo_next.mpr (h.burstFailed b tok)
  | burstTimeout b tok => exact leadsTo_next.mpr (h.burstFailed b tok)
  | cardRemoved b => exact execCardRemoved_cardTableOk b h
  | releaseCard q bay => exact execReleaseCard_cardTableOk q bay h
  | releaseTestAnswer q b ins ans => exact execReleaseTestAnswer_cardTableOk q b ins ans h
  | forceRelease q bay => exact execForceRelease_cardTableOk q bay h
  | queryBay q bay =>
    change leadsTo _ (execQueryBay q bay s)
    simp only [execQueryBay]
    split <;> exact leadsTo_next.mpr h
  | setCopies q serial count => exact execSetCopies_cardTableOk q serial count h
  | purgeBayQuery q serial => exact leadsTo_next.mpr h
  | cardIdentificationResponse b tok advertised capacity =>
    exact execCardIdentificationResponse_cardTableOk b tok advertised capacity h
  | _ => cases hp

/-! ## Resets -/

/-- A fold whose steps keep a property of the state keeps it. -/
theorem foldl_induction {α : Type} {P : State → Prop} {f : State → α → State} (hf : ∀ s a, P s → P (f s a)) (l : List α)
    {s : State} (h : P s) : P (l.foldl f s) := by
  induction l generalizing s with
  | nil => exact h
  | cons a l ih => exact ih (hf s a h)

theorem CardInterface.reset_bay (s : State) (h : s.ci = .reset) (b : Bay) : s.bay b = {} := by
  simp [State.bay, h, CardInterface.reset]

theorem cardTableOk_of_reset {s : State} (h : s.ci = .reset) : cardTableOk s := by
  simp [cardTableOk, CardInterface.reset_bay s h, bayRights, liveBay]

/-- A reset leaves the bays EMPTY and takes the insertions of the cards that are present. -/
theorem restart_cardTableOk (s : State) (p : Pins) (sp : StationPorts) : cardTableOk (s.restart p sp) := by
  have inserted := foldl_induction (P := cardTableOk) (f := fun t b => t.cardIn b p.writeProt[b])
    (fun t b h => h.cardIn b _) ((List.finRange 6).filter fun b => p.cardDetect[b])
    (cardTableOk_of_reset (s := s.blank p sp) rfl)
  refine (cardTableOk_congr ?_).mpr inserted
  exact foldl_keeps State.ci _ (fun t d => ci_of_rest (t.driveIn_rest d) (by decide)) _ _

theorem partReset_cardTableOk (s : State) (p : Pins) : cardTableOk (s.partReset p) := by
  simp only [State.partReset]
  refine foldl_induction (fun t st h => (cardTableOk_congr (ci_of_rest (t.letIn_rest st) (by decide))).mpr h) _ ?_
  split
  · exact (cardTableOk_congr (ci_of_rest (State.takeNotice_rest _ _) (by decide))).mpr (restart_cardTableOk ..)
  · exact restart_cardTableOk ..

/-- A reset makes the card table right; a response sent that is no RESET PART's leaves it alone. -/
theorem exec_cardTableOk_of_resets {i : Instr} {s : State} (hr : resets i = true) (h : cardTableOk s) :
    leadsTo cardTableOk (exec i s) := by
  cases i with
  | powerOnReset pins => exact leadsTo_next.mpr (restart_cardTableOk ..)
  | responseSent st pins =>
    change leadsTo _ (execResponseSent st pins s)
    simp only [execResponseSent]
    split
    · split
      · exact leadsTo_next.mpr h
      · rw [leadsTo_next]
        split
        · exact partReset_cardTableOk ..
        · exact (cardTableOk_congr (ci_of_rest (p := .sp) (by simp) (by decide))).mpr h
    all_goals exact leadsTo_next.mpr h
  | _ => cases hr

theorem exec_cardTableOk {i : Instr} {s t : State} (h : cardTableOk s) (e : exec i s = .next t) : cardTableOk t := by
  by_cases hp : partOf i = .ci
  · exact (exec_cardTableOk_of_ci hp h).elim e
  · cases hr : resets i with
    | true => exact (exec_cardTableOk_of_resets hr h).elim e
    | false => exact (cardTableOk_congr (exec_ci_of_part hp hr e)).mpr h

/-! ## One step -/

/-- What every command keeps, of a property that the queue and the messages on their way have no part in, every step keeps. -/
theorem step_keeps {P : State → Prop} (hq : ∀ s q, P s → P { s with pending := q })
    (hw : ∀ s n, P s → P (s.takeWire n)) (he : ∀ i s t, P s → exec i s = .next t → P t) {s t : State} (h : P s)
    (hs : step s = .next t) : P t := by
  unfold step at hs
  split at hs
  next c rest _ => exact he c _ t (hq s rest h) hs
  · unfold State.deliver at hs
    split at hs
    next w _ => exact he w.msg _ t (hw s _ h) hs
    · cases hs; exact h

/-- Settles O53: the rule is an invariant of `step`, by `exec_cardTableOk`. -/
theorem cardTableIsKept : Obligations.CardTableIsKept :=
  fun _ _ h hs => step_keeps (fun _ _ h => h) (fun _ _ h => h) (fun _ _ _ h e => exec_cardTableOk h e) h hs

end Sys2Proof.Machine
end


section
/-! SUPPORT. What each command of the Card Interface does (Section 1): one lemma per case of a command, all of them stated with
`BayBecomes`, and the statements about insertion, listing, reading rights, bursts, removal and release put together from them. -/

namespace Sys2Proof.Machine

/-! ## What storing a bay's entry and sending messages does -/

theorem leadsTo.imp {P Q : State → Prop} {r : Result} (h : leadsTo P r) (hPQ : ∀ t, P t → Q t) : leadsTo Q r := by
  obtain ⟨t, e, ht⟩ := h
  exact ⟨t, e, hPQ t ht⟩

/-- Bay `b`'s entry becomes `e`, every other bay is as it was, the next attempt number is `n`, the messages `w` have been
sent, and nothing else of the state has changed. -/
structure BayBecomes (b : Bay) (e : BayEntry) (n : Nat) (w : List Wire) (s t : State) : Prop where
  bay : t.bay b = e
  others : otherBays b s t
  token : t.token = n
  frame : onlyCi s t
  wire : t.wire = s.wire ++ w

theorem State.cardIn_of_taken {s : State} {b : Bay} (wp : Bool) (h : (s.bay b).state ≠ .empty) : s.cardIn b wp = s :=
  if_pos h

theorem onlyCi.pins_eq {s t : State} (h : onlyCi s t) : t.pins = s.pins := by
  rw [onlyCi] at h
  rw [h]

theorem bayReport_of_view {s : State} {b : Bay} {e : BayEntry} (h : e.view = (s.bay b).view) : bayReport s b e = [] :=
  if_pos h

theorem bayReport_of_view_ne {s : State} {b : Bay} {e : BayEntry} (h : e.view ≠ (s.bay b).view) :
    bayReport s b e = [⟨.ci, .ods, .bayViewReport b e.view⟩] :=
  if_neg h

theorem view_ne_of_state {e x : BayEntry} (h : e.state ≠ x.state) : e.view ≠ x.view :=
  fun hv => h (congrArg BayView.state hv)

theorem view_ne_of_reader {e x : BayEntry} (h : e.reader.isSome ≠ x.reader.isSome) : e.view ≠ x.view :=
  fun hv => h (congrArg BayView.reading hv)

section
variable {s t : State} {b : Bay} {e : BayEntry} {n : Nat} {w : List Wire}

theorem bayBecomes_setBay : BayBecomes b e s.token (bayReport s b e) s (s.setBay b e) where
  bay := by simp
  others := fun x hx => State.setBay_other s b x e hx
  token := by simp
  frame := onlyCi_of_rest (s.setBay_rest b e)
  wire := State.setBay_wire s b e

theorem bayBecomes_tick_setBay : BayBecomes b e (s.token + 1) (bayReport s b e) s (s.tick.setBay b e) where
  bay := by simp
  others := fun x hx => State.setBay_other s.tick b x e hx
  token := by simp
  frame := onlyCi_of_rest (by simp)
  wire := State.setBay_wire s.tick b e

theorem BayBecomes.send (h : BayBecomes b e n w s t) (src dst : Node) (m : Instr) :
    BayBecomes b e n (w ++ [⟨src, dst, m⟩]) s (t.send src dst [m]) where
  bay := by simp [h.bay]
  others := fun x hx => by simp [h.others x hx]
  token := h.token
  frame := by have := h.frame; unfold onlyCi at *; rw [this]; rfl
  wire := by simp [h.wire]

/-- What was sent before counts as sent by the whole. -/
theorem BayBecomes.after_wire {v : List Wire} (h : BayBecomes b e n w { s with wire := s.wire ++ v } t) :
    BayBecomes b e n (v ++ w) s t where
  bay := h.bay
  others := h.others
  token := h.token
  frame := h.frame
  wire := by simp [h.wire]

theorem BayBecomes.of_wire (h : BayBecomes b e n w s t) {w' : List Wire} (hw : w = w') : BayBecomes b e n w' s t := hw ▸ h

/-- The frame of a command that uses no attempt number and follows the pins. -/
theorem BayBecomes.frame_of_token {u : State} (h : BayBecomes b e s.token w u t) (hp : t.pins = u.pins)
    (hu : { u with pins := s.pins } = s := by rfl) : t = { s with ci := t.ci, pins := t.pins, wire := t.wire } := by
  have hframe := h.frame
  rw [onlyCi, h.token] at hframe
  rw [hp]
  exact hframe.trans (by rw [← hu])

theorem BayBecomes.wire_nil (h : BayBecomes b e n [] s t) : t.wire = s.wire := by simpa using h.wire

theorem BayBecomes.wire_append {v : List Wire} (h : BayBecomes b e n (v ++ w) s t) : t.wire = s.wire ++ v ++ w := by
  simpa using h.wire

/-- An entry that keeps state, serial and reading flag is stored without a report to the Order Dispatcher (R50). -/
theorem bayBecomes_setBay_of_view (h : e.view = (s.bay b).view) : BayBecomes b e s.token [] s (s.setBay b e) :=
  bayBecomes_setBay.of_wire (bayReport_of_view h)

theorem bayBecomes_tick_setBay_of_view (h : e.view = (s.bay b).view) :
    BayBecomes b e (s.token + 1) [] s (s.tick.setBay b e) :=
  bayBecomes_tick_setBay.of_wire (bayReport_of_view h)

/-- A bay that becomes UNREADABLE (R3 to R6). -/
theorem bayBecomes_unreadable (cause : UnreadCause) {e' : BayEntry}
    (he : e' = { e with state := .unreadable, cause := some cause, listing := none }) :
    BayBecomes b e' s.token (bayReport s b e' ++ [noticeOf .ci (bayNotice .cardUnreadable b e' (fNamed cause.ctorIdx))]) s
      (s.unreadable b e cause) := by
  subst he
  exact bayBecomes_setBay.send .ci .sp _

/-- An insertion event of an EMPTY bay (R2). -/
theorem bayBecomes_cardIn (wp : Bool) (h : (s.bay b).state = .empty) :
    BayBecomes b { state := .listing, wp := wp, ins := s.token, listing := some { phase := .ident, tok := s.token } }
      (s.token + 1)
      [⟨.ci, .ods, .bayViewReport b { state := .listing, serial := none, reading := false }⟩,
        noticeOf .ci { sub := .cardInserted, bay := some b }] s (s.cardIn b wp) := by
  rw [State.cardIn, if_neg (not_not.mpr h)]
  refine (bayBecomes_tick_setBay.of_wire (bayReport_of_view_ne (view_ne_of_state ?_))).send .ci .sp _
  exact fun he => BayState.noConfusion (he.trans h)

end

/-- A command that only sends messages. -/
theorem onlyWire_send (s : State) (src dst : Node) (ms : List Instr) : onlyWire s (s.send src dst ms) := rfl

/-- A command that sends one message and changes nothing. -/
theorem leadsTo_send {s : State} {src dst : Node} {m : Instr} :
    leadsTo (fun t => onlyWire s t ∧ t.wire = s.wire ++ [⟨src, dst, m⟩]) (.next (s.send src dst [m])) :=
  leadsTo_next.mpr ⟨onlyWire_send s src dst [m], State.send_wire s src dst [m]⟩

/-! ## Insertion, identification and header (R1 to R6) -/

section
variable {s : State} {b : Bay} {l : Listing} {tok : Nat}

/-- The state as it is once the pins of a bay show a card (R2). -/
def State.cardShown (s : State) (b : Bay) (wp : Bool) : State :=
  { s with pins := { s.pins with cardDetect := upd s.pins.cardDetect b fun _ => true
                                 writeProt := upd s.pins.writeProt b fun _ => wp } }

theorem exec_cardInserted (s : State) (b : Bay) (wp : Bool) :
    execCardInserted b wp s = .next ((s.cardShown b wp).cardIn b wp) := rfl

theorem cardIdentificationResponse_begins_header (adv capacity : Nat) (hl : (s.bay b).listing = some l)
    (hp : l.phase = .ident) (ht : l.tok = tok) :
    leadsTo (BayBecomes b { s.bay b with
        cls := min adv 7, listing := some { l with phase := .header, tok := s.token, capacity := capacity } } (s.token + 1) [] s)
      (execCardIdentificationResponse b tok adv capacity s) := by
  simp only [execCardIdentificationResponse, hl]
  rw [if_pos ⟨hp, ht⟩, leadsTo_next]
  exact bayBecomes_tick_setBay_of_view rfl

theorem identificationTimeout_unreadable (hl : (s.bay b).listing = some l) (hp : l.phase = .ident) (ht : l.tok = tok)
    {e : BayEntry} (he : e = { s.bay b with state := .unreadable, cause := some .readFailed, listing := none }) :
    leadsTo (BayBecomes b e s.token (bayReport s b e ++ [noticeOf .ci (bayNotice .cardUnreadable b e (u8 4))]) s)
      (execIdentificationTimeout b tok s) := by
  simp only [execIdentificationTimeout, hl]
  rw [if_pos ⟨hp, ht⟩, leadsTo_next]
  exact bayBecomes_unreadable .readFailed he

/-- An answer of an earlier attempt does nothing (assumption 3). -/
theorem identification_of_earlier_attempt (adv capacity : Nat) (hl : (s.bay b).listing = some l) (ht : l.tok ≠ tok) :
    execCardIdentificationResponse b tok adv capacity s = .next s ∧ execIdentificationTimeout b tok s = .next s := by
  have : ¬(l.phase = .ident ∧ l.tok = tok) := fun h => ht h.2
  simp only [execCardIdentificationResponse, execIdentificationTimeout, hl, if_neg this, and_self]

/-- A header read that is rejected, or whose serial is a duplicate, makes the bay UNREADABLE (R3, R4). -/
theorem headerReadComplete_unreadable {bytes : List Byte} (cause : UnreadCause) (hl : (s.bay b).listing = some l)
    (hp : l.phase = .header) (ht : l.tok = tok)
    (hc : readCardHdr l.capacity bytes = none ∧ cause = .headerDamaged ∨
      ∃ h, readCardHdr l.capacity bytes = some h ∧ s.duplicate b h.serial = true ∧ cause = .duplicateCard)
    {e : BayEntry} (he : e = { s.bay b with state := .unreadable, errors := 0, cause := some cause, listing := none }) :
    leadsTo (BayBecomes b e s.token
        (bayReport s b e ++ [noticeOf .ci (bayNotice .cardUnreadable b e (fNamed cause.ctorIdx))]) s)
      (execHeaderReadComplete b tok bytes s) := by
  simp only [execHeaderReadComplete, hl]
  rw [if_neg (not_not.mpr ⟨hp, ht⟩)]
  obtain ⟨hh, rfl⟩ | ⟨h, hh, hd, rfl⟩ := hc
  · simp only [hh, leadsTo_next]
    exact bayBecomes_unreadable _ he
  · simp only [hh, hd, if_true, leadsTo_next]
    exact bayBecomes_unreadable _ he

theorem headerReadComplete_accepted {bytes : List Byte} {h : CardHdr} (hl : (s.bay b).listing = some l)
    (hp : l.phase = .header) (ht : l.tok = tok) (hh : readCardHdr l.capacity bytes = some h)
    (hd : s.duplicate b h.serial = false) {e : BayEntry}
    (he : e = { s.bay b with errors := 0, serial := some h.serial, letter := some h.letter, body := some h.body
                             listing := some { l with phase := .copies, dirFirst := h.dirFirst, dirCount := h.dirCount
                                                      dirSum := h.dirSum } }) :
    leadsTo (BayBecomes b e s.token (bayReport s b e ++ [⟨.ci, .cat, .requiredCopiesQuery b e.ins h.serial⟩]) s)
      (execHeaderReadComplete b tok bytes s) := by
  simp only [execHeaderReadComplete, hl]
  rw [if_neg (not_not.mpr ⟨hp, ht⟩)]
  simp only [hh, hd, Bool.false_eq_true, if_false, leadsTo_next]
  subst he
  exact bayBecomes_setBay.send .ci .cat _

theorem requiredCopiesAnswer_begins_directory {ins : Nat} (highest : Option Nat) (hl : (s.bay b).listing = some l)
    (hp : l.phase = .copies) (hi : (s.bay b).ins = ins) :
    leadsTo (BayBecomes b { s.bay b with
        required := highest.getD (s.bay b).required, listing := some { l with phase := .directory, tok := s.token } }
        (s.token + 1) [] s)
      (execRequiredCopiesAnswer b ins highest s) := by
  simp only [execRequiredCopiesAnswer, hl]
  rw [if_pos ⟨hp, hi⟩, leadsTo_next]
  exact bayBecomes_tick_setBay_of_view rfl

end

/-- Settles O1, clause by clause. -/
theorem cardInsertionAndHeader : Obligations.CardInsertionAndHeader := by
  refine ⟨⟨fun b wp s hs => ?_, fun b wp s hs => ?_, fun b tok adv capacity s l hl hp ht => ?_,
    fun b tok s l hl hp ht => ?_, fun b tok adv capacity s l => identification_of_earlier_attempt adv capacity⟩,
    fun b tok bytes s l h hl hp ht hh hd => ?_, fun b tok bytes s l hl hp ht hh => ?_,
    fun b tok bytes s l h hl hp ht hh hd => ?_, fun b ins highest s l hl hp hi => ?_⟩
  · have h := bayBecomes_cardIn (s := s.cardShown b wp) wp hs
    have hpins : (State.cardIn (s.cardShown b wp) b wp).pins = (s.cardShown b wp).pins := h.frame.pins_eq
    exact ⟨_, exec_cardInserted s b wp, h.bay, h.others, h.token, hpins, h.wire, by rw [hpins]; exact h.frame⟩
  · exact (exec_cardInserted s b wp).trans (by rw [State.cardIn_of_taken (s := s.cardShown b wp) wp hs]; rfl)
  · exact (cardIdentificationResponse_begins_header adv capacity hl hp ht).imp
      fun t h => ⟨h.bay, h.others, h.token, h.wire_nil, h.frame⟩
  · obtain ⟨t, ht, h⟩ := identificationTimeout_unreadable hl hp ht rfl
    exact ⟨t, _, ht, rfl, h.bay, h.others, h.token, h.frame, h.wire_append⟩
  · obtain ⟨t, ht, h⟩ := headerReadComplete_accepted hl hp ht hh hd rfl
    exact ⟨t, _, ht, rfl, h.bay, h.others, h.token, h.frame, h.wire_append⟩
  · obtain ⟨t, ht, h⟩ := headerReadComplete_unreadable .headerDamaged hl hp ht (.inl ⟨hh, rfl⟩) rfl
    exact ⟨t, _, ht, rfl, h.bay, h.others, h.token, h.frame, h.wire_append⟩
  · obtain ⟨t, ht, h⟩ := headerReadComplete_unreadable .duplicateCard hl hp ht (.inr ⟨_, hh, hd, rfl⟩) rfl
    exact ⟨t, _, ht, rfl, h.bay, h.others, h.token, h.frame, h.wire_append⟩
  · exact (requiredCopiesAnswer_begins_directory highest hl hp hi).imp
      fun t h => ⟨h.bay, h.others, h.token, h.wire_nil, h.frame⟩

/-! ## Directory and hand-over (R5, R7, R8) -/

/-- The listing request for an entry of the directory (R7). -/
def requestOf (b : Bay) (e : BayEntry) (d : DirEntry) : Wire :=
  ⟨.ci, .cat, .listingRequest b e.ins (e.serial.getD 0) d.clipNo e.required
    { letter := e.letter.getD 0, reel := d.reel, start := d.start, rate := d.rate, drop := d.drop, frames := d.frames
      dataLen := d.len }⟩

/-- The finding UNLOCKED_CARD of a listed clip, where the card is not write-protected (R8). -/
def unlockedOf (e : BayEntry) (clip : Nat) : List Wire :=
  if e.wp then [] else [⟨.ci, .fl, .occurrence { clip := clip, kind := .unlockedCard, count := 1, span := none, qual := none }⟩]

/-- The state once UNLOCKED_CARD has been filed, where it is (R8). -/
def State.fileUnlocked (s : State) (b : Bay) (clip : Nat) : State :=
  if (s.bay b).wp then s else s.file .ci { clip := clip, kind := .unlockedCard, count := 1, span := none, qual := none }

section
variable {s : State} {b : Bay} {l : Listing} {tok : Nat}

theorem bayBecomes_offerNext_entry {e : BayEntry} {d : DirEntry} (h : l.entries[l.next]? = some d)
    (hv : e.view = (s.bay b).view) :
    BayBecomes b { e with listing := some l } s.token [requestOf b e d] s (s.offerNext b e l) := by
  rw [State.offerNext, h]
  exact (bayBecomes_setBay_of_view (e := { e with listing := some l }) hv).send .ci .cat _

theorem bayBecomes_offerNext_end {e e' : BayEntry} (h : l.entries[l.next]? = none)
    (he : e' = { e with state := .present, listed := true, listing := none }) :
    BayBecomes b e' s.token (bayReport s b e' ++ [noticeOf .ci (bayNotice .cardListed b e' [])]) s (s.offerNext b e l) := by
  rw [State.offerNext, h, ← he]
  exact bayBecomes_setBay.send .ci .sp _

theorem BayBecomes.after_fileUnlocked {e : BayEntry} {n clip : Nat} {w : List Wire} {t : State}
    (h : BayBecomes b e n w (s.fileUnlocked b clip) t) : BayBecomes b e n (unlockedOf (s.bay b) clip ++ w) s t := by
  unfold State.fileUnlocked at h
  unfold unlockedOf
  split at h
  next hw => rw [if_pos hw]; exact h
  next hw => rw [if_neg hw]; exact h.after_wire

theorem State.fileUnlocked_bay (x : Bay) (clip : Nat) : (s.fileUnlocked b clip).bay x = s.bay x := by
  unfold State.fileUnlocked
  split <;> simp

theorem State.fileUnlocked_token (clip : Nat) : (s.fileUnlocked b clip).token = s.token := by
  unfold State.fileUnlocked
  split <;> simp

theorem directoryReadComplete_reads_on (bytes : List Byte) (hl : (s.bay b).listing = some l) (hp : l.phase = .directory)
    (ht : l.tok = tok) (hr : l.reads + 1 < ceilDiv l.dirCount 64) :
    leadsTo (BayBecomes b { s.bay b with errors := 0, listing := some { l with
        got := l.got ++ bytes.take 4096, reads := l.reads + 1, tok := s.token } } (s.token + 1) [] s)
      (execDirectoryReadComplete b tok bytes s) := by
  simp only [execDirectoryReadComplete, hl]
  rw [if_neg (not_not.mpr ⟨hp, ht⟩), if_pos hr, leadsTo_next]
  exact bayBecomes_tick_setBay_of_view rfl

theorem directoryReadComplete_rejected {bytes : List Byte} (hl : (s.bay b).listing = some l) (hp : l.phase = .directory)
    (ht : l.tok = tok) (hr : ¬l.reads + 1 < ceilDiv l.dirCount 64)
    (hd : checkDirectory l.capacity l.dirCount l.dirSum (l.got ++ bytes.take Config.blockBytes) = none) {e : BayEntry}
    (he : e = { s.bay b with
      state := .unreadable, errors := 0, cause := some .directoryDamaged, listing := none }) :
    leadsTo (BayBecomes b e s.token (bayReport s b e ++ [noticeOf .ci (bayNotice .cardUnreadable b e (u8 2))]) s)
      (execDirectoryReadComplete b tok bytes s) := by
  simp only [execDirectoryReadComplete, hl]
  rw [if_neg (not_not.mpr ⟨hp, ht⟩), if_neg hr, hd, leadsTo_next]
  exact bayBecomes_unreadable .directoryDamaged he

/-- An accepted directory fills the clip map and begins the hand-over (R5, R7). -/
theorem directoryReadComplete_accepted {bytes : List Byte} {es : List DirEntry} (hl : (s.bay b).listing = some l)
    (hp : l.phase = .directory) (ht : l.tok = tok) (hr : ¬l.reads + 1 < ceilDiv l.dirCount 64)
    (hd : checkDirectory l.capacity l.dirCount l.dirSum (l.got ++ bytes.take Config.blockBytes) = some es) :
    execDirectoryReadComplete b tok bytes s = .next (s.offerNext b
      { s.bay b with errors := 0, map := es.map fun x => ⟨x.clipNo, x.first, x.count, x.len⟩ }
      { l with phase := .handOver, got := [], reads := l.reads + 1, entries := es, next := 0 }) := by
  simp only [execDirectoryReadComplete, hl]
  rw [if_neg (not_not.mpr ⟨hp, ht⟩), if_neg hr, hd]

/-- A MADE or RELINKED answer goes on with the next entry (R7, R8). -/
theorem listingAnswer_taken {ins clip : Nat} {ans : ListAns} (hl : (s.bay b).listing = some l) (hp : l.phase = .handOver)
    (hi : (s.bay b).ins = ins) (ha : ans = .made clip ∨ ans = .relinked clip) :
    execListingAnswer b ins ans s =
      .next ((s.fileUnlocked b clip).offerNext b (s.bay b) { l with next := l.next + 1 }) := by
  simp only [execListingAnswer, hl]
  rw [if_neg (not_not.mpr ⟨hp, hi⟩)]
  obtain rfl | rfl := ha <;> rfl

theorem listingAnswer_full {ins : Nat} {d : DirEntry} (hl : (s.bay b).listing = some l) (hp : l.phase = .handOver)
    (hi : (s.bay b).ins = ins) (hd : l.entries[l.next]? = some d) {e : BayEntry}
    (he : e = { s.bay b with state := .present, listing := none }) :
    leadsTo (BayBecomes b e s.token
        (bayReport s b e ++ [noticeOf .ci (bayNotice .cardListedPartial b e (u16 d.clipNo))]) s)
      (execListingAnswer b ins .full s) := by
  simp only [execListingAnswer, hl]
  rw [if_neg (not_not.mpr ⟨hp, hi⟩), leadsTo_next, hd, ← he]
  exact bayBecomes_setBay.send .ci .sp _

end

/-- Settles O2, clause by clause. -/
theorem directoryAndHandOver : Obligations.DirectoryAndHandOver := by
  refine ⟨fun b tok bytes s l hl hp ht hr => ?_, fun b tok bytes s l hl hp ht hr hd => ?_,
    fun b tok bytes s l d es hl hp ht hr hd => ?_, fun b tok bytes s l hl hp ht hr hd => ?_,
    fun b ins clip s l d ans hl hp hi hd ha => ?_, fun b ins clip s l ans hl hp hi hn ha => ?_,
    fun b ins s l d hl hp hi hd => ?_⟩
  · exact (directoryReadComplete_reads_on bytes hl hp ht hr).imp
      fun t h => ⟨h.bay, h.others, h.token, h.wire_nil, h.frame⟩
  · obtain ⟨t, ht, h⟩ := directoryReadComplete_rejected hl hp ht hr hd rfl
    exact ⟨t, _, ht, rfl, h.bay, h.others, h.token, h.frame, h.wire_append⟩
  · have h := bayBecomes_offerNext_entry (s := s) (b := b) (d := d)
      (l := { l with phase := .handOver, got := [], reads := l.reads + 1, entries := d :: es, next := 0 })
      (e := { s.bay b with errors := 0, map := (d :: es).map fun x => ⟨x.clipNo, x.first, x.count, x.len⟩ }) rfl rfl
    exact ⟨_, directoryReadComplete_accepted hl hp ht hr hd, h.bay, h.others, h.token, h.frame, h.wire⟩
  · have h := bayBecomes_offerNext_end (s := s) (b := b)
      (l := { l with phase := .handOver, got := [], reads := l.reads + 1, entries := [], next := 0 })
      (e := { s.bay b with errors := 0, map := [] }) rfl rfl
    exact ⟨_, _, directoryReadComplete_accepted hl hp ht hr hd, rfl, h.bay, h.others, h.token, h.frame, h.wire_append⟩
  · have h := (bayBecomes_offerNext_entry (s := s.fileUnlocked b clip) (b := b) (l := { l with next := l.next + 1 })
      (e := s.bay b) hd (by rw [State.fileUnlocked_bay])).after_fileUnlocked
    subst hi
    exact ⟨_, listingAnswer_taken hl hp rfl ha, h.bay, h.others, h.token.trans (State.fileUnlocked_token clip), h.frame,
      h.wire_append⟩
  · have h := (bayBecomes_offerNext_end (s := s.fileUnlocked b clip) (b := b) (l := { l with next := l.next + 1 })
      (e := s.bay b) (List.getElem?_eq_none hn) rfl).after_fileUnlocked
    refine ⟨_, _, listingAnswer_taken hl hp hi ha, rfl, h.bay, h.others, h.token.trans (State.fileUnlocked_token clip),
      h.frame, ?_⟩
    simpa [unlockedOf, bayReport, State.fileUnlocked_bay] using h.wire
  · obtain ⟨t, ht, h⟩ := listingAnswer_full hl hp hi hd rfl
    exact ⟨t, _, ht, rfl, h.bay, h.others, h.token, h.frame, h.wire_append⟩

/-! ## Reading rights (R10, R11) -/

section
variable {s : State} {b : Bay} {ch : Chan} {serial : Serial} {tag : Nat}

theorem claim_of_absent (h : s.bayOf serial = none) :
    leadsTo (fun t => onlyWire s t ∧ t.wire = s.wire ++ [⟨.ci, .cc ch, .claimAnswer ch tag .cardGone⟩])
      (execClaim ch serial tag s) := by
  simp only [execClaim, h]
  exact leadsTo_send

theorem handBack_of_absent (h : s.bayOf serial = none) : execHandBack ch serial s = .next s := by
  simp only [execHandBack, h]

/-- A claim for a card that nobody reads makes its channel the reader; a RELEASED bay raises RETURNED (R10). -/
theorem claim_granted (h : s.bayOf serial = some b) (hr : (s.bay b).reader = none) {e : BayEntry}
    (he : e = { s.bay b with reader := some ch, errors := 0, state := .present
                             tags := upd (s.bay b).tags ch fun _ => tag }) :
    leadsTo (BayBecomes b e s.token
        ([⟨.ci, .ods, .bayViewReport b e.view⟩, ⟨.ci, .cc ch, .claimAnswer ch tag .granted⟩] ++
          if (s.bay b).state = .released then [noticeOf .ci (bayNotice .cardReturned b e (u8 ch.val))] else []) s)
      (execClaim ch serial tag s) := by
  have hview : e.view ≠ (s.bay b).view := view_ne_of_reader (by simp [he, hr])
  have hset : BayBecomes b e s.token
      [⟨.ci, .ods, .bayViewReport b e.view⟩, ⟨.ci, .cc ch, .claimAnswer ch tag .granted⟩] s
      ((s.setBay b e).send .ci (.cc ch) [.claimAnswer ch tag .granted]) :=
    (bayBecomes_setBay.of_wire (bayReport_of_view_ne hview)).send .ci (.cc ch) _
  simp only [execClaim, h, hr, leadsTo_next]
  rw [← he]
  split
  · exact hset.send .ci .sp _
  · exact hset

theorem claim_waits {r : Chan} (h : s.bayOf serial = some b) (hr : (s.bay b).reader = some r) (hch : r ≠ ch)
    (hq : ch ∉ (s.bay b).claims) :
    leadsTo (BayBecomes b { s.bay b with
        claims := (s.bay b).claims ++ [ch], tags := upd (s.bay b).tags ch fun _ => tag } s.token
        [⟨.ci, .cc ch, .claimAnswer ch tag .waiting⟩] s)
      (execClaim ch serial tag s) := by
  simp only [execClaim, h, hr]
  rw [if_neg hch, if_neg hq, leadsTo_next]
  exact (bayBecomes_setBay_of_view (by simp [BayEntry.view, hr])).send .ci (.cc ch) _

theorem handBack_to_nobody (h : s.bayOf serial = some b) (hr : (s.bay b).reader = some ch) (hc : (s.bay b).claims = [])
    {e : BayEntry} (he : e = { s.bay b with reader := none, errors := 0 }) :
    leadsTo (BayBecomes b e s.token [⟨.ci, .ods, .bayViewReport b e.view⟩] s) (execHandBack ch serial s) := by
  simp only [execHandBack, h]
  rw [if_pos hr, hc, leadsTo_next, ← hc, ← he]
  exact bayBecomes_setBay.of_wire (bayReport_of_view_ne (view_ne_of_reader (by simp [he, hr])))

theorem handBack_to_waiting {c : Chan} {cs : List Chan} (h : s.bayOf serial = some b) (hr : (s.bay b).reader = some ch)
    (hc : (s.bay b).claims = c :: cs) :
    leadsTo (BayBecomes b { s.bay b with reader := some c, claims := cs, errors := 0 } s.token
        [⟨.ci, .cc c, .claimAnswer c (s.bay b).tags[c] .granted⟩] s)
      (execHandBack ch serial s) := by
  simp only [execHandBack, h]
  rw [if_pos hr, hc, leadsTo_next]
  exact (bayBecomes_setBay_of_view (by simp [BayEntry.view, hr])).send .ci (.cc c) _

theorem handBack_of_other (h : s.bayOf serial = some b) (hr : (s.bay b).reader ≠ some ch) :
    leadsTo (BayBecomes b { s.bay b with claims := (s.bay b).claims.filter fun c => c ≠ ch } s.token [] s)
      (execHandBack ch serial s) := by
  simp only [execHandBack, h]
  rw [if_neg hr, leadsTo_next]
  exact bayBecomes_setBay_of_view rfl

end

/-- Settles O3, clause by clause. -/
theorem readingRights : Obligations.ReadingRights := by
  refine ⟨fun ch serial tag s h => ?_, fun ch serial tag s b h hr => ?_, fun ch serial tag s b r h hr hch hq => ?_,
    fun ch serial s b h hr hc => ?_, fun ch serial s b c cs h hr hc => ?_, fun ch serial s b h hr => ?_⟩
  · exact (claim_of_absent h).imp fun t ⟨only, wire⟩ => ⟨only, wire, handBack_of_absent h⟩
  · obtain ⟨t, ht, hb⟩ := claim_granted (ch := ch) (tag := tag) h hr rfl
    exact ⟨t, _, ht, rfl, hb.bay, hb.others, hb.token, hb.frame, hb.wire_append⟩
  · exact (claim_waits h hr hch hq).imp fun t hb => ⟨hb.bay, hb.others, hb.token, hb.frame, hb.wire⟩
  · obtain ⟨t, ht, hb⟩ := handBack_to_nobody h hr hc rfl
    exact ⟨t, _, ht, rfl, hb.bay, hb.others, hb.token, hb.frame, hb.wire⟩
  · exact (handBack_to_waiting h hr hc).imp fun t hb => ⟨hb.bay, hb.others, hb.token, hb.frame, hb.wire⟩
  · exact (handBack_of_other h hr).imp fun t hb => ⟨hb.bay, hb.others, hb.token, hb.wire_nil, hb.frame⟩

/-! ## Bursts and the read-error ladder (R12 to R15) -/

/-- Below the limit of the class a failed attempt is tried again (R14). -/
theorem ladder_retry {cls errors : Nat} (h : cls = 0 ∧ errors < 2 ∨ cls ≠ 0 ∧ errors < 1) :
    ladder cls errors = .retry (errors + 1) := by
  unfold ladder
  obtain ⟨hc, he⟩ | ⟨hc, he⟩ := h
  · rw [if_pos hc, if_pos (by omega)]
  · rw [if_neg hc, if_pos (by omega)]

theorem ladder_drop {cls errors : Nat} (hc : cls ≠ 0) (he : 1 ≤ errors) : ladder cls errors = .drop (cls - 1) := by
  rw [ladder, if_neg hc, if_neg (by omega)]

theorem ladder_exhausted {cls errors : Nat} (hc : cls = 0) (he : 2 ≤ errors) : ladder cls errors = .exhausted := by
  rw [ladder, if_pos hc, if_neg (by omega)]

/-- The running attempt, by the fields of the burst context. -/
theorem attempt_of_running {e : BayEntry} {x : Burst} {tok : Nat} (hx : e.burst = some x) (hr : x.running = true)
    (ht : x.tok = tok) : e.attempt tok = some x := by
  simp [BayEntry.attempt, hx, hr, ht]

theorem attempt_eq_none {e : BayEntry} {tok : Nat}
    (h : e.burst = none ∨ ∃ x, e.burst = some x ∧ (x.running = false ∨ x.tok ≠ tok)) : e.attempt tok = none := by
  obtain hx | ⟨x, hx, hr | ht⟩ := h
  · simp [BayEntry.attempt, hx]
  · simp [BayEntry.attempt, hx, hr]
  · simp [BayEntry.attempt, hx, ht]

/-- The last bytes of a burst that is all there are the burst. -/
theorem padTo_take_self {bytes : List Byte} {n : Nat} (h : bytes.length = n) : padTo n (bytes.take n) = bytes := by
  simp [padTo, ← h]

section
variable {s : State} {b : Bay} {tok : Nat}

/-- A lowered transfer class is told to the stations (R14, R15). -/
theorem bayBecomes_tick_dropClass {e : BayEntry} (hv : e.view = (s.bay b).view) :
    BayBecomes b e (s.token + 1) [noticeOf .ci (bayNotice .cardClassDropped b e (u8 e.cls))] s (s.tick.dropClass b e) :=
  (bayBecomes_tick_setBay_of_view hv).send .ci .sp _

section
variable {ch : Chan} {serial : Serial} {clipNo ext burst : Nat} {room : Bool}

theorem burstRequest_taken {m : MapEntry} (h : s.bayOf serial = some b) (hr : (s.bay b).reader = some ch)
    (hm : (s.bay b).map.find? (fun m => m.clipNo = clipNo) = some m) :
    leadsTo (BayBecomes b { s.bay b with
        burst := some { ch := ch, clipNo := clipNo, ext := ext, burst := burst
                        first := m.first + ext * 2048 + burst * 64
                        len := min 262144 (m.len - (ext * 8388608 + burst * 262144)), running := room, tok := s.token } }
        (s.token + 1) [] s)
      (execBurstRequest ch serial clipNo ext burst room s) := by
  simp only [execBurstRequest, h]
  rw [if_neg (not_not.mpr hr), hm, leadsTo_next]
  exact bayBecomes_tick_setBay_of_view rfl

theorem burstRequest_of_other (h : s.bayOf serial = some b) (hr : (s.bay b).reader ≠ some ch) :
    leadsTo (fun t => onlyWire s t ∧ t.wire = s.wire ++ [⟨.ci, .cc ch, .burstAnswer ch .notBound⟩])
      (execBurstRequest ch serial clipNo ext burst room s) := by
  simp only [execBurstRequest, h]
  rw [if_pos hr]
  exact leadsTo_send

theorem burstRequest_of_absent (h : s.bayOf serial = none) :
    leadsTo (fun t => onlyWire s t ∧ t.wire = s.wire ++ [⟨.ci, .cc ch, .burstAnswer ch .cardGone⟩])
      (execBurstRequest ch serial clipNo ext burst room s) := by
  simp only [execBurstRequest, h]
  exact leadsTo_send

theorem burstRequest_of_unmapped (h : s.bayOf serial = some b) (hr : (s.bay b).reader = some ch)
    (hm : ∀ m ∈ (s.bay b).map, m.clipNo ≠ clipNo) :
    leadsTo (fun t => onlyWire s t ∧ t.wire = s.wire ++ [⟨.ci, .cc ch, .burstAnswer ch .notBound⟩])
      (execBurstRequest ch serial clipNo ext burst room s) := by
  have hf : (s.bay b).map.find? (fun m => m.clipNo = clipNo) = none := List.find?_eq_none.mpr (by simpa using hm)
  simp only [execBurstRequest, h]
  rw [if_neg (not_not.mpr hr), hf]
  exact leadsTo_send

theorem burstGrantReport_starts {x : Burst} (h : s.bayOf serial = some b) (hx : (s.bay b).burst = some x) (hc : x.ch = ch)
    (hr : x.running = false) :
    leadsTo (BayBecomes b { s.bay b with burst := some { x with running := true, tok := s.token } } (s.token + 1) [] s)
      (execBurstGrantReport ch serial s) := by
  simp only [execBurstGrantReport, h, hx]
  rw [if_pos ⟨hc, hr⟩, leadsTo_next]
  exact bayBecomes_tick_setBay_of_view rfl

/-- A grant where no PAUSED burst of the channel is does nothing (R12). -/
theorem burstGrantReport_of_none (h : s.bayOf serial = none ∨ ∃ b, s.bayOf serial = some b ∧ ((s.bay b).burst = none ∨
      ∃ x, (s.bay b).burst = some x ∧ (x.ch ≠ ch ∨ x.running = true))) :
    execBurstGrantReport ch serial s = .next s := by
  obtain h | ⟨b, h, hx | ⟨x, hx, hp⟩⟩ := h
  · simp only [execBurstGrantReport, h]
  · simp only [execBurstGrantReport, h, hx]
  · simp only [execBurstGrantReport, h, hx]
    exact if_neg fun ⟨hc, hr⟩ => by simp [hc, hr] at hp

end

theorem burstCompletion_done {bytes : List Byte} {x : Burst} (hx : (s.bay b).burst = some x) (hr : x.running = true)
    (ht : x.tok = tok) (hb : bytes.length = x.len) :
    leadsTo (BayBecomes b { s.bay b with burst := none, errors := 0 } s.token
        [⟨.ci, .cc x.ch, .burstAnswer x.ch (.done bytes)⟩] s)
      (execBurstCompletion b tok bytes s) := by
  simp only [execBurstCompletion, attempt_of_running hx hr ht, padTo_take_self hb, leadsTo_next]
  exact (bayBecomes_setBay_of_view (e := { s.bay b with burst := none, errors := 0 }) rfl).send .ci (.cc x.ch) _

/-- A completion, an error or a time-out of another attempt, or of none, does nothing (R12, R14). -/
theorem burst_of_other_attempt (bytes : List Byte)
    (h : (s.bay b).burst = none ∨ ∃ x, (s.bay b).burst = some x ∧ (x.running = false ∨ x.tok ≠ tok)) :
    ∀ c ∈ [Instr.burstCompletion b tok bytes, .burstMediaError b tok, .burstTimeout b tok], exec c s = .next s := by
  have failed : s.burstFailed b tok = s := by simp only [State.burstFailed, attempt_eq_none h]
  have completion : execBurstCompletion b tok bytes s = .next s := by
    simp only [execBurstCompletion, attempt_eq_none h]
  simp only [List.forall_mem_cons, List.not_mem_nil, false_implies, implies_true, and_true]
  exact ⟨completion, congrArg Host.Outcome.next failed, congrArg Host.Outcome.next failed⟩

/-- A media error and a time-out are failed attempts alike (R14). -/
theorem exec_burst_failure {c : Instr} (hc : c = .burstMediaError b tok ∨ c = .burstTimeout b tok) :
    exec c s = .next (s.burstFailed b tok) := by
  obtain rfl | rfl := hc <;> rfl

section
variable {x : Burst} (hx : (s.bay b).burst = some x) (hr : x.running = true) (ht : x.tok = tok)
include hx hr ht

theorem burstFailed_retry
    (h : (s.bay b).cls = 0 ∧ (s.bay b).errors < 2 ∨ (s.bay b).cls ≠ 0 ∧ (s.bay b).errors < 1) :
    BayBecomes b { s.bay b with errors := (s.bay b).errors + 1, burst := some { x with tok := s.token } } (s.token + 1) [] s
      (s.burstFailed b tok) := by
  simp only [State.burstFailed, attempt_of_running hx hr ht, ladder_retry h]
  exact bayBecomes_tick_setBay_of_view rfl

theorem burstFailed_drop (hc : (s.bay b).cls ≠ 0) (he : 1 ≤ (s.bay b).errors) {e : BayEntry}
    (h : e = { s.bay b with cls := (s.bay b).cls - 1, errors := 0, burst := some { x with tok := s.token } }) :
    BayBecomes b e (s.token + 1) [noticeOf .ci (bayNotice .cardClassDropped b e (u8 e.cls))] s (s.burstFailed b tok) := by
  subst h
  simp only [State.burstFailed, attempt_of_running hx hr ht, ladder_drop hc he]
  exact bayBecomes_tick_dropClass rfl

theorem burstFailed_exhausted (hc : (s.bay b).cls = 0) (he : 2 ≤ (s.bay b).errors) :
    BayBecomes b { s.bay b with burst := none, errors := 0 } s.token [⟨.ci, .cc x.ch, .burstAnswer x.ch .readError⟩] s
      (s.burstFailed b tok) := by
  simp only [State.burstFailed, attempt_of_running hx hr ht, ladder_exhausted hc he]
  exact (bayBecomes_setBay_of_view (e := { s.bay b with burst := none, errors := 0 }) rfl).send .ci (.cc x.ch) _

end

section
variable {l : Listing} (hl : (s.bay b).listing = some l) (hp : l.phase = .header ∨ l.phase = .directory) (ht : l.tok = tok)
include hl hp ht

theorem listingReadFailed_retry
    (h : (s.bay b).cls = 0 ∧ (s.bay b).errors < 2 ∨ (s.bay b).cls ≠ 0 ∧ (s.bay b).errors < 1) :
    leadsTo (BayBecomes b { s.bay b with errors := (s.bay b).errors + 1, listing := some { l with tok := s.token } }
      (s.token + 1) [] s) (execListingReadFailed b tok s) := by
  simp only [execListingReadFailed, hl]
  rw [if_neg (not_not.mpr ⟨hp, ht⟩), ladder_retry h, leadsTo_next]
  exact bayBecomes_tick_setBay_of_view rfl

theorem listingReadFailed_drop (hc : (s.bay b).cls ≠ 0) (he : 1 ≤ (s.bay b).errors) {e : BayEntry}
    (h : e = { s.bay b with cls := (s.bay b).cls - 1, errors := 0, listing := some { l with tok := s.token } }) :
    leadsTo (BayBecomes b e (s.token + 1) [noticeOf .ci (bayNotice .cardClassDropped b e (u8 e.cls))] s)
      (execListingReadFailed b tok s) := by
  subst h
  simp only [execListingReadFailed, hl]
  rw [if_neg (not_not.mpr ⟨hp, ht⟩), ladder_drop hc he, leadsTo_next]
  exact bayBecomes_tick_dropClass rfl

theorem listingReadFailed_exhausted (hc : (s.bay b).cls = 0) (he : 2 ≤ (s.bay b).errors) {e : BayEntry}
    (h : e = { s.bay b with state := .unreadable, errors := 0, cause := some .readFailed, listing := none }) :
    leadsTo (BayBecomes b e s.token (bayReport s b e ++ [noticeOf .ci (bayNotice .cardUnreadable b e (u8 4))]) s)
      (execListingReadFailed b tok s) := by
  simp only [execListingReadFailed, hl]
  rw [if_neg (not_not.mpr ⟨hp, ht⟩), ladder_exhausted hc he, leadsTo_next]
  exact bayBecomes_unreadable .readFailed h

end
end

/-- Settles O4, clause by clause. -/
theorem burstsAndReadErrors : Obligations.BurstsAndReadErrors := by
  refine ⟨⟨⟨fun ch serial clipNo ext burst room s b m h hr hm => ?_,
      fun ch serial clipNo ext burst room s b h hr => burstRequest_of_other h hr,
      fun ch serial clipNo ext burst room s h => burstRequest_of_absent h,
      fun ch serial s b x h hx hc hr => ?_, fun b tok bytes s x hx hr ht hb => ?_,
      fun b tok bytes s x hx h => burst_of_other_attempt bytes (.inr ⟨x, hx, h⟩) _ (by simp)⟩,
    fun b tok s x c hx hr ht hc h => ?_, fun b tok s x c hx hr ht hc hcls he => ?_,
    fun b tok s x c hx hr ht hc hcls he => ?_, fun b tok s l hl hp ht h => ?_, fun b tok s l hl hp ht hcls he => ?_,
    fun b tok s l hl hp ht hcls he => ?_⟩,
    fun ch serial clipNo ext burst room s b h hr hm => burstRequest_of_unmapped h hr hm,
    fun b tok bytes s h => burst_of_other_attempt bytes h, fun ch serial s h => burstGrantReport_of_none h⟩
  · exact (burstRequest_taken h hr hm).imp fun t hb => ⟨hb.bay, hb.others, hb.token, hb.wire_nil, hb.frame⟩
  · exact (burstGrantReport_starts h hx hc hr).imp fun t hb => ⟨hb.bay, hb.others, hb.token, hb.wire_nil, hb.frame⟩
  · exact (burstCompletion_done hx hr ht hb).imp fun t hb => ⟨hb.bay, hb.others, hb.token, hb.frame, hb.wire⟩
  · have hb := burstFailed_retry hx hr ht h
    exact ⟨_, exec_burst_failure hc, hb.bay, hb.others, hb.token, hb.wire_nil, hb.frame⟩
  · have hb := burstFailed_drop hx hr ht hcls he rfl
    exact ⟨_, _, exec_burst_failure hc, rfl, hb.bay, hb.others, hb.token, hb.frame, hb.wire⟩
  · have hb := burstFailed_exhausted hx hr ht hcls he
    exact ⟨_, exec_burst_failure hc, hb.bay, hb.others, hb.token, hb.frame, hb.wire⟩
  · exact (listingReadFailed_retry hl hp ht h).imp fun t hb => ⟨hb.bay, hb.others, hb.token, hb.wire_nil, hb.frame⟩
  · obtain ⟨t, ht, hb⟩ := listingReadFailed_drop hl hp ht hcls he rfl
    exact ⟨t, _, ht, rfl, hb.bay, hb.others, hb.token, hb.frame, hb.wire⟩
  · obtain ⟨t, ht, hb⟩ := listingReadFailed_exhausted hl hp ht hcls he rfl
    exact ⟨t, _, ht, rfl, hb.bay, hb.others, hb.token, hb.frame, hb.wire_append⟩

/-! ## Removal (R16 to R18) -/

/-- The state as it is once the pins of a bay show no card (R16). -/
def State.cardHidden (s : State) (b : Bay) : State :=
  { s with pins := { s.pins with cardDetect := upd s.pins.cardDetect b fun _ => false } }

/-- The CARD_GONE answers to the channels that read a card or wait for it: the reader, the burst, the claim queue (R16,
R17). -/
def goneAnswers (e : BayEntry) : List Wire :=
  (match e.reader with
    | some r => [⟨.ci, .cc r, .claimAnswer r e.tags[r] .cardGone⟩]
    | none => []) ++
  (match e.burst with
    | some x => [⟨.ci, .cc x.ch, .burstAnswer x.ch .cardGone⟩]
    | none => []) ++
  e.claims.map fun c => ⟨.ci, .cc c, .claimAnswer c e.tags[c] .cardGone⟩

/-- What the Order Dispatcher and the stations are told of a card that has been removed (R16, R50). -/
def removalReport (b : Bay) (e : BayEntry) : List Wire :=
  [⟨.ci, .ods, .bayViewReport b { state := .empty, serial := none, reading := false }⟩,
    noticeOf .ci (bayNotice .cardRemoved b e (u8 (e.state.ctorIdx + 1)))]

section
variable {s : State} {b : Bay}

theorem cardRemoved_from_empty (h : (s.bay b).state = .empty) : execCardRemoved b s = .next (s.cardHidden b) :=
  if_pos h

theorem bayBecomes_removed {u : State} {v : List Wire} (h : (s.bay b).state ≠ .empty) (hu : u = { s with wire := s.wire ++ v }) :
    BayBecomes b {} s.token (v ++ removalReport b (s.bay b)) s
      ((u.setBay b {}).send .ci .sp [.noticeTaken (bayNotice .cardRemoved b (s.bay b) (fNamed (s.bay b).state.ctorIdx))]) := by
  subst hu
  exact ((bayBecomes_setBay.of_wire (bayReport_of_view_ne (view_ne_of_state h.symm))).send .ci .sp _).after_wire

/-- A card removed from a bay that is being listed, or could not be read, empties the bay (R16, R18). -/
theorem cardRemoved_unread (h : (s.bay b).state = .listing ∨ (s.bay b).state = .unreadable) :
    leadsTo (BayBecomes b {} s.token (removalReport b (s.bay b)) (s.cardHidden b)) (execCardRemoved b s) := by
  have hne : ((s.cardHidden b).bay b).state ≠ .empty := by
    change (s.bay b).state ≠ .empty; obtain h | h := h <;> simp [h]
  have hread : ¬(((s.cardHidden b).bay b).state = .present ∨ ((s.cardHidden b).bay b).state = .released) := by
    change ¬((s.bay b).state = .present ∨ (s.bay b).state = .released); obtain h | h := h <;> simp [h]
  simp only [execCardRemoved]
  rw [← State.cardHidden, if_neg hne, if_neg hread, leadsTo_next]
  exact bayBecomes_removed (v := []) hne (by simp)

/-- A card removed from a PRESENT or RELEASED bay empties it and is told to the channels that use it (R16, R17). -/
theorem cardRemoved_read (h : (s.bay b).state = .present ∨ (s.bay b).state = .released) :
    leadsTo (BayBecomes b {} s.token (goneAnswers (s.bay b) ++ removalReport b (s.bay b)) (s.cardHidden b))
      (execCardRemoved b s) := by
  have hne : ((s.cardHidden b).bay b).state ≠ .empty := by
    change (s.bay b).state ≠ .empty; obtain h | h := h <;> simp [h]
  have hread : ((s.cardHidden b).bay b).state = .present ∨ ((s.cardHidden b).bay b).state = .released := h
  simp only [execCardRemoved]
  rw [← State.cardHidden, if_neg hne, if_pos hread, State.answerClaims_eq, leadsTo_next]
  refine bayBecomes_removed hne ?_
  change _ = { s.cardHidden b with wire := (s.cardHidden b).wire ++ goneAnswers ((s.cardHidden b).bay b) }
  unfold goneAnswers
  cases ((s.cardHidden b).bay b).reader <;> cases ((s.cardHidden b).bay b).burst <;> simp [State.send]

end

/-! ## Release (R19 to R21) -/

section
variable {s : State} {b : Bay} {q : Req}

theorem bayBecomes_release (forced : Bool) (h : (s.bay b).state = .present) {e : BayEntry}
    (he : e = { s.bay b with state := .released }) :
    BayBecomes b e s.token [⟨.ci, .ods, .bayViewReport b e.view⟩, acceptOf .ci q [],
      noticeOf .ci (bayNotice .cardReleased b e (fFlag forced))] s (s.release q b forced) := by
  subst he
  exact ((bayBecomes_setBay.of_wire (bayReport_of_view_ne (view_ne_of_state (by simp [h])))).send .ci .sp _).send .ci .sp _

theorem releaseCard_asks (hs : (s.bay b).state = .present) (hl : (s.bay b).listed = true) (hr : (s.bay b).reader = none) :
    leadsTo (fun t => onlyWire s t ∧
        t.wire = s.wire ++ [⟨.ci, .cat, .releaseTest q b (s.bay b).ins ((s.bay b).serial.getD 0)⟩])
      (execReleaseCard q b.val s) := by
  simp only [execReleaseCard, ix?_val, hs, hl, hr]
  exact leadsTo_send

/-- Why RELEASE CARD is refused by the bay itself (R19, R20). -/
def BayEntry.releaseRefusal (e : BayEntry) : Option Reason :=
  match e.state with
  | .released => some .already
  | .empty | .listing | .unreadable => some .noCard
  | .present => if e.listed = false then some .listingIncomplete else if e.reader.isSome then some .cardBusy else none

theorem releaseCard_refused {why : Reason} (h : (s.bay b).releaseRefusal = some why) :
    leadsTo (fun t => onlyWire s t ∧ t.wire = s.wire ++ [refuseStateOf .ci q why]) (execReleaseCard q b.val s) := by
  simp only [execReleaseCard, ix?_val]
  unfold BayEntry.releaseRefusal at h
  cases hs : (s.bay b).state with
  | released | empty | listing | unreadable =>
    simp only [hs, Option.some.injEq] at h
    subst h
    exact leadsTo_send
  | present =>
    simp only [hs] at h ⊢
    split at h
    next hl =>
      cases h
      rw [if_pos (by simp [hl])]
      exact leadsTo_send
    next hl =>
      split at h
      next hr =>
        cases h
        rw [if_neg (by simpa using hl), if_pos hr]
        exact leadsTo_send
      · cases h

theorem unreleasable_of_present (hs : (s.bay b).state = .present) (hr : (s.bay b).reader = none) :
    (s.bay b).unreleasable = none := by
  simp [BayEntry.unreleasable, hs, hr]

theorem releaseTestAnswer_passed {ins : Nat} (hi : (s.bay b).ins = ins) (hs : (s.bay b).state = .present)
    (hr : (s.bay b).reader = none) : execReleaseTestAnswer q b ins .passed s = .next (s.release q b false) := by
  simp only [execReleaseTestAnswer]
  rw [if_neg (not_not.mpr hi), unreleasable_of_present hs hr]

theorem releaseTestAnswer_fails {ins clip : Nat} {why : Reason} (hi : (s.bay b).ins = ins)
    (hs : (s.bay b).state = .present) (hr : (s.bay b).reader = none) :
    leadsTo (fun t => onlyWire s t ∧ t.wire = s.wire ++ [answerOf .ci q (.refused .state (some why) (u16 clip))])
      (execReleaseTestAnswer q b ins (.fails clip why) s) := by
  simp only [execReleaseTestAnswer]
  rw [if_neg (not_not.mpr hi), unreleasable_of_present hs hr]
  exact leadsTo_send

/-- An answer about another insertion is refused NO_CARD (assumption 16). -/
theorem releaseTestAnswer_of_other_card {ins : Nat} (ans : ReleaseAns) (hi : (s.bay b).ins ≠ ins) :
    leadsTo (fun t => onlyWire s t ∧ t.wire = s.wire ++ [refuseStateOf .ci q .noCard])
      (execReleaseTestAnswer q b ins ans s) := by
  simp only [execReleaseTestAnswer]
  rw [if_pos hi]
  exact leadsTo_send

/-- The bay is tested again when the Catalog's answer comes (R19, R20). -/
theorem releaseTestAnswer_refused {ins : Nat} {why : Reason} (ans : ReleaseAns) (hi : (s.bay b).ins = ins)
    (h : (s.bay b).unreleasable = some why) :
    leadsTo (fun t => onlyWire s t ∧ t.wire = s.wire ++ [refuseStateOf .ci q why])
      (execReleaseTestAnswer q b ins ans s) := by
  simp only [execReleaseTestAnswer]
  rw [if_neg (not_not.mpr hi), h]
  exact leadsTo_send

theorem forceRelease_released (hs : (s.bay b).state = .present) (hr : (s.bay b).reader = none) :
    execForceRelease q b.val s = .next (s.release q b true) := by
  simp only [execForceRelease, ix?_val, unreleasable_of_present hs hr]

theorem forceRelease_refused {why : Reason} (h : (s.bay b).unreleasable = some why) :
    leadsTo (fun t => onlyWire s t ∧ t.wire = s.wire ++ [refuseStateOf .ci q why]) (execForceRelease q b.val s) := by
  simp only [execForceRelease, ix?_val, h]
  exact leadsTo_send

/-- A number that names no bay is refused VALUE. -/
theorem release_of_no_bay {bay : Nat} (h : 6 ≤ bay) : ∀ c ∈ [Instr.releaseCard q bay, .forceRelease q bay],
    leadsTo (fun t => onlyWire s t ∧ t.wire = s.wire ++ [refuseOf .ci q .value]) (exec c s) := by
  have hix : ix? 6 bay = none := ix?_none.mpr h
  simp only [List.forall_mem_cons, List.not_mem_nil, false_implies, implies_true, and_true]
  constructor
  · change leadsTo _ (execReleaseCard q bay s)
    simp only [execReleaseCard, hix]
    exact leadsTo_send
  · change leadsTo _ (execForceRelease q bay s)
    simp only [execForceRelease, hix]
    exact leadsTo_send

end

/-! ## The Catalog's release test (R19) -/

/-- A record does not stand in the way of its card's release (R19). -/
def releasableClip (c : Clip) : Prop := c.state = .verified ∧ c.blocking = 0 ∧ c.overflow = false

/-- Why a record stands in the way of its card's release: the first of the three conditions that fails (R19). -/
def holdReason (c : Clip) : Reason :=
  if c.state ≠ .verified then .clipNotVerified else if c.blocking ≠ 0 then .clipBlocked else .overflowHold

theorem releaseFailure_cons_of_releasable {c : Clip} {cs : List Clip} (h : releasableClip c) :
    releaseFailure (c :: cs) = releaseFailure cs := by
  obtain ⟨hs, hb, ho⟩ := h
  simp [releaseFailure, hs, hb, ho]

theorem releaseFailure_cons_of_held {c : Clip} {cs : List Clip} (h : ¬releasableClip c) :
    releaseFailure (c :: cs) = .fails c.id (holdReason c) := by
  unfold releaseFailure holdReason
  by_cases hs : c.state = .verified
  · by_cases hb : c.blocking = 0
    · have ho : c.overflow = true := by
        by_contra ho
        exact h ⟨hs, hb, by simpa using ho⟩
      simp [hs, hb, ho]
    · simp [hs, hb, Nat.pos_of_ne_zero hb]
  · simp [hs]

/-- The test is passed when no record of the serial stands in the way. -/
theorem releaseFailure_eq_passed_iff {cs : List Clip} : releaseFailure cs = .passed ↔ ∀ c ∈ cs, releasableClip c := by
  induction cs with
  | nil => simp [releaseFailure]
  | cons c cs ih =>
    by_cases h : releasableClip c
    · rw [releaseFailure_cons_of_releasable h, ih]
      simp [h]
    · rw [releaseFailure_cons_of_held h]
      simp [h]

/-- It fails with the first record that stands in the way, in ascending clip id. -/
theorem releaseFailure_eq_fails {cs : List Clip} {c : Clip} (hcs : cs.Pairwise fun x y => x.id < y.id) (hc : c ∈ cs)
    (h : ¬releasableClip c) (hfirst : ∀ x ∈ cs, x.id < c.id → releasableClip x) :
    releaseFailure cs = .fails c.id (holdReason c) := by
  induction cs with
  | nil => cases hc
  | cons y ys ih =>
    obtain ⟨hy, hys⟩ := List.pairwise_cons.mp hcs
    obtain rfl | hc := List.mem_cons.mp hc
    · exact releaseFailure_cons_of_held h
    · rw [releaseFailure_cons_of_releasable (hfirst y List.mem_cons_self (hy c hc))]
      exact ih hys hc fun x hx => hfirst x (List.mem_cons_of_mem y hx)

theorem mem_clipsOf {s : State} {serial : Serial} {c : Clip} : c ∈ s.clipsOf serial ↔ c ∈ s.cat.clips ∧ c.serial = serial := by
  simp [State.clipsOf]

/-- The records of a serial stand in ascending order of their ids (R23). -/
theorem clipsOf_pairwise {s : State} (h : catalogOk s) (serial : Serial) :
    (s.clipsOf serial).Pairwise fun x y => x.id < y.id :=
  (List.pairwise_map.mp h.1).filter _

/-- Settles O5, clause by clause. -/
theorem cardRemovalAndRelease : Obligations.CardRemovalAndRelease := by
  refine ⟨⟨⟨fun b s h => ?_, fun b s h => ?_, fun b s h => cardRemoved_from_empty h⟩,
    fun q b s hs hl hr => releaseCard_asks hs hl hr, fun q b s r hr why hw => releaseCard_refused (hr.symm.trans hw),
    fun q b ins s hi hs hr => ?_, fun q b ins s clip why hi hs hr => releaseTestAnswer_fails hi hs hr,
    fun q b ins s ans hi hs hr => releaseTestAnswer_refused ans hi (by simp [BayEntry.unreleasable, hs, hr]),
    fun q b s hs hr => ?_, fun q b s why h => forceRelease_refused ?_⟩,
    fun q b ins serial s hs => ?_, fun q b ins s ans why h => ?_, fun q bay s h => release_of_no_bay h⟩
  · obtain ⟨t, ht, h⟩ := cardRemoved_unread h
    have hpins := h.frame.pins_eq
    exact ⟨t, ht, h.bay, h.others, h.token, h.frame_of_token hpins, hpins, h.wire⟩
  · obtain ⟨t, ht, h⟩ := cardRemoved_read h
    have hpins := h.frame.pins_eq
    refine ⟨t, ht, h.bay, h.others, h.token, h.frame_of_token hpins, hpins, ?_⟩
    rw [h.wire]
    simp only [goneAnswers, List.append_assoc]
    rfl
  · have h := bayBecomes_release (q := q) false hs rfl
    exact ⟨_, _, releaseTestAnswer_passed hi hs hr, rfl, h.bay, h.others, h.token, h.frame, h.wire⟩
  · have h := bayBecomes_release (q := q) true hs rfl
    exact ⟨_, _, forceRelease_released hs hr, rfl, h.bay, h.others, h.token, h.frame, h.wire⟩
  · rw [← h]
    rfl
  · refine ⟨_, _, rfl, rfl, State.send_wire .., ?_, fun c hc hn hw hfirst => ?_⟩
    · rw [releaseFailure_eq_passed_iff]
      simp only [mem_clipsOf, and_imp, releasableClip]
    · exact releaseFailure_eq_fails (clipsOf_pairwise hs serial) (mem_clipsOf.mpr ⟨hc, hn⟩) hw
        fun x hx => hfirst x (mem_clipsOf.mp hx).1 (mem_clipsOf.mp hx).2
  · obtain ⟨hi, rfl⟩ | ⟨hi, hs, rfl⟩ | ⟨hi, hs, rfl⟩ := h
    · exact releaseTestAnswer_of_other_card ans hi
    · exact releaseTestAnswer_refused ans hi (by simp [BayEntry.unreleasable, hs])
    · exact releaseTestAnswer_refused ans hi (by obtain hs | hs | hs := hs <;> simp [BayEntry.unreleasable, hs])

end Sys2Proof.Machine
end


section
/-! SUPPORT. Queries and reads between blocks change nothing and are answered with the values as they stand. -/

namespace Sys2Proof.Machine

/-! ## Queries that are answered -/

/-- A query answered with an acceptance changes nothing. -/
theorem answers_of_accept {c : Instr} {s : State} {src : Node} {q : Req} {vals : List Field}
    (h : exec c s = .next (s.accept src q vals)) : answers c s src q vals :=
  ⟨_, h, onlyWire_send .., State.send_wire ..⟩

section
variable (q : Req) (s : State)

theorem queryBay_answers (b : Bay) : answers (.queryBay q b.val) s .ci q (bayValues (s.bay b)) :=
  answers_of_accept (by change execQueryBay _ _ _ = _; simp only [execQueryBay, ix?_val]; rfl)

theorem listOrders_answers : answers (.listOrders q) s .ods q (orderListValues s.ods) :=
  answers_of_accept rfl

theorem queryChannel_answers (ch : Chan) : answers (.queryChannel q ch.val) s (.cc ch) q (channelValues s ch (s.chan ch)) :=
  answers_of_accept (by change execQueryChannel _ _ _ = _; simp only [execQueryChannel, ix?_val]; rfl)

theorem queryStore_answers : answers (.queryStore q) s .sts q (storeValues s.sts) := by
  have free (b : Buffer) : b.pend.isEmpty = decide (b.pend = []) := by rw [Bool.eq_iff_iff]; simp
  have waits (ch : Chan) : (s.sts.waits.any fun w => w.ch = ch) = decide (∃ w ∈ s.sts.waits, w.ch = ch) := by
    rw [Bool.eq_iff_iff]; simp
  refine answers_of_accept ?_
  change execQueryStore _ _ = _
  simp only [execQueryStore, storeValues, free, waits, ne_eq, decide_not, Bool.decide_and]

theorem queryPort_answers (p : Port) : answers (.queryPort q p.val) s (.dp p) q (portValues (s.port p)) :=
  answers_of_accept (by change execQueryPort _ _ _ = _; simp only [execQueryPort, ix?_val]; rfl)

theorem queryPool_answers : answers (.queryPool q) s .pp q (poolValues s) := answers_of_accept rfl

theorem queryInspector_answers : answers (.queryInspector q) s .ins q (inspectorValues s.ins s.ins.reader) := by
  have engine : fNamed (if s.ins.engine.isSome then 1 else 0) = u8 (if s.ins.engine = none then 1 else 2) := by
    cases s.ins.engine <;> rfl
  have checking (c : Continuity) : fNamed (if c.checking then 1 else 0) = u8 (if c.checking then 2 else 1) := by
    cases c.checking <;> rfl
  refine answers_of_accept ?_
  change execQueryInspector _ _ = _
  simp only [execQueryInspector, engine, checking]
  rfl

theorem queryClasses_answers : answers (.queryClasses q) s .fl q (s.fl.classes.toList.flatMap fun c => fPlace c.ctorIdx) :=
  answers_of_accept rfl

theorem queryLook_answers (i : LookIx) : answers (.queryLook q i.val) s .lb q (lookValues s.lb i (s.look i)) :=
  answers_of_accept (by change execQueryLook _ _ _ = _; simp only [execQueryLook, ix?_val]; rfl)

theorem queryBank_answers : answers (.queryBank q) s .lb q (bankValues s.lb) := answers_of_accept rfl

theorem queryOutput_answers (k : Outp) : answers (.queryOutput q k.val) s .ro q (outputValues s (s.out k)) :=
  answers_of_accept (by change execQueryOutput _ _ _ = _; simp only [execQueryOutput, ix?_val]; rfl)

end

/-! ## Queries that are refused (R208) -/

/-- A request refused with a code changes nothing. -/
theorem refused_of_refuse {c : Instr} {s : State} {src : Node} {q : Req} {code : Code}
    (h : exec c s = .next (s.refuse src q code)) :
    ∃ t, exec c s = .next t ∧ onlyWire s t ∧ t.wire = s.wire ++ [refuseOf src q code] :=
  ⟨_, h, onlyWire_send .., State.send_wire ..⟩

theorem classOf_eq_none {n : Nat} (h : n < 1 ∨ 3 < n) : classOf n = none :=
  List.find?_eq_none.mpr fun k _ => by
    have hk : k.ctorIdx < 3 := by cases k <;> decide
    simp only [decide_eq_true_eq]
    omega

theorem classOf_eq_some {n : Nat} (h1 : 1 ≤ n) (h3 : n ≤ 3) : ∃ m, classOf n = some m ∧ m.rank + 1 = n := by
  obtain rfl | rfl | rfl : n = 1 ∨ n = 2 ∨ n = 3 := by omega
  · exact ⟨.advisory, rfl, rfl⟩
  · exact ⟨.warning, rfl, rfl⟩
  · exact ⟨.blocking, rfl, rfl⟩

section
variable {q : Req} {s : State}

/-- A selector of LIST FINDINGS that is out of its set is refused VALUE (R171, assumption 74). -/
theorem listFindings_value {n cls first : Nat} {clip : Option Nat} {states : List Nat}
    (h : clip = some n ∧ 1024 ≤ n ∨ n ∈ states ∧ (n < 1 ∨ 3 < n) ∨ cls = n ∧ (n < 1 ∨ 3 < n)) :
    exec (.listFindings q clip states cls first) s = .next (s.refuse .fl q .value) := by
  have selectors (hb : (clip.all (fun c => decide (c < Config.clipRecords)) &&
      states.all fun n => decide (1 ≤ n) && decide (n ≤ 3)) = false) :
      exec (.listFindings q clip states cls first) s = .next (s.refuse .fl q .value) := by
    change execListFindings _ _ _ _ _ _ = _
    simp only [execListFindings, hb]
  obtain ⟨rfl, hn⟩ | ⟨hn, hout⟩ | ⟨rfl, hout⟩ := h
  · exact selectors (by simp [hn])
  · refine selectors (Bool.and_eq_false_iff.mpr (.inr (List.all_eq_false.mpr ⟨n, hn, ?_⟩)))
    simp; omega
  · change execListFindings _ _ _ _ _ _ = _
    simp only [execListFindings, classOf_eq_none hout]
    generalize (clip.all _ && states.all _) = ok
    cases ok <;> rfl

theorem listFindings_answers {cls first : Nat} {clip : Option Nat} {states : List Nat} (hclip : ∀ c, clip = some c → c < 1024)
    (hstates : ∀ n ∈ states, 1 ≤ n ∧ n ≤ 3) (h1 : 1 ≤ cls) (h3 : cls ≤ 3) :
    answers (.listFindings q clip states cls first) s .fl q
      (findingListValues s.fl (s.fl.list.filter (selected clip states cls)) first) := by
  obtain ⟨m, hm, hrank⟩ := classOf_eq_some h1 h3
  have hb : (clip.all (fun c => decide (c < Config.clipRecords)) && states.all fun n => decide (1 ≤ n) && decide (n ≤ 3)) =
      true := by
    simp only [Bool.and_eq_true, Option.all_eq_true, List.all_eq_true, decide_eq_true_eq]
    exact ⟨fun c hc => hclip c hc, hstates⟩
  have hpass (f : Finding) : (clip.all (fun c => decide (f.clip = c)) &&
      (states.isEmpty || decide (f.state.ctorIdx + 1 ∈ states)) && decide (m.rank ≤ f.cls.rank)) =
        selected clip states cls f := by
    have hcls : decide (m.rank ≤ f.cls.rank) = decide (cls ≤ f.cls.ctorIdx + 1) :=
      decide_eq_decide.mpr (by rw [← hrank]; exact Nat.add_le_add_iff_right.symm)
    rw [hcls, selected, List.contains_eq_mem]
  refine answers_of_accept ?_
  change execListFindings _ _ _ _ _ _ = _
  simp only [execListFindings, hb, hm, hpass]
  rfl

/-- A number out of range is refused VALUE. -/
theorem query_value {n : Nat} {serial : Serial} {r : Instr} {src : Node}
    (h : 6 ≤ n ∧ r = Instr.queryBay q n ∧ src = Node.ci ∨ 1024 ≤ n ∧ r = .queryClip q n ∧ src = .cat ∨
      (n < 1 ∨ 999 < n) ∧ r = .findClip q serial n ∧ src = .cat ∨ 3 ≤ n ∧ r = .queryChannel q n ∧ src = .cc 0 ∨
      4 ≤ n ∧ r = .queryPort q n ∧ src = .dp 0 ∨ 4 ≤ n ∧ (∃ first, r = .queryIndex q n first) ∧ src = .dp 0 ∨
      256 ≤ n ∧ r = .querySites q n ∧ src = .ins ∨ 32 ≤ n ∧ r = .queryLook q n ∧ src = .lb ∨
      4 ≤ n ∧ r = .queryOutput q n ∧ src = .ro ∨
      (∃ clip states cls first, r = .listFindings q clip states cls first ∧
        (clip = some n ∧ 1024 ≤ n ∨ n ∈ states ∧ (n < 1 ∨ 3 < n) ∨ cls = n ∧ (n < 1 ∨ 3 < n))) ∧ src = .fl) :
    exec r s = .next (s.refuse src q .value) := by
  obtain ⟨h, rfl, rfl⟩ | ⟨h, rfl, rfl⟩ | ⟨h, rfl, rfl⟩ | ⟨h, rfl, rfl⟩ | ⟨h, rfl, rfl⟩ | ⟨h, ⟨first, rfl⟩, rfl⟩ |
    ⟨h, rfl, rfl⟩ | ⟨h, rfl, rfl⟩ | ⟨h, rfl, rfl⟩ | ⟨⟨clip, states, cls, first, rfl, h⟩, rfl⟩ := h
  · change execQueryBay _ _ _ = _
    simp only [execQueryBay, ix?_none.mpr h]
  · exact if_pos h
  · exact if_pos h
  · change execQueryChannel _ _ _ = _
    simp only [execQueryChannel, ix?_none.mpr h]
  · change execQueryPort _ _ _ = _
    simp only [execQueryPort, ix?_none.mpr h]
  · change execQueryIndex _ _ _ _ = _
    simp only [execQueryIndex, ix?_none.mpr h]
  · exact if_pos h
  · change execQueryLook _ _ _ = _
    simp only [execQueryLook, ix?_none.mpr h]
  · change execQueryOutput _ _ _ = _
    simp only [execQueryOutput, ix?_none.mpr h]
  · exact listFindings_value h

/-- What is not there is answered NOT_FOUND. -/
theorem query_notFound {n : Nat} {serial : Serial} {p : Port} {first : Nat} {r : Instr} {src : Node}
    (h : n < 1024 ∧ s.clip? n = none ∧ r = Instr.queryClip q n ∧ src = Node.cat ∨
      s.clipsOf serial = [] ∧ r = .listCard q serial ∧ src = .cat ∨
      1 ≤ n ∧ n ≤ 999 ∧ s.clipOf serial n = none ∧ r = .findClip q serial n ∧ src = .cat ∨
      s.ods.seen n = none ∧ r = .queryOrder q n ∧ src = .ods ∨
      (s.port p).vol = none ∧ r = .queryIndex q p.val first ∧ src = .dp p ∨
      s.fl.find? n = none ∧ r = .queryFinding q n ∧ src = .fl) :
    exec r s = .next (s.refuse src q .notFound) := by
  obtain ⟨hn, h, rfl, rfl⟩ | ⟨h, rfl, rfl⟩ | ⟨h1, h9, h, rfl, rfl⟩ | ⟨h, rfl, rfl⟩ | ⟨h, rfl, rfl⟩ | ⟨h, rfl, rfl⟩ := h
  · change execQueryClip _ _ _ = _
    simp only [execQueryClip]
    rw [if_neg (by simpa using hn), h]
  · change execListCard _ _ _ = _
    simp only [execListCard, h]
    rfl
  · change execFindClip _ _ _ _ = _
    simp only [execFindClip]
    rw [if_neg (by omega), h]
  · change execQueryOrder _ _ _ = _
    simp only [execQueryOrder, h]
  · change execQueryIndex _ _ _ _ = _
    simp only [execQueryIndex, ix?_val]
    rw [if_pos h]
  · change execQueryFinding _ _ _ = _
    simp only [execQueryFinding, h]

/-! ## Queries of what is there -/

theorem queryClip_answers {n : Nat} {c : Clip} (hn : n < 1024) (h : s.clip? n = some c) :
    answers (.queryClip q n) s .cat q (clipValues c) := by
  refine answers_of_accept ?_
  change execQueryClip _ _ _ = _
  simp only [execQueryClip]
  rw [if_neg (by simpa using hn), h]
  rfl

theorem listCard_answers {serial : Serial} (h : s.clipsOf serial ≠ []) :
    answers (.listCard q serial) s .cat q (fList cardClipValues (s.clipsOf serial)) := by
  refine answers_of_accept ?_
  change execListCard _ _ _ = _
  simp only [execListCard]
  rw [if_neg (by simpa using h)]
  rfl

theorem findClip_answers {n : Nat} {serial : Serial} {c : Clip} (h1 : 1 ≤ n) (h9 : n ≤ 999)
    (h : s.clipOf serial n = some c) : answers (.findClip q serial n) s .cat q (u16 c.id) := by
  refine answers_of_accept ?_
  change execFindClip _ _ _ _ = _
  simp only [execFindClip]
  rw [if_neg (by omega), h]

theorem queryOrder_answers {n : Nat} {o : Order} (h : s.ods.seen n = some o) :
    answers (.queryOrder q n) s .ods q (orderValues o) := by
  refine answers_of_accept ?_
  change execQueryOrder _ _ _ = _
  simp only [execQueryOrder, h]
  rfl

theorem queryIndex_answers {p : Port} {first : Nat} (h : (s.port p).vol ≠ none) :
    answers (.queryIndex q p.val first) s (.dp p) q (indexValues (s.port p).index first) := by
  refine answers_of_accept ?_
  change execQueryIndex _ _ _ _ = _
  simp only [execQueryIndex, ix?_val]
  rw [if_neg h]
  rfl

theorem querySites_answers {n : Nat} (h : n < 256) :
    answers (.querySites q n) s .ins q (siteValues s.ins.sites n) :=
  answers_of_accept (if_neg (by omega))

theorem queryFinding_answers {n : Nat} {f : Finding} (h : s.fl.find? n = some f) :
    answers (.queryFinding q n) s .fl q (findingValues f ++ u16 (s.fl.list.findIdx fun x => x.id = n)) := by
  refine answers_of_accept ?_
  change execQueryFinding _ _ _ = _
  simp only [execQueryFinding, h]
  rfl

end

/-! ## QUERY STATION, which its own block answers (R214) -/

/-- Marking a request ready changes its entry alone, in the station that sent it (R208). -/
theorem markReady_becomes (s : State) (q : Req) (a : Answer) (reset : Bool) :
    stationBecomes q.st { s.station q.st with responses := (s.station q.st).responses.map fun e =>
      if e.rid = q.rid ∧ e.admitted = true ∧ e.answer = none then { e with answer := some a, reset := reset } else e } s
      (s.markReady q a reset) :=
  ⟨State.setStation_station .., fun _ hx => State.setStation_other _ _ _ _ hx, rfl, rfl, rfl⟩

theorem markReady_wire (s : State) (q : Req) (a : Answer) (reset : Bool) : (s.markReady q a reset).wire = s.wire := rfl

/-- The answer of QUERY STATION. -/
def stationAnswer (s : State) (n : Nat) : Answer :=
  match ix? 4 n with
  | none => .refused .value none []
  | some st => .accepted false (stationValues (s.station st) s.sp.seq)

theorem queryStation_eq (q : Req) (n : Nat) (s : State) :
    exec (.queryStation q n) s = .next (s.markReady q (stationAnswer s n) false) := by
  change execQueryStation _ _ _ = _
  simp only [execQueryStation, stationAnswer]
  cases ix? 4 n <;> rfl

/-! ## Reads between blocks -/

theorem foundCopySearch_of_unready {s : State} {p : Port} (serial : Serial) (clipNo dataLen : Nat)
    (hr : (s.port p).state ≠ .ready) (hs : (s.port p).state ≠ .soaking) (hd : (s.port p).state ≠ .detaching) :
    exec (.foundCopySearch p serial clipNo dataLen) s = .next s :=
  if_neg (by simp [hr, hs, hd])

/-- The offers of the found copies of a record, one for each entry of the index that names it and has its sums (R97). -/
theorem foundCopySearch_offers {s : State} {p : Port} {vol : Serial} (serial : Serial) (clipNo dataLen : Nat)
    (hv : (s.port p).vol = some vol)
    (hs : (s.port p).state = .ready ∨ (s.port p).state = .soaking ∨ (s.port p).state = .detaching) :
    exec (.foundCopySearch p serial clipNo dataLen) s = .next { s with
      wire := s.wire ++ ((s.port p).index.filter fun e =>
        e.serial = serial ∧ e.clipNo = clipNo ∧ e.len = dataLen).flatMap fun e =>
        match e.sums with
        | some sums => [⟨.dp p, .cat, .foundOffer p vol e.hb e.serial e.clipNo e.len sums⟩]
        | none => [] } := by
  have offer (e : IndexEntry) : (foundOfferOf p vol e).map (fun m => (⟨.dp p, .cat, m⟩ : Wire)) =
      match e.sums with
      | some sums => [⟨.dp p, .cat, .foundOffer p vol e.hb e.serial e.clipNo e.len sums⟩]
      | none => [] := by
    unfold foundOfferOf
    cases e.sums <;> rfl
  change execFoundCopySearch _ _ _ _ _ = _
  simp only [execFoundCopySearch]
  rw [if_pos hs, hv]
  simp only [State.send, List.map_flatMap, Option.getD_some, offer]

/-- One block's question to another is answered with what stands when it is taken, and changes nothing. -/
theorem read_answered {s : State} {r : Instr} {src dst : Node} {a : Instr} (h : exec r s = .next (s.send src dst [a])) :
    exec r s = .next { s with wire := s.wire ++ [⟨src, dst, a⟩] } := h

theorem purgeReaderQuery_eq (q : Req) (serial : Serial) (clips : List Nat) (s : State) :
    exec (.purgeReaderQuery q serial clips) s = .next (s.send .ins .cat [.purgeReaderAnswer q serial
      (decide (s.ins.reader.state ≠ .idle ∧ ∃ c ∈ clips, s.ins.reader.clip = some c))]) := by
  have holds : (decide (s.ins.reader.state ≠ .idle) && s.ins.reader.clip.any fun c => decide (c ∈ clips)) =
      decide (s.ins.reader.state ≠ .idle ∧ ∃ c ∈ clips, s.ins.reader.clip = some c) := by
    rw [Bool.eq_iff_iff]
    cases s.ins.reader.clip <;> simp
  change execPurgeReaderQuery _ _ _ _ = _
  simp only [execPurgeReaderQuery, holds]

theorem purgeBayQuery_eq (q : Req) (serial : Serial) (s : State) :
    exec (.purgeBayQuery q serial) s = .next (s.send .ci .cat [.purgeBayAnswer q serial
      (decide (∃ b, (s.bay b).serial = some serial))]) := by
  have held : ((List.finRange 6).any fun b => decide ((s.bay b).serial = some serial)) =
      decide (∃ b, (s.bay b).serial = some serial) := by
    rw [Bool.eq_iff_iff]; simp
  change execPurgeBayQuery _ _ _ = _
  simp only [execPurgeBayQuery, held]

/-- Settles O48: the queries, then the questions of one block to another. -/
theorem queriesAndReads : Obligations.QueriesAndReads := by
  refine ⟨⟨⟨fun q s => ?_, fun q n serial s r src h => refused_of_refuse (query_value h),
      fun q n serial p first s r src h => refused_of_refuse (query_notFound h),
      fun q n s c hn h => queryClip_answers hn h, fun q serial s h => listCard_answers h,
      fun q n s o h => queryOrder_answers h, fun q p first s h => queryIndex_answers h,
      fun q n s h => querySites_answers h, fun q n s f h => queryFinding_answers h,
      fun q clip states cls first s hclip hstates h1 h3 => listFindings_answers hclip hstates h1 h3,
      fun q n serial s c h1 h9 h => findClip_answers h1 h9 h, fun q n s x hx => ?_⟩,
    fun s p serial clipNo dataLen hr hs hd => foundCopySearch_of_unready serial clipNo dataLen hr hs hd,
    fun s p serial clipNo dataLen c vol hc hv hs => ?_, fun s r src dst a h => ?_⟩,
    fun s clip order ch pass tok q k => ?_⟩
  · exact ⟨queryBay_answers q s, listOrders_answers q s, queryChannel_answers q s, queryStore_answers q s,
      queryPort_answers q s, queryPool_answers q s, queryInspector_answers q s, queryClasses_answers q s,
      queryLook_answers q s, queryBank_answers q s, queryOutput_answers q s⟩
  · subst hx
    refine ⟨_, _, queryStation_eq q n s, markReady_wire .., fun hn => ?_, fun st hst => ?_, markReady_becomes ..⟩
    · rw [stationAnswer, ix?_none.mpr hn]
    · rw [stationAnswer, hst, ix?_val]
  · subst hc
    exact foundCopySearch_offers serial clipNo dataLen hv hs
  · apply read_answered
    obtain ⟨b, ins, serial, rfl, rfl, rfl, rfl⟩ | ⟨ch, clip, order, rfl, rfl, rfl, rfl⟩ | ⟨q, serial, rfl, rfl, rfl, rfl⟩ |
      ⟨q, b, ins, serial, rfl, rfl, rfl, rfl⟩ | ⟨who, clip, rfl, rfl, ha⟩ | ⟨letter, job, rfl, rfl, rfl, rfl⟩ |
      ⟨outs, rfl, rfl, rfl, rfl⟩ | ⟨q, clip, serial, made, slot, rfl, rfl, rfl, rfl⟩ |
      ⟨q, serial, clips, rfl, rfl, rfl, rfl⟩ | ⟨q, serial, rfl, rfl, rfl, rfl⟩ |
      ⟨who, p, vol, yes, rfl, rfl, rfl, ⟨ix, rfl, rfl, rfl⟩ | ⟨k, ix, rfl, rfl, rfl⟩⟩ := h
    · rfl
    · rfl
    · rfl
    · rfl
    · obtain ⟨rfl, rfl⟩ := Prod.mk.inj ha
      rfl
    · rfl
    · rfl
    · rfl
    · exact purgeReaderQuery_eq ..
    · exact purgeBayQuery_eq ..
    · rfl
    · rfl
  · simp only [List.forall_mem_cons, List.not_mem_nil, false_implies, implies_true, and_true]
    exact ⟨rfl, rfl, rfl, rfl, rfl, rfl, rfl, rfl, rfl, rfl⟩

end Sys2Proof.Machine
end


section
/-! SUPPORT. What the part holds right after reset, block by block, and the kept rules there. -/

namespace Sys2Proof.Machine

/-! ## The reset state, block by block -/

section
open State (reset)

theorem reset_bay (b : Bay) : reset.bay b = {} := CardInterface.reset_bay reset rfl b

theorem reset_chan (ch : Chan) : reset.chan ch = {} := by
  simp [State.chan, reset, Channels.reset]

theorem reset_port (p : Port) : reset.port p = {} := by
  simp [State.port, reset, Ports.reset]

theorem reset_out (k : Outp) : reset.out k = {} := by
  simp [State.out, reset, Renderer.reset]

theorem reset_clock (g : Grp) : reset.clock g = {} := by
  simp [State.clock, reset, Renderer.reset]

theorem reset_station (st : Stn) : reset.station st = {} := by
  simp [State.station, reset, StationPorts.reset]

theorem reset_look (i : LookIx) : reset.look i =
    { active := identityLook, pending := none, pendingName := none, holder := none, version := 0, name := [] } := by
  simp [State.look, reset, LookBank.reset]

/-! ## The kept rules hold right after reset -/

theorem reset_cardTableOk : cardTableOk reset := cardTableOk_of_reset rfl

theorem reset_catalogOk : catalogOk reset := by
  simp [catalogOk, reset, Catalog.reset]

theorem reset_lookBankOk : lookBankOk reset := by
  have hfill : reset.lb.fill = none := rfl
  simp [lookBankOk, reset_look, hfill, lookSlotOk, lookOk, identityLook]

theorem reset_queueOk : queueOk reset := by
  have hchans (ch : Chan) : reset.ods.chans[ch] = none := by simp [reset, Dispatcher.reset]
  simp [queueOk, hchans]
  simp [reset, Dispatcher.reset]

theorem reset_channelsOk : channelsOk reset := by
  have hwatches : reset.cc.watches = [] := rfl
  simp [channelsOk, reset_chan, hwatches, channelOk]

theorem reset_stationsOk : stationsOk reset := by
  have hseq : reset.sp.seq = 0 := rfl
  simp [stationsOk, reset_station, hseq, stationOk]

theorem reset_stagingOk : stagingOk reset := by
  have hbufs : reset.sts.bufs = [] := rfl
  simp [stagingOk, Staging.held, hbufs]

theorem reset_poolOk : poolOk reset := by
  have hslots : reset.pp.slots = [] := rfl
  simp [poolOk, hslots]

theorem reset_faultListOk : faultListOk reset := by
  have hlist : reset.fl = .reset := rfl
  simp [faultListOk, hlist, FaultList.reset, FaultList.lastSent, FaultList.blocking]

theorem reset_portsOk : portsOk reset := fun p => by
  simp [reset_port, portOk]

theorem reset_outputsOk : outputsOk reset := fun k => by
  simp [reset_out, outputOk]

end

/-- Settles O52: the values block by block, then the kept rules. -/
theorem resetState : Obligations.ResetState := by
  refine ⟨fun b => ?_, rfl, rfl, rfl, fun ch => ?_, rfl, fun p => ?_, rfl, rfl, rfl, rfl, fun i => ?_, rfl, fun k => ?_,
    reset_clock, fun st => ?_, rfl, rfl, rfl, rfl, rfl, rfl, rfl, rfl, rfl, reset_cardTableOk, reset_catalogOk,
    reset_lookBankOk, reset_queueOk, reset_channelsOk, reset_stationsOk, reset_stagingOk, reset_poolOk, reset_faultListOk,
    reset_portsOk, reset_outputsOk⟩
  · simp only [reset_bay, and_self]
  · simp only [reset_chan, and_self]
  · simp only [reset_port, and_self]
  · simp only [reset_look, and_self]
  · simp only [reset_out, and_self]
  · simp only [reset_station]

end Sys2Proof.Machine
end


section
/-! SUPPORT. What the operations of the Order Dispatcher do (Section 3): each is the state with a new dispatcher record and some
messages more on their way. -/

namespace Sys2Proof.Machine

/-! ## What a command of the Order Dispatcher changes -/

/-- The state with `d` as its Order Dispatcher and the messages `w` sent after those on their way. -/
def State.withOds (s : State) (d : Dispatcher) (w : List Wire) : State := { s with ods := d, wire := s.wire ++ w }

@[simp] theorem State.withOds_ods (s : State) (d : Dispatcher) (w : List Wire) : (s.withOds d w).ods = d := rfl

@[simp] theorem State.withOds_wire (s : State) (d : Dispatcher) (w : List Wire) : (s.withOds d w).wire = s.wire ++ w := rfl

theorem onlyOds_withOds (s : State) (d : Dispatcher) (w : List Wire) : onlyOds s (s.withOds d w) := rfl

theorem State.ods_eq_withOds (s : State) (d : Dispatcher) : { s with ods := d } = s.withOds d [] := by
  simp only [State.withOds, List.append_nil]

/-- One message sent by the state with a new dispatcher record is one message more. -/
@[simp] theorem State.withOds_send (s : State) (d : Dispatcher) (w : List Wire) (src dst : Node) (m : Instr) :
    (s.withOds d w).send src dst [m] = s.withOds d (w ++ [⟨src, dst, m⟩]) := by
  simp only [State.withOds, State.send, List.map_cons, List.map_nil, List.append_assoc]

@[simp] theorem State.withOds_withOds (s : State) (d e : Dispatcher) (w v : List Wire) :
    (s.withOds d w).withOds e v = s.withOds e (w ++ v) := by
  simp only [State.withOds, List.append_assoc]

/-- A command whose outcome is the state with a new dispatcher record and some messages more. -/
theorem next_withOds {r : Result} {s : State} {d : Dispatcher} {w : List Wire} (h : r = .next (s.withOds d w)) :
    ∃ t, r = .next t ∧ onlyOds s t ∧ t.ods = d ∧ t.wire = s.wire ++ w :=
  ⟨_, h, rfl, rfl, rfl⟩

/-- A command that goes on with `f` from the state with a new dispatcher record and some messages more. -/
theorem next_of_withOds {r : Result} {s : State} {f : State → State} {d : Dispatcher} {w : List Wire}
    (h : r = .next (f (s.withOds d w))) :
    ∃ u, r = .next (f u) ∧ onlyOds s u ∧ u.ods = d ∧ u.wire = s.wire ++ w :=
  ⟨_, h, rfl, rfl, rfl⟩

/-! ## The order queue -/

theorem State.setOrder_eq (s : State) (o : Order) :
    s.setOrder o = s.withOds { s.ods with orders := s.ods.orders.map fun x => if x.id = o.id then o else x } [] :=
  s.ods_eq_withOds _

theorem State.dropOrder_eq (s : State) (id : Nat) :
    s.dropOrder id = s.withOds { s.ods with orders := s.ods.orders.filter fun x => x.id ≠ id } [] :=
  s.ods_eq_withOds _

/-- A notice about an order is made from the bay view alone (3.11). -/
theorem State.orderNotice_congr {s t : State} (h : t.ods.bays = s.ods.bays) (sub : NoticeSub) (o : Order)
    (fields : List Field) :
    t.orderNotice sub o fields = s.orderNotice sub o fields := by
  simp only [State.orderNotice, Dispatcher.bayOf, h]

theorem Dispatcher.id_of_seen {d : Dispatcher} {id : Nat} {o : Order} (h : d.seen id = some o) : o.id = id := by
  have := List.find?_some h
  simp only [Bool.and_eq_true, decide_eq_true_eq] at this
  exact this.1

theorem Dispatcher.id_of_reserved {d : Dispatcher} {id : Nat} {o : Order}
    (h : d.orders.find? (fun o => o.id = id && o.state = .reserved) = some o) : o.id = id := by
  have := List.find?_some h
  simp only [Bool.and_eq_true, decide_eq_true_eq] at this
  exact this.1

end Sys2Proof.Machine
end


section
/-! SUPPORT. Posting orders (R46 to R49): the fresh id, the destination set, and what each command of posting does. -/

namespace Sys2Proof.Machine

/-! ## The fresh order id (R46) -/

/-- Among more distinct values than a list has places there is a first one the list does not hold. -/
theorem exists_first_not_mem {f : Nat → Nat} {used : List Nat}
    (hf : ∀ i ≤ used.length, ∀ j ≤ used.length, f i = f j → i = j) :
    ∃ i ≤ used.length, f i ∉ used ∧ ∀ j < i, f j ∈ used := by
  have some_free : ∃ i, i ≤ used.length ∧ f i ∉ used := by
    by_contra hall
    push Not at hall
    have hnodup : ((List.range (used.length + 1)).map f).Nodup :=
      List.Nodup.map_on (fun i hi j hj => hf i (Nat.lt_succ_iff.mp (List.mem_range.mp hi)) j
        (Nat.lt_succ_iff.mp (List.mem_range.mp hj))) List.nodup_range
    have hsub : (List.range (used.length + 1)).map f ⊆ used := by
      intro n hn
      obtain ⟨i, hi, rfl⟩ := List.mem_map.mp hn
      exact hall i (Nat.lt_succ_iff.mp (List.mem_range.mp hi))
    have hlen := (hnodup.subperm hsub).length_le
    rw [List.length_map, List.length_range] at hlen
    omega
  classical
  obtain ⟨hi, hfree⟩ := Nat.find_spec some_free
  refine ⟨Nat.find some_free, hi, hfree, fun j hj => ?_⟩
  by_contra hn
  exact Nat.find_min some_free hj ⟨by omega, hn⟩

/-- The ids in use: those of the queue and those of the orders that await their unbind. -/
def Dispatcher.usedIds (d : Dispatcher) : List Nat := d.orders.map (·.id) ++ d.leaving.map (·.order.id)

theorem Dispatcher.freshId_eq_find (d : Dispatcher) :
    d.freshId = (((List.range (d.usedIds.length + 1)).map fun i => (d.counter + i) % 65536).find? fun n =>
      n ∉ d.usedIds).getD d.counter := rfl

/-- The fresh id is the first from the counter on that is not in use. -/
theorem Dispatcher.freshId_eq {d : Dispatcher} {i : Nat} (hi : i ≤ d.usedIds.length)
    (hfree : (d.counter + i) % 65536 ∉ d.usedIds) (hfirst : ∀ j < i, (d.counter + j) % 65536 ∈ d.usedIds) :
    d.freshId = (d.counter + i) % 65536 := by
  rw [Dispatcher.freshId_eq_find, List.find?_map, (List.find?_range_eq_some (i := i)).mpr, Option.map_some, Option.getD_some]
  exact ⟨by simpa using hfree, List.mem_range.mpr (by omega), fun j hj => by simpa using hfirst j hj⟩

theorem Dispatcher.mem_usedIds {d : Dispatcher} {n : Nat} :
    n ∈ d.usedIds ↔ (∃ o ∈ d.orders, o.id = n) ∨ ∃ l ∈ d.leaving, l.order.id = n := by
  simp only [Dispatcher.usedIds, List.mem_append, List.mem_map]

theorem Dispatcher.freshId_first_free {d : Dispatcher} (hn : d.orders.length + d.leaving.length < 65536) :
    ∃ i, d.freshId = (d.counter + i) % 65536 ∧ d.freshId ∉ d.usedIds ∧
      ∀ j < i, (d.counter + j) % 65536 ∈ d.usedIds := by
  have hlen : d.usedIds.length < 65536 := by simpa [Dispatcher.usedIds] using hn
  obtain ⟨i, hi, hfree, hfirst⟩ := exists_first_not_mem (used := d.usedIds) (f := fun i => (d.counter + i) % 65536)
    (fun i hi j hj h => by omega)
  have heq := Dispatcher.freshId_eq hi hfree hfirst
  exact ⟨i, heq, heq ▸ hfree, hfirst⟩

/-! ## The destination set (R47) -/

theorem mapM_ix_val {k : Nat} (ps : List (Fin k)) : (ps.map (·.val)).mapM (ix? k) = some ps := by
  induction ps with
  | nil => rfl
  | cons p ps ih => simp only [List.map_cons, List.mapM_cons, ih, ix?_val]; rfl

theorem mapM_ix_none {k n : Nat} {l : List Nat} (hn : n ∈ l) (hk : k ≤ n) : l.mapM (ix? k) = none := by
  induction l with
  | nil => cases hn
  | cons m l ih =>
    rw [List.mapM_cons]
    obtain rfl | hn := List.mem_cons.mp hn
    · rw [ix?_none.mpr hk]; rfl
    · rw [ih hn]
      cases ix? k m <;> rfl

theorem portSet_ports {ps : List Port} (h1 : 1 ≤ ps.length) (h3 : ps.length ≤ 3) (hps : ps.Nodup) :
    portSet (ps.map (·.val)) = some ps := by
  have hnodup : (ps.map (·.val)).Nodup := hps.map Fin.val_injective
  rw [portSet, if_neg, mapM_ix_val]
  rw [List.length_map]
  rintro (h | h | h)
  · omega
  · omega
  · exact h hnodup

theorem portSet_none {dests : List Nat}
    (h : dests.length < 1 ∨ 3 < dests.length ∨ ¬dests.Nodup ∨ ∃ d ∈ dests, 4 ≤ d) : portSet dests = none := by
  unfold portSet
  split
  case isTrue => rfl
  case isFalse hset =>
    obtain h | h | h | ⟨d, hd, h4⟩ := h
    · exact absurd (.inl h) hset
    · exact absurd (.inr (.inl h)) hset
    · exact absurd (.inr (.inr h)) hset
    · exact mapM_ix_none hd h4

/-! ## Reserving an entry (R46 to R48) -/

/-- The entry a posting reserves. -/
def Dispatcher.newOrder (d : Dispatcher) (clip : Nat) (ps : List Port) (prio : Nat) (st : Stn) (how : Posting) : Order :=
  { id := d.freshId, clip := clip, dests := ps, priority := prio, station := st, posting := some how }

theorem State.reserve_eq (s : State) (clip : Nat) (ps : List Port) (prio : Nat) (st : Stn) (how : Posting) :
    s.reserve clip ps prio st how =
      s.withOds { s.ods with orders := s.ods.orders ++ [s.ods.newOrder clip ps prio st how]
                             counter := (s.ods.freshId + 1) % 65536 }
        [⟨.ods, .cat, .bindRequest clip s.ods.freshId ps.length⟩] := rfl

section
variable {q : Req} {clip : Nat} {ps : List Port} {s : State}

theorem postOrder_reserves (prio : Nat) (hc : clip < 1024) (hp : portSet (ps.map (·.val)) = some ps)
    (hroom : s.ods.orders.length < 64) :
    exec (.postOrder q clip (ps.map (·.val)) prio) s =
      .next (s.reserve clip ps (min 3 prio) q.st (.single q (decide (prio > 3)))) := by
  have hclip : decide (clip < Config.clipRecords) = true := decide_eq_true hc
  change execPostOrder _ _ _ _ _ = _
  simp only [execPostOrder, hclip, hp]
  exact if_neg (Nat.not_le.mpr hroom)

theorem postOrder_full (prio : Nat) (hc : clip < 1024) (hp : portSet (ps.map (·.val)) = some ps)
    (hfull : 64 ≤ s.ods.orders.length) :
    exec (.postOrder q clip (ps.map (·.val)) prio) s = .next (s.refuse .ods q .full) := by
  have hclip : decide (clip < Config.clipRecords) = true := decide_eq_true hc
  change execPostOrder _ _ _ _ _ = _
  simp only [execPostOrder, hclip, hp]
  exact if_pos hfull

theorem postOrder_value {dests : List Nat} (prio : Nat) (h : 1024 ≤ clip ∨ portSet dests = none) :
    exec (.postOrder q clip dests prio) s = .next (s.refuse .ods q .value) := by
  change execPostOrder _ _ _ _ _ = _
  unfold execPostOrder
  obtain hc | hp := h
  · have hclip : decide (clip < Config.clipRecords) = false := decide_eq_false (Nat.not_lt.mpr hc)
    simp only [hclip]
  · simp only [hp]
    cases decide (clip < Config.clipRecords) with
    | true => rfl
    | false => rfl

theorem postCardOrder_value {serial : Serial} {dests : List Nat} (prio : Nat) (h : portSet dests = none) :
    exec (.postCardOrder q serial dests prio) s = .next (s.refuse .ods q .value) := by
  change execPostCardOrder _ _ _ _ _ = _
  simp only [execPostCardOrder, h]

theorem postCardOrder_asks {serial : Serial} (prio : Nat) (hp : portSet (ps.map (·.val)) = some ps) :
    exec (.postCardOrder q serial (ps.map (·.val)) prio) s =
      .next (s.withOds { s.ods with posts := s.ods.posts ++
          [{ q := q, dests := ps, prio := min 3 prio, clamped := decide (prio > 3) }] }
        [⟨.ods, .cat, .candidatesRequest q serial⟩]) := by
  change execPostCardOrder _ _ _ _ _ = _
  simp only [execPostCardOrder, hp]
  rfl

end

/-! ## The candidates of a POST CARD ORDER (R49) -/

theorem State.setPost_none (s : State) (q : Req) :
    s.setPost q none = s.withOds { s.ods with posts := s.ods.posts.filter fun y => y.q ≠ q } [] := by
  have hposts (l : List CardPost) :
      (l.flatMap fun y => if y.q = q then (none : Option CardPost).toList else [y]) = l.filter fun y => y.q ≠ q := by
    induction l with
    | nil => rfl
    | cons y l ih => rw [List.flatMap_cons, ih, List.filter_cons]; by_cases hy : y.q = q <;> simp [hy]
  rw [State.setPost, hposts, State.ods_eq_withOds]

theorem State.setPost_some (s : State) (q : Req) (x : CardPost) :
    s.setPost q (some x) = s.withOds { s.ods with posts := s.ods.posts.map fun y => if y.q = q then x else y } [] := by
  have hposts (l : List CardPost) :
      (l.flatMap fun y => if y.q = q then (some x).toList else [y]) = l.map fun y => if y.q = q then x else y := by
    induction l with
    | nil => rfl
    | cons y l ih => rw [List.flatMap_cons, ih, List.map_cons]; by_cases hy : y.q = q <;> simp [hy]
  rw [State.setPost, hposts, State.ods_eq_withOds]

section
variable {x : CardPost} {c : Nat} {rest : List Nat}

/-- With no candidate left the request is answered with both counts. -/
theorem State.nextCandidate_done (s : State) (h : x.left = []) :
    s.nextCandidate x = s.withOds { s.ods with posts := s.ods.posts.filter fun y => y.q ≠ x.q }
      [answerOf .ods x.q (.accepted x.clamped (u16 x.posted ++ u16 x.skipped))] := by
  simp only [State.nextCandidate, h, State.setPost_none, State.reply_eq, State.withOds_send]
  rfl

/-- A queue full by then ends the request with the count of the posted. -/
theorem State.nextCandidate_full {s : State} (h : x.left = c :: rest) (hfull : 64 ≤ s.ods.orders.length) :
    s.nextCandidate x = s.withOds { s.ods with posts := s.ods.posts.filter fun y => y.q ≠ x.q }
      [answerOf .ods x.q (.refused .full none (u16 x.posted))] := by
  simp only [State.nextCandidate, h]
  rw [if_pos (show s.ods.orders.length ≥ Config.orderEntries from hfull), State.setPost_none, State.reply_eq,
    State.withOds_send]
  rfl

/-- The next candidate takes an entry like a single order's. -/
theorem State.nextCandidate_reserves {s : State} (h : x.left = c :: rest) (hroom : s.ods.orders.length < 64) :
    s.nextCandidate x = s.withOds
      { s.ods with posts := s.ods.posts.map fun y => if y.q = x.q then { x with left := rest } else y
                   orders := s.ods.orders ++ [s.ods.newOrder c x.dests x.prio x.q.st (.card x.q)]
                   counter := (s.ods.freshId + 1) % 65536 }
      [⟨.ods, .cat, .bindRequest c s.ods.freshId x.dests.length⟩] := by
  simp only [State.nextCandidate, h]
  rw [if_neg (show ¬s.ods.orders.length ≥ Config.orderEntries from Nat.not_le.mpr hroom), State.setPost_some,
    State.reserve_eq, State.withOds_withOds]
  rfl

theorem candidatesAnswer_takes {q : Req} {s : State} (clips : List Nat) (h : s.ods.post? q = some x) :
    exec (.candidatesAnswer q clips) s = .next (s.nextCandidate { x with left := clips }) := by
  change execCandidatesAnswer _ _ _ = _
  simp only [execCandidatesAnswer, h]

end

theorem Dispatcher.q_of_post? {d : Dispatcher} {q : Req} {x : CardPost} (h : d.post? q = some x) : x.q = q :=
  of_decide_eq_true (List.find?_some (p := fun x : CardPost => decide (x.q = q)) h)

/-! ## The answer to a bind (R48, R49) -/

/-- A bound entry as it stands in the queue. -/
def Order.bound (o : Order) (serial : Serial) (letter : Letter) : Order :=
  { o with serial := serial, letter := letter, state := .pending, posting := none }

/-- The fields of a POSTED notice (3.11). -/
def postedFields (o : Order) : List Field :=
  u8 o.priority ++ fList (fun p : Port => u8 p.val) o.dests ++ u8 o.station.val

/-- The dispatcher with the entries of an id replaced. -/
def Dispatcher.withOrder (d : Dispatcher) (id : Nat) (o : Order) : Dispatcher :=
  { d with orders := d.orders.map fun x => if x.id = id then o else x }

theorem State.posted_eq (s : State) (o : Order) (serial : Serial) (letter : Letter) :
    s.posted o serial letter = s.withOds (s.ods.withOrder o.id (o.bound serial letter))
      [noticeOf .ods (s.orderNotice .orderPosted (o.bound serial letter) (postedFields o))] := rfl

section
variable {order : Nat} {s : State} {o : Order} {q : Req}

/-- BOUND of an entry of a POST ORDER: POSTED, the acceptance with the id, then a pass. -/
theorem bindAnswer_bound_single {clamped : Bool} (serial : Serial) (letter : Letter)
    (ho : s.ods.orders.find? (fun o => o.id = order && o.state = .reserved) = some o)
    (hp : o.posting = some (.single q clamped)) :
    exec (.bindAnswer order (.bound serial letter)) s =
      .next (s.withOds (s.ods.withOrder order (o.bound serial letter))
        [noticeOf .ods (s.orderNotice .orderPosted (o.bound serial letter) (postedFields o)),
          answerOf .ods q (.accepted clamped (u16 order))]).runPass := by
  change execBindAnswer _ _ _ = _
  simp only [execBindAnswer, ho, hp, State.posted_eq, State.reply_eq, State.withOds_send, Dispatcher.id_of_reserved ho]
  rfl

/-- BOUND of an entry of a POST CARD ORDER: POSTED and a pass, then the next candidate with one more posted. -/
theorem bindAnswer_bound_card {x : CardPost} (serial : Serial) (letter : Letter)
    (ho : s.ods.orders.find? (fun o => o.id = order && o.state = .reserved) = some o)
    (hp : o.posting = some (.card q)) (hx : s.ods.post? q = some x) :
    exec (.bindAnswer order (.bound serial letter)) s =
      .next ((s.withOds (s.ods.withOrder order (o.bound serial letter))
        [noticeOf .ods (s.orderNotice .orderPosted (o.bound serial letter) (postedFields o))]).runPass.nextCandidate
          { x with posted := x.posted + 1 }) := by
  change execBindAnswer _ _ _ = _
  simp only [execBindAnswer, ho, hp, hx, State.posted_eq, Dispatcher.id_of_reserved ho]

/-- Any other answer takes the entry of a POST ORDER out and refuses. -/
theorem bindAnswer_refused_single {ans : BindAns} {clamped : Bool}
    (ho : s.ods.orders.find? (fun o => o.id = order && o.state = .reserved) = some o)
    (hp : o.posting = some (.single q clamped)) (hans : ∀ serial letter, ans ≠ .bound serial letter) :
    exec (.bindAnswer order ans) s =
      .next (s.withOds { s.ods with orders := s.ods.orders.filter fun x => x.id ≠ order }
        [answerOf .ods q (bindRefusal ans)]) := by
  change execBindAnswer _ _ _ = _
  cases ans with
  | bound serial letter => exact absurd rfl (hans serial letter)
  | _ =>
    simp only [execBindAnswer, ho, hp, State.dropOrder_eq, State.reply_eq, State.withOds_send]
    rfl

/-- Any other answer takes the entry of a POST CARD ORDER out and counts it skipped. -/
theorem bindAnswer_refused_card {ans : BindAns} {x : CardPost}
    (ho : s.ods.orders.find? (fun o => o.id = order && o.state = .reserved) = some o)
    (hp : o.posting = some (.card q)) (hx : s.ods.post? q = some x) (hans : ∀ serial letter, ans ≠ .bound serial letter) :
    exec (.bindAnswer order ans) s = .next ((s.dropOrder order).nextCandidate { x with skipped := x.skipped + 1 }) := by
  change execBindAnswer _ _ _ = _
  cases ans with
  | bound serial letter => exact absurd rfl (hans serial letter)
  | _ => simp only [execBindAnswer, ho, hp, hx]

end

/-- Settles O13, clause by clause. -/
theorem posting : Obligations.Posting := by
  refine ⟨⟨⟨fun q clip ps prio s o hc h1 h3 hps hroom ho => ?_, fun q clip dests prio s h => ?_,
    fun q clip ps prio s hc h1 h3 hps hfull => ?_, fun q serial ps prio s x h1 h3 hps hx => ?_, fun q s x hx => ?_,
    fun q c cs s x o hx hroom ho => ?_, fun order serial letter s o o' q clamped ho hp ho' => ?_,
    fun order ans s o q clamped a ho hp ha => ?_, fun order ans s ho => ?_⟩, fun d _ hn => ?_,
    fun order serial letter s o o' q x ho hp hx ho' => ?_,
    fun order ans s o q x ho hp hx hans => ?_, fun s x h => s.nextCandidate_done h,
    fun s x c rest h hfull => State.nextCandidate_full h hfull, fun s x c rest o h hroom ho => ?_⟩,
    fun q serial dests prio s h => refused_of_refuse (postCardOrder_value prio (portSet_none h))⟩
  · subst ho
    exact next_withOds (postOrder_reserves prio hc (portSet_ports h1 h3 hps) hroom)
  · exact refused_of_refuse (postOrder_value prio (h.imp_right portSet_none))
  · exact refused_of_refuse (postOrder_full prio hc (portSet_ports h1 h3 hps) hfull)
  · subst hx
    exact next_withOds (postCardOrder_asks prio (portSet_ports h1 h3 hps))
  · have hq := Dispatcher.q_of_post? hx
    refine ⟨_, (candidatesAnswer_takes [] hx).trans (congrArg _ (State.nextCandidate_done s rfl)), rfl, rfl, ?_⟩
    rw [← hq]
    rfl
  · have hq := Dispatcher.q_of_post? hx
    subst hq ho
    exact ⟨_, (candidatesAnswer_takes _ hx).trans (congrArg _ (State.nextCandidate_reserves rfl hroom)), rfl, rfl, rfl, rfl⟩
  · subst ho'
    exact ⟨_, bindAnswer_bound_single serial letter ho hp, rfl, rfl, rfl⟩
  · obtain ⟨hans, rfl⟩ : (∀ serial letter, ans ≠ .bound serial letter) ∧ a = bindRefusal ans := by
      simp only [List.mem_cons, List.not_mem_nil, or_false, Prod.mk.injEq] at ha
      obtain ⟨rfl, rfl⟩ | ⟨rfl, rfl⟩ | ⟨rfl, rfl⟩ | ⟨rfl, rfl⟩ := ha <;> exact ⟨nofun, rfl⟩
    exact next_withOds (bindAnswer_refused_single ho hp hans)
  · change execBindAnswer _ _ _ = _
    simp only [execBindAnswer, ho]
  · obtain ⟨i, heq, hfree, hfirst⟩ := d.freshId_first_free hn
    rw [Dispatcher.mem_usedIds] at hfree
    push Not at hfree
    exact ⟨i, heq, hfree.1, hfree.2, fun j hj => Dispatcher.mem_usedIds.mp (hfirst j hj)⟩
  · subst ho'
    exact ⟨_, bindAnswer_bound_card serial letter ho hp hx, rfl, rfl, rfl⟩
  · exact bindAnswer_refused_card ho hp hx hans
  · subst ho
    exact State.nextCandidate_reserves h hroom

end Sys2Proof.Machine
end


section
/-! SUPPORT. Dispatch passes (R51 to R56): dispositions, waiting causes, the choice of an order, what a pass reads and what a
round of it starts. -/

namespace Sys2Proof.Machine

/-! ## Dispositions (R51) -/

theorem PortState.attached_iff {p : PortState} :
    p.attached = true ↔ p = .ready ∨ p = .soaking ∨ p = .detaching ∨ p = .detached := by
  cases p <;> simp [PortState.attached]

/-- An attached volume holds a FOUND or VERIFIED copy of the clip. -/
def holdsCopyOf (v : DestView) (c : Clip) : Prop :=
  (v.state = .ready ∨ v.state = .soaking ∨ v.state = .detaching ∨ v.state = .detached) ∧
    ∃ x ∈ c.copies, (x.state = .found ∨ x.state = .verified) ∧ v.vol = some x.vol

theorem holdsCopyOf_iff {v : DestView} {c : Clip} :
    (v.state.attached && c.copies.any fun x => (x.state = .found || x.state = .verified) && v.vol = some x.vol) = true ↔
      holdsCopyOf v c := by
  simp only [Bool.and_eq_true, PortState.attached_iff, List.any_eq_true, Bool.or_eq_true, decide_eq_true_eq, holdsCopyOf]

theorem disposition_holdsCopy {v : DestView} {c : Clip} (h : holdsCopyOf v c) : disposition v c = .holdsCopy :=
  if_pos (holdsCopyOf_iff.mpr h)

/-- Without a copy on it the disposition goes by the port's state, and on a READY port by its volume. -/
theorem disposition_of_no_copy {v : DestView} {c : Clip} (h : ¬holdsCopyOf v c) :
    disposition v c =
      if v.state = .absent then .absent
      else if v.state = .scanning ∨ v.state = .unformatted ∨ v.state = .detaching ∨ v.state = .detached then .notReady
      else if v.state = .soaking then .masked
      else if v.qual = .failed then .qualificationFailed
      else if v.indexFull = true then .indexFull
      else if v.free < 1 + ceilDiv c.extents 1024 + ceilDiv c.desc.dataLen 4096 then .noSpace
      else .write := by
  rw [disposition, if_neg (mt holdsCopyOf_iff.mp h)]
  cases hv : v.state with
  | ready => rfl
  | _ => simp

/-! ## The tests of a pass (R52) -/

theorem Dispatcher.bayOf_some {d : Dispatcher} {serial : Serial} {b : Bay} (h : d.bayOf serial = some b) :
    d.bays[b].serial = some serial ∧ (d.bays[b].state = .present ∨ d.bays[b].state = .released) := by
  have := List.find?_some h
  simp only [Bool.and_eq_true, Bool.or_eq_true, decide_eq_true_eq] at this
  exact this.symm

theorem Dispatcher.bayOf_none {d : Dispatcher} {serial : Serial} (h : d.bayOf serial = none) {b : Bay}
    (hb : d.bays[b].serial = some serial) : d.bays[b].state ≠ .present ∧ d.bays[b].state ≠ .released := by
  have := List.find?_eq_none.mp h b (List.mem_finRange b)
  simp only [hb, Bool.and_eq_true, Bool.or_eq_true, decide_eq_true_eq, and_true, not_or] at this
  exact this

section
variable {d : Dispatcher} {reads : List (Nat × Option Clip)} {o : Order}

theorem Dispatcher.early_of_not_run (h : d.mode ≠ .run) : d.early o = some .modeHold := if_pos h

theorem Dispatcher.early_of_absent (hm : d.mode = .run) (hb : d.bayOf o.serial = none) : d.early o = some .cardAbsent := by
  rw [Dispatcher.early, if_neg (not_not.mpr hm)]
  simp only [hb]

theorem Dispatcher.early_of_present {b : Bay} (hm : d.mode = .run) (hb : d.bayOf o.serial = some b) :
    d.early o = if d.bays[b].reading = true ∨ ∃ x ∈ d.orders, x.state = .active ∧ x.serial = o.serial then some .bayBusy
      else none := by
  rw [Dispatcher.early, if_neg (not_not.mpr hm)]
  simp only [hb, Bool.or_eq_true, List.any_eq_true, Bool.and_eq_true, decide_eq_true_eq]

theorem Dispatcher.causeOf_of_early {k : WaitCause} (h : d.early o = some k) : d.causeOf reads o = some k := by
  simp only [Dispatcher.causeOf, h]

theorem Dispatcher.causeOf_of_read {c : Clip} (h : d.early o = none) (hc : readOf reads o = some c) :
    d.causeOf reads o = lateCause c.required (d.judge o c) := by
  simp only [Dispatcher.causeOf, h, hc]

theorem Dispatcher.causeOf_of_unread (h : d.early o = none) (hr : readOf reads o = none) : d.causeOf reads o = o.cause := by
  simp only [Dispatcher.causeOf, h, hr]

/-- How many destinations of an order fall under a disposition. -/
theorem Dispatcher.judge_count (d : Dispatcher) (o : Order) (c : Clip) (k : Disposition) :
    ((d.judge o c).filter fun x => x.disp = k).length = (o.dests.filter fun p => disposition d.dests[p] c = k).length := by
  rw [Dispatcher.judge, List.filter_map, List.length_map]
  rfl

theorem lateCause_eq (required : Nat) (ds : List Dest) (n : Disposition → Nat)
    (hn : ∀ k, (ds.filter fun d => d.disp = k).length = n k) :
    lateCause required ds =
      if 0 < n .masked then some .destinationMasked
      else if n .write + n .holdsCopy < required ∨ n .write + n .holdsCopy = 0 then some .tooFewDestinations else none := by
  simp only [lateCause, hn, Nat.pos_iff_ne_zero, Nat.add_eq_zero_iff]
  refine if_congr Iff.rfl rfl ?_
  by_cases hfew : n .write + n .holdsCopy < required
  · rw [if_pos hfew, if_pos (.inl hfew)]
  · rw [if_neg hfew]
    exact if_congr (by tauto) rfl rfl

theorem Dispatcher.dispatchable_iff :
    d.dispatchable reads o = true ↔ o.state = .pending ∧ (readOf reads o).isSome = true ∧ d.causeOf reads o = none := by
  have hlate : d.early o = none ∧ ((readOf reads o).any fun c => lateCause c.required (d.judge o c) = none) = true ↔
      (readOf reads o).isSome = true ∧ d.causeOf reads o = none := by
    unfold Dispatcher.causeOf
    cases d.early o with
    | some k => simp
    | none => cases readOf reads o <;> simp
  simp only [Dispatcher.dispatchable, Bool.and_eq_true, decide_eq_true_eq, and_assoc, hlate]

end

/-! ## Writing the waiting causes (R52) -/

/-- A waiting cause is no part of tests 1 to 3. -/
theorem Dispatcher.early_written (d : Dispatcher) (cause : Order → Option WaitCause) (o : Order) :
    (d.written cause).early o = d.early o := by
  have hbusy : ((d.written cause).orders.any fun x => x.state = .active && x.serial = o.serial) =
      d.orders.any fun x => x.state = .active && x.serial = o.serial := by
    rw [Dispatcher.written, List.any_map]
    refine List.any_congr rfl fun x => ?_
    dsimp only [Function.comp]
    split <;> rfl
  unfold Dispatcher.early
  rw [hbusy]
  rfl

/-- The cause a pass has written for an order is the one its tests give. -/
theorem Dispatcher.causeOf_written (d : Dispatcher) (reads : List (Nat × Option Clip)) (o : Order) :
    (d.written (d.causeOf reads)).causeOf reads { o with cause := d.causeOf reads o } = d.causeOf reads o := by
  have hearly : (d.written (d.causeOf reads)).early { o with cause := d.causeOf reads o } = d.early o := d.early_written _ o
  cases he : d.early o with
  | some k => rw [Dispatcher.causeOf_of_early (hearly.trans he), Dispatcher.causeOf_of_early he]
  | none =>
    cases hr : readOf reads o with
    | some c =>
      rw [Dispatcher.causeOf_of_read (hearly.trans he) (c := c) hr, Dispatcher.causeOf_of_read he hr]
      rfl
    | none => rw [Dispatcher.causeOf_of_unread (hearly.trans he) hr]

/-- The state with the causes of a pass written. -/
def State.withCauses (s : State) (reads : List (Nat × Option Clip)) : State :=
  { s with ods := s.ods.written (s.ods.causeOf reads) }

theorem State.withCauses_causes {s : State} {reads : List (Nat × Option Clip)} {o : Order}
    (ho : o ∈ (s.withCauses reads).ods.orders) (hp : o.state = .pending) :
    o.cause = (s.withCauses reads).ods.causeOf reads o := by
  obtain ⟨x, -, rfl⟩ := List.mem_map.mp ho
  by_cases hx : x.state = .pending
  · rw [if_pos hx]
    exact (s.ods.causeOf_written reads x).symm
  · rw [if_neg hx] at hp
    exact absurd hp hx

theorem Dispatcher.written_ids (d : Dispatcher) (cause : Order → Option WaitCause) :
    (d.written cause).orders.map (·.id) = d.orders.map (·.id) := by
  rw [Dispatcher.written, List.map_map]
  refine List.map_congr_left fun o _ => ?_
  dsimp only [Function.comp]
  split <;> rfl

/-! ## The choice of an order and a channel (R53, R54) -/

theorem bestOrder_none_iff {l : List Order} : bestOrder l = none ↔ l = [] := by
  cases l with
  | nil => simp [bestOrder]
  | cons o os =>
    simp only [bestOrder, reduceCtorEq, iff_false]
    cases bestOrder os with
    | none => simp
    | some b => dsimp only; split <;> simp

/-- An order is the first of the highest effective priority. -/
def isBest (l : List Order) (o : Order) : Prop :=
  ∃ a b, l = a ++ o :: b ∧ (∀ x ∈ a, x.effective < o.effective) ∧ ∀ x ∈ b, x.effective ≤ o.effective

/-- The first order of a list is the best when no later one is better. -/
theorem isBest_head {o : Order} {os : List Order} (h : ∀ x ∈ os, x.effective ≤ o.effective) : isBest (o :: os) o :=
  ⟨[], os, rfl, List.forall_mem_nil _, h⟩

theorem isBest_cons {o b : Order} {os : List Order} (hb : isBest os b) (hlt : o.effective < b.effective) :
    isBest (o :: os) b := by
  obtain ⟨l, r, rfl, hl, hr⟩ := hb
  exact ⟨o :: l, r, rfl, List.forall_mem_cons.mpr ⟨hlt, hl⟩, hr⟩

theorem isBest.le {l : List Order} {o : Order} (h : isBest l o) : ∀ x ∈ l, x.effective ≤ o.effective := by
  obtain ⟨a, b, rfl, ha, hb⟩ := h
  exact List.forall_mem_append.mpr ⟨fun x hx => (ha x hx).le, List.forall_mem_cons.mpr ⟨le_rfl, hb⟩⟩

theorem isBest.mem {l : List Order} {o : Order} (h : isBest l o) : o ∈ l := by
  obtain ⟨a, b, rfl, -, -⟩ := h
  exact List.mem_append_right a List.mem_cons_self

theorem isBest_of_bestOrder {l : List Order} {o : Order} (h : bestOrder l = some o) : isBest l o := by
  induction l generalizing o with
  | nil => cases h
  | cons p os ih =>
    rw [bestOrder] at h
    cases hb : bestOrder os with
    | none =>
      simp only [hb, Option.some.injEq] at h
      obtain rfl := bestOrder_none_iff.mp hb
      exact h ▸ isBest_head (List.forall_mem_nil _)
    | some b =>
      simp only [hb] at h
      split at h <;> obtain rfl := Option.some.inj h
      next hlt => exact isBest_cons (ih hb) hlt
      next hle => exact isBest_head fun x hx => ((ih hb).le x hx).trans (not_lt.mp hle)

theorem bestOrder_of_isBest {l : List Order} {o : Order} (h : isBest l o) : bestOrder l = some o := by
  obtain ⟨a, b, rfl, ha, hb⟩ := h
  induction a with
  | nil =>
    rw [List.nil_append, bestOrder]
    cases hbest : bestOrder b with
    | none => rfl
    | some x => exact if_neg (not_lt.mpr (hb x (isBest_of_bestOrder hbest).mem))
  | cons p a ih =>
    obtain ⟨hp, ha⟩ := List.forall_mem_cons.mp ha
    rw [List.cons_append, bestOrder, ih ha]
    exact if_pos hp

theorem Dispatcher.freeChan_eq_some_iff {d : Dispatcher} {ch : Chan} :
    d.freeChan = some ch ↔ d.chans[ch] = none ∧ ∀ c < ch, d.chans[c] ≠ none := by
  unfold Dispatcher.freeChan
  rw [List.find?_eq_some_iff_getElem]
  constructor
  · rintro ⟨hch, i, hi, rfl, hbefore⟩
    refine ⟨of_decide_eq_true hch, fun c hc => ?_⟩
    rw [List.getElem_finRange] at hc
    simpa using hbefore c.val hc
  · rintro ⟨hch, hbefore⟩
    refine ⟨decide_eq_true hch, ch.val, by simp, by simp, fun j hj => ?_⟩
    have hj3 : j < 3 := hj.trans ch.isLt
    simpa using hbefore ⟨j, hj3⟩ hj

/-- The free channels. -/
def Dispatcher.freeSet (d : Dispatcher) : Finset Chan := {ch | d.chans[ch] = none}

/-! ## Starting an order (R55, R56) -/

/-- An order as it stands once started on a channel. -/
def Order.started (o : Order) (ch : Chan) : Order := { o with state := .active, chan := some ch, cause := none }

/-- The dispatcher once an order is started: the entry, the earlier dispatchable ones passed over, and the channel. -/
def Dispatcher.started (d : Dispatcher) (ch : Chan) (o : Order) (ready : List Nat) : Dispatcher :=
  { d with
    orders := d.orders.map fun x => if x.id = o.id then o.started ch else
      if x.id ∈ ready ∧ x.id ∈ ordersBefore o.id d.orders then { x with passed := min 4 (x.passed + 1) } else x
    chans := upd d.chans ch fun _ => some o.id }

theorem State.startOrder_eq (s : State) (ch : Chan) (o : Order) (c : Clip) (ready : List Nat) :
    s.startOrder ch o c ready = s.withOds (s.ods.started ch o ready)
      [⟨.ods, .cc ch, .startMessage ch o.id o.clip o.serial (s.ods.judge o c)⟩,
        noticeOf .ods (s.orderNotice .orderStarted (o.started ch) (u8 ch.val ++
          fList (fun x : Dest => u8 x.port.val ++ u8 (x.disp.ctorIdx + 1)) (s.ods.judge o c)))] := by
  simp only [State.startOrder, State.ods_eq_withOds, State.raise_eq, State.withOds_send]
  rfl

section
variable {d : Dispatcher} {ch : Chan} {o x : Order} {ready : List Nat}

theorem Dispatcher.started_mem_self (ho : o ∈ d.orders) : o.started ch ∈ (d.started ch o ready).orders :=
  List.mem_map.mpr ⟨o, ho, if_pos rfl⟩

theorem Dispatcher.started_mem_other (hx : x ∈ d.orders) (hne : x.id ≠ o.id) :
    (if x.id ∈ ready ∧ x.id ∈ ordersBefore o.id d.orders then { x with passed := min 4 (x.passed + 1) } else x) ∈
      (d.started ch o ready).orders :=
  List.mem_map.mpr ⟨x, hx, if_neg hne⟩

theorem Dispatcher.started_chan (d : Dispatcher) (ch : Chan) (o : Order) (ready : List Nat) :
    (d.started ch o ready).chans[ch] = some o.id := upd_same _ _ _

theorem Dispatcher.started_other_chan (o : Order) (ready : List Nat) {y : Chan} (hy : y ≠ ch) :
    (d.started ch o ready).chans[y] = d.chans[y] := upd_other _ _ _ _ hy

theorem Dispatcher.started_ids (d : Dispatcher) (ch : Chan) (o : Order) (ready : List Nat) :
    (d.started ch o ready).orders.map (·.id) = d.orders.map (·.id) := by
  rw [Dispatcher.started, List.map_map]
  refine List.map_congr_left fun x _ => ?_
  dsimp only [Function.comp]
  split
  next hid => exact hid.symm
  next => split <;> rfl

/-- A start leaves one channel less free. -/
theorem Dispatcher.card_freeSet_started (o : Order) (ready : List Nat) (hch : d.chans[ch] = none) :
    (d.started ch o ready).freeSet.card < d.freeSet.card := by
  refine Finset.card_lt_card (Finset.ssubset_iff_of_subset (fun y hy => ?_) |>.mpr ⟨ch, ?_, ?_⟩)
  · simp only [Dispatcher.freeSet, Finset.mem_filter, Finset.mem_univ, true_and] at hy ⊢
    by_cases hyc : y = ch
    · exact hyc ▸ hch
    · exact (d.started_other_chan o ready hyc).symm.trans hy
  · simpa [Dispatcher.freeSet] using hch
  · simp only [Dispatcher.freeSet, Finset.mem_filter, Finset.mem_univ, true_and, Dispatcher.started_chan, reduceCtorEq,
      not_false_eq_true]

theorem Dispatcher.judge_dests (d : Dispatcher) (o : Order) (c : Clip) : (d.judge o c).map (·.port) = o.dests := by
  rw [Dispatcher.judge, List.map_map]
  exact List.map_id _

theorem Dispatcher.of_mem_judge {c : Clip} {x : Dest} (h : x ∈ d.judge o c) :
    x.disp = disposition d.dests[x.port] c ∧ x.vol = if x.disp = .write then d.dests[x.port].vol else none := by
  obtain ⟨p, -, rfl⟩ := List.mem_map.mp h
  exact ⟨rfl, rfl⟩

end

/-! ## A pass and its rounds (R53) -/

/-- The PENDING orders that pass tests 1 to 3: a pass reads their records. -/
def Dispatcher.asks (d : Dispatcher) : List Order := d.orders.filter fun o => o.state = .pending && d.early o = none

section
variable {s : State}

theorem State.runPass_of_not_run (h : s.ods.mode ≠ .run) :
    s.runPass = { s with ods := s.ods.written fun _ => some .modeHold } := if_pos h

theorem State.runPass_of_reading {p : Pass} (hm : s.ods.mode = .run) (hp : s.ods.pass = some p) :
    s.runPass = { s with ods := { s.ods with pass := some { p with again := true } } } := by
  rw [State.runPass, if_neg (not_not.mpr hm)]
  simp only [hp]

theorem foldl_lookup (l : List Order) (s : State) :
    l.foldl (fun u o => u.lookup .ods (.dispatch o.id) o.clip) s =
      { s with wire := s.wire ++ l.map fun o => ⟨.ods, .cat, .clipLookup (.dispatch o.id) o.clip⟩ } := by
  induction l generalizing s with
  | nil => simp
  | cons o l ih => rw [List.foldl_cons, ih]; simp

/-- A pass begun in RUN: the causes of tests 1 to 3 are written and the records asked for. -/
theorem State.runPass_of_run (hm : s.ods.mode = .run) (hp : s.ods.pass = none) :
    s.runPass = s.withOds
      { s.ods.written (fun o => (s.ods.early o).or o.cause) with
        pass := if s.ods.asks = [] then none else some { awaiting := s.ods.asks.map (·.id), reads := [], again := false } }
      (s.ods.asks.map fun o => ⟨.ods, .cat, .clipLookup (.dispatch o.id) o.clip⟩) := by
  rw [State.runPass, if_neg (not_not.mpr hm)]
  simp only [hp]
  change (if s.ods.asks.isEmpty = true then _ else List.foldl _ _ s.ods.asks) = _
  by_cases hasks : s.ods.asks = []
  · have hpass : (s.ods.written fun o => (s.ods.early o).or o.cause).pass = none := hp
    simp only [hasks, List.isEmpty_nil, if_true, List.map_nil, State.ods_eq_withOds, ← hpass]
  · rw [if_neg (by simpa using hasks), foldl_lookup, if_neg hasks]
    rfl

variable {reads : List (Nat × Option Clip)}

theorem State.passLoop_succ_of_none (n : Nat)
    (h : (s.withCauses reads).ods.freeChan = none ∨
      ∀ o ∈ (s.withCauses reads).ods.orders, (s.withCauses reads).ods.dispatchable reads o = false) :
    State.passLoop reads (n + 1) s = s.withCauses reads := by
  unfold State.withCauses at *
  obtain hch | hall := h
  · simp only [State.passLoop, hch]
  · have hbest := bestOrder_none_iff.mpr (List.filter_eq_nil_iff.mpr fun o ho => Bool.not_eq_true _ ▸ hall o ho)
    simp only [State.passLoop, hbest]
    cases Dispatcher.freeChan _ with
    | none => rfl
    | some ch => rfl

theorem State.passLoop_succ_of_some (n : Nat) {ch : Chan} {o : Order} {c : Clip}
    (hch : (s.withCauses reads).ods.freeChan = some ch)
    (ho : bestOrder ((s.withCauses reads).ods.orders.filter ((s.withCauses reads).ods.dispatchable reads)) = some o)
    (hc : readOf reads o = some c) :
    State.passLoop reads (n + 1) s = State.passLoop reads n ((s.withCauses reads).startOrder ch o c
      (((s.withCauses reads).ods.orders.filter ((s.withCauses reads).ods.dispatchable reads)).map (·.id))) := by
  unfold State.withCauses at *
  simp only [State.passLoop, hch, ho, hc]

/-- Either a round has nothing to start, or it has a free channel and a best order whose record is read. -/
theorem Dispatcher.round_cases (d : Dispatcher) (reads : List (Nat × Option Clip)) :
    (d.freeChan = none ∨ ∀ o ∈ d.orders, d.dispatchable reads o = false) ∨
    ∃ ch o c, d.freeChan = some ch ∧ bestOrder (d.orders.filter (d.dispatchable reads)) = some o ∧
      readOf reads o = some c := by
  cases hch : d.freeChan with
  | none => exact .inl (.inl rfl)
  | some ch =>
    cases ho : bestOrder (d.orders.filter (d.dispatchable reads)) with
    | none =>
      have hready := List.filter_eq_nil_iff.mp (bestOrder_none_iff.mp ho)
      exact .inl (.inr fun o ho => Bool.eq_false_iff.mpr (hready o ho))
    | some o =>
      have hdisp := (List.mem_filter.mp (isBest_of_bestOrder ho).mem).2
      obtain ⟨-, hread, -⟩ := Dispatcher.dispatchable_iff.mp hdisp
      obtain ⟨c, hc⟩ := Option.isSome_iff_exists.mp hread
      exact .inr ⟨ch, o, c, rfl, rfl, hc⟩

/-- A pass is at its end: nothing is left to start, and every PENDING order has the cause its tests give. -/
def Dispatcher.passEnded (d : Dispatcher) (reads : List (Nat × Option Clip)) : Prop :=
  (d.freeChan = none ∨ ∀ o ∈ d.orders, d.dispatchable reads o = false) ∧
    ∀ o ∈ d.orders, o.state = .pending → o.cause = d.causeOf reads o

/-- With more rounds than free channels a pass comes to its end: each round takes a channel. -/
theorem State.passLoop_passEnded {n : Nat} (h : s.ods.freeSet.card < n) : (State.passLoop reads n s).ods.passEnded reads := by
  induction n generalizing s with
  | zero => exact absurd h (Nat.not_lt_zero _)
  | succ n ih =>
    obtain hend | ⟨ch, o, c, hch, ho, hc⟩ := (s.withCauses reads).ods.round_cases reads
    · rw [State.passLoop_succ_of_none n hend]
      exact ⟨hend, fun o ho hp => State.withCauses_causes ho hp⟩
    · rw [State.passLoop_succ_of_some n hch ho hc, State.startOrder_eq]
      obtain ⟨hfree, -⟩ := Dispatcher.freeChan_eq_some_iff.mp hch
      have hcard : (s.withCauses reads).ods.freeSet.card < n + 1 := h
      exact ih ((Dispatcher.card_freeSet_started o _ hfree).trans_le (Nat.lt_succ_iff.mp hcard))

/-- A pass takes no order in or out. -/
theorem State.passLoop_ids (n : Nat) : (State.passLoop reads n s).ods.orders.map (·.id) = s.ods.orders.map (·.id) := by
  induction n generalizing s with
  | zero => rfl
  | succ n ih =>
    have hids : (s.withCauses reads).ods.orders.map (·.id) = s.ods.orders.map (·.id) := s.ods.written_ids _
    obtain hend | ⟨ch, o, c, hch, ho, hc⟩ := (s.withCauses reads).ods.round_cases reads
    · rw [State.passLoop_succ_of_none n hend, hids]
    · rw [State.passLoop_succ_of_some n hch ho hc, ih, State.startOrder_eq, State.withOds_ods, Dispatcher.started_ids, hids]

theorem Dispatcher.card_freeSet_lt (d : Dispatcher) : d.freeSet.card < 4 :=
  Nat.lt_succ_iff.mpr (Finset.card_le_univ d.freeSet)

end

/-- Settles O15, clause by clause. -/
theorem dispatchPasses : Obligations.DispatchPasses := by
  refine ⟨⟨fun v c => ?_, fun d serial => ⟨fun b hb => Dispatcher.bayOf_some hb,
      fun h b hb => Dispatcher.bayOf_none h hb⟩,
    fun d reads o hm => Dispatcher.causeOf_of_early (Dispatcher.early_of_not_run hm),
    fun d reads o hm hb => Dispatcher.causeOf_of_early (Dispatcher.early_of_absent hm hb),
    fun d reads o b hm hb hbusy => Dispatcher.causeOf_of_early ((Dispatcher.early_of_present hm hb).trans (if_pos hbusy)),
    fun d reads o b c n hm hb hr hx hc hn => ?_, fun d reads o => Dispatcher.dispatchable_iff⟩,
    ⟨fun s hm => State.runPass_of_not_run hm, fun s p hm hp => State.runPass_of_reading hm hp,
      fun s asks hm hp hasks => ?_, fun s reads n u hu => ?_, fun s t reads ht => ?_⟩,
    fun l o => ⟨isBest_of_bestOrder, bestOrder_of_isBest⟩, fun d ch => Dispatcher.freeChan_eq_some_iff,
    fun s ch o c ready x _ ho hx hne => ?_, fun s ch o c ready o' ho ho' => ?_⟩
  · by_cases hcopy : holdsCopyOf v c
    · rw [disposition_holdsCopy hcopy]
      exact (if_pos hcopy).symm
    · rw [disposition_of_no_copy hcopy]
      exact (if_neg hcopy).symm
  · have hearly : d.early o = none := by
      rw [Dispatcher.early_of_present hm hb, if_neg]
      rintro (hreading | ⟨x, hxo, hactive⟩)
      · exact Bool.false_ne_true (hr.symm.trans hreading)
      · exact hx x hxo hactive
    subst hn
    rw [Dispatcher.causeOf_of_read hearly hc]
    exact lateCause_eq _ _ _ (d.judge_count o c)
  · obtain rfl : asks = s.ods.asks := hasks
    rw [State.runPass_of_run hm hp]
    exact ⟨rfl, rfl, rfl⟩
  · obtain rfl : u = s.withCauses reads := hu
    exact ⟨State.passLoop_succ_of_none n, fun ch o c hch ho hc => State.passLoop_succ_of_some n hch ho hc⟩
  · subst ht
    obtain ⟨hend, hcauses⟩ := State.passLoop_passEnded (reads := reads) s.ods.card_freeSet_lt
    exact ⟨onlyOds_of_rest (State.passLoop_rest reads 4 s), State.passLoop_ids 4, hend, hcauses⟩
  · rw [State.startOrder_eq]
    exact Dispatcher.started_mem_other hx hne
  · subst ho'
    rw [State.startOrder_eq]
    exact ⟨Dispatcher.started_mem_self ho, s.ods.started_chan ch o ready, fun y hy => s.ods.started_other_chan o ready hy,
      rfl, fun x hx => Dispatcher.of_mem_judge hx, s.ods.judge_dests o c, onlyOds_withOds ..⟩

end Sys2Proof.Machine
end


section
/-! SUPPORT. The views and the events that run a pass (R50, R53), and the part mode (R62, R63). -/

namespace Sys2Proof.Machine

/-! ## Views (R50) -/

theorem bayCallsPass_iff {old new : BayView} :
    bayCallsPass old new = true ↔ (new.state ≠ old.state ∧ (new.state = .present ∨ new.state = .released)) ∨
      (old.reading = true ∧ new.reading = false) := by
  simp only [bayCallsPass, Bool.or_eq_true, Bool.and_eq_true, decide_eq_true_eq, Bool.not_eq_true', ne_eq]
  exact or_congr_left and_comm

theorem bayViewReport_eq (b : Bay) (view : BayView) (s : State) {u : State}
    (hu : u = { s with ods := { s.ods with bays := upd s.ods.bays b fun _ => view } }) :
    exec (.bayViewReport b view) s = .next
      (if (view.state ≠ s.ods.bays[b].state ∧ (view.state = .present ∨ view.state = .released)) ∨
          (s.ods.bays[b].reading = true ∧ view.reading = false) then u.runPass else u) := by
  subst hu
  change execBayViewReport _ _ _ = _
  rw [execBayViewReport]
  exact congrArg _ (if_congr bayCallsPass_iff rfl rfl)

theorem destViewReport_eq (p : Port) (view : DestView) (s : State) {u : State}
    (hu : u = { s with ods := { s.ods with dests := upd s.ods.dests p fun _ => view } }) :
    exec (.destViewReport p view) s = .next (if view = s.ods.dests[p] then u else u.runPass) := by
  subst hu
  change execDestViewReport _ _ _ = _
  rw [execDestViewReport]
  exact congrArg _ (if_congr eq_comm rfl rfl)

theorem catalogDispatchReport_eq (clip : Nat) (s : State) :
    exec (.catalogDispatchReport clip) s = .next
      (if ∃ o ∈ s.ods.orders, o.state = .pending ∧ o.clip = clip then s.runPass else s) := by
  change execCatalogDispatchReport _ _ = _
  rw [execCatalogDispatchReport]
  refine congrArg _ (if_congr ?_ rfl rfl)
  simp only [List.any_eq_true, Bool.and_eq_true, decide_eq_true_eq]

/-! ## The records a pass reads (R44, R53) -/

section
variable {order : Nat} {rec : Option Clip} {s : State}

/-- The answer of a read no pass awaits is discarded. -/
theorem dispatchLookupAnswer_discarded (h : ∀ p, s.ods.pass = some p → order ∉ p.awaiting) :
    exec (.dispatchLookupAnswer order rec) s = .next s := by
  change execDispatchLookupAnswer _ _ _ = _
  unfold execDispatchLookupAnswer
  cases hp : s.ods.pass with
  | none => rfl
  | some p => exact if_pos (h p hp)

section
variable {p : Pass} (hp : s.ods.pass = some p) (hin : order ∈ p.awaiting)
include hp hin

/-- An answer that is not the last is kept. -/
theorem dispatchLookupAnswer_kept (hmore : ∃ n ∈ p.awaiting, n ≠ order) :
    exec (.dispatchLookupAnswer order rec) s = .next { s with ods := { s.ods with pass := some { p with
      awaiting := p.awaiting.filter fun n => n ≠ order, reads := p.reads ++ [(order, rec)] } } } := by
  obtain ⟨n, hn, hne⟩ := hmore
  have hleft : (p.awaiting.filter fun n => n ≠ order).isEmpty = false :=
    List.isEmpty_eq_false_iff_exists_mem.mpr ⟨n, List.mem_filter.mpr ⟨hn, decide_eq_true hne⟩⟩
  change execDispatchLookupAnswer _ _ _ = _
  simp only [execDispatchLookupAnswer, hp, not_true_eq_false, hin, if_false, hleft, Bool.false_eq_true]

/-- With the last answer the pass is evaluated, and run again when one was called for meanwhile. -/
theorem dispatchLookupAnswer_last (hlast : ∀ n ∈ p.awaiting, n = order) {t : State}
    (ht : t = State.passLoop (p.reads ++ [(order, rec)]) 4 { s with ods := { s.ods with pass := none } }) :
    exec (.dispatchLookupAnswer order rec) s = .next (if p.again then t.runPass else t) := by
  have hleft : (p.awaiting.filter fun n => n ≠ order).isEmpty = true := by
    rw [List.isEmpty_iff, List.filter_eq_nil_iff]
    intro n hn
    simp [hlast n hn]
  subst ht
  change execDispatchLookupAnswer _ _ _ = _
  simp only [execDispatchLookupAnswer, hp, not_true_eq_false, hin, if_false, hleft, if_true]

end

end

/-! ## The part mode (R62, R63) -/

theorem State.changeMode_eq (s : State) (m : PartMode) :
    s.changeMode m = s.withOds { s.ods with mode := m }
      [noticeOf .ods { sub := .modeChanged, fields := u8 (s.ods.mode.ctorIdx + 1) ++ u8 (m.ctorIdx + 1) }] := rfl

/-- A running order is in the queue. -/
theorem any_running_iff {l : List Order} : (l.any fun o => o.state.running) = true ↔ ∃ o ∈ l, o.state.running = true :=
  List.any_eq_true

section
variable {q : Req} {s : State}

theorem exec_setMode (q : Req) (mode : Nat) (s : State) : exec (.setMode q mode) s = execSetMode q mode s := rfl

theorem setMode_run (h : s.ods.mode ≠ .run) :
    exec (.setMode q 1) s = .next (s.withOds { s.ods with mode := .run }
      [noticeOf .ods { sub := .modeChanged, fields := u8 (s.ods.mode.ctorIdx + 1) ++ u8 1 },
        acceptOf .ods q (u8 1)]).runPass := by
  rw [exec_setMode]
  simp only [execSetMode, if_true, if_neg h, State.changeMode_eq, State.accept_eq, State.withOds_send]
  rfl

theorem setMode_hold {m : PartMode} (h : s.ods.mode = .run)
    (hm : m = if ∃ o ∈ s.ods.orders, o.state.running = true then PartMode.holding else .hold) :
    exec (.setMode q 3) s = .next (s.withOds { s.ods.written (fun _ => some .modeHold) with mode := m }
      [noticeOf .ods { sub := .modeChanged, fields := u8 1 ++ u8 (m.ctorIdx + 1) }, acceptOf .ods q (u8 (m.ctorIdx + 1))]) := by
  have hmode : (if (s.ods.orders.any fun o => o.state.running) = true then PartMode.holding else .hold) = m :=
    (if_congr any_running_iff rfl rfl).trans hm.symm
  have hheld : { s.changeMode m with ods := (s.changeMode m).ods.written fun _ => some .modeHold } =
      s.withOds { s.ods.written (fun _ => some .modeHold) with mode := m }
        [noticeOf .ods { sub := .modeChanged, fields := u8 1 ++ u8 (m.ctorIdx + 1) }] := by
    rw [State.changeMode_eq, h]
    rfl
  rw [exec_setMode, execSetMode, if_neg (by decide), if_pos rfl, if_pos h]
  simp only [hmode, hheld, State.accept_eq, State.withOds_send]
  rfl

/-- A mode asked for again changes nothing and is accepted. -/
theorem setMode_again {mode : Nat} (h : mode = 1 ∧ s.ods.mode = .run ∨ mode = 3 ∧ s.ods.mode ≠ .run) :
    exec (.setMode q mode) s = .next (s.accept .ods q (u8 (s.ods.mode.ctorIdx + 1))) := by
  rw [exec_setMode]
  obtain ⟨rfl, hrun⟩ | ⟨rfl, hrun⟩ := h
  · rw [execSetMode, if_pos rfl, if_pos hrun]
    rfl
  · rw [execSetMode, if_neg (by decide), if_pos rfl, if_neg hrun]
    rfl

theorem setMode_value {mode : Nat} (h1 : mode ≠ 1) (h3 : mode ≠ 3) :
    exec (.setMode q mode) s = .next (s.refuse .ods q .value) := by
  rw [exec_setMode, execSetMode, if_neg h1, if_neg h3]

/-- The HOLDING test once the last running order has ended (R63). -/
theorem State.holdingTest_of_last (hm : s.ods.mode = .holding) (h : ∀ o ∈ s.ods.orders, o.state.running = false) :
    s.holdingTest = s.withOds { s.ods with mode := .hold }
      [noticeOf .ods { sub := .modeChanged, fields := u8 2 ++ u8 3 }] := by
  have hnone : ¬(s.ods.orders.any fun o => o.state.running) = true := by
    rw [any_running_iff]
    rintro ⟨o, ho, hrun⟩
    exact Bool.false_ne_true ((h o ho).symm.trans hrun)
  rw [State.holdingTest, if_pos ⟨hm, hnone⟩, State.changeMode_eq, hm]
  rfl

theorem State.holdingTest_of_not_last (h : s.ods.mode ≠ .holding ∨ ∃ o ∈ s.ods.orders, o.state.running = true) :
    s.holdingTest = s := by
  rw [State.holdingTest, if_neg]
  rintro ⟨hm, hnone⟩
  obtain hne | hrun := h
  · exact hne hm
  · exact hnone (any_running_iff.mpr hrun)

end

/-- Settles O14, clause by clause. -/
theorem viewsPassesAndModes : Obligations.ViewsPassesAndModes := by
  refine ⟨⟨fun b view s u hu => bayViewReport_eq b view s hu, fun p view s u hu => destViewReport_eq p view s hu,
    catalogDispatchReport_eq, fun s hm => State.runPass_of_not_run hm, fun s hm hp => ?_,
    fun order rec s h => dispatchLookupAnswer_discarded h,
    fun order rec s p hp hin hmore => dispatchLookupAnswer_kept hp hin hmore,
    fun order rec s p t hp hin hlast ht => dispatchLookupAnswer_last hp hin hlast ht⟩,
    fun q s hm => next_of_withOds (setMode_run hm), fun q s m hrun hm => next_withOds (setMode_hold hrun hm),
    fun q mode s h => ⟨_, setMode_again h, onlyWire_send .., State.send_wire ..⟩,
    fun q mode s h1 h3 => refused_of_refuse (setMode_value h1 h3),
    fun s => ⟨fun hm h => ?_, fun h => State.holdingTest_of_not_last h⟩⟩
  · rw [State.runPass_of_run hm hp]
    rfl
  · rw [State.holdingTest_of_last hm h]
    exact ⟨rfl, rfl⟩

end Sys2Proof.Machine
end


section
/-! SUPPORT. The progress, the ends and the aborts of orders (R57 to R61). -/

namespace Sys2Proof.Machine

/-! ## Progress (R57) -/

theorem State.orderState_eq (s : State) (ch : Chan) (o : Order) (new : OrderState) :
    s.orderState ch o new = s.withOds (s.ods.withOrder o.id { o with state := new })
      [noticeOf .ods (s.orderNotice .orderState { o with state := new } (u8 ch.val ++ fNamed new.ctorIdx))] := rfl

/-- What a report makes of the state: `f` of the order when that is in state `st`, and nothing otherwise. -/
def State.whenIn (s : State) (order : Nat) (st : OrderState) (f : Order → State) : State :=
  match s.ods.seen order with
  | some o => if o.state = st then f o else s
  | none => s

section
variable {s : State} {ch : Chan} {order : Nat} {o : Order}

theorem State.whenIn_of_state {st : OrderState} {f : Order → State} (ho : s.ods.seen order = some o) (hs : o.state = st) :
    s.whenIn order st f = f o := by
  simp only [State.whenIn, ho, if_pos hs]

theorem State.whenIn_of_other {st : OrderState} {f : Order → State}
    (h : ∀ o, s.ods.seen order = some o → o.state ≠ st) :
    s.whenIn order st f = s := by
  unfold State.whenIn
  cases ho : s.ods.seen order with
  | none => rfl
  | some o => exact if_neg (h o ho)

theorem readDoneReport_eq : exec (.readDoneReport ch order) s =
    .next (s.whenIn order .active fun o => (s.orderState ch o .verifying).runPass) := by
  change execReadDoneReport _ _ _ = _
  unfold execReadDoneReport State.whenIn
  cases s.ods.seen order with
  | none => rfl
  | some o => rfl

theorem repairBegunReport_eq : exec (.repairBegunReport ch order) s =
    .next (s.whenIn order .verifying fun o => s.orderState ch o .repairing) := by
  change execRepairBegunReport _ _ _ = _
  unfold execRepairBegunReport State.whenIn
  cases s.ods.seen order with
  | none => rfl
  | some o => rfl

theorem repairDoneReport_eq : exec (.repairDoneReport ch order) s =
    .next (s.whenIn order .repairing fun o => s.orderState ch o .verifying) := by
  change execRepairDoneReport _ _ _ = _
  unfold execRepairDoneReport State.whenIn
  cases s.ods.seen order with
  | none => rfl
  | some o => rfl

/-- A state the entry of an order takes, with its STATE notice. -/
theorem State.orderState_of_seen (new : OrderState) (ho : s.ods.seen order = some o) :
    s.orderState ch o new = s.withOds (s.ods.withOrder order { o with state := new })
      [noticeOf .ods (s.orderNotice .orderState { o with state := new } (u8 ch.val ++ fNamed new.ctorIdx))] := by
  rw [State.orderState_eq, Dispatcher.id_of_seen ho]

/-! ## Ends (R58) -/

theorem orderEndReport_unbinds (kind : EndKind) (ho : s.ods.seen order = some o) (hch : o.chan = some ch)
    (hend : o.ending = none) :
    exec (.orderEndReport ch order kind) s = .next (s.withOds (s.ods.withOrder order { o with ending := some kind })
      [⟨.ods, .cat, .unbindRequest o.clip order⟩]) := by
  change execOrderEndReport _ _ _ _ = _
  simp only [execOrderEndReport, ho]
  rw [if_pos ⟨hch, hend⟩, State.setOrder_eq, State.withOds_send, Dispatcher.id_of_seen ho]
  rfl

theorem orderEndReport_discarded (kind : EndKind)
    (h : ∀ o, s.ods.seen order = some o → o.chan ≠ some ch ∨ o.ending ≠ none) :
    exec (.orderEndReport ch order kind) s = .next s := by
  change execOrderEndReport _ _ _ _ = _
  unfold execOrderEndReport
  cases ho : s.ods.seen order with
  | none => rfl
  | some o =>
    refine if_neg fun ⟨hch, hend⟩ => ?_
    exact (h o ho).elim (· hch) (· hend)

/-- The fields of an ENDED notice (3.11). -/
def endedFields (o : Order) (r : Outcome × Option FailCause × Option Origin) (st : ClipState) : List Field :=
  fOpt [1] (fun ch : Chan => u8 ch.val) o.chan ++ u8 (r.1.ctorIdx + 1) ++ fOpt [1] (fun k => u8 (k.ctorIdx + 1)) r.2.1 ++
    fOpt [1] (fun k => u8 (k.ctorIdx + 1)) r.2.2 ++ u8 (st.ctorIdx + 1)

theorem State.withOds_raiseEnded {d : Dispatcher} (hd : d.bays = s.ods.bays) (w : List Wire) (o : Order)
    (r : Outcome × Option FailCause × Option Origin) (st : ClipState) :
    (s.withOds d w).raiseEnded o r st =
      s.withOds d (w ++ [noticeOf .ods (s.orderNotice .orderEnded o (endedFields o r st))]) := by
  rw [State.raiseEnded, State.raise_eq, State.withOds_send, State.orderNotice_congr (s := s) hd]
  rfl

/-- The answer to the unbind of an order that has ended: the order leaves the queue and its channel is free. -/
theorem unbindAnswer_ends (clip : Nat) (st : ClipState) {kind : EndKind}
    (hl : s.ods.leaving.find? (fun l => l.order.id = order) = none) (ho : s.ods.seen order = some o)
    (hend : o.ending = some kind) (hch : o.chan = some ch) :
    exec (.unbindAnswer order clip st) s =
      .next (s.withOds { s.ods with orders := s.ods.orders.filter fun x => x.id ≠ order
                                    chans := upd s.ods.chans ch fun _ => none }
        [noticeOf .ods (s.orderNotice .orderEnded o (endedFields o (outcomeOf kind st) st))]).holdingTest.runPass := by
  change execUnbindAnswer order clip st s = _
  simp only [execUnbindAnswer, hl, ho, hend, hch, State.dropOrder_eq]
  rw [State.withOds_raiseEnded]
  · rfl
  · rfl

theorem unbindAnswer_discarded (clip : Nat) (st : ClipState)
    (hl : s.ods.leaving.find? (fun l => l.order.id = order) = none)
    (h : ∀ o, s.ods.seen order = some o → o.ending = none) : exec (.unbindAnswer order clip st) s = .next s := by
  change execUnbindAnswer order clip st s = _
  cases ho : s.ods.seen order with
  | none => simp only [execUnbindAnswer, hl, ho]
  | some o => simp only [execUnbindAnswer, hl, ho, h o ho]

/-- The answer to the unbind of an order removed while PENDING (R59, R61). -/
theorem unbindAnswer_of_removed (clip : Nat) (st : ClipState) {l : Leaving}
    (hl : s.ods.leaving.find? (fun l => l.order.id = order) = some l) {u : State}
    (hu : u = s.withOds { s.ods with leaving := s.ods.leaving.filter fun x => x.order.id ≠ order }
      [noticeOf .ods (s.orderNotice .orderEnded l.order (endedFields l.order (.aborted, none, some l.origin) st))]) :
    exec (.unbindAnswer order clip st) s = .next (if l.pass then u.runPass else u) := by
  subst hu
  change execUnbindAnswer order clip st s = _
  simp only [execUnbindAnswer, hl, State.ods_eq_withOds]
  rw [State.withOds_raiseEnded]
  · rfl
  · rfl

/-! ## Aborts and removals (R59, R60) -/

theorem State.removePending_eq (s : State) (o : Order) (origin : Origin) (pass : Bool) :
    s.removePending o origin pass =
      s.withOds { s.ods with orders := s.ods.orders.filter fun x => x.id ≠ o.id
                             leaving := s.ods.leaving ++ [⟨o, origin, pass⟩] }
        [⟨.ods, .cat, .unbindRequest o.clip o.id⟩] := rfl

variable {q : Req}

theorem abortOrder_pending (ho : s.ods.seen order = some o) (hend : o.ending = none) (hs : o.state = .pending) :
    exec (.abortOrder q order) s =
      .next (s.withOds { s.ods with orders := s.ods.orders.filter fun x => x.id ≠ order
                                    leaving := s.ods.leaving ++ [⟨o, .station, true⟩] }
        [⟨.ods, .cat, .unbindRequest o.clip order⟩, acceptOf .ods q []]) := by
  change execAbortOrder _ _ _ = _
  simp only [execAbortOrder, ho, hend, Option.isSome_none, Bool.false_eq_true, if_false, hs, if_true, State.removePending_eq,
    State.accept_eq, State.withOds_send, Dispatcher.id_of_seen ho]
  rfl

theorem abortOrder_running (ho : s.ods.seen order = some o) (hend : o.ending = none) (hs : o.state ≠ .pending)
    (hab : o.abort = false) (hch : o.chan = some ch) :
    exec (.abortOrder q order) s = .next (s.withOds (s.ods.withOrder order { o with abort := true })
      [acceptOf .ods q [], ⟨.ods, .cc ch, .channelAbort ch order⟩]) := by
  change execAbortOrder _ _ _ = _
  simp only [execAbortOrder, ho, hend, Option.isSome_none, Bool.false_eq_true, if_false, if_neg hs, hab, hch, State.setOrder_eq,
    State.accept_eq, State.withOds_send, Dispatcher.id_of_seen ho]
  rfl

theorem abortOrder_already (ho : s.ods.seen order = some o) (hend : o.ending = none) (hs : o.state ≠ .pending)
    (hab : o.abort = true) : exec (.abortOrder q order) s = .next (s.refuseState .ods q .already) := by
  change execAbortOrder _ _ _ = _
  simp only [execAbortOrder, ho, hend, Option.isSome_none, Bool.false_eq_true, if_false, if_neg hs, hab, if_true]

theorem abortOrder_not_found (h : ∀ o, s.ods.seen order = some o → o.ending ≠ none) :
    exec (.abortOrder q order) s = .next (s.refuse .ods q .notFound) := by
  change execAbortOrder _ _ _ = _
  unfold execAbortOrder
  cases ho : s.ods.seen order with
  | none => rfl
  | some o => exact if_pos (Option.isSome_iff_ne_none.mpr (h o ho))

theorem catalogRemovalRequest_pending (clip : Nat) (serial : Serial) (made : Nat) (desc : Desc)
    (ho : s.ods.seen order = some o) (hs : o.state = .pending) :
    exec (.catalogRemovalRequest clip order serial made desc) s =
      .next (s.withOds { s.ods with orders := s.ods.orders.filter fun x => x.id ≠ order
                                    leaving := s.ods.leaving ++ [⟨o, .catalog, true⟩] }
        [⟨.ods, .cat, .unbindRequest o.clip order⟩, ⟨.ods, .cat, .orderRemovalAnswer clip serial made desc true⟩]) := by
  change execCatalogRemovalRequest _ _ _ _ _ _ = _
  simp only [execCatalogRemovalRequest, ho, if_pos hs, State.removePending_eq, State.withOds_send, Dispatcher.id_of_seen ho]
  rfl

theorem catalogRemovalRequest_other (clip : Nat) (serial : Serial) (made : Nat) (desc : Desc)
    (h : ∀ o, s.ods.seen order = some o → o.state ≠ .pending) :
    exec (.catalogRemovalRequest clip order serial made desc) s =
      .next (s.send .ods .cat [.orderRemovalAnswer clip serial made desc false]) := by
  change execCatalogRemovalRequest _ _ _ _ _ _ = _
  cases ho : s.ods.seen order with
  | none => simp only [execCatalogRemovalRequest, ho]
  | some o => simp only [execCatalogRemovalRequest, ho, if_neg (h o ho)]

end

/-! ## ABORT ALL (R61) -/

/-- Removing orders one after the other takes out all entries of their ids. -/
theorem foldl_removePending (gone : List Order) (s : State) :
    gone.foldl (fun t o => t.removePending o .station false) s =
      s.withOds { s.ods with orders := s.ods.orders.filter fun x => x.id ∉ gone.map (·.id)
                             leaving := s.ods.leaving ++ gone.map fun o => ⟨o, .station, false⟩ }
        (gone.map fun o => ⟨.ods, .cat, .unbindRequest o.clip o.id⟩) := by
  induction gone generalizing s with
  | nil => simp [State.withOds]
  | cons o gone ih =>
    have hids : (fun x : Order => decide (x.id ∉ (o :: gone).map (·.id))) =
        fun x => decide (x.id ∉ gone.map (·.id)) && decide (x.id ≠ o.id) := by
      funext x
      rw [← Bool.decide_and, decide_eq_decide, List.map_cons, List.mem_cons, not_or, and_comm]
    rw [List.foldl_cons, ih, State.removePending_eq, State.withOds_withOds, hids]
    simp only [State.withOds_ods, List.filter_filter, List.append_assoc, List.map_cons, List.cons_append, List.nil_append]

/-- With the ids of the queue distinct, no entry that is not PENDING has the id of a PENDING one. -/
theorem filter_not_pending {l : List Order} (h : (l.map (·.id)).Nodup) :
    (l.filter fun x => x.id ∉ (l.filter fun o => o.state = .pending).map (·.id)) =
      l.filter fun o => o.state ≠ .pending := by
  refine List.filter_congr fun x hx => ?_
  have hmem : x.id ∈ (l.filter fun o => o.state = .pending).map (·.id) ↔ x.state = .pending := by
    constructor
    · intro hid
      obtain ⟨y, hy, hyx⟩ := List.mem_map.mp hid
      obtain ⟨hyl, hyp⟩ := List.mem_filter.mp hy
      obtain rfl := List.inj_on_of_nodup_map h hyl hx hyx
      exact of_decide_eq_true hyp
    · exact fun hp => List.mem_map_of_mem (List.mem_filter.mpr ⟨hx, decide_eq_true hp⟩)
  simp only [hmem, ne_eq]

theorem abortAll_eq (q : Req) {s : State} {gone : List Order} (h : (s.ods.orders.map (·.id)).Nodup)
    (hgone : gone = s.ods.orders.filter fun o => o.state = .pending) :
    exec (.abortAll q) s =
      .next (s.withOds { s.ods with orders := s.ods.orders.filter fun o => o.state ≠ .pending
                                    leaving := s.ods.leaving ++ gone.map fun o => ⟨o, .station, false⟩ }
        (gone.map (fun o => ⟨.ods, .cat, .unbindRequest o.clip o.id⟩) ++ [acceptOf .ods q (u8 gone.length)])).runPass := by
  subst hgone
  change execAbortAll _ _ = _
  simp only [execAbortAll, foldl_removePending, filter_not_pending h, State.accept_eq, State.withOds_send]
  rfl

/-- Settles O16, clause by clause. -/
theorem orderProgressAndAborts : Obligations.OrderProgressAndAborts := by
  refine ⟨⟨⟨fun ch order s o o' ho hs ho' => ?_, fun ch order s o o' ho hs ho' => ?_, fun ch order s o o' ho hs ho' => ?_,
    fun ch order s h => readDoneReport_eq.trans (congrArg _ (State.whenIn_of_other h)),
    fun ch order s h => repairBegunReport_eq.trans (congrArg _ (State.whenIn_of_other h)),
    fun ch order s h => repairDoneReport_eq.trans (congrArg _ (State.whenIn_of_other h)),
    fun ch order kind s o ho hch hend => next_withOds (orderEndReport_unbinds kind ho hch hend),
    fun ch order kind s h => orderEndReport_discarded kind h,
    fun order clip st s o kind ch hl ho hend hch => ?_,
    ⟨rfl, rfl, rfl, rfl, fun st => ⟨rfl, rfl, rfl, rfl⟩⟩,
    fun order clip st s hl h => unbindAnswer_discarded clip st hl h⟩,
    fun q order s o ho hend hs => next_withOds (abortOrder_pending ho hend hs),
    fun q order s o ch ho hend hs hab hch => next_withOds (abortOrder_running ho hend hs hab hch),
    fun q order s o ho hend hs hab => ⟨_, abortOrder_already ho hend hs hab, onlyWire_send .., State.send_wire ..⟩,
    fun q order s ho => refused_of_refuse (abortOrder_not_found fun o hso => ?_),
    fun order clip st s l hl => ⟨_, unbindAnswer_of_removed clip st hl rfl, rfl, rfl, rfl⟩,
    fun clip order serial made desc s o ho hs => next_withOds (catalogRemovalRequest_pending clip serial made desc ho hs),
    fun clip order serial made desc s h =>
      ⟨_, catalogRemovalRequest_other clip serial made desc h, onlyWire_send .., State.send_wire ..⟩,
    fun q s gone hn hgone => ?_⟩,
    fun q order s o ho hend => refused_of_refuse (abortOrder_not_found fun o' ho' => ?_)⟩
  · subst ho'
    rw [readDoneReport_eq, State.whenIn_of_state ho hs, State.orderState_of_seen _ ho]
    exact next_of_withOds rfl
  · subst ho'
    rw [repairBegunReport_eq, State.whenIn_of_state ho hs, State.orderState_of_seen _ ho]
    exact next_withOds rfl
  · subst ho'
    rw [repairDoneReport_eq, State.whenIn_of_state ho hs, State.orderState_of_seen _ ho]
    exact next_withOds rfl
  · refine ⟨_, unbindAnswer_ends clip st hl ho hend hch, rfl, rfl, ?_⟩
    rw [← hch]
    rfl
  · exact absurd (ho.symm.trans hso) (Option.some_ne_none o).symm
  · obtain ⟨u, hu, hframe, hods, hwire⟩ := next_of_withOds (abortAll_eq q hn hgone)
    exact ⟨u, hu, hframe, hods, by rw [hwire, List.append_assoc]⟩
  · obtain rfl := Option.some.inj (ho.symm.trans ho')
    exact hend

end Sys2Proof.Machine
end


section
/-! SUPPORT. The extent sum as a fold over the words of a run of bytes (R70). -/

namespace Sys2Proof.Machine

/-- The words of a run of bytes: pairs, low byte first, the last one of an odd count with a zero high byte (R70). -/
def wordsOf (bs : List Byte) : List Nat :=
  (List.range ((bs.length + 1) / 2)).map fun k => (bs.getD (2 * k) 0).toNat + 256 * (bs.getD (2 * k + 1) 0).toNat

theorem wordsOf_cons_cons (x y : Byte) (bs : List Byte) :
    wordsOf (x :: y :: bs) = (x.toNat + 256 * y.toNat) :: wordsOf bs := by
  have hlen : ((x :: y :: bs).length + 1) / 2 = (bs.length + 1) / 2 + 1 := by simp only [List.length_cons]; omega
  simp only [wordsOf, hlen, List.range_succ_eq_map, List.map_cons, List.map_map]
  rfl

theorem sumPairs_eq_foldl (ab : Nat × Nat) (bs : List Byte) : sumPairs ab bs = (wordsOf bs).foldl sumWord ab := by
  induction ab, bs using sumPairs.induct with
  | case1 ab => rfl
  | case2 ab x => simp [sumPairs, wordsOf]
  | case3 ab x y rest ih => rw [sumPairs, ih, wordsOf_cons_cons, List.foldl_cons]

/-- Both accumulators stay below 65535. -/
theorem foldl_sumWord_lt {ab : Nat × Nat} (ha : ab.1 < 65535) (hb : ab.2 < 65535) (ws : List Nat) :
    (ws.foldl sumWord ab).1 < 65535 ∧ (ws.foldl sumWord ab).2 < 65535 := by
  induction ws generalizing ab with
  | nil => exact ⟨ha, hb⟩
  | cons w ws ih => exact ih (Nat.mod_lt _ (by decide)) (Nat.mod_lt _ (by decide))

theorem extentSum_toNat (bs : List Byte) :
    (extentSum bs).toNat = ((wordsOf bs).foldl sumWord (1, 0)).2 * 65536 + ((wordsOf bs).foldl sumWord (1, 0)).1 := by
  obtain ⟨ha, hb⟩ := foldl_sumWord_lt (ab := (1, 0)) (by decide) (by decide) (wordsOf bs)
  simp only [extentSum, sumPairs_eq_foldl, BitVec.toNat_ofNat]
  omega

/-- The word FFFFh counts as 0 in both accumulators. -/
theorem sumWord_ffff (ab : Nat × Nat) : sumWord ab (255 + 256 * 255) = sumWord ab 0 := by
  simp only [sumWord, Nat.reduceMul, Nat.reduceAdd, Nat.add_mod_right, Nat.add_zero]

theorem sumPairs_replicate_ff (n : Nat) (ab : Nat × Nat) :
    sumPairs ab (List.replicate (2 * n) 0xFF) = sumPairs ab (List.replicate (2 * n) 0) := by
  induction n generalizing ab with
  | zero => rfl
  | succ n ih =>
    have hword : sumWord ab ((0xFF : Byte).toNat + 256 * (0xFF : Byte).toNat) = sumWord ab 0 := sumWord_ffff ab
    simp only [Nat.mul_succ, List.replicate_succ, sumPairs, hword, ih]
    rfl

/-- Settles O60: the sum is a fold over the words, and FFFFh and 0 are one word to it. -/
theorem extentSums : Obligations.ExtentSums := by
  refine ⟨fun bs w hw => ?_, fun n => ?_⟩
  · obtain rfl : w = wordsOf bs := hw
    obtain ⟨ha, hb⟩ := foldl_sumWord_lt (ab := (1, 0)) (by decide) (by decide) (wordsOf bs)
    exact ⟨_, _, rfl, ha, hb, extentSum_toNat bs⟩
  · simp only [extentSum, sumPairs_replicate_ff]

end Sys2Proof.Machine
end


section
/-! SUPPORT. The Staging Store (R71, R72): which buffer is FREE, which waiting channel is next, and what freeing a buffer and an
answer of a port do, each depending on the store alone. -/

namespace Sys2Proof.Machine

/-! ## The lowest FREE buffer and the next waiting channel (R72) -/

theorem Staging.lowestFree_eq_some {x : Staging} {n : Nat} :
    x.lowestFree = some n ↔ n < 256 ∧ (∀ b ∈ x.bufs, b.num ≠ n) ∧ ∀ m < n, ∃ b ∈ x.bufs, b.num = m := by
  simp only [Staging.lowestFree, List.find?_range_eq_some, List.mem_range, Bool.not_eq_true', Bool.not_not,
    List.any_eq_false, List.any_eq_true, decide_eq_true_eq, ne_eq]
  tauto

theorem Staging.eligible_iff {x : Staging} {ch : Chan} : x.eligible ch = true ↔ x.held ch < 96 := by
  simp [Staging.eligible]

theorem Staging.mem_of_buf? {x : Staging} {n : Nat} {b : Buffer} (h : x.buf? n = some b) : b ∈ x.bufs ∧ b.num = n :=
  ⟨List.mem_of_find?_eq_some h, by simpa using List.find?_some h⟩

/-- The order in which a freed buffer is offered: the channels after the one served last, and that one at the end (R72). -/
def turns (last : Chan) : List Chan := [last + 1, last + 2, last]

/-- How many channels are asked before this one. -/
def turnOf (last ch : Chan) : Nat := (ch - last - 1 : Chan).val

theorem mem_turns (last ch : Chan) : ch ∈ turns last := by
  revert last ch
  decide

theorem turns_pairwise (last : Chan) : (turns last).Pairwise fun a b => turnOf last a ≤ turnOf last b := by
  revert last
  decide

theorem Staging.winner_eq (x : Staging) :
    x.winner = ((turns x.last).filter fun ch => x.eligible ch).findSome? fun ch => x.waits.find? fun w => w.ch = ch := rfl

theorem Staging.winner_eq_none {x : Staging} : x.winner = none ↔ ∀ v ∈ x.waits, 96 ≤ x.held v.ch := by
  simp only [Staging.winner_eq, List.findSome?_eq_none_iff, List.mem_filter, List.find?_eq_none, decide_eq_true_eq, and_imp,
    Staging.eligible_iff]
  refine ⟨fun h v hv => Nat.le_of_not_lt fun hlt => h v.ch (mem_turns _ _) hlt v hv rfl, fun h ch _ hlt v hv e => ?_⟩
  exact absurd (h v hv) (Nat.not_le.mpr (e ▸ hlt))

theorem Staging.mem_of_winner {x : Staging} {w : Waiter} (h : x.winner = some w) : w ∈ x.waits ∧ x.held w.ch < 96 := by
  obtain ⟨ch, hch, hw⟩ := List.exists_of_findSome?_eq_some h
  obtain rfl : w.ch = ch := by simpa using List.find?_some hw
  exact ⟨List.mem_of_find?_eq_some hw, Staging.eligible_iff.mp (List.mem_filter.mp hch).2⟩

/-- No waiting channel below its share has its turn before the one served. -/
theorem Staging.winner_first {x : Staging} {w v : Waiter} (h : x.winner = some w) (hv : v ∈ x.waits)
    (hlt : x.held v.ch < 96) : turnOf x.last w.ch ≤ turnOf x.last v.ch := by
  obtain ⟨before, ch, after, hsplit, hw, hbefore⟩ := List.findSome?_eq_some_iff.mp (x.winner_eq ▸ h)
  obtain rfl : w.ch = ch := by simpa using List.find?_some hw
  have hsorted := (turns_pairwise x.last).filter fun ch => x.eligible ch
  have hmem : v.ch ∈ (turns x.last).filter fun ch => x.eligible ch :=
    List.mem_filter.mpr ⟨mem_turns _ _, Staging.eligible_iff.mpr hlt⟩
  rw [hsplit] at hsorted hmem
  obtain hb | he | ha : v.ch ∈ before ∨ v.ch = w.ch ∨ v.ch ∈ after := by simpa using hmem
  · exact absurd (decide_eq_true rfl) (List.find?_eq_none.mp (hbefore _ hb) v hv)
  · rw [he]
  · exact (List.pairwise_cons.mp (List.pairwise_append.mp hsorted).2.1).1 _ ha

/-! ## Freeing a buffer (R72) -/

theorem State.freeBuffer_of_free {s : State} {n : Nat} (h : s.sts.buf? n = none) : s.freeBuffer n = s :=
  if_pos (by rw [h]; rfl)

/-- The store once a buffer has become FREE. -/
def Staging.without (x : Staging) (n : Nat) : Staging := { x with bufs := x.bufs.filter fun b => b.num ≠ n }

/-- The buffer that is granted to a waiting channel: FILLING, with what the channel asked for. -/
def Waiter.buffer (w : Waiter) (n : Nat) : Buffer :=
  { num := n, owner := w.ch, clip := w.clip, ext := w.ext, pass := w.pass, len := w.len }

/-- The store once a FREE buffer has been granted to a waiting channel. -/
def Staging.granted (x : Staging) (w : Waiter) (n : Nat) : Staging :=
  { bufs := insertBuffer (w.buffer n) x.bufs, waits := x.waits.filter fun v => v.ch ≠ w.ch, last := w.ch }

theorem State.freeBuffer_unclaimed {s : State} {n : Nat} {b : Buffer} (h : s.sts.buf? n = some b)
    (hw : (s.sts.without n).winner = none) : s.freeBuffer n = { s with sts := s.sts.without n } := by
  change (s.setBufs _).sts.winner = none at hw
  simp only [State.freeBuffer, h, Option.isNone_some, Bool.false_eq_true, if_false, hw]
  rfl

theorem State.freeBuffer_granted {s : State} {n : Nat} {b : Buffer} {w : Waiter} (h : s.sts.buf? n = some b)
    (hw : (s.sts.without n).winner = some w) :
    s.freeBuffer n = { s with
      sts := (s.sts.without n).granted w n, wire := s.wire ++ [⟨.sts, .cc w.ch, .bufferGrant w.ch w.tag n⟩] } := by
  change (s.setBufs _).sts.winner = some w at hw
  simp only [State.freeBuffer, h, Option.isNone_some, Bool.false_eq_true, if_false, hw]
  rfl

/-! ## An answer of a port (R71, R75, R86) -/

theorem State.drained_of_other {s : State} {ch : Chan} {p : Port} {n : Nat}
    (h : ∀ b, s.sts.buf? n = some b → b.owner ≠ ch ∨ p ∉ b.pend) : s.drained ch p n = s := by
  unfold State.drained
  split
  · rfl
  next b hb => exact if_pos (h b hb)

theorem State.drained_last {s : State} {ch : Chan} {p : Port} {n : Nat} {b : Buffer} (hb : s.sts.buf? n = some b)
    (ho : b.owner = ch) (hp : p ∈ b.pend) (hlast : ∀ x ∈ b.pend, x = p) : s.drained ch p n = s.freeBuffer n := by
  have hempty : (b.pend.filter fun x => x ≠ p) = [] := List.filter_eq_nil_iff.mpr (by simpa using hlast)
  simp only [State.drained, hb, ho, hp, hempty, ne_eq, not_true_eq_false, or_self, if_false, List.isEmpty_nil, if_true]

theorem State.drained_one_of_more {s : State} {ch : Chan} {p : Port} {n : Nat} {b : Buffer} (hb : s.sts.buf? n = some b)
    (ho : b.owner = ch) (hp : p ∈ b.pend) (hmore : ∃ x ∈ b.pend, x ≠ p) :
    s.drained ch p n = s.setBufs (s.sts.bufs.map fun x =>
      if x.num = n then { x with pend := b.pend.filter fun y => y ≠ p } else x) := by
  have hleft : (b.pend.filter fun x => x ≠ p).isEmpty = false := by
    obtain ⟨x, hx, hne⟩ := hmore
    exact List.isEmpty_eq_false_iff_exists_mem.mpr ⟨x, List.mem_filter.mpr ⟨hx, by simpa using hne⟩⟩
  simp only [State.drained, hb, ho, hp, hleft, ne_eq, not_true_eq_false, or_self, if_false, Bool.false_eq_true]

/-! ## Operations of the store alone -/

/-- An operation of the Staging Store alone: what it makes of the store, and the messages it sends, which answer no watch,
depend on the store alone, and it changes nothing else. -/
def OnStore (f : State → State) : Prop :=
  ∀ s, ∃ v : List Wire, (∀ w ∈ v, isWatchAnswer w = false) ∧
    ∀ t : State, t.sts = s.sts → f t = { t with sts := (f s).sts, wire := t.wire ++ v }

theorem OnStore.id : OnStore fun s => s :=
  fun s => ⟨[], by simp, fun t h => by simp [← h]⟩

theorem OnStore.comp {f g : State → State} (hf : OnStore f) (hg : OnStore g) : OnStore fun s => g (f s) := by
  intro s
  obtain ⟨v, hv, hfs⟩ := hf s
  obtain ⟨u, hu, hgs⟩ := hg (f s)
  refine ⟨v ++ u, fun w hw => (List.mem_append.mp hw).elim (hv w) (hu w), fun t h => ?_⟩
  have hft : (f t).sts = (f s).sts := by rw [hfs t h]
  change g (f t) = _
  rw [hgs _ hft, hfs t h, List.append_assoc]

theorem OnStore.foldl {α : Type} {f : State → α → State} (hf : ∀ a, OnStore fun s => f s a) (l : List α) :
    OnStore fun s => l.foldl f s := by
  induction l with
  | nil => exact OnStore.id
  | cons a l ih => exact (hf a).comp ih

theorem OnStore.setBufs (g : Staging → List Buffer) : OnStore fun s => s.setBufs (g s.sts) :=
  fun s => ⟨[], by simp, fun t h => by simp [State.setBufs, h]⟩

theorem OnStore.leaveWaits (ch : Chan) : OnStore fun s => s.leaveWaits ch :=
  fun s => ⟨[], by simp, fun t h => by simp [State.leaveWaits, h]⟩

theorem OnStore.freeBuffer (n : Nat) : OnStore fun s => s.freeBuffer n := by
  intro s
  cases hb : s.sts.buf? n with
  | none =>
    refine ⟨[], by simp, fun t h => ?_⟩
    dsimp only
    rw [State.freeBuffer_of_free hb, State.freeBuffer_of_free (h ▸ hb)]
    simp [← h]
  | some b =>
    cases hw : (s.sts.without n).winner with
    | none =>
      refine ⟨[], by simp, fun t h => ?_⟩
      dsimp only
      rw [State.freeBuffer_unclaimed hb hw, State.freeBuffer_unclaimed (h ▸ hb) (h ▸ hw)]
      simp [h]
    | some w =>
      refine ⟨[⟨.sts, .cc w.ch, .bufferGrant w.ch w.tag n⟩], by simp [isWatchAnswer], fun t h => ?_⟩
      dsimp only
      rw [State.freeBuffer_granted hb hw, State.freeBuffer_granted (h ▸ hb) (h ▸ hw), h]

theorem OnStore.drained (ch : Chan) (p : Port) (n : Nat) : OnStore fun s => s.drained ch p n := by
  intro s
  by_cases h : ∃ b, s.sts.buf? n = some b ∧ b.owner = ch ∧ p ∈ b.pend
  · obtain ⟨b, hb, ho, hp⟩ := h
    by_cases hmore : ∃ y ∈ b.pend, y ≠ p
    · refine ⟨[], by simp, fun t h => ?_⟩
      dsimp only
      rw [State.drained_one_of_more hb ho hp hmore, State.drained_one_of_more (h ▸ hb) ho hp hmore]
      simp [State.setBufs, h]
    · have hlast : ∀ y ∈ b.pend, y = p := by simpa using hmore
      obtain ⟨v, hv, hf⟩ := OnStore.freeBuffer n s
      refine ⟨v, hv, fun t h => ?_⟩
      dsimp only
      rw [State.drained_last hb ho hp hlast, State.drained_last (h ▸ hb) ho hp hlast]
      exact hf t h
  · have hother : ∀ b, s.sts.buf? n = some b → b.owner ≠ ch ∨ p ∉ b.pend := fun b hb =>
      Classical.or_iff_not_imp_left.mpr fun ho hp => h ⟨b, hb, not_not.mp ho, hp⟩
    refine ⟨[], by simp, fun t h => ?_⟩
    dsimp only
    rw [State.drained_of_other hother, State.drained_of_other (h ▸ hother)]
    simp [← h]

/-- On a state with the same store an operation of the store does the same. -/
theorem OnStore.eq {f : State → State} (hf : OnStore f) {s t : State} (h : t.sts = s.sts) :
    f t = { t with sts := (f s).sts, wire := t.wire ++ (f s).wire.drop s.wire.length } := by
  obtain ⟨v, -, hy⟩ := hf s
  rw [hy t h, hy s rfl]
  simp

theorem OnStore.answers_no_watch {f : State → State} (hf : OnStore f) (s : State) :
    ∀ w ∈ (f s).wire.drop s.wire.length, isWatchAnswer w = false := by
  obtain ⟨v, hv, hy⟩ := hf s
  rw [hy s rfl]
  simpa using hv

/-! ## The rule of the store (R71) -/

theorem mem_insertBuffer {b c : Buffer} {l : List Buffer} : c ∈ insertBuffer b l ↔ c = b ∨ c ∈ l := by
  induction l with
  | nil => simp [insertBuffer]
  | cons x xs ih =>
    unfold insertBuffer
    split
    · simp
    · simp only [List.mem_cons, ih]
      tauto

theorem insertBuffer_ascending {b : Buffer} {l : List Buffer} (hl : l.Pairwise fun x y => x.num < y.num)
    (hb : ∀ x ∈ l, x.num ≠ b.num) : (insertBuffer b l).Pairwise fun x y => x.num < y.num := by
  induction l with
  | nil => simp [insertBuffer]
  | cons x xs ih =>
    obtain ⟨hx, hxs⟩ := List.pairwise_cons.mp hl
    obtain ⟨hne, hrest⟩ := List.forall_mem_cons.mp hb
    unfold insertBuffer
    split
    next hlt => exact List.pairwise_cons.mpr ⟨List.forall_mem_cons.mpr ⟨hlt, fun y hy => hlt.trans (hx y hy)⟩, hl⟩
    next hge =>
      refine List.pairwise_cons.mpr ⟨fun y hy => ?_, ih hxs hrest⟩
      obtain rfl | hy := mem_insertBuffer.mp hy
      · omega
      · exact hx y hy

theorem insertBuffer_perm (b : Buffer) (l : List Buffer) : (insertBuffer b l).Perm (b :: l) := by
  induction l with
  | nil => exact .refl _
  | cons x xs ih =>
    unfold insertBuffer
    split
    · exact .refl _
    · exact (ih.cons x).trans (.swap ..)

theorem Staging.held_eq_countP (x : Staging) (ch : Chan) : x.held ch = x.bufs.countP fun b => b.owner = ch :=
  List.countP_eq_length_filter.symm

theorem stagingOk_iff {s : State} : stagingOk s ↔
    s.sts.bufs.Pairwise (fun x y => x.num < y.num) ∧ (∀ b ∈ s.sts.bufs, b.num < 256) ∧ ∀ ch, s.sts.held ch ≤ 96 := by
  rw [stagingOk, List.pairwise_map]

/-- The rule of the Staging Store speaks of its buffers alone. -/
theorem stagingOk_congr {s t : State} (h : t.sts.bufs = s.sts.bufs) : stagingOk t ↔ stagingOk s := by
  simp only [stagingOk, Staging.held, h]

theorem stagingOk.filter {s t : State} {p : Buffer → Bool} (hs : stagingOk s) (h : t.sts.bufs = s.sts.bufs.filter p) :
    stagingOk t := by
  obtain ⟨asc, lt, share⟩ := stagingOk_iff.mp hs
  refine stagingOk_iff.mpr ⟨h ▸ asc.filter _, fun b hb => lt b (List.mem_of_mem_filter (h ▸ hb)), fun ch => ?_⟩
  refine le_trans ?_ (share ch)
  rw [Staging.held_eq_countP, Staging.held_eq_countP, h]
  exact List.filter_sublist.countP_le

/-- A change of buffers that leaves each its number and its owner keeps the store right. -/
theorem stagingOk.map {s t : State} {f : Buffer → Buffer} (hs : stagingOk s) (h : t.sts.bufs = s.sts.bufs.map f)
    (hf : ∀ b, (f b).num = b.num ∧ (f b).owner = b.owner) : stagingOk t := by
  obtain ⟨asc, lt, share⟩ := stagingOk_iff.mp hs
  have hheld (ch : Chan) : t.sts.held ch = s.sts.held ch := by
    simp only [Staging.held_eq_countP, h, List.countP_map, Function.comp_def, (hf _).2]
  refine stagingOk_iff.mpr ⟨?_, fun b hb => ?_, fun ch => (hheld ch).symm ▸ share ch⟩
  · rw [h, List.pairwise_map]
    simpa only [(hf _).1] using asc
  · obtain ⟨c, hc, rfl⟩ := List.mem_map.mp (h ▸ hb)
    exact (hf c).1 ▸ lt c hc

/-- Granting a FREE buffer to a channel below its share keeps the store right. -/
theorem stagingOk.insert {s t : State} {b : Buffer} (hs : stagingOk s) (h : t.sts.bufs = insertBuffer b s.sts.bufs)
    (hb : b.num < 256) (hfree : ∀ x ∈ s.sts.bufs, x.num ≠ b.num) (hshare : s.sts.held b.owner < 96) : stagingOk t := by
  obtain ⟨asc, lt, share⟩ := stagingOk_iff.mp hs
  refine stagingOk_iff.mpr ⟨h ▸ insertBuffer_ascending asc hfree, fun x hx => ?_, fun ch => ?_⟩
  · obtain rfl | hx := mem_insertBuffer.mp (h ▸ hx)
    · exact hb
    · exact lt x hx
  · rw [Staging.held_eq_countP, h, (insertBuffer_perm b _).countP_eq, List.countP_cons, ← Staging.held_eq_countP]
    split
    next ho =>
      obtain rfl : b.owner = ch := by simpa using ho
      omega
    · exact share ch

theorem stagingOk.freeBuffer {s : State} (hs : stagingOk s) (n : Nat) : stagingOk (s.freeBuffer n) := by
  cases hb : s.sts.buf? n with
  | none => rwa [State.freeBuffer_of_free hb]
  | some b =>
    have hfreed : stagingOk { s with sts := s.sts.without n } := hs.filter rfl
    cases hw : (s.sts.without n).winner with
    | none => rwa [State.freeBuffer_unclaimed hb hw]
    | some w =>
      obtain ⟨hmem, rfl⟩ := Staging.mem_of_buf? hb
      rw [State.freeBuffer_granted hb hw]
      refine hfreed.insert (b := w.buffer b.num) rfl ((stagingOk_iff.mp hs).2.1 b hmem) (fun x hx => ?_)
        (Staging.mem_of_winner hw).2
      exact of_decide_eq_true (List.mem_filter.mp hx).2

theorem stagingOk.drained {s : State} (hs : stagingOk s) (ch : Chan) (p : Port) (n : Nat) : stagingOk (s.drained ch p n) := by
  unfold State.drained
  split
  · exact hs
  · split
    · exact hs
    · dsimp only
      split
      · exact hs.freeBuffer n
      · refine hs.map rfl fun b => ?_
        split <;> exact ⟨rfl, rfl⟩

/-- An operation of the Staging Store alone that keeps its rule. -/
structure StoreOp (f : State → State) : Prop where
  onStore : OnStore f
  keeps : ∀ s, stagingOk s → stagingOk (f s)

theorem StoreOp.foldl {α : Type} {f : State → α → State} (hf : ∀ a, StoreOp fun s => f s a) (l : List α) :
    StoreOp fun s => l.foldl f s where
  onStore := OnStore.foldl (fun a => (hf a).onStore) l
  keeps := fun _ hs => foldl_induction (fun t a ht => (hf a).keeps t ht) l hs

theorem StoreOp.freeBuffer (n : Nat) : StoreOp fun s => s.freeBuffer n := ⟨.freeBuffer n, fun _ hs => hs.freeBuffer n⟩

theorem StoreOp.drained (ch : Chan) (p : Port) (n : Nat) : StoreOp fun s => s.drained ch p n :=
  ⟨.drained ch p n, fun _ hs => hs.drained ch p n⟩

theorem StoreOp.leaveWaits (ch : Chan) : StoreOp fun s => s.leaveWaits ch :=
  ⟨.leaveWaits ch, fun _ hs => (stagingOk_congr rfl).mpr hs⟩

/-- Changing one buffer's bytes or pending set. -/
theorem StoreOp.changeBuffer (n : Nat) (f : Buffer → Buffer) (hf : ∀ b, (f b).num = b.num ∧ (f b).owner = b.owner) :
    StoreOp fun s => s.setBufs (s.sts.bufs.map fun b => if b.num = n then f b else b) where
  onStore := .setBufs fun x => x.bufs.map fun b => if b.num = n then f b else b
  keeps := fun _ hs => hs.map rfl fun b => by
    split
    · exact hf b
    · exact ⟨rfl, rfl⟩

end Sys2Proof.Machine
end


section
/-! SUPPORT. What a command of a copy channel is made of. `ChanMoves` lists the moves: storing the channel's context, sending a
message, taking an attempt number, and an operation of the Staging Store; whatever those keep, every command keeps.
`ChanBecomes` says exactly what a run of moves has come to. -/

namespace Sys2Proof.Machine

/-! ## The moves of a channel -/

/-- The state `t` is reached from `s` by moves of channel `ch`. -/
inductive ChanMoves (ch : Chan) (s : State) : State → Prop
  | refl : ChanMoves ch s s
  | setChan {t : State} (h : ChanMoves ch s t) (c : Channel) : ChanMoves ch s (t.setChan ch c)
  | send {t : State} (h : ChanMoves ch s t) (src dst : Node) (m : Instr) (hm : isWatchAnswer ⟨src, dst, m⟩ = false) :
      ChanMoves ch s (t.send src dst [m])
  | tick {t : State} (h : ChanMoves ch s t) : ChanMoves ch s t.tick
  | store {t : State} {f : State → State} (h : ChanMoves ch s t) (hf : StoreOp f) : ChanMoves ch s (f t)

theorem State.setChan_eq (s : State) (ch : Chan) (c : Channel) :
    s.setChan ch c = { s with
      cc := { ctx := upd s.cc.ctx ch fun _ => c
              watches := s.cc.watches.filter fun w => ¬(w.2.1 = ch ∧ c.aliveFor w.1 w.2.2 = false) }
      wire := s.wire ++ (s.cc.watches.filter fun w => w.2.1 = ch ∧ c.aliveFor w.1 w.2.2 = false).map fun w =>
        ⟨.cc ch, .dp w.1, .watchAnswer w.1 ch w.2.2⟩ } := by
  simp [State.setChan, State.answerWatches_eq, State.chan]

theorem StoreOp.cc {f : State → State} (hf : StoreOp f) (s : State) : (f s).cc = s.cc := by
  rw [hf.onStore.eq rfl]

theorem StoreOp.token {f : State → State} (hf : StoreOp f) (s : State) : (f s).token = s.token := by
  rw [hf.onStore.eq rfl]

theorem StoreOp.rest {f : State → State} (hf : StoreOp f) (s : State) : (f s).rest .cc = s.rest .cc := by
  rw [hf.onStore.eq rfl]
  rfl

theorem StoreOp.wire {f : State → State} (hf : StoreOp f) (s : State) :
    (f s).wire = s.wire ++ (f s).wire.drop s.wire.length := by
  conv_lhs => rw [hf.onStore.eq rfl]

theorem StoreOp.chan {f : State → State} (hf : StoreOp f) (s : State) (ch : Chan) : (f s).chan ch = s.chan ch := by
  simp only [State.chan, hf.cc]

/-- The answer to a watch (R102). -/
def closedOf (w : Port × Chan × Nat) : Wire := ⟨.cc w.2.1, .dp w.1, .watchAnswer w.1 w.2.1 w.2.2⟩

namespace ChanMoves
variable {ch : Chan} {s t : State}

theorem rest (h : ChanMoves ch s t) : t.rest .cc = s.rest .cc := by
  induction h with
  | refl => rfl
  | setChan _ _ ih | send _ _ _ _ _ ih => simpa using ih
  | tick _ ih => simpa using ih
  | store _ hf ih => exact (hf.rest _).trans ih

theorem onlyCc (h : ChanMoves ch s t) : onlyCc s t := onlyCc_of_rest h.rest

theorem others (h : ChanMoves ch s t) : otherChans ch s t := by
  induction h with
  | refl => exact fun _ _ => rfl
  | setChan _ c ih => exact fun x hx => (State.setChan_other _ ch x c hx).trans (ih x hx)
  | send _ _ _ _ _ ih | tick _ ih => exact fun x hx => ih x hx
  | store _ hf ih => exact fun x hx => (hf.chan _ x).trans (ih x hx)

theorem stagingOk (h : ChanMoves ch s t) (hs : stagingOk s) : stagingOk t := by
  induction h with
  | refl => exact hs
  | setChan _ _ ih => exact (stagingOk_congr (by simp)).mpr ih
  | send _ _ _ _ _ ih | tick _ ih => exact ih
  | store _ hf ih => exact hf.keeps _ ih

/-- Messages are only added. -/
theorem wire_grows (h : ChanMoves ch s t) : s.wire <+: t.wire := by
  induction h with
  | refl => exact ⟨[], List.append_nil _⟩
  | setChan _ c ih => exact ih.trans (by rw [State.setChan_eq]; exact ⟨_, rfl⟩)
  | send _ _ _ _ _ ih => exact ih.trans ⟨_, rfl⟩
  | tick _ ih => exact ih
  | store _ hf ih => exact ih.trans (by rw [hf.wire]; exact ⟨_, rfl⟩)

theorem watches_subset (h : ChanMoves ch s t) : t.cc.watches ⊆ s.cc.watches := by
  induction h with
  | refl => exact List.Subset.refl _
  | setChan _ c ih =>
    rw [State.setChan_eq]
    exact fun w hw => ih (List.mem_of_mem_filter hw)
  | send _ _ _ _ _ ih | tick _ ih => exact ih
  | store _ hf ih => rw [hf.cc]; exact ih

/-- A watch leaves the list only with its answer. -/
theorem watch_kept_or_answered (h : ChanMoves ch s t) {w : Port × Chan × Nat} (hw : w ∈ s.cc.watches) :
    w ∈ t.cc.watches ∨ closedOf w ∈ t.wire := by
  induction h with
  | refl => exact .inl hw
  | @setChan t _ c ih =>
    rw [State.setChan_eq]
    obtain hw | hw := ih
    · by_cases hclosed : w.2.1 = ch ∧ c.aliveFor w.1 w.2.2 = false
      · refine .inr (List.mem_append_right _ (List.mem_map.mpr ⟨w, by simp [hw, hclosed], ?_⟩))
        rw [closedOf, hclosed.1]
      · exact .inl (List.mem_filter.mpr ⟨hw, decide_eq_true hclosed⟩)
    · exact .inr (List.mem_append_left _ hw)
  | send _ _ _ _ _ ih => exact ih.imp_right (List.mem_append_left _)
  | tick _ ih => exact ih
  | store _ hf ih =>
    rw [hf.cc, hf.wire]
    exact ih.imp_right (List.mem_append_left _)

/-- No watch of a closed element is left behind (R102). -/
theorem watches_alive (h : ChanMoves ch s t) (hs : ∀ w ∈ s.cc.watches, (s.chan w.2.1).aliveFor w.1 w.2.2 = true) :
    ∀ w ∈ t.cc.watches, (t.chan w.2.1).aliveFor w.1 w.2.2 = true := by
  induction h with
  | refl => exact hs
  | @setChan t _ c ih =>
    rw [State.setChan_eq]
    intro w hw
    obtain ⟨hw, hkept⟩ := List.mem_filter.mp hw
    rw [← State.setChan_eq]
    by_cases hch : w.2.1 = ch
    · rw [hch, State.setChan_chan]
      simpa [hch] using hkept
    · rw [State.setChan_other _ _ _ _ hch]
      exact ih w hw
  | send _ _ _ _ _ ih | tick _ ih => exact ih
  | store _ hf ih =>
    simp only [hf.cc, hf.chan]
    exact ih

theorem ite {p : Prop} [Decidable p] {u : State} (h : p → ChanMoves ch s t) (hn : ¬p → ChanMoves ch s u) :
    ChanMoves ch s (if p then t else u) := by
  split
  next hp => exact h hp
  next hp => exact hn hp

theorem foldl {α : Type} {f : State → α → State} (hf : ∀ t a, ChanMoves ch s t → ChanMoves ch s (f t a)) (l : List α)
    (h : ChanMoves ch s t) : ChanMoves ch s (l.foldl f t) := foldl_induction hf l h

/-! ## The operations of a channel are moves -/

theorem setElem (h : ChanMoves ch s t) (p : Port) (f : Elem → Elem) : ChanMoves ch s (t.setElem ch p f) := h.setChan _

theorem askPort (h : ChanMoves ch s t) (p : Port) (m : Instr) (hm : isWatchAnswer ⟨.cc ch, .dp p, m⟩ = false) :
    ChanMoves ch s (t.askPort ch p m) := (h.setChan _).send _ _ m hm

theorem portAnswered (h : ChanMoves ch s t) (p : Port) : ChanMoves ch s (t.portAnswered ch p) := h.setChan _

theorem tellCat (h : ChanMoves ch s t) (m : Instr) (hm : isWatchAnswer ⟨.cc ch, .cat, m⟩ = false) :
    ChanMoves ch s (t.tellCat ch m) := h.send _ _ m hm

theorem dropElem (h : ChanMoves ch s t) (p : Port) : ChanMoves ch s (t.dropElem ch p) := (h.setElem p _).setChan _

theorem endCopy (h : ChanMoves ch s t) (e : Elem) (final : CopyState) (cause : CopyCause) :
    ChanMoves ch s (t.endCopy ch e final cause) := (h.tellCat _ rfl).dropElem _

theorem dropDest (h : ChanMoves ch s t) (p : Port) (cause : DropCause) : ChanMoves ch s (t.dropDest ch p cause) :=
  (h.dropElem p).send _ _ _ rfl

theorem startExtent (h : ChanMoves ch s t) (ext : Nat) (pass : PassKind) : ChanMoves ch s (t.startExtent ch ext pass) :=
  ((h.tick.setChan _).send _ _ _ rfl).send _ _ _ rfl

theorem nextBurst (h : ChanMoves ch s t) (f : Filling) : ChanMoves ch s (t.nextBurst ch f) := (h.setChan _).send _ _ _ rfl

theorem giveUpClaim (h : ChanMoves ch s t) : ChanMoves ch s (t.giveUpClaim ch) :=
  .ite (fun _ => h) fun _ => (h.setChan _).send _ _ _ rfl

theorem sendClaim (h : ChanMoves ch s t) : ChanMoves ch s (t.sendClaim ch) := (h.tick.setChan _).send _ _ _ rfl

theorem endOrder (h : ChanMoves ch s t) (k : EndKind) : ChanMoves ch s (t.endOrder ch k) := (h.setChan _).send _ _ _ rfl

theorem windDown (h : ChanMoves ch s t) : ChanMoves ch s (t.windDown ch) :=
  .ite (fun _ => h) fun _ => (h.foldl (fun _ e ht => ht.endCopy e _ _) _).endOrder _

theorem stopReading (h : ChanMoves ch s t) : ChanMoves ch s (t.stopReading ch) := by
  refine giveUpClaim (foldl (fun _ n ht => ht.store (.freeBuffer n)) _ (setChan ?_ _))
  exact .ite (fun _ => (h.store (.leaveWaits ch)).send _ _ _ rfl) fun _ => h

theorem enterEnding (h : ChanMoves ch s t) (k : EndKind) : ChanMoves ch s (t.enterEnding ch k) := by
  refine windDown (foldl (fun _ p ht => .ite (fun _ => ht) fun _ => ht.send _ _ _ rfl) _ ?_)
  exact .ite (fun _ => send (.ite (fun _ => h.setChan _) fun _ => (h.setChan _).stopReading) _ _ _ rfl)
    fun _ => .ite (fun _ => h.setChan _) fun _ => (h.setChan _).stopReading

theorem cardLoss (h : ChanMoves ch s t) : ChanMoves ch s (t.cardLoss ch) := h.enterEnding _

theorem maybeStartRead (h : ChanMoves ch s t) : ChanMoves ch s (t.maybeStartRead ch) :=
  .ite (fun _ => h) fun _ => (h.setChan _).tellCat _ rfl

theorem sendVerify (h : ChanMoves ch s t) (e : Elem) (ext : Nat) : ChanMoves ch s (t.sendVerify ch e ext) :=
  h.askPort _ _ rfl

theorem beginVerify (h : ChanMoves ch s t) (e : Elem) : ChanMoves ch s (t.beginVerify ch e) :=
  ((h.tellCat _ rfl).setElem _ _).sendVerify _ _

theorem beginRepair (h : ChanMoves ch s t) : ChanMoves ch s (t.beginRepair ch) := (h.setChan _).sendClaim

theorem finish (h : ChanMoves ch s t) : ChanMoves ch s (t.finish ch) := by
  unfold State.finish
  have hv := h.foldl (fun _ e ht => ht.beginVerify e)
    ((t.chan ch).dests.filter fun e => e.phase = .writing ∧ e.written = (t.chan ch).extents)
  exact .ite (fun _ => hv) fun _ => .ite (fun _ => hv.beginRepair) fun _ => .ite (fun _ => hv.endOrder _) fun _ => hv

theorem settle (h : ChanMoves ch s t) : ChanMoves ch s (t.settle ch) := by
  unfold State.settle
  split
  · exact h.maybeStartRead
  · exact h.finish
  · exact h.windDown
  · exact h
  · exact h

theorem loseDrive (h : ChanMoves ch s t) (p : Port) : ChanMoves ch s (t.loseDrive ch p) := by
  unfold State.loseDrive
  split
  · exact .ite (fun _ => (h.dropElem p).foldl (fun _ n ht => ht.store (.drained ch p n)) _) fun _ =>
      .ite (fun _ => h.setElem p _) fun _ => h
  · exact h

theorem writeFailed (h : ChanMoves ch s t) (p : Port) (e : Elem) : ChanMoves ch s (t.writeFailed ch p e) :=
  .ite (fun _ => h.endCopy e _ _) fun _ => (h.endCopy e _ _).send _ _ _ rfl

theorem dropRepair (h : ChanMoves ch s t) : ChanMoves ch s (t.dropRepair ch) :=
  (h.foldl (fun _ e ht => ht.endCopy e _ _) _).setChan _

theorem extentFull (h : ChanMoves ch s t) (f : Filling) (num : Nat) : ChanMoves ch s (t.extentFull ch f num) := by
  unfold State.extentFull
  split
  · exact .ite (fun _ => ((h.setChan _).tellCat _ rfl).startExtent _ _) fun _ => (h.setChan _).tellCat _ rfl
  · dsimp only
    split
    · exact ((h.setChan _).tellCat _ rfl).startExtent _ _
    · exact (h.setChan _).tellCat _ rfl

theorem burstDone (h : ChanMoves ch s t) (f : Filling) (num : Nat) (bytes : List Byte) :
    ChanMoves ch s (t.burstDone ch f num bytes) := by
  have hb := h.store (.changeBuffer num (fun b => { b with data := b.data ++ bytes }) fun _ => ⟨rfl, rfl⟩)
  unfold State.burstDone
  split
  · exact .ite (fun _ => (hb.send _ _ _ rfl).extentFull _ _) fun _ => (hb.send _ _ _ rfl).nextBurst _
  · exact .ite (fun _ => hb.extentFull _ _) fun _ => hb.nextBurst _

theorem handOn (h : ChanMoves ch s t) (num ext : Nat) (writes : Elem → Bool) :
    ChanMoves ch s (t.handOn ch num ext writes) := by
  refine .ite (fun _ => h.store (.freeBuffer num)) fun _ => ?_
  refine foldl (fun _ e ht => ht.askPort _ _ rfl) _ (h.store (.changeBuffer num (fun b => { b with
    pend := ((t.chan ch).dests.filter writes).map (·.port) }) fun _ => ⟨rfl, rfl⟩))

theorem readDone (h : ChanMoves ch s t) : ChanMoves ch s (t.readDone ch) :=
  ((h.giveUpClaim.send _ _ _ rfl).setChan _).send _ _ _ rfl

theorem repairDone (h : ChanMoves ch s t) : ChanMoves ch s (t.repairDone ch) :=
  (h.giveUpClaim.setChan _).send _ _ _ rfl

theorem sumAccepted (h : ChanMoves ch s t) (num ext : Nat) (pass : PassKind) (ans : SumAns) :
    ChanMoves ch s (t.sumAccepted ch num ext pass ans) := by
  unfold State.sumAccepted
  cases pass with
  | read =>
    have hsum : ChanMoves ch s (if ans = .stored then t.setChan ch { t.chan ch with
        sums := (t.chan ch).sums ++ [extentSum (((t.sts.buf? num).map (·.data)).getD [])] } else t) :=
      .ite (fun _ => h.setChan _) fun _ => h
    exact (handOn (.ite (fun _ => hsum.readDone) fun _ => hsum) _ _ _).settle
  | repair => exact settle (.ite (fun _ => (h.handOn _ _ _).repairDone) fun _ => h.handOn _ _ _)

theorem extentDone (h : ChanMoves ch s t) (e : Elem) (ext : Nat) : ChanMoves ch s (t.extentDone ch e ext) := by
  unfold State.extentDone
  split
  · exact (h.tellCat _ rfl).setElem _ _
  · dsimp only
    refine .ite (fun _ => ?_) fun _ => h.setElem _ _
    split
    · exact ((h.tellCat _ rfl).setElem _ _).sendVerify _ _
    · exact (h.tellCat _ rfl).setElem _ _
  all_goals exact h

theorem verifyEnded (h : ChanMoves ch s t) (e : Elem) (bad : List Nat) : ChanMoves ch s (t.verifyEnded ch e bad) :=
  .ite (fun _ => ((h.tellCat _ rfl).setElem _ _).askPort _ _ rfl) fun _ =>
    .ite (fun _ => (h.tellCat _ rfl).setElem _ _) fun _ => (h.tellCat _ rfl).dropElem _

end ChanMoves

end Sys2Proof.Machine
end


section
/-! SUPPORT. What each operation of a copy channel makes of the channel's context, the Staging Store, the attempt numbers and the
messages on their way: one lemma per operation, added to what came before. -/

namespace Sys2Proof.Machine

/-! ## Changes of a channel's context -/

/-- The element of a port changes. -/
def Channel.withElem (c : Channel) (p : Port) (f : Elem → Elem) : Channel :=
  { c with dests := c.dests.map fun e => if e.port = p then f e else e }

/-- One more request to a port is outstanding. -/
def Channel.asking (c : Channel) (p : Port) : Channel := { c with outstanding := upd c.outstanding p (· + 1) }

/-- A port has answered a request. -/
def Channel.answered (c : Channel) (p : Port) : Channel := { c with outstanding := upd c.outstanding p (· - 1) }

/-- An element that has left the order. -/
def Elem.left (e : Elem) : Elem := { e with phase := .dropped, repairList := [], newList := [], toWrite := [] }

/-- A pass without a copy that has left it. -/
def RepairPass.without (r : RepairPass) (p : Port) : RepairPass := { r with members := r.members.filter fun x => x ≠ p }

/-- The element of a port has left the order, and any repair pass. -/
def Channel.leaving (c : Channel) (p : Port) : Channel :=
  { c.withElem p Elem.left with repair := c.repair.map fun r => r.without p }

/-- The channel has requested a buffer and the first burst of an extent (R73). -/
def Channel.filling (c : Channel) (ext : Nat) (pass : PassKind) (tag : Nat) : Channel :=
  { c with fill := some { ext := ext, pass := pass, tag := tag }, bufferWait := true, burstOut := true }

/-- The element of a copy whose verification begins (R77). -/
def Elem.verifying (e : Elem) : Elem := { e with phase := .verify, nextVerify := 0, repairList := [] }

section
variable {c : Channel} {p : Port} {e : Elem}

theorem Channel.port_of_elem? (h : c.elem? p = some e) : e.port = p := by simpa using List.find?_some h

theorem Channel.withElem_elem? {f : Elem → Elem} (hf : ∀ e, (f e).port = e.port) (x : Port) :
    (c.withElem p f).elem? x = (c.elem? x).map fun e => if x = p then f e else e := by
  have hport (e : Elem) : (if e.port = p then f e else e).port = e.port := by split <;> simp [hf]
  simp only [Channel.elem?, Channel.withElem, List.find?_map, Function.comp_def, hport]
  refine Option.map_congr fun e he => ?_
  obtain rfl : e.port = x := by simpa using List.find?_some he
  rfl

theorem Channel.withElem_ports {f : Elem → Elem} (hf : ∀ e, (f e).port = e.port) :
    (c.withElem p f).dests.map (·.port) = c.dests.map (·.port) := by
  simp only [Channel.withElem, List.map_map, Function.comp_def]
  refine List.map_congr_left fun e _ => ?_
  split <;> simp [hf]

end

/-- The context `d` is `c` with port `p`'s element become `e`, `m` requests to that port outstanding and the repair pass `r`. -/
structure ElemTurns (p : Port) (e : Elem) (m : Nat) (r : Option RepairPass) (c d : Channel) : Prop where
  eq : d = { c with dests := d.dests, outstanding := upd c.outstanding p fun _ => m, repair := r }
  ports : d.dests.map (·.port) = c.dests.map (·.port)
  elem : d.elem? p = some e
  others : ∀ x, x ≠ p → d.elem? x = c.elem? x

theorem upd_upd {α : Type} {n : Nat} (v : Vector α n) (i : Fin n) (f g : α → α) :
    upd (upd v i f) i g = upd v i fun a => g (f a) := by
  simp only [upd, Vector.getElem_set_self, Vector.set_set]

theorem upd_self {α : Type} {n : Nat} (v : Vector α n) (i : Fin n) : upd v i (fun _ => v[i]) = v := by
  simp [upd]

section
variable {p : Port} {e : Elem} {m : Nat} {r : Option RepairPass} {c d : Channel}

theorem elemTurns_self (h : c.elem? p = some e) : ElemTurns p e c.outstanding[p] c.repair c c where
  eq := by rw [upd_self]
  ports := rfl
  elem := h
  others := fun _ _ => rfl

theorem ElemTurns.outstanding (h : ElemTurns p e m r c d) : d.outstanding = upd c.outstanding p fun _ => m := by
  rw [h.eq]

theorem ElemTurns.asking (h : ElemTurns p e m r c d) : ElemTurns p e (m + 1) r c (d.asking p) where
  eq := by
    have hd := h.eq
    simp only [Channel.asking, h.outstanding, upd_upd]
    rw [hd]
  ports := h.ports
  elem := h.elem
  others := h.others

theorem ElemTurns.answered (h : ElemTurns p e m r c d) : ElemTurns p e (m - 1) r c (d.answered p) where
  eq := by
    have hd := h.eq
    simp only [Channel.answered, h.outstanding, upd_upd]
    rw [hd]
  ports := h.ports
  elem := h.elem
  others := h.others

theorem ElemTurns.withElem (h : ElemTurns p e m r c d) (f : Elem → Elem) (hf : ∀ e, (f e).port = e.port) :
    ElemTurns p (f e) m r c (d.withElem p f) where
  eq := by
    have hd := h.eq
    simp only [Channel.withElem]
    rw [hd]
  ports := (Channel.withElem_ports hf).trans h.ports
  elem := by simp [Channel.withElem_elem? hf, h.elem]
  others := fun x hx => by simp [Channel.withElem_elem? hf, hx, h.others x hx]

theorem ElemTurns.leaving (h : ElemTurns p e m r c d) :
    ElemTurns p e.left m (r.map fun r => r.without p) c (d.leaving p) where
  eq := by
    have hd := h.eq
    simp only [Channel.leaving, Channel.withElem]
    rw [hd]
  ports := (h.withElem Elem.left fun _ => rfl).ports
  elem := (h.withElem Elem.left fun _ => rfl).elem
  others := (h.withElem Elem.left fun _ => rfl).others

end

/-! ## What a run of moves has come to -/

/-- By moves of channel `ch` its context has become `c`, the Staging Store `x` and the next attempt number `n`, and but for
answers to watches (R102) the messages `w` have been sent. -/
structure ChanBecomes (ch : Chan) (c : Channel) (x : Staging) (n : Nat) (w : List Wire) (s t : State) : Prop where
  moves : ChanMoves ch s t
  chan : t.chan ch = c
  sts : t.sts = x
  token : t.token = n
  sent : (t.wire.drop s.wire.length).filter (fun v => !isWatchAnswer v) = w

section
variable {ch : Chan} {c d : Channel} {x y : Staging} {n : Nat} {w v : List Wire} {s t u : State}

theorem chanBecomes_refl (s : State) (ch : Chan) : ChanBecomes ch (s.chan ch) s.sts s.token [] s s where
  moves := .refl
  chan := rfl
  sts := rfl
  token := rfl
  sent := by simp

namespace ChanBecomes

theorem sends (h : ChanBecomes ch c x n w s t) : sends s t w := ⟨h.moves.wire_grows, h.sent⟩

theorem of_sent (h : ChanBecomes ch c x n w s t) (hw : w = v) : ChanBecomes ch c x n v s t := hw ▸ h

theorem of_chan (h : ChanBecomes ch c x n w s t) (hc : c = d) : ChanBecomes ch d x n w s t := hc ▸ h

/-- The form the statements have, for a command that leaves the Staging Store alone. -/
theorem chanBecomes (h : ChanBecomes ch c s.sts n w s t) : chanBecomes ch c s t :=
  ⟨h.chan, h.moves.others, h.sts, h.moves.onlyCc⟩

/-- The form the statements have, for a command that changes the Staging Store. -/
theorem chanBecomes_of_sts (h : ChanBecomes ch c x n w s t) : Machine.chanBecomes ch c { s with sts := x } t :=
  ⟨h.chan, h.moves.others, h.sts, onlyCc_of_rest h.moves.rest⟩

theorem elemBecomes {p : Port} {e : Elem} {m : Nat} {r : Option RepairPass} (h : ChanBecomes ch d x s.token w s t)
    (he : ElemTurns p e m r (s.chan ch) d)
    (hr : r = if e.phase = .dropped then (s.chan ch).repair.map fun r => r.without p else (s.chan ch).repair) :
    elemBecomes ch p e m s t := by
  obtain ⟨heq, hports, helem, hothers⟩ := he
  rw [hr] at heq
  obtain rfl := h.chan
  exact ⟨heq, hports, helem, hothers, h.moves.others, h.token, h.moves.onlyCc⟩

/-- What is sent, split where a list of messages is appended. -/
theorem sent_append (h : ChanBecomes ch c x n w s t) (hu : u.wire = t.wire ++ v) :
    (u.wire.drop s.wire.length).filter (fun z => !isWatchAnswer z) = w ++ v.filter fun z => !isWatchAnswer z := by
  rw [hu, List.drop_append_of_le_length h.moves.wire_grows.length_le, List.filter_append, h.sent]

theorem setChan (h : ChanBecomes ch c x n w s t) (d : Channel) : ChanBecomes ch d x n w s (t.setChan ch d) where
  moves := h.moves.setChan d
  chan := by simp
  sts := by simp [h.sts]
  token := by simp [h.token]
  sent := by
    rw [h.sent_append (by rw [State.setChan_eq]), List.filter_eq_nil_iff.mpr, List.append_nil]
    intro v hv
    obtain ⟨_, -, rfl⟩ := List.mem_map.mp hv
    exact Bool.false_ne_true

theorem send (h : ChanBecomes ch c x n w s t) (src dst : Node) (m : Instr)
    (hm : isWatchAnswer ⟨src, dst, m⟩ = false) :
    ChanBecomes ch c x n (w ++ [⟨src, dst, m⟩]) s (t.send src dst [m]) where
  moves := h.moves.send src dst m hm
  chan := h.chan
  sts := h.sts
  token := h.token
  sent := by
    rw [h.sent_append (State.send_wire ..)]
    simp [hm]

theorem tick (h : ChanBecomes ch c x n w s t) : ChanBecomes ch c x (n + 1) w s t.tick where
  moves := h.moves.tick
  chan := h.chan
  sts := h.sts
  token := by simp [h.token]
  sent := h.sent

/-- An operation of the store does what it does on any state with this store. -/
theorem store {f : State → State} (hf : StoreOp f) (z : State) (h : ChanBecomes ch c z.sts n w s t) :
    ChanBecomes ch c (f z).sts n (w ++ (f z).wire.drop z.wire.length) s (f t) where
  moves := h.moves.store hf
  chan := (hf.chan t ch).trans h.chan
  sts := by rw [hf.onStore.eq h.sts]
  token := (hf.token t).trans h.token
  sent := by
    rw [h.sent_append (by rw [hf.onStore.eq h.sts])]
    congr 1
    exact List.filter_eq_self.mpr fun v hv => by simp [hf.onStore.answers_no_watch z v hv]

/-- Changing a buffer's bytes or pending set. -/
theorem changeBuffer (h : ChanBecomes ch c x n w s t) (num : Nat) (f : Buffer → Buffer)
    (hf : ∀ b, (f b).num = b.num ∧ (f b).owner = b.owner) :
    ChanBecomes ch c { x with bufs := x.bufs.map fun b => if b.num = num then f b else b } n w s
      (t.setBufs (t.sts.bufs.map fun b => if b.num = num then f b else b)) := by
  obtain rfl := h.sts
  exact (store (.changeBuffer num f hf) t h).of_sent (by simp)

/-! ## The operations of a channel -/

theorem setElem (h : ChanBecomes ch c x n w s t) (p : Port) (f : Elem → Elem) :
    ChanBecomes ch (c.withElem p f) x n w s (t.setElem ch p f) := by
  unfold State.setElem
  rw [h.chan]
  exact h.setChan _

theorem askPort (h : ChanBecomes ch c x n w s t) (p : Port) (m : Instr)
    (hm : isWatchAnswer ⟨.cc ch, .dp p, m⟩ = false) :
    ChanBecomes ch (c.asking p) x n (w ++ [⟨.cc ch, .dp p, m⟩]) s (t.askPort ch p m) := by
  unfold State.askPort
  rw [h.chan]
  exact (h.setChan _).send _ _ m hm

theorem portAnswered (h : ChanBecomes ch c x n w s t) (p : Port) :
    ChanBecomes ch (c.answered p) x n w s (t.portAnswered ch p) := by
  unfold State.portAnswered
  rw [h.chan]
  exact h.setChan _

theorem tellCat (h : ChanBecomes ch c x n w s t) (m : Instr) (hm : isWatchAnswer ⟨.cc ch, .cat, m⟩ = false) :
    ChanBecomes ch c x n (w ++ [⟨.cc ch, .cat, m⟩]) s (t.tellCat ch m) := h.send _ _ m hm

theorem dropElem (h : ChanBecomes ch c x n w s t) (p : Port) : ChanBecomes ch (c.leaving p) x n w s (t.dropElem ch p) := by
  have hleft := h.setElem p Elem.left
  exact (hleft.setChan { (t.setElem ch p Elem.left).chan ch with
    repair := ((t.setElem ch p Elem.left).chan ch).repair.map fun r => r.without p }).of_chan (by rw [hleft.chan]; rfl)

theorem endCopy (h : ChanBecomes ch c x n w s t) (e : Elem) (final : CopyState) (cause : CopyCause) :
    ChanBecomes ch (c.leaving e.port) x n
      (w ++ [⟨.cc ch, .cat, .copyEndReport (c.clip.getD 0) (e.vol.getD 0) final cause⟩]) s (t.endCopy ch e final cause) := by
  unfold State.endCopy
  rw [h.chan]
  exact (h.tellCat _ rfl).dropElem _

theorem startExtent (h : ChanBecomes ch c x n w s t) (ext : Nat) (pass : PassKind) :
    ChanBecomes ch (c.filling ext pass n) x (n + 1)
      (w ++ [⟨.cc ch, .sts, .bufferRequest ch n (c.clip.getD 0) ext pass (extentLen c.dataLen ext)⟩,
        ⟨.cc ch, .ci, .burstRequest ch c.serial c.clipNo ext 0 false⟩]) s (t.startExtent ch ext pass) := by
  unfold State.startExtent
  rw [h.chan, h.token]
  exact (((h.tick.setChan _).send _ _ _ rfl).send _ _ _ rfl).of_sent (by simp)

theorem nextBurst (h : ChanBecomes ch c x n w s t) (f : Filling) :
    ChanBecomes ch { c with fill := some f, burstOut := true } x n
      (w ++ [⟨.cc ch, .ci, .burstRequest ch c.serial c.clipNo f.ext f.burst f.num.isSome⟩]) s (t.nextBurst ch f) := by
  unfold State.nextBurst
  rw [h.chan]
  exact (h.setChan _).send _ _ _ rfl

theorem giveUpClaim (h : ChanBecomes ch c x n w s t) :
    ChanBecomes ch { c with claim := .none } x n
      (w ++ if c.claim = .none then [] else [⟨.cc ch, .ci, .handBack ch c.serial⟩]) s (t.giveUpClaim ch) := by
  unfold State.giveUpClaim
  rw [h.chan]
  dsimp only
  split
  next hc => exact (h.of_sent (by simp)).of_chan (by rw [← hc])
  · exact (h.setChan _).send _ _ _ rfl

theorem sendClaim (h : ChanBecomes ch c x n w s t) :
    ChanBecomes ch { c with claimAsked := true, claimTag := n } x (n + 1)
      (w ++ [⟨.cc ch, .ci, .claim ch c.serial n⟩]) s (t.sendClaim ch) := by
  unfold State.sendClaim
  rw [h.chan, h.token]
  exact (h.tick.setChan _).send _ _ _ rfl

theorem endOrder (h : ChanBecomes ch c x n w s t) (k : EndKind) :
    ChanBecomes ch {} x n (w ++ [⟨.cc ch, .ods, .orderEndReport ch (c.order.getD 0) k⟩]) s (t.endOrder ch k) := by
  unfold State.endOrder
  rw [h.chan]
  exact (h.setChan _).send _ _ _ rfl

theorem sendVerify (h : ChanBecomes ch c x n w s t) (e : Elem) (ext : Nat) :
    ChanBecomes ch (c.asking e.port) x n (w ++ [⟨.cc ch, .dp e.port, .verifyRead ch e.port (c.order.getD 0) (e.vol.getD 0) ext
      (extentBlock c.span (e.hb.getD 0) ext) (extentLen c.dataLen ext) (c.sums.getD ext 0)⟩]) s (t.sendVerify ch e ext) := by
  unfold State.sendVerify
  rw [h.chan]
  exact h.askPort _ _ rfl

theorem beginVerify (h : ChanBecomes ch c x n w s t) (e : Elem) :
    ChanBecomes ch ((c.withElem e.port Elem.verifying).asking e.port) x n
      (w ++ [⟨.cc ch, .cat, .verifyBegunReport (c.clip.getD 0) (e.vol.getD 0)⟩,
        ⟨.cc ch, .dp e.port, .verifyRead ch e.port (c.order.getD 0) (e.vol.getD 0) 0 (extentBlock c.span (e.hb.getD 0) 0)
          (extentLen c.dataLen 0) (c.sums.getD 0 0)⟩]) s (t.beginVerify ch e) := by
  unfold State.beginVerify
  rw [h.chan]
  exact (((h.tellCat _ rfl).setElem e.port Elem.verifying).sendVerify e 0).of_sent (by rw [List.append_assoc]; rfl)

/-- With no burst at the Card Interface: the channel leaves the wait list, its FILLING buffers are freed and the card is handed
back (R88). The buffers are freed as on any state `z` with this store. -/
theorem stopReading (z : State) (h : ChanBecomes ch c z.sts n w s t) {nums : List Nat} {f : State}
    (hnums : nums = ((z.sts.bufs.filter fun b => b.owner = ch && b.pend.isEmpty).map (·.num)).filter fun n =>
      (c.fill.bind (·.num)) = some n || c.summing.any fun x => x.1 = n)
    (hf : f = nums.foldl State.freeBuffer (if c.bufferWait = true then z.leaveWaits ch else z)) :
    ChanBecomes ch { c with bufferWait := false, fill := none, summing := [], claim := .none } f.sts n
      (w ++ ((if c.bufferWait = true then [⟨.cc ch, .sts, .bufferWithdrawal ch⟩] else []) ++ f.wire.drop z.wire.length ++
        if c.claim = .none then [] else [⟨.cc ch, .ci, .handBack ch c.serial⟩])) s (t.stopReading ch) := by
  let c' : Channel := { c with bufferWait := false, fill := none, summing := [] }
  have hwait : ∃ t', t' = (if c.bufferWait = true then (t.leaveWaits ch).send (.cc ch) .sts [.bufferWithdrawal ch] else t) ∧
      ChanBecomes ch c (if c.bufferWait = true then z.leaveWaits ch else z).sts n
        (w ++ if c.bufferWait = true then [⟨.cc ch, .sts, .bufferWithdrawal ch⟩] else []) s t' := by
    refine ⟨_, rfl, ?_⟩
    split
    · exact ((store (.leaveWaits ch) z h).send _ _ _ rfl).of_sent (by simp)
    · exact h.of_sent (by simp)
  obtain ⟨t', ht', hbecomes⟩ := hwait
  have hfreed := store (.foldl (fun n => .freeBuffer n) nums) _ (hbecomes.setChan c')
  have hlen : (if c.bufferWait = true then z.leaveWaits ch else z).wire.length = z.wire.length := by split <;> rfl
  rw [← hf, hlen] at hfreed
  have hstop : t.stopReading ch = (nums.foldl State.freeBuffer (t'.setChan ch c')).giveUpClaim ch := by
    unfold State.stopReading
    rw [h.chan, h.sts]
    dsimp only
    rw [← hnums, ← ht']
  rw [hstop]
  exact hfreed.giveUpClaim.of_sent (by simp only [List.append_assoc, c'])

end ChanBecomes
end

end Sys2Proof.Machine
end


section
/-! SUPPORT. The channels and the Staging Store stay right under every command of a channel (R65, R71, R102). -/

namespace Sys2Proof.Machine

/-! ## The rule of a channel that is not IDLE -/

/-- What the rule says of a context that is not IDLE. -/
structure Staged (c : Channel) : Prop where
  busy : c.phase ≠ .idle
  order : c.order ≠ none ∧ c.clip ≠ none
  ended : c.ended ≠ none ↔ c.phase = .ending
  complete : c.ended ≠ some .complete
  abort : c.abort = true → c.ended = some .aborted
  lookup : c.lookup = true → c.phase = .starting ∧ c.asked = false
  asked : c.begun = true → c.asked = true
  mode : c.begun = true ↔ c.mode ≠ none
  claim : c.claimAsked = true ∨ c.claim ≠ .none → c.begun = true
  reading : c.claim = .held ∨ c.burstOut = true ∨ c.fill ≠ none ∨ c.summing ≠ [] ∨ c.phase = .reading ∨
    c.phase = .finishing → c.begun = true ∧ c.phase ≠ .starting
  repair : c.repair ≠ none → c.phase = .finishing ∨ c.phase = .ending

theorem channelOk_idle : channelOk {} := by simp [channelOk]

theorem Staged.channelOk {c : Channel} (h : Staged c) : channelOk c :=
  ⟨fun hi => absurd hi h.busy, fun _ => h.order, h.ended, h.complete, h.abort, h.lookup, h.asked, h.mode, h.claim, h.reading,
    h.repair⟩

theorem staged_of_channelOk {c : Channel} (h : channelOk c) (hb : c.phase ≠ .idle) : Staged c := by
  obtain ⟨-, order, ended, complete, abort, lookup, asked, mode, claim, reading, repair⟩ := h
  exact ⟨hb, order hb, ended, complete, abort, lookup, asked, mode, claim, reading, repair⟩

theorem channelOk.eq_idle {c : Channel} (h : channelOk c) (hi : c.phase = .idle) : c = {} := h.1 hi

/-- A context that differs in nothing its rule speaks of. -/
theorem Staged.of_eq {c d : Channel} (h : Staged c) (hphase : d.phase = c.phase) (horder : d.order = c.order)
    (hclip : d.clip = c.clip) (hended : d.ended = c.ended) (habort : d.abort = c.abort) (hlookup : d.lookup = c.lookup)
    (hasked : d.asked = c.asked) (hbegun : d.begun = c.begun) (hmode : d.mode = c.mode)
    (hclaimAsked : d.claimAsked = c.claimAsked) (hclaim : d.claim = c.claim) (hburst : d.burstOut = c.burstOut)
    (hfill : d.fill = none ↔ c.fill = none) (hsumming : d.summing = c.summing) (hrepair : d.repair = none ↔ c.repair = none) :
    Staged d := by
  obtain ⟨busy, order, ended, complete, abort, lookup, asked, mode, claim, reading, repair⟩ := h
  constructor <;> simpa only [hphase, horder, hclip, hended, habort, hlookup, hasked, hbegun, hmode, hclaimAsked, hclaim, hburst,
    ne_eq, hfill, hsumming, hrepair]

section
variable {c : Channel} {p : Port}

theorem Staged.withElem (h : Staged c) (f : Elem → Elem) : Staged (c.withElem p f) :=
  h.of_eq rfl rfl rfl rfl rfl rfl rfl rfl rfl rfl rfl rfl .rfl rfl .rfl

theorem Staged.asking (h : Staged c) : Staged (c.asking p) :=
  h.of_eq rfl rfl rfl rfl rfl rfl rfl rfl rfl rfl rfl rfl .rfl rfl .rfl

theorem Staged.answered (h : Staged c) : Staged (c.answered p) :=
  h.of_eq rfl rfl rfl rfl rfl rfl rfl rfl rfl rfl rfl rfl .rfl rfl .rfl

theorem Staged.leaving (h : Staged c) : Staged (c.leaving p) :=
  h.of_eq rfl rfl rfl rfl rfl rfl rfl rfl rfl rfl rfl rfl .rfl rfl (by simp [Channel.leaving])

end

/-- What a context that the wind-down takes on must have (R88): the claim, a burst and the sums only after the live pass has
begun, and an end kind that an abort allows. -/
structure MayEnd (c : Channel) (k : EndKind) : Prop where
  order : c.order ≠ none ∧ c.clip ≠ none
  complete : k ≠ .complete
  abort : c.abort = true → k = .aborted
  asked : c.begun = true → c.asked = true
  mode : c.begun = true ↔ c.mode ≠ none
  claim : c.claimAsked = true ∨ c.claim ≠ .none → c.begun = true
  reading : c.claim = .held ∨ c.burstOut = true ∨ c.fill ≠ none ∨ c.summing ≠ [] → c.begun = true

theorem Staged.mayEnd {c : Channel} {k : EndKind} (h : Staged c) (he : c.phase ≠ .ending) (hk : k ≠ .complete) :
    MayEnd c k where
  order := h.order
  complete := hk
  abort := fun ha => absurd (h.ended.mp (by simp [h.abort ha])) he
  asked := h.asked
  mode := h.mode
  claim := h.claim
  reading := fun hr => (h.reading (by tauto)).1

/-- A context in ENDING is right when the rest of it may end. -/
theorem MayEnd.staged {c : Channel} {k : EndKind} (h : MayEnd c k) (hp : c.phase = .ending) (he : c.ended = some k)
    (hl : c.lookup = false) : Staged c where
  busy := by simp [hp]
  order := h.order
  ended := by simp [hp, he]
  complete := by simpa [he] using h.complete
  abort := fun ha => by rw [he, h.abort ha]
  lookup := by simp [hl]
  asked := h.asked
  mode := h.mode
  claim := h.claim
  reading := fun hr => ⟨h.reading (by simpa [hp] using hr), by simp [hp]⟩
  repair := fun _ => .inr hp

/-! ## Operations that leave the rule's fields alone -/

/-- Channel `ch` runs an order, and its context is right. -/
def Running (ch : Chan) (s : State) : Prop := Staged (s.chan ch)

section
variable {ch : Chan} {s : State}

theorem Running.of_chan {t : State} {c : Channel} (hc : t.chan ch = c) (h : Staged c) : Running ch t := by
  rw [Running, hc]
  exact h

theorem running_setChan {c : Channel} (h : Staged c) : Running ch (s.setChan ch c) := .of_chan (State.setChan_chan s ch c) h

theorem Running.store {f : State → State} (h : Running ch s) (hf : StoreOp f) : Running ch (f s) := .of_chan (hf.chan s ch) h

theorem Running.setElem (h : Running ch s) (p : Port) (f : Elem → Elem) : Running ch (s.setElem ch p f) :=
  running_setChan (h.withElem f)

theorem Running.askPort (h : Running ch s) (p : Port) (m : Instr) : Running ch (s.askPort ch p m) :=
  running_setChan (c := (s.chan ch).asking p) h.asking

theorem Running.portAnswered (h : Running ch s) (p : Port) : Running ch (s.portAnswered ch p) := running_setChan h.answered

theorem Running.dropElem (h : Running ch s) (p : Port) : Running ch (s.dropElem ch p) :=
  .of_chan ((chanBecomes_refl s ch).dropElem p).chan h.leaving

theorem Running.endCopy (h : Running ch s) (e : Elem) (final : CopyState) (cause : CopyCause) :
    Running ch (s.endCopy ch e final cause) := Running.dropElem (s := s.tellCat ch _) h e.port

theorem Running.dropDest (h : Running ch s) (p : Port) (cause : DropCause) : Running ch (s.dropDest ch p cause) :=
  h.dropElem p

theorem Running.sendVerify (h : Running ch s) (e : Elem) (ext : Nat) : Running ch (s.sendVerify ch e ext) := h.askPort _ _

theorem Running.endCopies (h : Running ch s) (l : List Elem) (final : CopyState) (cause : CopyCause) :
    Running ch (l.foldl (fun t e => t.endCopy ch e final cause) s) := foldl_induction (fun _ e ht => ht.endCopy e _ _) l h

theorem Running.drainAll (h : Running ch s) (p : Port) (l : List Nat) :
    Running ch (l.foldl (fun t n => t.drained ch p n) s) := foldl_induction (fun _ n ht => ht.store (.drained ch p n)) l h

theorem Running.loseDrive (h : Running ch s) (p : Port) : Running ch (s.loseDrive ch p) := by
  unfold State.loseDrive
  split
  · split
    · exact (h.dropElem p).drainAll p _
    split
    · exact h.setElem p _
    · exact h
  · exact h

theorem Running.writeFailed (h : Running ch s) (p : Port) (e : Elem) : Running ch (s.writeFailed ch p e) := by
  unfold State.writeFailed
  dsimp only
  split <;> exact h.endCopy e _ _

theorem Running.extentDone (h : Running ch s) (e : Elem) (ext : Nat) : Running ch (s.extentDone ch e ext) := by
  have told (m : Instr) (f : Elem → Elem) : Running ch ((s.tellCat ch m).setElem ch e.port f) :=
    Running.setElem (s := s.tellCat ch m) h e.port f
  unfold State.extentDone
  split
  · exact told _ _
  · dsimp only
    split
    · split
      · exact (told _ _).sendVerify e _
      · exact told _ _
    · exact h.setElem _ _
  all_goals exact h

theorem Running.verifyEnded (h : Running ch s) (e : Elem) (bad : List Nat) : Running ch (s.verifyEnded ch e bad) := by
  have told (m : Instr) : Running ch (s.tellCat ch m) := h
  unfold State.verifyEnded
  dsimp only
  split
  · exact ((told _).setElem _ _).askPort _ _
  split
  · exact (told _).setElem _ _
  · exact (told _).dropElem _

theorem Running.handOn (h : Running ch s) (num ext : Nat) (writes : Elem → Bool) : Running ch (s.handOn ch num ext writes) := by
  unfold State.handOn
  dsimp only
  split
  · exact h.store (.freeBuffer num)
  · exact foldl_induction (fun _ e ht => ht.askPort _ _) _ h

/-! ## Reading and claiming (R69, R73 to R76, R81) -/

theorem running_giveUpClaim (h : Running ch s) : Running ch (s.giveUpClaim ch) := by
  refine .of_chan (chanBecomes_refl s ch).giveUpClaim.chan ?_
  obtain ⟨busy, order, ended, complete, abort, lookup, asked, mode, claim, reading, repair⟩ := h
  exact ⟨busy, order, ended, complete, abort, lookup, asked, mode, fun hc => claim (.inl (by simpa using hc)),
    fun hr => reading (.inr (by simpa using hr)), repair⟩

/-- The live pass has begun, and the channel is past STARTING: it may hold the claim, have a burst out and await sums. -/
structure MayRead (c : Channel) : Prop extends Staged c where
  begun : c.begun = true
  past : c.phase ≠ .starting

theorem Staged.mayRead {c : Channel} (h : Staged c) (hr : c.claim = .held ∨ c.burstOut = true ∨ c.fill ≠ none ∨ c.summing ≠ [] ∨
    c.phase = .reading ∨ c.phase = .finishing) : MayRead c :=
  ⟨h, (h.reading hr).1, (h.reading hr).2⟩

/-- What is read may change once the channel may read. -/
theorem MayRead.of_eq {c d : Channel} (h : MayRead c) (hphase : d.phase = c.phase) (horder : d.order = c.order)
    (hclip : d.clip = c.clip) (hended : d.ended = c.ended) (habort : d.abort = c.abort) (hlookup : d.lookup = c.lookup)
    (hasked : d.asked = c.asked) (hbegun : d.begun = c.begun) (hmode : d.mode = c.mode) (hrepair : d.repair = none ↔ c.repair = none) :
    MayRead d := by
  obtain ⟨⟨busy, order, ended, complete, abort, lookup, asked, mode, -, -, repair⟩, begun, past⟩ := h
  have hb : d.begun = true := hbegun.trans begun
  have hp : d.phase ≠ .starting := hphase ▸ past
  refine ⟨⟨?_, ?_, ?_, ?_, ?_, ?_, ?_, ?_, fun _ => hb, fun _ => ⟨hb, hp⟩, ?_⟩, hb, hp⟩ <;>
    simpa only [hphase, horder, hclip, hended, habort, hlookup, hasked, hbegun, hmode, ne_eq, hrepair]

/-- Channel `ch` may read, and its context is right. -/
def Reading (ch : Chan) (s : State) : Prop := MayRead (s.chan ch)

theorem Reading.running (h : Reading ch s) : Running ch s := h.toStaged

theorem reading_setChan {c : Channel} (h : MayRead c) : Reading ch (s.setChan ch c) := by
  rw [Reading, State.setChan_chan]
  exact h

theorem Reading.startExtent (h : Reading ch s) (ext : Nat) (pass : PassKind) : Reading ch (s.startExtent ch ext pass) :=
  reading_setChan (s := s.tick) (h.of_eq rfl rfl rfl rfl rfl rfl rfl rfl rfl .rfl)

theorem Reading.nextBurst (h : Reading ch s) (f : Filling) : Reading ch (s.nextBurst ch f) :=
  reading_setChan (h.of_eq rfl rfl rfl rfl rfl rfl rfl rfl rfl .rfl)

theorem Reading.extentFull (h : Reading ch s) (f : Filling) (num : Nat) : Reading ch (s.extentFull ch f num) := by
  unfold State.extentFull
  dsimp only
  split
  · have hnext := reading_setChan (ch := ch) (s := s) (h.of_eq (d := { s.chan ch with
      fill := none, summing := (s.chan ch).summing ++ [(num, f.ext, f.pass)], next := (s.chan ch).next + 1 })
      rfl rfl rfl rfl rfl rfl rfl rfl rfl .rfl)
    split
    · exact Reading.startExtent (s := State.tellCat _ ch _) hnext _ _
    · exact hnext
  · have hdone := reading_setChan (ch := ch) (s := s) (h.of_eq (d := { s.chan ch with
      fill := none, summing := (s.chan ch).summing ++ [(num, f.ext, f.pass)]
      repair := (s.chan ch).repair.map fun r => { r with done := r.done + 1 } })
      rfl rfl rfl rfl rfl rfl rfl rfl rfl (by simp))
    split
    · exact Reading.startExtent (s := State.tellCat _ ch _) hdone _ _
    · exact hdone

theorem Reading.burstDone (h : Reading ch s) (f : Filling) (num : Nat) (bytes : List Byte) :
    Reading ch (s.burstDone ch f num bytes) := by
  unfold State.burstDone
  dsimp only
  split
  · refine Reading.extentFull ?_ _ _
    split <;> exact h
  · refine Reading.nextBurst ?_ _
    split <;> exact h

/-- The read is done: the channel is FINISHING (R76). -/
theorem Reading.readDone (h : Reading ch s) (he : (s.chan ch).phase ≠ .ending) : Reading ch (s.readDone ch) := by
  refine reading_setChan (s := (s.giveUpClaim ch).send (.cc ch) .fx [.livePassEndOfData ch]) ?_
  rw [State.send_chan, (chanBecomes_refl s ch).giveUpClaim.chan]
  obtain ⟨⟨busy, order, ended, complete, abort, lookup, asked, mode, -, -, repair⟩, begun, past⟩ := h
  have hended : (s.chan ch).ended = none := by
    by_contra hn
    exact he (ended.mp hn)
  exact ⟨⟨nofun, order, by simp [hended], complete, abort, fun hl => absurd (lookup hl).1 past, asked, mode,
    fun _ => begun, fun _ => ⟨begun, nofun⟩, fun _ => .inl rfl⟩, begun, nofun⟩

theorem Running.repairDone (h : Running ch s) : Running ch (s.repairDone ch) := by
  have hgiven := running_giveUpClaim h
  refine running_setChan (s := s.giveUpClaim ch) ?_
  obtain ⟨busy, order, ended, complete, abort, lookup, asked, mode, claim, reading, -⟩ := hgiven
  exact ⟨busy, order, ended, complete, abort, lookup, asked, mode, claim, reading, fun hn => absurd rfl hn⟩

theorem Running.dropRepair (h : Running ch s) : Running ch (s.dropRepair ch) := by
  refine running_setChan ?_
  obtain ⟨busy, order, ended, complete, abort, lookup, asked, mode, claim, reading, -⟩ :=
    h.endCopies ((s.chan ch).dests.filter (s.chan ch).member) .failed .cardGone
  exact ⟨busy, order, ended, complete, abort, lookup, asked, mode, claim, reading, fun hn => absurd rfl hn⟩

/-- A claim is sent once the live pass has begun (R69, R80). -/
theorem Running.sendClaim (h : Running ch s) (hb : (s.chan ch).begun = true) : Running ch (s.sendClaim ch) := by
  refine running_setChan (s := s.tick) ?_
  obtain ⟨busy, order, ended, complete, abort, lookup, asked, mode, -, reading, repair⟩ := h
  exact ⟨busy, order, ended, complete, abort, lookup, asked, mode, fun _ => hb, reading, repair⟩

/-! ## What a phase calls for, and the wind-down (R69, R77, R80, R88, R89) -/

/-- The context of channel `ch` is right. -/
def RightAt (ch : Chan) (s : State) : Prop := channelOk (s.chan ch)

theorem Running.rightAt (h : Running ch s) : RightAt ch s := h.channelOk

theorem RightAt.running (h : RightAt ch s) (hb : (s.chan ch).phase ≠ .idle) : Running ch s := staged_of_channelOk h hb

theorem rightAt_endOrder (k : EndKind) : RightAt ch (s.endOrder ch k) := by
  rw [RightAt, ((chanBecomes_refl s ch).endOrder k).chan]
  exact channelOk_idle

theorem Running.windDown (h : Running ch s) : RightAt ch (s.windDown ch) := by
  unfold State.windDown
  dsimp only
  split
  · exact h.rightAt
  · exact rightAt_endOrder _

theorem Running.stopReading (h : Running ch s) : Running ch (s.stopReading ch) := by
  unfold State.stopReading
  dsimp only
  refine running_giveUpClaim (foldl_induction (fun _ n ht => ht.store (.freeBuffer n)) _ (running_setChan ?_))
  obtain ⟨busy, order, ended, complete, abort, lookup, asked, mode, claim, reading, repair⟩ := h
  refine ⟨busy, order, ended, complete, abort, lookup, asked, mode, claim, fun hr => reading ?_, repair⟩
  simp only [ne_eq, not_true_eq_false, false_or] at hr
  exact hr.imp_right (.imp_right fun hp => .inr (.inr hp))

theorem rightAt_enterEnding {k : EndKind} (h : MayEnd (s.chan ch) k) : RightAt ch (s.enterEnding ch k) := by
  let d : Channel := { s.chan ch with
    phase := .ending, ended := some k, lookup := false
    dests := (s.chan ch).dests.map fun e =>
      if (s.chan ch).lookup ∧ e.phase = .reserving then { e with phase := .dropped } else e
    repair := (s.chan ch).repair.filter (·.granted) }
  have hd : MayEnd d k := ⟨h.order, h.complete, h.abort, h.asked, h.mode, h.claim, h.reading⟩
  have hset : Running ch (s.setChan ch d) := running_setChan (hd.staged rfl rfl rfl)
  have hstopped : Running ch (if (s.chan ch).burstOut then s.setChan ch d else (s.setChan ch d).stopReading ch) := by
    split
    · exact hset
    · exact hset.stopReading
  refine Running.windDown (foldl_induction (fun t p ht => ?_) _ ?_)
  · split
    · exact ht
    · exact ht
  · split
    · exact hstopped
    · exact hstopped

theorem rightAt_maybeStartRead (h : Running ch s) : RightAt ch (s.maybeStartRead ch) := by
  unfold State.maybeStartRead
  dsimp only
  split
  · exact h.rightAt
  next hn =>
    obtain ⟨busy, order, ended, complete, abort, lookup, asked, mode, claim, reading, repair⟩ := h
    have hl : (s.chan ch).lookup ≠ true := fun hl => hn (.inl hl)
    exact (running_setChan (c := { s.chan ch with asked := true }) (s := s) ⟨busy, order, ended, complete, abort,
      fun hl' => absurd hl' hl, fun _ => rfl, mode, claim, reading, repair⟩).rightAt

/-- Verifications begin in FINISHING, which the channel stays in. -/
theorem finishing_beginVerifies (h : Running ch s ∧ (s.chan ch).phase = .finishing) (l : List Elem) :
    Running ch (l.foldl (fun t e => t.beginVerify ch e) s) ∧
      ((l.foldl (fun t e => t.beginVerify ch e) s).chan ch).phase = .finishing := by
  refine foldl_induction (P := fun t => Running ch t ∧ (t.chan ch).phase = .finishing) (fun t e ht => ?_) l h
  have hchan := ((chanBecomes_refl t ch).beginVerify e).chan
  exact ⟨.of_chan hchan (ht.1.withElem _).asking, by rw [hchan]; exact ht.2⟩

theorem rightAt_beginRepair (h : Running ch s) (hp : (s.chan ch).phase = .finishing) : RightAt ch (s.beginRepair ch) := by
  refine (Running.sendClaim (running_setChan ?_) ?_).rightAt
  · obtain ⟨busy, order, ended, complete, abort, lookup, asked, mode, claim, reading, -⟩ := h
    exact ⟨busy, order, ended, complete, abort, lookup, asked, mode, claim, reading, fun _ => .inl hp⟩
  · rw [State.setChan_chan]
    exact (h.reading (by simp [hp])).1

theorem rightAt_finish (h : Running ch s) (hp : (s.chan ch).phase = .finishing) : RightAt ch (s.finish ch) := by
  obtain ⟨hv, hvp⟩ := finishing_beginVerifies ⟨h, hp⟩
    ((s.chan ch).dests.filter fun e => e.phase = .writing ∧ e.written = (s.chan ch).extents)
  unfold State.finish
  dsimp only
  split
  · exact hv.rightAt
  split
  · exact rightAt_beginRepair hv hvp
  split
  · exact rightAt_endOrder _
  · exact hv.rightAt

theorem RightAt.settle (h : RightAt ch s) : RightAt ch (s.settle ch) := by
  unfold State.settle
  split
  next hp => exact rightAt_maybeStartRead (h.running (by simp [hp]))
  next hp => exact rightAt_finish (h.running (by simp [hp])) hp
  next hp => exact (h.running (by simp [hp])).windDown
  · exact h
  · exact h

theorem Running.settle (h : Running ch s) : RightAt ch (s.settle ch) := h.rightAt.settle

end

end Sys2Proof.Machine
end


section
/-! SUPPORT. Every command of a copy channel consists of moves of that channel, and keeps its context right (R65). -/

namespace Sys2Proof.Machine

/-- The command's outcome is a state reached by moves of channel `ch`, whose context is still right. -/
def KeepsChannel (ch : Chan) (s : State) (r : Result) : Prop :=
  ∃ t, r = .next t ∧ ChanMoves ch s t ∧ (RightAt ch s → RightAt ch t)

section
variable {ch : Chan} {s t : State}

theorem KeepsChannel.next (hm : ChanMoves ch s t) (hr : RightAt ch s → RightAt ch t) : KeepsChannel ch s (.next t) :=
  ⟨t, rfl, hm, hr⟩

theorem KeepsChannel.same : KeepsChannel ch s (.next s) := .next .refl id

theorem Channel.runs_iff {c : Channel} {order : Nat} : c.runs order = true ↔ c.phase ≠ .idle ∧ c.order = some order := by
  simp [Channel.runs]

theorem Channel.answering_eq_some {c : Channel} {order : Nat} {p : Port} {e : Elem} :
    c.answering order p = some e ↔ (c.phase ≠ .idle ∧ c.order = some order) ∧ c.elem? p = some e := by
  simp only [Channel.answering, ← Channel.runs_iff]
  split
  next h => simp [h]
  next h => simp [h]

/-- A channel that runs an order has a right context that is not IDLE. -/
theorem RightAt.running_of_runs {order : Nat} (h : RightAt ch s) (hrun : (s.chan ch).runs order = true) : Running ch s :=
  h.running (Channel.runs_iff.mp hrun).1

theorem RightAt.running_of_answering {order : Nat} {p : Port} {e : Elem} (h : RightAt ch s)
    (ha : (s.chan ch).answering order p = some e) : Running ch s :=
  h.running (Channel.answering_eq_some.mp ha).1.1

/-- An IDLE channel has no elements. -/
theorem RightAt.running_of_elem? {p : Port} {e : Elem} (h : RightAt ch s) (he : (s.chan ch).elem? p = some e) : Running ch s := by
  refine h.running fun hi => ?_
  have hnone : (s.chan ch).elem? p = none := by rw [channelOk.eq_idle h hi]; rfl
  simp [hnone] at he

/-- What is begun lasts: a command that says whether a claim was asked for. -/
theorem RightAt.mayRead (h : RightAt ch s) (hr : (s.chan ch).claim = .held ∨ (s.chan ch).burstOut = true ∨
    (s.chan ch).fill ≠ none ∨ (s.chan ch).summing ≠ [] ∨ (s.chan ch).phase = .reading ∨ (s.chan ch).phase = .finishing) :
    MayRead (s.chan ch) := by
  refine (h.running fun hi => ?_).mayRead hr
  rw [channelOk.eq_idle h hi] at hr
  simp at hr

theorem RightAt.cardLoss (h : Running ch s) (he : (s.chan ch).phase ≠ .ending) : RightAt ch (s.cardLoss ch) :=
  rightAt_enterEnding (h.mayEnd he nofun)

theorem Running.ite {p : Prop} [Decidable p] {t u : State} (h : p → Running ch t) (hn : ¬p → Running ch u) :
    Running ch (if p then t else u) := by
  split
  next hp => exact h hp
  next hp => exact hn hp

theorem execStartMessage_keeps (order clip : Nat) (serial : Serial) (dests : List Dest) :
    KeepsChannel ch s (execStartMessage ch order clip serial dests s) := by
  unfold execStartMessage
  split
  · exact .same
  · refine .next ((ChanMoves.refl.setChan _).send _ _ _ rfl) fun _ => ?_
    refine (running_setChan (s := s) ?_).rightAt
    constructor <;> simp

theorem execClipLengthAnswer_keeps (order : Nat) (rec : Option Clip) :
    KeepsChannel ch s (execClipLengthAnswer ch order rec s) := by
  unfold execClipLengthAnswer
  dsimp only
  split
  · exact .same
  next hn =>
    obtain ⟨hrun, hstart, hlookup⟩ := not_not.mp hn
    cases rec with
    | none => exact .next ChanMoves.refl.cardLoss fun h => .cardLoss (h.running_of_runs hrun) (by simp [hstart])
    | some r =>
      refine .next (ChanMoves.settle (.foldl (fun _ e ht => ht.askPort _ _ rfl) _ (ChanMoves.refl.setChan _))) fun h => ?_
      refine Running.settle (foldl_induction (fun _ e ht => ht.askPort _ _) _ (running_setChan ?_))
      obtain ⟨busy, order, ended, complete, abort, -, asked, mode, claim, reading, repair⟩ := h.running_of_runs hrun
      exact ⟨busy, order, ended, complete, abort, nofun, asked, mode, claim, reading, repair⟩

theorem execReservationAnswer_keeps (order : Nat) (p : Port) (ans : ReserveAns) :
    KeepsChannel ch s (execReservationAnswer ch order p ans s) := by
  unfold execReservationAnswer
  dsimp only
  split
  next e hrun he =>
    have answered (h : RightAt ch s) : Running ch (s.portAnswered ch p) := (h.running_of_runs hrun).portAnswered p
    have moved : ChanMoves ch s (s.portAnswered ch p) := ChanMoves.refl.portAnswered p
    split
    · exact .same
    · split
      · exact .next (moved.dropDest p _).settle fun h => ((answered h).dropDest p _).settle
      · split
        · exact .next ((moved.setElem p _).tellCat _ rfl) fun h => ((answered h).setElem p _).rightAt
        · exact .next (moved.dropElem p).settle fun h => ((answered h).dropElem p).settle
  · exact .same

theorem execCreationAnswer_keeps (order : Nat) (p : Port) (ans : CreateAns) :
    KeepsChannel ch s (execCreationAnswer ch order p ans s) := by
  unfold execCreationAnswer
  dsimp only
  split
  next e hrun he =>
    have running (h : RightAt ch s) := h.running_of_runs hrun
    split
    · exact .same
    · cases ans with
      | made =>
        dsimp only
        split
        · exact .next (ChanMoves.refl.endCopy e _ _).settle fun h => ((running h).endCopy e _ _).settle
        split
        · exact .next (ChanMoves.refl.endCopy e _ _).settle fun h => ((running h).endCopy e _ _).settle
        · exact .next ((ChanMoves.refl.setElem p _).askPort p _ rfl) fun h => (((running h).setElem p _).askPort p _).rightAt
      | full | busy => exact .next (ChanMoves.refl.dropDest p _).settle fun h => ((running h).dropDest p _).settle
      | notBound =>
        dsimp only
        split
        · exact .next (ChanMoves.refl.dropElem p).settle fun h => ((running h).dropElem p).settle
        next hne =>
          refine .next (ChanMoves.refl.dropElem p).cardLoss fun h => .cardLoss ((running h).dropElem p) ?_
          rwa [((chanBecomes_refl s ch).dropElem p).chan]
  · exact .same

theorem execHeaderWriteAnswer_keeps (order : Nat) (p : Port) (ans : WriteAns) :
    KeepsChannel ch s (execHeaderWriteAnswer ch order p ans s) := by
  unfold execHeaderWriteAnswer
  dsimp only
  split
  · exact .same
  next e he =>
    have answered (h : RightAt ch s) : Running ch (s.portAnswered ch p) := (h.running_of_answering he).portAnswered p
    have moved : ChanMoves ch s (s.portAnswered ch p) := ChanMoves.refl.portAnswered p
    split
    · exact .next moved.settle fun h => (answered h).settle
    · cases ans with
      | done =>
        dsimp only
        split
        · exact .next moved.settle fun h => (answered h).settle
        · exact .next ((moved.tellCat _ rfl).setElem p _).settle fun h =>
            (Running.setElem (s := (s.portAnswered ch p).tellCat ch _) (answered h) p _).settle
      | failed => exact .next (moved.writeFailed p e).settle fun h => ((answered h).writeFailed p e).settle
      | lost => exact .next (moved.loseDrive p).settle fun h => ((answered h).loseDrive p).settle
      | withdrawn => exact .next moved.settle fun h => (answered h).settle

theorem execStartReadAnswer_keeps (order : Nat) (info : Option ReadInfo) :
    KeepsChannel ch s (execStartReadAnswer ch order info s) := by
  unfold execStartReadAnswer
  dsimp only
  split
  · exact .same
  next hn =>
    obtain ⟨hrun, hstart, hasked, -⟩ := not_not.mp hn
    cases info with
    | none => exact .next ChanMoves.refl.cardLoss fun h => .cardLoss (h.running_of_runs hrun) (by simp [hstart])
    | some i =>
      have begun (h : RightAt ch s) : Staged { s.chan ch with
          clipNo := i.clipNo, dataLen := i.desc.dataLen, extents := i.extents, mode := some i.mode, sums := [], begun := true } := by
        obtain ⟨busy, order, ended, complete, abort, lookup, -, -, -, reading, repair⟩ := h.running_of_runs hrun
        exact ⟨busy, order, ended, complete, abort, lookup, fun _ => hasked, by simp, fun _ => rfl,
          fun hr => ⟨rfl, (reading hr).2⟩, repair⟩
      have moved := (ChanMoves.refl (ch := ch) (s := s)).setChan { s.chan ch with
          clipNo := i.clipNo, dataLen := i.desc.dataLen, extents := i.extents, mode := some i.mode, sums := [], begun := true }
      dsimp only
      split
      · exact .next (moved.send _ _ _ rfl).sendClaim fun h =>
          (Running.sendClaim (s := State.send (s.setChan ch _) _ _ _) (running_setChan (begun h))
            (by rw [State.send_chan, State.setChan_chan])).rightAt
      · exact .next ((moved.send _ _ _ rfl).tellCat _ rfl) fun h => (running_setChan (s := s) (begun h)).rightAt

theorem execStoredSumsAnswer_keeps (order : Nat) (sums : List Sum32) :
    KeepsChannel ch s (execStoredSumsAnswer ch order sums s) := by
  unfold execStoredSumsAnswer
  dsimp only
  split
  next hc =>
    obtain ⟨hrun, -, hmode, -, -⟩ := hc
    refine .next (ChanMoves.refl.setChan _).sendClaim fun h => (Running.sendClaim (running_setChan ?_) ?_).rightAt
    · exact (h.running_of_runs hrun).of_eq rfl rfl rfl rfl rfl rfl rfl rfl rfl rfl rfl rfl .rfl rfl .rfl
    · rw [State.setChan_chan]
      exact (h.running_of_runs hrun).mode.mpr (by simp [hmode])
  · exact .same

/-- A claim asked for or standing is taken for HELD, or for WAITING (R69, R80). -/
theorem Staged.claimed {c : Channel} (h : Staged c) {a : ClaimState} (ha : c.claimAsked = true ∨ c.claim ≠ .none)
    (hheld : a = .held → c.phase ≠ .starting) : Staged { c with claimAsked := false, claim := a } := by
  obtain ⟨busy, order, ended, complete, abort, lookup, asked, mode, claim, reading, repair⟩ := h
  refine ⟨busy, order, ended, complete, abort, lookup, asked, mode, fun _ => claim ha, fun hr => ?_, repair⟩
  obtain hr | hr := hr
  · exact ⟨claim ha, hheld hr⟩
  · exact reading (.inr hr)

/-- The claim granted in STARTING, reading begins (R69). -/
theorem Staged.beginsReading {c : Channel} (h : Staged c) (ha : c.claimAsked = true ∨ c.claim ≠ .none) (hp : c.phase = .starting) :
    MayRead { c with claimAsked := false, claim := .held, phase := .reading } := by
  obtain ⟨busy, order, ended, complete, abort, lookup, asked, mode, claim, reading, repair⟩ := h
  have hb := claim ha
  have hended : c.ended = none := by
    by_contra hn
    simp [ended.mp hn] at hp
  refine ⟨⟨nofun, order, by simp [hended], complete, abort, fun hl => ?_, asked, mode, fun _ => hb, fun _ => ⟨hb, nofun⟩,
    fun hr => ?_⟩, hb, nofun⟩
  · simp [asked hb] at lookup
    simp [lookup] at hl
  · simp [hp] at repair
    simp [repair] at hr

theorem ChanMoves.file (h : ChanMoves ch s t) (o : Occurrence) : ChanMoves ch s (t.file (.cc ch) o) := h.send _ _ _ rfl

/-- The report that the repair pass has begun (R80) changes no context. -/
theorem ChanMoves.repairBegun (h : ChanMoves ch s t) (c : Channel) :
    ChanMoves ch s (if c.claimAsked = true ∧ c.phase = .finishing then
      t.send (.cc ch) .ods [.repairBegunReport ch (c.order.getD 0)] else t) := .ite (fun _ => h.send _ _ _ rfl) fun _ => h

theorem chan_repairBegun (t : State) (c : Channel) :
    (if c.claimAsked = true ∧ c.phase = .finishing then
      t.send (.cc ch) .ods [.repairBegunReport ch (c.order.getD 0)] else t).chan ch = t.chan ch := by
  split <;> rfl

theorem execClaimAnswer_keeps (tag : Nat) (ans : ClaimAns) : KeepsChannel ch s (execClaimAnswer ch tag ans s) := by
  unfold execClaimAnswer
  dsimp only
  split
  · exact .same
  next hn =>
    have hask : (s.chan ch).claimAsked = true ∨ (s.chan ch).claim ≠ .none := by
      by_contra hc
      simp only [not_or] at hc
      exact hn (.inr ⟨hc.1, not_not.mp hc.2⟩)
    have running (h : RightAt ch s) : Running ch s := h.running fun hi => by simp [channelOk.eq_idle h hi] at hask
    have claimed (h : RightAt ch s) (a : ClaimState) (ha : a = .held → (s.chan ch).phase ≠ .starting) :
        Running ch (s.setChan ch { s.chan ch with claimAsked := false, claim := a }) :=
      running_setChan ((running h).claimed hask ha)
    have moved (a : ClaimState) : ChanMoves ch s (s.setChan ch { s.chan ch with claimAsked := false, claim := a }) :=
      ChanMoves.refl.setChan _
    cases ans with
    | granted =>
      dsimp only
      split
      · exact .same
      · split
        next hp =>
          refine .next (((moved .held).setChan _).startExtent _ _) fun h =>
            (Reading.startExtent (reading_setChan ?_) _ _).running.rightAt
          rw [State.setChan_chan]
          exact (running h).beginsReading hask hp
        next hp =>
          have hm := ((moved .held).setChan { (s.setChan ch { s.chan ch with claimAsked := false, claim := .held }).chan ch with
            repair := (s.chan ch).repair.map fun r => { r with granted := true } }).repairBegun (s.chan ch)
          have hr (h : RightAt ch s) : MayRead ({ s.chan ch with
              claimAsked := false, claim := .held, repair := (s.chan ch).repair.map fun r => { r with granted := true } }) :=
            ((running h).mayRead (by simp [hp])).of_eq rfl rfl rfl rfl rfl rfl rfl rfl rfl (by simp)
          split
          · refine .next (hm.startExtent _ _) fun h => (Reading.startExtent ?_ _ _).running.rightAt
            rw [Reading, chan_repairBegun, State.setChan_chan, State.setChan_chan]
            exact hr h
          · refine .next hm fun h => Running.rightAt ?_
            rw [Running, chan_repairBegun, State.setChan_chan, State.setChan_chan]
            exact (hr h).toStaged
        next hp =>
          exact .next (moved .held).giveUpClaim.settle fun h => (running_giveUpClaim (claimed h .held (by simp [hp]))).settle
        next hp => exact .next (moved .held) fun h => absurd hp (running h).busy
        next hp => exact .next (moved .held) fun h => (claimed h .held (by simp [hp])).rightAt
    | waiting =>
      dsimp only
      split
      · exact .same
      split
      · exact .next (moved .waiting).giveUpClaim.settle fun h => (running_giveUpClaim (claimed h .waiting nofun)).settle
      · refine .next ((moved .waiting).repairBegun _) fun h => ?_
        rw [RightAt, chan_repairBegun]
        exact (claimed h .waiting nofun).rightAt
    | cardGone =>
      dsimp only
      split
      next hp => exact .next (moved .none).cardLoss fun h => .cardLoss (claimed h .none nofun) (by simp [hp])
      next hp => exact .next (moved .none).cardLoss fun h => .cardLoss (claimed h .none nofun) (by simp [hp])
      next hp =>
        split
        · exact .next (moved .none).dropRepair.settle fun h => (claimed h .none nofun).dropRepair.settle
        · exact .next (moved .none).cardLoss fun h => .cardLoss (claimed h .none nofun) (by simp [hp])
      · exact .next (moved .none).settle fun h => (claimed h .none nofun).settle
      · exact .next (moved .none).settle fun h => (claimed h .none nofun).settle

theorem execBufferGrant_keeps (tag num : Nat) : KeepsChannel ch s (execBufferGrant ch tag num s) := by
  have freed : KeepsChannel ch s (.next ((s.freeBuffer num).settle ch)) :=
    .next (ChanMoves.refl.store (.freeBuffer num)).settle fun h =>
      RightAt.settle (by rw [RightAt, (StoreOp.freeBuffer num).chan]; exact h)
  unfold execBufferGrant
  dsimp only
  split
  next f hf =>
    split
    · refine .next ((ChanMoves.refl.setChan _).send _ _ _ rfl) fun h => (running_setChan (s := s) ?_).rightAt
      have hread := h.mayRead (by simp [hf])
      exact hread.toStaged.of_eq rfl rfl rfl rfl rfl rfl rfl rfl rfl rfl rfl rfl (by simp [hf]) rfl .rfl
    · exact freed
  · exact freed

theorem execBurstAnswer_keeps (ans : BurstAns) : KeepsChannel ch s (execBurstAnswer ch ans s) := by
  unfold execBurstAnswer
  dsimp only
  split
  · exact .same
  next hout =>
    have reading (h : RightAt ch s) : Reading ch (s.setChan ch { s.chan ch with burstOut := false }) :=
      reading_setChan ((h.mayRead (.inr (.inl (not_not.mp hout)))).of_eq rfl rfl rfl rfl rfl rfl rfl rfl rfl .rfl)
    have moved : ChanMoves ch s (s.setChan ch { s.chan ch with burstOut := false }) := ChanMoves.refl.setChan _
    have hphase : ((s.setChan ch { s.chan ch with burstOut := false }).chan ch).phase = (s.chan ch).phase := by
      rw [State.setChan_chan]
    split
    · exact .next moved.stopReading.settle fun h => (reading h).running.stopReading.settle
    next hne =>
      rw [← hphase] at hne
      cases ans with
      | done bytes =>
        dsimp only
        split
        · split
          · exact .next (moved.burstDone _ _ _) fun h => ((reading h).burstDone _ _ _).running.rightAt
          · exact .next moved fun h => (reading h).running.rightAt
        · exact .next moved fun h => (reading h).running.rightAt
      | readError =>
        exact .next ((moved.file _).enterEnding _) fun h => rightAt_enterEnding ((reading h).running.mayEnd hne nofun)
      | cardGone | notBound => exact .next moved.cardLoss fun h => .cardLoss (reading h).running hne

theorem Reading.sumAccepted (h : Reading ch s) (he : (s.chan ch).phase ≠ .ending) (num ext : Nat) (pass : PassKind) (ans : SumAns) :
    RightAt ch (s.sumAccepted ch num ext pass ans) := by
  unfold State.sumAccepted
  dsimp only
  cases pass with
  | read =>
    dsimp only
    have summed : Reading ch (if ans = .stored then s.setChan ch { s.chan ch with
          sums := (s.chan ch).sums ++ [extentSum (((s.sts.buf? num).map (·.data)).getD [])] } else s) ∧
        ((if ans = .stored then s.setChan ch { s.chan ch with
          sums := (s.chan ch).sums ++ [extentSum (((s.sts.buf? num).map (·.data)).getD [])] } else s).chan ch).phase ≠ .ending := by
      split
      · exact ⟨reading_setChan (h.of_eq rfl rfl rfl rfl rfl rfl rfl rfl rfl .rfl), by rwa [State.setChan_chan]⟩
      · exact ⟨h, he⟩
    exact (Running.handOn (.ite (fun _ => (summed.1.readDone summed.2).running) fun _ => summed.1.running) _ _ _).settle
  | repair =>
    refine Running.settle ?_
    split
    · exact (h.running.handOn _ _ _).repairDone
    · exact h.running.handOn _ _ _

theorem execSumAnswer_keeps (order ext : Nat) (pass : PassKind) (ans : SumAns) :
    KeepsChannel ch s (execSumAnswer ch order ext pass ans s) := by
  unfold execSumAnswer
  dsimp only
  split
  · exact .same
  next hn =>
    have hne : (s.chan ch).phase ≠ .ending := fun he => hn (.inr he)
    split
    · exact .same
    next hfind =>
      have hread (h : RightAt ch s) : MayRead (s.chan ch) :=
        h.mayRead (.inr (.inr (.inr (.inl (List.ne_nil_of_mem (List.mem_of_find?_eq_some hfind))))))
      have reading (h : RightAt ch s) (l : List (Nat × Nat × PassKind)) :
          Reading ch (s.setChan ch { s.chan ch with summing := l }) :=
        reading_setChan ((hread h).of_eq rfl rfl rfl rfl rfl rfl rfl rfl rfl .rfl)
      have moved (l : List (Nat × Nat × PassKind)) : ChanMoves ch s (s.setChan ch { s.chan ch with summing := l }) :=
        ChanMoves.refl.setChan _
      have hphase (l : List (Nat × Nat × PassKind)) :
          ((s.setChan ch { s.chan ch with summing := l }).chan ch).phase ≠ .ending := by rwa [State.setChan_chan]
      cases ans with
      | stored | equal => exact .next ((moved _).sumAccepted _ _ _ _) fun h => (reading h _).sumAccepted (hphase _) _ _ _ _
      | unequal =>
        refine .next ((((moved _).file _).store (.freeBuffer _)).enterEnding _) fun h => rightAt_enterEnding ?_
        rw [(StoreOp.freeBuffer _).chan]
        exact (reading h _).running.mayEnd (hphase _) nofun
      | notBound => exact .next ChanMoves.refl.cardLoss fun h => .cardLoss (hread h).toStaged hne

theorem execExtentWriteAnswer_keeps (order : Nat) (p : Port) (num : Nat) (ans : WriteAns) :
    KeepsChannel ch s (execExtentWriteAnswer ch order p num ans s) := by
  unfold execExtentWriteAnswer
  dsimp only
  split
  · exact .same
  next e he =>
    have answered (h : RightAt ch s) : Running ch ((s.portAnswered ch p).drained ch p num) :=
      ((h.running_of_answering he).portAnswered p).store (.drained ch p num)
    have moved : ChanMoves ch s ((s.portAnswered ch p).drained ch p num) :=
      (ChanMoves.refl.portAnswered p).store (.drained ch p num)
    cases ans with
    | done =>
      dsimp only
      split
      · exact .next moved.settle fun h => (answered h).settle
      · exact .next (moved.extentDone e _).settle fun h => ((answered h).extentDone e _).settle
    | failed =>
      dsimp only
      split
      · exact .next (moved.writeFailed p e).settle fun h => ((answered h).writeFailed p e).settle
      · exact .next moved.settle fun h => (answered h).settle
    | lost => exact .next (moved.loseDrive p).settle fun h => ((answered h).loseDrive p).settle
    | withdrawn => exact .next moved.settle fun h => (answered h).settle

theorem execVerifyReadAnswer_keeps (order : Nat) (p : Port) (ext : Nat) (ans : VerifyAns) :
    KeepsChannel ch s (execVerifyReadAnswer ch order p ext ans s) := by
  unfold execVerifyReadAnswer
  dsimp only
  split
  · exact .same
  next e he =>
    have answered (h : RightAt ch s) : Running ch (s.portAnswered ch p) := (h.running_of_answering he).portAnswered p
    have moved : ChanMoves ch s (s.portAnswered ch p) := ChanMoves.refl.portAnswered p
    have settled : KeepsChannel ch s (.next ((s.portAnswered ch p).settle ch)) := .next moved.settle fun h => (answered h).settle
    have told (q : Prop) [Decidable q] (h : RightAt ch s) : Running ch (if q then (s.portAnswered ch p).tellCat ch
          (.mismatchReport ((s.chan ch).clip.getD 0) (e.vol.getD 0) ext) else s.portAnswered ch p) :=
      .ite (fun _ => answered h) fun _ => answered h
    have tells (q : Prop) [Decidable q] : ChanMoves ch s (if q then (s.portAnswered ch p).tellCat ch
          (.mismatchReport ((s.chan ch).clip.getD 0) (e.vol.getD 0) ext) else s.portAnswered ch p) :=
      .ite (fun _ => moved.tellCat _ rfl) fun _ => moved
    cases ans with
    | lost => exact .next (moved.loseDrive p).settle fun h => ((answered h).loseDrive p).settle
    | withdrawn => exact settled
    | matched | mismatch =>
      dsimp only
      split
      · exact settled
      split
      · exact .next (ChanMoves.settle (.ite (fun _ => ((tells _).setElem p _).sendVerify e _) fun _ =>
            ((tells _).setElem p _).verifyEnded e _)) fun h =>
          Running.settle (.ite (fun _ => ((told _ h).setElem p _).sendVerify e _) fun _ =>
            ((told _ h).setElem p _).verifyEnded e _)
      · split
        · exact .next (((tells _).setElem p _).sendVerify e _).settle fun h =>
            (((told _ h).setElem p _).sendVerify e _).settle
        · exact .next (((tells _).setElem p _).verifyEnded e _).settle fun h =>
            (((told _ h).setElem p _).verifyEnded e _).settle

theorem execHeaderRewriteAnswer_keeps (order : Nat) (p : Port) (ans : WriteAns) :
    KeepsChannel ch s (execHeaderRewriteAnswer ch order p ans s) := by
  unfold execHeaderRewriteAnswer
  dsimp only
  split
  · exact .same
  next e he =>
    have answered (h : RightAt ch s) : Running ch (s.portAnswered ch p) := (h.running_of_answering he).portAnswered p
    have moved : ChanMoves ch s (s.portAnswered ch p) := ChanMoves.refl.portAnswered p
    split
    · exact .next moved.settle fun h => (answered h).settle
    · cases ans with
      | done =>
        exact .next ((moved.tellCat _ rfl).dropElem p).settle fun h =>
          (Running.dropElem (s := (s.portAnswered ch p).tellCat ch _) (answered h) p).settle
      | failed => exact .next (moved.writeFailed p e).settle fun h => ((answered h).writeFailed p e).settle
      | lost => exact .next (moved.loseDrive p).settle fun h => ((answered h).loseDrive p).settle
      | withdrawn => exact .next moved.settle fun h => (answered h).settle

theorem execChannelLostVolume_keeps (p : Port) (vol : Serial) : KeepsChannel ch s (execChannelLostVolume ch p vol s) := by
  unfold execChannelLostVolume
  split
  next e he =>
    split
    · exact .next (ChanMoves.refl.loseDrive p).settle fun h => ((h.running_of_elem? he).loseDrive p).settle
    · exact .same
  · exact .same

theorem execChannelAbort_keeps (order : Nat) : KeepsChannel ch s (execChannelAbort ch order s) := by
  unfold execChannelAbort
  dsimp only
  split
  · exact .same
  next hn =>
    obtain ⟨hrun, hne⟩ := not_or.mp hn
    refine .next ((ChanMoves.refl.setChan _).enterEnding _) fun h => rightAt_enterEnding ?_
    rw [State.setChan_chan]
    have hr := h.running_of_runs (not_not.mp hrun)
    exact ⟨hr.order, nofun, fun _ => rfl, hr.asked, hr.mode, hr.claim,
      fun hc => (hr.reading (hc.imp_right (.imp_right (.imp_right .inl)))).1⟩

end

end Sys2Proof.Machine
end


section
/-! SUPPORT. A rule that speaks of one part of the BX-640 is kept by every step when it stands after a reset and that part's
own commands keep it. -/

namespace Sys2Proof.Machine

/-- A rule that the other parts, the pins and the commands waiting have no say in, and that stands after a reset. -/
structure PartRule (p : Part) (P : State → Prop) : Prop where
  rest : ∀ {s t : State} {q : Part}, q ≠ p → t.rest q = s.rest q → P s → P t
  outside : ∀ {s : State} (x : Pins) (l : List Instr) (n : Nat), P s → P { s with pins := x, pending := l, arrivals := n }
  blank : ∀ (s : State) (x : Pins) (sp : StationPorts), P (s.blank x sp)

theorem cardInserted_rest (b : Bay) (wp : Bool) (s : State) :
    keepsRest .ci { s with pins := { s.pins with
      cardDetect := upd s.pins.cardDetect b fun _ => true, writeProt := upd s.pins.writeProt b fun _ => wp } }
      (exec (.cardInserted b wp) s) := by
  change keepsRest .ci _ (execCardInserted b wp s)
  simp [execCardInserted]

theorem cardRemoved_rest (b : Bay) (s : State) :
    keepsRest .ci { s with pins := { s.pins with cardDetect := upd s.pins.cardDetect b fun _ => false } }
      (exec (.cardRemoved b) s) := by
  change keepsRest .ci _ (execCardRemoved b s)
  simp only [execCardRemoved, State.answerClaim_eq, State.answerBurst_eq]
  split
  · exact keepsRest_next.mpr rfl
  · rw [keepsRest_next, State.raise_rest, State.setBay_rest]
    split
    · rw [foldl_rest _ _ _ _ fun s a => State.send_rest ..]
      repeat' split
      all_goals simp
    · rfl

namespace PartRule
variable {p : Part} {P : State → Prop}

theorem of_keepsRest (hP : PartRule p P) {q : Part} {s t : State} {r : Result} (hq : q ≠ p) (h : keepsRest q s r)
    (e : r = .next t) (hs : P s) : P t := hP.rest hq (h.elim e) hs

/-- The commands of the other parts keep the rule. -/
theorem exec_of_other (hP : PartRule p P) (hci : p ≠ .ci) {i : Instr} {s t : State} (hi : partOf i ≠ p)
    (hr : resets i = false) (e : exec i s = .next t) (hs : P s) : P t := by
  by_cases hm : changesMore i = false
  · exact hP.of_keepsRest hi (exec_rest s hm) e hs
  · cases i with
    | driveAttach d => exact hP.of_keepsRest hi (driveAttach_rest d s) e (hP.outside _ s.pending s.arrivals hs)
    | driveRemoved d => exact hP.of_keepsRest hi (driveRemoved_rest d s) e (hP.outside _ s.pending s.arrivals hs)
    | cardInserted b wp => exact hP.of_keepsRest hi (cardInserted_rest b wp s) e (hP.outside _ s.pending s.arrivals hs)
    | cardRemoved b => exact hP.of_keepsRest hi (cardRemoved_rest b s) e (hP.outside _ s.pending s.arrivals hs)
    | listingRequest b ins serial clipNo required desc =>
      obtain h | h := listingRequest_rest b ins serial clipNo required desc s
      · exact hP.of_keepsRest hi h e hs
      · exact hP.of_keepsRest hi h e (hP.rest (s := s) (q := .ci) hci.symm rfl hs)
    | powerOnReset | responseSent => cases hr
    | _ => exact absurd rfl hm

section
variable (hP : PartRule p P) (hci : p ≠ .ci) (hdp : p ≠ .dp)
include hP hci hdp

/-- A reset, whose cards and drives present are then taken, leaves the rule standing. -/
theorem restart (s : State) (x : Pins) (sp : StationPorts) : P (s.restart x sp) := by
  refine foldl_induction (fun t d h => hP.rest hdp.symm (State.driveIn_rest t d) h) _ ?_
  exact foldl_induction (fun t b h => hP.rest hci.symm (State.cardIn_rest t b _) h) _ (hP.blank s x sp)

theorem partReset (hsp : p ≠ .sp) (s : State) (x : Pins) : P (s.partReset x) := by
  refine foldl_induction (fun t st h => hP.rest hsp.symm (State.letIn_rest t st) h) _ ?_
  split
  · exact hP.rest hsp.symm (State.takeNotice_rest _ _) (hP.restart hci hdp ..)
  · exact hP.restart hci hdp ..

theorem exec_of_resets (hsp : p ≠ .sp) {i : Instr} {s : State} (hr : resets i = true) (hs : P s) : leadsTo P (exec i s) := by
  cases i with
  | powerOnReset x => exact leadsTo_next.mpr (hP.restart hci hdp ..)
  | responseSent st x =>
    change leadsTo _ (execResponseSent st x s)
    simp only [execResponseSent]
    split
    · split
      · exact leadsTo_next.mpr hs
      · rw [leadsTo_next]
        split
        · exact hP.partReset hci hdp hsp ..
        · exact hP.rest (q := .sp) hsp.symm (by simp) hs
    all_goals exact leadsTo_next.mpr hs
  | _ => cases hr

/-- Every step keeps the rule, where the part's own commands do. -/
theorem step_keeps (hsp : p ≠ .sp)
    (hown : ∀ i s, partOf i = p → P s → leadsTo P (exec i s)) {s t : State} (hs : P s) (e : step s = .next t) : P t := by
  refine Machine.step_keeps (P := P) (fun s q h => hP.outside s.pins q s.arrivals h)
    (fun s n h => hP.rest (s := { s with arrivals := s.arrivals + 1 }) (q := .ci) hci.symm rfl
      (hP.outside s.pins s.pending _ h)) (fun i s t h e => ?_) hs e
  by_cases hi : partOf i = p
  · exact (hown i s hi h).elim e
  · cases hr : resets i with
    | true => exact (hP.exec_of_resets hci hdp hsp hr h).elim e
    | false => exact hP.exec_of_other hci hi hr e h

end
end PartRule

end Sys2Proof.Machine
end


section
/-! SUPPORT. The channels and the Staging Store are right after every step (R65, R71, R72, R102). -/

namespace Sys2Proof.Machine

theorem cc_of_rest {s t : State} {q : Part} (hq : q ≠ .cc) (h : t.rest q = s.rest q) : t.cc = s.cc ∧ t.sts = s.sts := by
  have hcc := congrArg State.cc h
  have hsts := congrArg State.sts h
  cases q with
  | cc => exact absurd rfl hq
  | _ => exact ⟨hcc, hsts⟩

/-- The rule of the channels speaks of the channels alone. -/
theorem channelsOk_congr {s t : State} (h : t.cc = s.cc) : channelsOk t ↔ channelsOk s := by
  simp only [channelsOk, State.chan, h]

theorem channelsRule : PartRule .cc channelsOk where
  rest := fun hq h hs => (channelsOk_congr (cc_of_rest hq h).1).mpr hs
  outside := fun _ _ _ hs => hs
  blank := fun _ _ _ => (channelsOk_congr (s := State.reset) rfl).mpr reset_channelsOk

theorem stagingRule : PartRule .cc stagingOk where
  rest := fun hq h hs => (stagingOk_congr (by rw [(cc_of_rest hq h).2])).mpr hs
  outside := fun _ _ _ hs => hs
  blank := fun _ _ _ => (stagingOk_congr (s := State.reset) rfl).mpr reset_stagingOk

/-- A command of one channel keeps the rule of every channel and of the watches. -/
theorem KeepsChannel.channelsOk {ch : Chan} {s : State} {r : Result} (h : KeepsChannel ch s r) (hs : channelsOk s) :
    leadsTo channelsOk r := by
  obtain ⟨t, rfl, hm, hr⟩ := h
  refine leadsTo_next.mpr ⟨fun x => ?_, hm.watches_alive hs.2⟩
  by_cases hx : x = ch
  · rw [hx]
    exact hr (hs.1 ch)
  · rw [hm.others x hx]
    exact hs.1 x

theorem KeepsChannel.stagingOk {ch : Chan} {s : State} {r : Result} (h : KeepsChannel ch s r) (hs : stagingOk s) :
    leadsTo stagingOk r := by
  obtain ⟨t, rfl, hm, -⟩ := h
  exact leadsTo_next.mpr (hm.stagingOk hs)

/-- The two rules together, for a command. -/
def KeepsChannels (s : State) (r : Result) : Prop :=
  (channelsOk s → leadsTo channelsOk r) ∧ (stagingOk s → leadsTo stagingOk r)

section
variable {ch : Chan} {s : State}

theorem KeepsChannel.both {r : Result} (h : KeepsChannel ch s r) : KeepsChannels s r := ⟨h.channelsOk, h.stagingOk⟩

/-- A command that leaves the channels and the buffers alone. -/
theorem keepsChannels_of_eq {t : State} (hcc : t.cc = s.cc) (hbufs : t.sts.bufs = s.sts.bufs) : KeepsChannels s (.next t) :=
  ⟨fun h => leadsTo_next.mpr ((channelsOk_congr hcc).mpr h), fun h => leadsTo_next.mpr ((stagingOk_congr hbufs).mpr h)⟩

theorem execBufferRequest_keeps (tag clip ext : Nat) (pass : PassKind) (len : Nat) :
    KeepsChannels s (execBufferRequest ch tag clip ext pass len s) := by
  unfold execBufferRequest
  dsimp only
  split
  next n hn =>
    split
    next hlow =>
      obtain ⟨hlt, hfree, -⟩ := Staging.lowestFree_eq_some.mp hn
      refine ⟨fun h => leadsTo_next.mpr ((channelsOk_congr rfl).mpr h), fun h => leadsTo_next.mpr ?_⟩
      exact h.insert (b := Waiter.buffer ⟨ch, tag, clip, ext, pass, len⟩ n) rfl hlt hfree (Staging.eligible_iff.mp hlow)
    · exact keepsChannels_of_eq rfl rfl
  · exact keepsChannels_of_eq rfl rfl

theorem execWatch_keeps (p : Port) (order : Nat) : KeepsChannels s (execWatch p ch order s) := by
  unfold execWatch
  split
  next halive =>
    refine ⟨fun h => leadsTo_next.mpr ⟨h.1, fun w hw => ?_⟩, fun h => leadsTo_next.mpr h⟩
    obtain hw | hw := List.mem_append.mp hw
    · exact h.2 w hw
    · obtain rfl := List.mem_singleton.mp hw
      exact halive
  · exact keepsChannels_of_eq rfl rfl

theorem execQueryChannel_keeps (q : Req) (n : Nat) : KeepsChannels s (execQueryChannel q n s) := by
  unfold execQueryChannel
  split <;> exact keepsChannels_of_eq rfl rfl

end

/-- Every command of the channels and of the Staging Store keeps both rules. -/
theorem exec_keepsChannels {i : Instr} (s : State) (hi : partOf i = .cc) : KeepsChannels s (exec i s) := by
  cases i with
  | startMessage ch order clip serial dests => exact (execStartMessage_keeps order clip serial dests).both
  | clipLengthAnswer ch order rec => exact (execClipLengthAnswer_keeps order rec).both
  | reservationAnswer ch order p ans => exact (execReservationAnswer_keeps order p ans).both
  | creationAnswer ch order p ans => exact (execCreationAnswer_keeps order p ans).both
  | headerWriteAnswer ch order p ans => exact (execHeaderWriteAnswer_keeps order p ans).both
  | startReadAnswer ch order info => exact (execStartReadAnswer_keeps order info).both
  | storedSumsAnswer ch order sums => exact (execStoredSumsAnswer_keeps order sums).both
  | claimAnswer ch tag ans => exact (execClaimAnswer_keeps tag ans).both
  | bufferRequest ch tag clip ext pass len => exact execBufferRequest_keeps tag clip ext pass len
  | bufferWithdrawal ch => exact keepsChannels_of_eq rfl rfl
  | bufferGrant ch tag num => exact (execBufferGrant_keeps tag num).both
  | burstAnswer ch ans => exact (execBurstAnswer_keeps ans).both
  | sumAnswer ch order ext pass ans => exact (execSumAnswer_keeps order ext pass ans).both
  | extentWriteAnswer ch order p num ans => exact (execExtentWriteAnswer_keeps order p num ans).both
  | verifyReadAnswer ch order p ext ans => exact (execVerifyReadAnswer_keeps order p ext ans).both
  | headerRewriteAnswer ch order p ans => exact (execHeaderRewriteAnswer_keeps order p ans).both
  | channelLostVolume ch p vol => exact (execChannelLostVolume_keeps p vol).both
  | channelAbort ch order => exact (execChannelAbort_keeps order).both
  | statusQuery p ch order => exact keepsChannels_of_eq rfl rfl
  | watch p ch order => exact execWatch_keeps p order
  | queryChannel q n => exact execQueryChannel_keeps q n
  | queryStore q => exact keepsChannels_of_eq rfl rfl
  | _ => cases hi

theorem channels_kept {s t : State} (hs : channelsOk s) (e : step s = .next t) : channelsOk t :=
  channelsRule.step_keeps (by decide) (by decide) (by decide) (fun _ s hi h => (exec_keepsChannels s hi).1 h) hs e

theorem staging_kept {s t : State} (hs : stagingOk s) (e : step s = .next t) : stagingOk t :=
  stagingRule.step_keeps (by decide) (by decide) (by decide) (fun _ s hi h => (exec_keepsChannels s hi).2 h) hs e

end Sys2Proof.Machine
end


section
/-! SUPPORT. The Preview Pool is right after every step (R129, R131). -/

namespace Sys2Proof.Machine

/-! ## The held slots -/

theorem poolOk_iff {s : State} : poolOk s ↔ s.pp.slots.Pairwise (fun x y => x.num < y.num) ∧
    (∀ x ∈ s.pp.slots, x.num < 64 ∧ x.holders ≠ []) ∧ ∀ c, s.pp.slots.countP (fun x => Holder.newest c ∈ x.holders) ≤ 1 := by
  simp only [poolOk, List.pairwise_map, List.countP_eq_length_filter]

/-- The rule of the Preview Pool speaks of the held slots alone. -/
theorem poolOk_congr {s t : State} (h : t.pp.slots = s.pp.slots) : poolOk t ↔ poolOk s := by
  simp only [poolOk, h]

theorem Pool.lowestFree_some {p : Pool} {n : Nat} (h : p.lowestFree = some n) : n < 64 ∧ ∀ x ∈ p.slots, x.num ≠ n := by
  have hfind := List.find?_some h
  have hmem := List.mem_of_find?_eq_some h
  exact ⟨List.mem_range.mp hmem, by simpa using hfind⟩

theorem mem_insertSlot {x y : Slot} {l : List Slot} : y ∈ insertSlot x l ↔ y = x ∨ y ∈ l := by
  induction l with
  | nil => simp [insertSlot]
  | cons z zs ih =>
    unfold insertSlot
    split
    · simp
    · simp only [List.mem_cons, ih]
      tauto

theorem insertSlot_perm (x : Slot) (l : List Slot) : (insertSlot x l).Perm (x :: l) := by
  induction l with
  | nil => exact .refl _
  | cons y ys ih =>
    unfold insertSlot
    split
    · exact .refl _
    · exact (ih.cons y).trans (.swap ..)

theorem insertSlot_ascending {x : Slot} {l : List Slot} (hl : l.Pairwise fun y z => y.num < z.num)
    (hx : ∀ y ∈ l, y.num ≠ x.num) : (insertSlot x l).Pairwise fun y z => y.num < z.num := by
  induction l with
  | nil => simp [insertSlot]
  | cons y ys ih =>
    obtain ⟨hy, hys⟩ := List.pairwise_cons.mp hl
    obtain ⟨hne, hrest⟩ := List.forall_mem_cons.mp hx
    unfold insertSlot
    split
    next hlt => exact List.pairwise_cons.mpr ⟨List.forall_mem_cons.mpr ⟨hlt, fun z hz => hlt.trans (hy z hz)⟩, hl⟩
    next hge =>
      refine List.pairwise_cons.mpr ⟨fun z hz => ?_, ih hys hrest⟩
      obtain rfl | hz := mem_insertSlot.mp hz
      · omega
      · exact hy z hz

section
variable {h : Holder} {p : Slot → Bool} {l : List Slot}

/-- A slot that a holder leaves, where the slot is picked. -/
def Slot.leftBy (x : Slot) (h : Holder) (p : Slot → Bool) : Slot :=
  if p x then { x with holders := x.holders.filter fun y => y ≠ h } else x

theorem Slot.leftBy_num (x : Slot) : (x.leftBy h p).num = x.num := by
  unfold Slot.leftBy
  split <;> rfl

theorem Slot.leftBy_holders_subset (x : Slot) : (x.leftBy h p).holders ⊆ x.holders := by
  unfold Slot.leftBy
  split
  · exact List.filter_subset_self _
  · exact List.Subset.refl _

theorem dropHolder_eq : dropHolder h p l = (l.map fun x => x.leftBy h p).filter fun x => !x.holders.isEmpty := rfl

theorem dropHolder_ascending (hl : l.Pairwise fun y z => y.num < z.num) :
    (dropHolder h p l).Pairwise fun y z => y.num < z.num := by
  rw [dropHolder_eq]
  refine List.Pairwise.filter _ (List.pairwise_map.mpr ?_)
  simpa only [Slot.leftBy_num] using hl

theorem mem_dropHolder {x : Slot} (hx : x ∈ dropHolder h p l) : x.holders ≠ [] ∧ ∃ y ∈ l, x = y.leftBy h p := by
  obtain ⟨hmem, hne⟩ := List.mem_filter.mp (dropHolder_eq ▸ hx)
  obtain ⟨y, hy, rfl⟩ := List.mem_map.mp hmem
  exact ⟨by simpa using hne, y, hy, rfl⟩

theorem dropHolder_countP_le (c : Chan) : (dropHolder h p l).countP (fun x => Holder.newest c ∈ x.holders) ≤
    l.countP fun x => Holder.newest c ∈ x.holders := by
  rw [dropHolder_eq]
  refine (List.filter_sublist.countP_le).trans ?_
  rw [List.countP_map]
  exact List.countP_mono_left fun x _ hx => by simpa using x.leftBy_holders_subset (by simpa using hx)

/-- No slot is NEWEST of a channel once NEWEST has left every slot. -/
theorem dropHolder_newest_countP (c : Chan) :
    (dropHolder (.newest c) (fun _ => true) l).countP (fun x => Holder.newest c ∈ x.holders) = 0 := by
  refine List.countP_eq_zero.mpr fun x hx => ?_
  obtain ⟨-, y, -, rfl⟩ := mem_dropHolder hx
  simp [Slot.leftBy]

end

/-! ## What the pool's operations make of the slots -/

section
variable {s : State}

theorem State.setSlots_slots (s : State) (l : List Slot) : (s.setSlots l).pp.slots = l := by
  unfold State.setSlots
  dsimp only
  split <;> rfl

theorem poolOk.dropHolder (hs : poolOk s) (h : Holder) (p : Slot → Bool) : poolOk (s.setSlots (dropHolder h p s.pp.slots)) := by
  obtain ⟨asc, each, newest⟩ := poolOk_iff.mp hs
  rw [poolOk_iff, State.setSlots_slots]
  refine ⟨dropHolder_ascending asc, fun x hx => ?_, fun c => (dropHolder_countP_le c).trans (newest c)⟩
  obtain ⟨hne, y, hy, rfl⟩ := mem_dropHolder hx
  rw [Slot.leftBy_num]
  exact ⟨(each y hy).1, hne⟩

theorem State.engineTake_slots (s : State) : s.engineTake.pp.slots = s.pp.slots := by
  unfold State.engineTake
  repeat' split
  all_goals rfl

/-- The held slots that a newly placed plane finds: NEWEST of its channel has left them (R131). -/
def Pool.slotsFor (p : Pool) (newest : Option Chan) : List Slot :=
  match newest with
  | some c => dropHolder (.newest c) (fun _ => true) p.slots
  | none => p.slots

theorem State.place_slots (s : State) (n : Nat) (src : SlotSource) (hdr : FrameHdr) (plane : List Byte) (newest : Option Chan)
    (holders : List Holder) : (s.place n src hdr plane newest holders).pp.slots =
      insertSlot { num := n, src := src, hdr := hdr, plane := plane, holders := holders ++ (newest.map Holder.newest).toList }
        (s.pp.slotsFor newest) := by
  unfold State.place
  dsimp only
  split <;> cases newest <;> simp only [State.engineTake_slots, State.setSlots_slots, Pool.slotsFor]

theorem poolOk.slotsFor (hs : poolOk s) (newest : Option Chan) :
    (s.pp.slotsFor newest).Pairwise (fun x y => x.num < y.num) ∧ (∀ x ∈ s.pp.slotsFor newest, x.num < 64 ∧ x.holders ≠ []) ∧
      ∀ c, (s.pp.slotsFor newest).countP (fun x => Holder.newest c ∈ x.holders) + (if newest = some c then 1 else 0) ≤ 1 := by
  obtain ⟨asc, each, one⟩ := poolOk_iff.mp hs
  cases newest with
  | none => exact ⟨asc, each, fun c => one c⟩
  | some d =>
    refine ⟨dropHolder_ascending asc, fun x hx => ?_, fun c => ?_⟩
    · obtain ⟨hne, y, hy, rfl⟩ := mem_dropHolder hx
      rw [Slot.leftBy_num]
      exact ⟨(each y hy).1, hne⟩
    · by_cases hd : d = c
      · subst hd
        simp [Pool.slotsFor, dropHolder_newest_countP]
      · rw [if_neg fun h => hd (Option.some.inj h)]
        exact (dropHolder_countP_le c).trans (one c)

/-- A plane finds no slot of its number held. -/
theorem Pool.slotsFor_free {p : Pool} {n : Nat} (hn : p.lowestFree = some n) (newest : Option Chan) :
    ∀ x ∈ p.slotsFor newest, x.num ≠ n := by
  intro x hx
  cases newest with
  | none => exact (Pool.lowestFree_some hn).2 x hx
  | some c =>
    obtain ⟨-, y, hy, rfl⟩ := mem_dropHolder hx
    rw [Slot.leftBy_num]
    exact (Pool.lowestFree_some hn).2 y hy

theorem poolOk.place (hs : poolOk s) {n : Nat} (hn : s.pp.lowestFree = some n) (src : SlotSource) (hdr : FrameHdr)
    (plane : List Byte) {newest : Option Chan} {holders : List Holder} (hheld : holders ≠ [] ∨ newest ≠ none)
    (hnone : ∀ c, Holder.newest c ∉ holders) : poolOk (s.place n src hdr plane newest holders) := by
  obtain ⟨asc, each, one⟩ := hs.slotsFor newest
  rw [poolOk_iff, State.place_slots]
  refine ⟨insertSlot_ascending asc (Pool.slotsFor_free hn newest), fun x hx => ?_, fun c => ?_⟩
  · obtain rfl | hx := mem_insertSlot.mp hx
    · refine ⟨(Pool.lowestFree_some hn).1, fun hnil => ?_⟩
      obtain ⟨hh, hm⟩ := List.append_eq_nil_iff.mp hnil
      exact hheld.elim (absurd hh) fun hne => hne (by simpa using hm)
    · exact each x hx
  · rw [(insertSlot_perm _ _).countP_eq, List.countP_cons]
    simpa [hnone c] using one c

theorem poolOk.setLive (h : poolOk s) (c : Chan) (x : LiveCtx) : poolOk (s.setLive c x) := h

theorem poolOk.setPlay (h : poolOk s) (k : Outp) (x : PlayCtx) : poolOk (s.setPlay k x) := h

theorem poolOk.setRe (h : poolOk s) (x : ReCtx) : poolOk (s.setRe x) := h

theorem poolOk.tellReader (h : poolOk s) (run : Nat) (rep : ReReport) : poolOk (s.tellReader run rep) := h

theorem poolOk.answerFetch (h : poolOk s) (k : Outp) (f : Nat × Nat) (a : FetchAns) : poolOk (s.answerFetch k f a) := h

/-! ## The live pass (R124 to R127) -/

theorem poolOk.skipFrame (h : poolOk s) (c : Chan) : poolOk (s.skipFrame c) := h

theorem poolOk.liveHeader (h : poolOk s) (c : Chan) (hdr : ChunkHdr) : poolOk (s.liveHeader c hdr) := by
  unfold State.liveHeader
  dsimp only
  repeat' split
  all_goals exact h

theorem poolOk.livePlane (h : poolOk s) (c : Chan) : poolOk (s.livePlane c) := by
  unfold State.livePlane
  dsimp only
  split
  · split <;> exact h
  next n hn =>
    split
    · exact (h.setLive c _).place hn _ _ _ (.inl (by simp)) (by simp)
    · exact h.place hn _ _ _ (.inr (by simp)) (by simp)

theorem poolOk.liveBad (h : poolOk s) (c : Chan) : poolOk (s.liveBad c) := by
  unfold State.liveBad
  dsimp only
  split <;> exact h

theorem poolOk.liveByte (h : poolOk s) (c : Chan) (b : Byte) : poolOk (s.liveByte c b) := by
  unfold State.liveByte
  dsimp only
  split
  · exact h
  · split
    · exact h
    · exact (h.setLive c _).liveHeader c _
    · exact (h.setLive c _).livePlane c
    · exact (h.setLive c _).liveBad c

theorem poolOk.settlePass (h : poolOk s) (c : Chan) (pass clip skipped : Nat) : poolOk (s.settlePass c pass clip skipped) := by
  unfold State.settlePass
  dsimp only
  split <;> exact h

theorem poolOk.liveEnd (h : poolOk s) (c : Chan) : poolOk (s.liveEnd c) := by
  have ended (m : Instr) : poolOk ((s.setLive c {}).send .fx .ins [m]) := h
  unfold State.liveEnd
  dsimp only
  split
  · exact h
  · split
    · exact (ended _).settlePass c _ _ _
    · exact h

theorem poolOk.liveCut (h : poolOk s) (c : Chan) : poolOk (s.liveCut c) := by
  unfold State.liveCut
  dsimp only
  split
  · exact h
  · split
    · exact h
    · refine poolOk.settlePass ?_ c _ _ _
      split <;> exact h

theorem poolOk.liveEvent (h : poolOk s) (c : Chan) (e : LiveEvent) : poolOk (s.liveEvent c e) := by
  cases e with
  | start clip desc => exact h
  | bytes bs => exact foldl_induction (fun t b ht => ht.liveByte c b) bs h
  | endOfData => exact h.liveEnd c
  | cutOff => exact h.liveCut c

theorem poolOk.deliverLive (h : poolOk s) (c : Chan) (e : LiveEvent) : poolOk (s.deliverLive c e) := by
  unfold State.deliverLive
  dsimp only
  split
  · exact h
  · exact h.liveEvent c e

theorem execLiveInspectionStateAnswer_poolOk (h : poolOk s) (ch : Chan) (pass : Nat) (rec : Option Clip) :
    leadsTo poolOk (execLiveInspectionStateAnswer ch pass rec s) := by
  unfold execLiveInspectionStateAnswer
  dsimp only
  split
  · exact leadsTo_next.mpr h
  · refine leadsTo_next.mpr (foldl_induction (fun t e ht => ht.deliverLive ch e) _ ?_)
    split <;> exact h

/-! ## Outputs and the analysis (R130 to R132) -/

theorem State.readerEnds_slots (s : State) : s.readerEnds.pp.slots = s.pp.slots := by
  unfold State.readerEnds
  dsimp only
  repeat' split
  all_goals rfl

theorem poolOk.settleOne (h : poolOk s) (pass : Nat) : poolOk (s.settleOne pass) := by
  unfold State.settleOne
  split
  · exact h
  · split <;> exact h

theorem execAnalysisDoneReport_poolOk (h : poolOk s) (slot : Nat) : leadsTo poolOk (execAnalysisDoneReport slot s) := by
  unfold execAnalysisDoneReport
  split
  · exact leadsTo_next.mpr h
  · have hd := h.dropHolder .inspect fun y => y.num = slot
    dsimp only
    split
    · exact leadsTo_next.mpr (hd.settleOne _)
    · exact leadsTo_next.mpr ((poolOk_congr (State.readerEnds_slots _)).mpr hd)
    · exact leadsTo_next.mpr hd

theorem execLiveCountReport_poolOk (h : poolOk s) (c : Chan) (n : Nat) : leadsTo poolOk (execLiveCountReport c n s) := by
  unfold execLiveCountReport
  rw [leadsTo_next]
  dsimp only
  split
  · exact poolOk.dropHolder (s := { s with pp := { s.pp with counts := upd s.pp.counts c fun _ => n } }) h _ _
  · exact h

theorem execTakeNewest_poolOk (h : poolOk s) (k : Outp) (c : Chan) (tok : Nat) :
    leadsTo poolOk (execTakeNewest k c tok s) := by
  unfold execTakeNewest
  split
  · exact leadsTo_next.mpr h
  next x hx =>
    rw [leadsTo_next]
    obtain ⟨asc, each, newest⟩ := poolOk_iff.mp h
    have hnewest (y : Slot) (d : Chan) : Holder.newest d ∈ (if y.num = x.num ∧ Holder.output k ∉ y.holders then
        { y with holders := y.holders ++ [.output k] } else y).holders ↔ Holder.newest d ∈ y.holders := by
      split <;> simp
    have hnum (y : Slot) : (if y.num = x.num ∧ Holder.output k ∉ y.holders then
        { y with holders := y.holders ++ [.output k] } else y).num = y.num := by
      split <;> rfl
    refine (poolOk_congr (s := s.setSlots _) rfl).mpr (poolOk_iff.mpr ?_)
    rw [State.setSlots_slots]
    refine ⟨List.pairwise_map.mpr (by simpa only [hnum] using asc), fun y hy => ?_, fun d => ?_⟩
    · obtain ⟨z, hz, rfl⟩ := List.mem_map.mp hy
      rw [hnum]
      refine ⟨(each z hz).1, ?_⟩
      split
      · simp
      · exact (each z hz).2
    · simpa only [List.countP_map, Function.comp_def, hnewest] using newest d

/-! ## Playback reading (R133) -/

theorem poolOk.answerAll (h : poolOk s) (k : Outp) (fs : List (Nat × Nat)) (a : FetchAns) : poolOk (s.answerAll k fs a) :=
  foldl_induction (P := poolOk) (f := fun t f => t.answerFetch k f a) (fun _ _ ht => ht) fs h

theorem poolOk.serveFetch (h : poolOk s) (k : Outp) (fs : List (Nat × Nat)) : poolOk (State.serveFetch k fs s) := by
  induction fs generalizing s with
  | nil => exact h
  | cons f rest ih =>
    unfold State.serveFetch
    dsimp only
    generalize (if f.2 < (s.playCtx k).parse.ordinal then _ else _ : PlayCtx) = x
    split
    · exact (h.setPlay k _).answerAll k _ _
    · split
      · exact ih ((h.setPlay k _).answerFetch k f _)
      split
      · exact (h.setPlay k _).answerAll k _ _
      split <;> exact h

theorem poolOk.playBytes (h : poolOk s) (k : Outp) (x : PlayCtx) (f : Nat × Nat) (rest : List (Nat × Nat)) (bytes : List Byte) :
    poolOk (s.playBytes k x f rest bytes) := by
  unfold State.playBytes
  dsimp only
  split
  · exact (h.setPlay k _).answerAll k _ _
  · split
    · exact (h.setPlay k _).serveFetch k _
    split
    · exact ((h.setPlay k _).answerFetch k f _).serveFetch k _
    · split
      · exact ((h.setPlay k _).answerFetch k f _).serveFetch k _
      next hn => exact (((h.setPlay k _).place hn _ _ _ (.inl (by simp)) (by simp)).answerFetch k f _).serveFetch k _

theorem execFetch_poolOk (h : poolOk s) (k : Outp) (run n : Nat) : leadsTo poolOk (execFetch k run n s) := by
  unfold execFetch
  dsimp only
  split
  · split
    · exact leadsTo_next.mpr (h.serveFetch k _)
    · exact leadsTo_next.mpr h
  all_goals exact leadsTo_next.mpr h

theorem execPlaybackReadAnswer_poolOk (h : poolOk s) (k : Outp) (rtok : Nat) (ans : ReadAns) :
    leadsTo poolOk (execPlaybackReadAnswer k rtok ans s) := by
  unfold execPlaybackReadAnswer
  dsimp only
  split
  · exact leadsTo_next.mpr h
  · split
    · exact leadsTo_next.mpr (h.playBytes k _ _ _ _)
    next f rest _ => exact leadsTo_next.mpr (((h.setPlay k _).answerFetch k f _).serveFetch k _)
    · exact leadsTo_next.mpr ((h.setPlay k _).answerAll k _ _)
    · exact leadsTo_next.mpr ((h.setPlay k _).answerAll k _ _)
    · exact leadsTo_next.mpr h

theorem execPlaybackCancel_poolOk (h : poolOk s) (k : Outp) : leadsTo poolOk (execPlaybackCancel k s) := by
  unfold execPlaybackCancel
  refine leadsTo_next.mpr (poolOk.answerAll ?_ k _ _)
  split <;> exact h

/-! ## Re-inspection reading (R134) -/

theorem poolOk.placeRe (h : poolOk s) {n : Nat} (hn : s.pp.lowestFree = some n) : poolOk (s.placeRe n) := by
  have hfree (x : ReCtx) : (s.setRe x).pp.lowestFree = some n := hn
  exact ((h.setRe _).place (hfree _) _ _ _ (.inl (by simp)) (by simp)).tellReader _ _

theorem poolOk.closeRe (h : poolOk s) : poolOk s.closeRe := by
  unfold State.closeRe
  dsimp only
  split <;> exact h

theorem poolOk.reByte (h : poolOk s) (b : Byte) : poolOk (s.reByte b) := by
  unfold State.reByte
  dsimp only
  split
  · exact (h.setRe _).closeRe
  · split
    · exact poolOk.closeRe h
    · exact h
  · split
    · split
      next hn => exact ((h.setRe _).placeRe hn).closeRe
      · exact h
    · exact h
  · exact h

theorem poolOk.reConsumed (h : poolOk s) : poolOk s.reConsumed := by
  unfold State.reConsumed
  dsimp only
  split <;> exact h

theorem poolOk.reBytes (h : poolOk s) (bs : List Byte) : poolOk (State.reBytes bs s) := by
  induction bs generalizing s with
  | nil => exact h.reConsumed
  | cons b bs ih =>
    unfold State.reBytes
    split
    · exact ih (h.reByte b)
    all_goals exact h

theorem execReinspectContextStart_poolOk (h : poolOk s) (run clip dataLen frames : Nat) (src : Source) :
    leadsTo poolOk (execReinspectContextStart run clip dataLen frames src s) := by
  unfold execReinspectContextStart
  dsimp only
  split
  · rw [leadsTo_next]
    split
    · exact (h.setRe _).reBytes _
    · exact h
  · exact leadsTo_next.mpr h

theorem execReinspectBytes_poolOk (h : poolOk s) (run : Nat) (bytes : List Byte) :
    leadsTo poolOk (execReinspectBytes run bytes s) := by
  have taken : poolOk (if s.fx.re.run = run then State.reBytes bytes s else s) := by
    split
    · exact h.reBytes bytes
    · exact h
  have early (x : ReCtx) : poolOk (if s.fx.re.run = run then s else s.setRe x) := by
    split
    · exact h
    · exact h
  unfold execReinspectBytes
  dsimp only
  split
  · exact leadsTo_next.mpr taken
  · exact leadsTo_next.mpr taken
  · exact leadsTo_next.mpr (early _)
  · exact leadsTo_next.mpr h

theorem execReinspectPlaneResume_poolOk (h : poolOk s) (free : Nat) : leadsTo poolOk (execReinspectPlaneResume free s) := by
  unfold execReinspectPlaneResume
  dsimp only
  split
  · exact leadsTo_next.mpr h
  · split
    · exact leadsTo_next.mpr h
    next hn =>
      have hplaced := fun x => ((h.setRe x).placeRe hn).closeRe
      rw [leadsTo_next]
      split
      · exact hplaced _
      · exact (hplaced _).reBytes _

/-! ## Commands that leave the slots alone -/

theorem State.offerSites_slots (s : State) (letter : Letter) (clip : Nat) (cs : List (Nat × Nat)) :
    (s.offerSites letter clip cs).pp.slots = s.pp.slots := by
  refine foldl_keeps (fun t : State => t.pp.slots) _ (fun t c => ?_) cs s
  dsimp only
  split <;> rfl

theorem State.fileFrame_slots (s : State) (a : Analysis) (letter : Letter) : (s.fileFrame a letter).pp.slots = s.pp.slots := by
  unfold State.fileFrame
  generalize planeSamples a.plane = xs
  generalize xs.map luma = ys
  generalize frameMean ys = mean
  generalize candidates a.limits mean ys = cs
  dsimp only
  generalize clipRun _ _ _ _ = r
  split
  · rw [State.offerSites_slots]
    repeat' split
    all_goals rfl
  all_goals
    repeat' split
    all_goals rfl

theorem State.analysed_slots (s : State) (a : Analysis) (letter : Option Letter) :
    (s.analysed a letter).pp.slots = s.pp.slots := by
  unfold State.analysed
  rw [State.engineTake_slots]
  cases letter with
  | none => rfl
  | some l => exact s.fileFrame_slots a l

theorem State.askAttached_slots (s : State) (src : Node) (who : Nat → VolAsker) (cs : List Candidate) :
    (s.askAttached src who cs).pp.slots = s.pp.slots := by
  unfold State.askAttached
  exact foldl_keeps (fun t : State => t.pp.slots) _ (fun t c => by rw [State.send_pp]) cs.zipIdx s

theorem State.nextRead_slots (s : State) : s.nextRead.pp.slots = s.pp.slots := by
  unfold State.nextRead
  dsimp only
  repeat' split
  all_goals rfl

theorem State.endReader_slots (s : State) (k : ReEnd) : (s.endReader k).pp.slots = s.pp.slots := by
  unfold State.endReader
  dsimp only
  split <;> rfl

theorem State.takeFinal_slots (s : State) (placed skipped : Nat) : (s.takeFinal placed skipped).pp.slots = s.pp.slots := by
  unfold State.takeFinal
  dsimp only
  split
  · rfl
  · exact State.readerEnds_slots _

theorem State.startReinspect_slots (s : State) (q : Req) (c : Clip) (src : Source) :
    (s.startReinspect q c src).pp.slots = s.pp.slots := State.nextRead_slots _

/-- The command's outcome has the held slots as they were. -/
def keepsSlots (s : State) (r : Result) : Prop := leadsTo (fun t => t.pp.slots = s.pp.slots) r

theorem keepsSlots.poolOk {r : Result} (h : keepsSlots s r) (hs : poolOk s) : leadsTo poolOk r :=
  h.imp fun _ ht => (poolOk_congr ht).mpr hs

theorem execFrameHeader_slots (ch : Chan) (pass : Nat) (hdr : FrameHdr) : keepsSlots s (execFrameHeader ch pass hdr s) := by
  unfold execFrameHeader keepsSlots
  dsimp only
  split
  · exact leadsTo_next.mpr rfl
  · rw [leadsTo_next]
    repeat' split
    all_goals rfl

theorem execContinuityEnd_slots (ch : Chan) (pass : Nat) (how : PassEnd) : keepsSlots s (execContinuityEnd ch pass how s) := by
  unfold execContinuityEnd keepsSlots
  dsimp only
  split
  · exact leadsTo_next.mpr rfl
  · split
    · rw [leadsTo_next]
      split <;> rfl
    all_goals exact leadsTo_next.mpr rfl

theorem execAnalysisComplete_slots (tok : Nat) : keepsSlots s (execAnalysisComplete tok s) := by
  unfold execAnalysisComplete keepsSlots
  split
  · exact leadsTo_next.mpr rfl
  · split
    · exact leadsTo_next.mpr rfl
    split
    · exact leadsTo_next.mpr (State.analysed_slots _ _ _)
    · exact leadsTo_next.mpr rfl

theorem execAnalysisLookupAnswer_slots (tok : Nat) (rec : Option Clip) : keepsSlots s (execAnalysisLookupAnswer tok rec s) := by
  unfold execAnalysisLookupAnswer keepsSlots
  dsimp only
  split
  · exact leadsTo_next.mpr rfl
  · split
    · exact leadsTo_next.mpr rfl
    · cases rec with
      | none =>
        dsimp only [Option.map_none]
        split
        · exact leadsTo_next.mpr (State.analysed_slots _ _ _)
        · exact leadsTo_next.mpr rfl
      | some c =>
        dsimp only [Option.map_some]
        split
        · exact leadsTo_next.mpr (State.analysed_slots _ _ _)
        · exact leadsTo_next.mpr rfl

theorem execPassResult_slots (clip skipped : Nat) (superseded : Bool) :
    keepsSlots s (execPassResult clip skipped superseded s) := by
  unfold execPassResult
  refine leadsTo_next.mpr ?_
  repeat' split
  all_goals rfl

theorem execReinspect_slots (q : Req) (clip : Nat) : keepsSlots s (execReinspect q clip s) := by
  unfold execReinspect keepsSlots
  split
  · exact leadsTo_next.mpr rfl
  split
  · exact leadsTo_next.mpr rfl
  · split
    · exact leadsTo_next.mpr rfl
    split
    · exact leadsTo_next.mpr rfl
    split
    · exact leadsTo_next.mpr rfl
    · exact leadsTo_next.mpr (State.askAttached_slots ..)

theorem execReinspectAttachmentAnswer_slots (ix : Nat) (yes : Bool) :
    keepsSlots s (execReinspectAttachmentAnswer ix yes s) := by
  unfold execReinspectAttachmentAnswer keepsSlots
  dsimp only
  split
  · exact leadsTo_next.mpr rfl
  · rw [leadsTo_next]
    split <;> rfl

theorem execReinspectLookupAnswer_slots (rec : Option Clip) : keepsSlots s (execReinspectLookupAnswer rec s) := by
  unfold execReinspectLookupAnswer keepsSlots
  dsimp only
  split
  · split
    · exact leadsTo_next.mpr rfl
    · split
      · exact leadsTo_next.mpr rfl
      split
      · exact leadsTo_next.mpr rfl
      · exact leadsTo_next.mpr (State.startReinspect_slots ..)
  · exact leadsTo_next.mpr rfl

theorem execReinspectReadAnswer_slots (run : Nat) (ans : ReReadAns) : keepsSlots s (execReinspectReadAnswer run ans s) := by
  unfold execReinspectReadAnswer keepsSlots
  dsimp only
  split
  · exact leadsTo_next.mpr rfl
  · cases ans <;> refine leadsTo_next.mpr ?_
    case done =>
      split
      · exact State.nextRead_slots _
      · rfl
    case failed =>
      split
      · exact State.endReader_slots _ _
      · rfl
    case lost => exact State.endReader_slots _ _
    case withdrawn => rfl

theorem execReinspectReadConsumed_slots (run : Nat) : keepsSlots s (execReinspectReadConsumed run s) := by
  unfold execReinspectReadConsumed keepsSlots
  dsimp only
  split
  · exact leadsTo_next.mpr rfl
  · rw [leadsTo_next]
    split
    · rfl
    · exact State.nextRead_slots _

theorem execReinspectContextReport_slots (run : Nat) (rep : ReReport) :
    keepsSlots s (execReinspectContextReport run rep s) := by
  unfold execReinspectContextReport keepsSlots
  dsimp only
  split
  · exact leadsTo_next.mpr rfl
  · cases rep with
    | placed =>
      rw [leadsTo_next]
      split <;> rfl
    | ended | halted | lost => exact leadsTo_next.mpr ((State.takeFinal_slots ..).trans (State.endReader_slots ..))
    | counts => exact leadsTo_next.mpr (State.takeFinal_slots ..)

theorem execReinspectLostVolume_slots (p : Port) (vol : Serial) : keepsSlots s (execReinspectLostVolume p vol s) := by
  unfold execReinspectLostVolume keepsSlots
  dsimp only
  split
  · rw [leadsTo_next]
    split <;> exact State.endReader_slots _ _
  · exact leadsTo_next.mpr rfl

theorem execReinspectContextCancel_slots (run : Nat) : keepsSlots s (execReinspectContextCancel run s) := by
  unfold execReinspectContextCancel keepsSlots
  dsimp only
  split <;> exact leadsTo_next.mpr rfl

theorem execReinspectReadLost_slots (run : Nat) : keepsSlots s (execReinspectReadLost run s) := by
  unfold execReinspectReadLost keepsSlots
  dsimp only
  split <;> exact leadsTo_next.mpr rfl

theorem execQuerySites_slots (q : Req) (first : Nat) : keepsSlots s (execQuerySites q first s) := by
  unfold execQuerySites keepsSlots
  split <;> exact leadsTo_next.mpr rfl

end

/-! ## Every command, and every step -/

theorem exec_poolOk {i : Instr} (s : State) (hi : partOf i = .frames) (h : poolOk s) : leadsTo poolOk (exec i s) := by
  cases i with
  | livePassBegin ch clip desc => exact leadsTo_next.mpr (h.deliverLive ch _)
  | liveInspectionStateAnswer ch pass rec => exact execLiveInspectionStateAnswer_poolOk h ch pass rec
  | liveBytes ch bytes => exact leadsTo_next.mpr (h.deliverLive ch _)
  | livePassEndOfData ch => exact leadsTo_next.mpr (h.deliverLive ch _)
  | livePassCutOff ch => exact leadsTo_next.mpr (h.deliverLive ch _)
  | analysisDoneReport slot => exact execAnalysisDoneReport_poolOk h slot
  | liveCountReport c n => exact execLiveCountReport_poolOk h c n
  | takeNewest k c tok => exact execTakeNewest_poolOk h k c tok
  | slotDrop k slot => exact leadsTo_next.mpr (h.dropHolder _ _)
  | dropAll k => exact leadsTo_next.mpr (h.dropHolder _ _)
  | playbackStart k clip dataLen frames copy => exact leadsTo_next.mpr h
  | fetch k run n => exact execFetch_poolOk h k run n
  | playbackReadAnswer k rtok ans => exact execPlaybackReadAnswer_poolOk h k rtok ans
  | playbackCancel k => exact execPlaybackCancel_poolOk h k
  | reinspectContextStart run clip dataLen frames src => exact execReinspectContextStart_poolOk h run clip dataLen frames src
  | reinspectBytes run bytes => exact execReinspectBytes_poolOk h run bytes
  | reinspectPlaneResume free => exact execReinspectPlaneResume_poolOk h free
  | reinspectContextCancel run => exact (execReinspectContextCancel_slots run).poolOk h
  | reinspectReadLost run => exact (execReinspectReadLost_slots run).poolOk h
  | frameHeader ch pass hdr => exact (execFrameHeader_slots ch pass hdr).poolOk h
  | continuityEnd ch pass how => exact (execContinuityEnd_slots ch pass how).poolOk h
  | analysisComplete tok => exact (execAnalysisComplete_slots tok).poolOk h
  | analysisLookupAnswer tok rec => exact (execAnalysisLookupAnswer_slots tok rec).poolOk h
  | passResult clip skipped superseded => exact (execPassResult_slots clip skipped superseded).poolOk h
  | reinspect q clip => exact (execReinspect_slots q clip).poolOk h
  | reinspectAttachmentAnswer ix yes => exact (execReinspectAttachmentAnswer_slots ix yes).poolOk h
  | reinspectLookupAnswer rec => exact (execReinspectLookupAnswer_slots rec).poolOk h
  | reinspectReadAnswer run ans => exact (execReinspectReadAnswer_slots run ans).poolOk h
  | reinspectReadConsumed run => exact (execReinspectReadConsumed_slots run).poolOk h
  | reinspectContextReport run rep => exact (execReinspectContextReport_slots run rep).poolOk h
  | reinspectLostVolume p vol => exact (execReinspectLostVolume_slots p vol).poolOk h
  | querySites q first => exact (execQuerySites_slots q first).poolOk h
  | clearSites | setThresholds | purgeReaderQuery | queryPool | queryInspector => exact leadsTo_next.mpr h
  | _ => cases hi

theorem pp_of_rest {s t : State} {q : Part} (hq : q ≠ .frames) (h : t.rest q = s.rest q) : t.pp = s.pp := by
  have hpp := congrArg State.pp h
  cases q with
  | frames => exact absurd rfl hq
  | _ => exact hpp

theorem poolRule : PartRule .frames poolOk where
  rest := fun hq h hs => (poolOk_congr (by rw [pp_of_rest hq h])).mpr hs
  outside := fun _ _ _ hs => hs
  blank := fun _ _ _ => (poolOk_congr (s := State.reset) rfl).mpr reset_poolOk

theorem pool_kept {s t : State} (hs : poolOk s) (e : step s = .next t) : poolOk t :=
  poolRule.step_keeps (by decide) (by decide) (by decide) (fun _ s hi h => exec_poolOk s hi h) hs e

end Sys2Proof.Machine
end


section
/-! SUPPORT. The Fault List is right after every step (R157, R162 to R164, R170). -/

namespace Sys2Proof.Machine

/-! ## Findings with ids of their own, and the blocking counts -/

/-- The findings of a list have ids of their own, and there is room for them. -/
def ownIds (l : List Finding) : Prop := l.length ≤ 512 ∧ (l.map (·.id)).Nodup ∧ ∀ f ∈ l, f.id < 65536

/-- A finding that blocks the card of a clip (R170). -/
def Finding.blocks (f : Finding) (clip : Nat) : Bool := f.clip = clip && f.cls = .blocking && f.state ≠ .cleared

/-- The count last sent is right for every clip but one. -/
def countedBut (clip : Nat) (l : FaultList) : Prop := ∀ c, c ≠ clip → l.lastSent c = l.blocking c

theorem faultListOk_iff {s : State} : faultListOk s ↔ ownIds s.fl.list ∧ ∀ clip, s.fl.lastSent clip = s.fl.blocking clip := by
  simp only [faultListOk, ownIds]
  tauto

theorem FaultList.blocking_eq (l : FaultList) (clip : Nat) : l.blocking clip = l.list.countP fun f => f.blocks clip :=
  List.countP_eq_length_filter.symm

/-- The rule of the Fault List speaks of the findings and of the counts sent. -/
theorem faultListOk_congr {s t : State} (hl : t.fl.list = s.fl.list) (hs : t.fl.sent = s.fl.sent) :
    faultListOk t ↔ faultListOk s := by
  simp only [faultListOk, FaultList.lastSent, FaultList.blocking, hl, hs]

theorem Finding.not_blocks_of_clip {f : Finding} {c : Nat} (h : f.clip ≠ c) : f.blocks c = false := by
  simp [Finding.blocks, h]

section
variable {l : List Finding}

theorem ownIds.eq_of_id (h : ownIds l) {f g : Finding} (hf : f ∈ l) (hg : g ∈ l) (hid : f.id = g.id) : f = g :=
  List.inj_on_of_nodup_map h.2.1 hf hg hid

theorem ownIds.filter (h : ownIds l) (p : Finding → Bool) : ownIds (l.filter p) :=
  ⟨(List.length_filter_le p l).trans h.1, h.2.1.sublist (List.filter_sublist.map _), fun f hf => h.2.2 f (List.mem_of_mem_filter hf)⟩

theorem ownIds.map (h : ownIds l) {g : Finding → Finding} (hg : ∀ f, (g f).id = f.id) : ownIds (l.map g) := by
  obtain ⟨hlen, hnodup, hlt⟩ := h
  refine ⟨by simpa using hlen, by simpa [Function.comp_def, hg] using hnodup, fun f hf => ?_⟩
  obtain ⟨x, hx, rfl⟩ := List.mem_map.mp hf
  exact hg x ▸ hlt x hx

theorem ownIds.concat (h : ownIds l) (hroom : l.length < 512) {g : Finding} (hlt : g.id < 65536)
    (hfree : ∀ f ∈ l, f.id ≠ g.id) : ownIds (l ++ [g]) := by
  refine ⟨by simpa using hroom, ?_, fun f hf => ?_⟩
  · rw [List.map_append, List.nodup_append]
    refine ⟨h.2.1, by simp, fun a ha b hb => ?_⟩
    obtain ⟨f, hf, rfl⟩ := List.mem_map.mp ha
    obtain rfl := List.mem_singleton.mp hb
    exact hfree f hf
  · obtain hf | hf := List.mem_append.mp hf
    · exact h.2.2 f hf
    · obtain rfl := List.mem_singleton.mp hf
      exact hlt

theorem countP_blocks_filter {c : Nat} {p : Finding → Bool} (h : ∀ f ∈ l, f.blocks c = true → p f = true) :
    (l.filter p).countP (fun f => f.blocks c) = l.countP fun f => f.blocks c := by
  rw [List.countP_filter]
  refine List.countP_congr fun f hf => ?_
  simpa using h f hf

theorem countP_blocks_map {c : Nat} {g : Finding → Finding} (h : ∀ f ∈ l, (g f).blocks c = f.blocks c) :
    (l.map g).countP (fun f => f.blocks c) = l.countP fun f => f.blocks c := by
  rw [List.countP_map]
  exact List.countP_congr fun f hf => by simp [h f hf]

end

/-! ## A new finding's id (R162) -/

/-- Of one more id than there are findings, one is free. -/
theorem FaultList.freshId_free {l : FaultList} (h : ownIds l.list) : l.freshId < 65536 ∧ ∀ f ∈ l.list, f.id ≠ l.freshId := by
  unfold FaultList.freshId
  dsimp only
  cases hfind : ((List.range (l.list.length + 1)).map fun i => (l.counter + i) % 65536).find? fun n =>
      !(l.list.any fun f => f.id = n) with
  | some n =>
    obtain ⟨i, -, rfl⟩ := List.mem_map.mp (List.mem_of_find?_eq_some hfind)
    refine ⟨Nat.mod_lt _ (by decide), ?_⟩
    simpa using List.find?_some hfind
  | none =>
    have hsub : ((List.range (l.list.length + 1)).map fun i => (l.counter + i) % 65536) ⊆ l.list.map (·.id) := by
      intro n hn
      simpa using List.find?_eq_none.mp hfind n hn
    have hnodup : ((List.range (l.list.length + 1)).map fun i => (l.counter + i) % 65536).Nodup := by
      refine List.Nodup.map_on (fun i hi j hj hij => ?_) List.nodup_range
      have hlen := h.1
      rw [List.mem_range] at hi hj
      omega
    have hle := (List.subperm_of_subset hnodup hsub).length_le
    simp at hle

/-! ## Settling a clip's count (R170) -/

section
variable {s : State} {clip : Nat}

theorem find?_other {l : List (Nat × Nat)} {c : Nat} (hc : c ≠ clip) :
    (l.filter fun x => x.1 ≠ clip).find? (fun x => x.1 = c) = l.find? fun x => x.1 = c := by
  rw [List.find?_filter]
  congr 1
  funext x
  by_cases hx : x.1 = c <;> simp [hx, hc]

theorem find?_gone (l : List (Nat × Nat)) : (l.filter fun x => x.1 ≠ clip).find? (fun x => x.1 = clip) = none := by
  simp [List.find?_eq_none]

theorem State.settleBlocking_list (s : State) (clip : Nat) : (s.settleBlocking clip).fl.list = s.fl.list := by
  unfold State.settleBlocking
  dsimp only
  split <;> rfl

theorem State.settleBlocking_lastSent (s : State) (clip c : Nat) :
    (s.settleBlocking clip).fl.lastSent c = if c = clip then s.fl.blocking clip else s.fl.lastSent c := by
  unfold State.settleBlocking
  dsimp only
  split
  next h =>
    split
    next hc => rw [h, hc]
    · rfl
  · simp only [State.send, FaultList.lastSent]
    by_cases hc : c = clip
    · subst hc
      split
      next h0 => rw [find?_gone, if_pos rfl, h0]; rfl
      · rw [List.find?_append, find?_gone]; simp
    · rw [if_neg hc]
      split
      · rw [find?_other hc]
      · rw [List.find?_append, find?_other hc, List.find?_cons_of_neg (by simpa using Ne.symm hc), List.find?_nil, Option.or_none]

theorem settleBlocking_ok (hids : ownIds s.fl.list) (hrest : countedBut clip s.fl) : faultListOk (s.settleBlocking clip) := by
  rw [faultListOk_iff, State.settleBlocking_list]
  refine ⟨hids, fun c => ?_⟩
  rw [State.settleBlocking_lastSent, FaultList.blocking_eq (s.settleBlocking clip).fl, State.settleBlocking_list,
    ← FaultList.blocking_eq]
  split
  next hc => rw [hc]
  next hc => exact hrest c hc

/-! ## Changes of the finding list -/

/-- The findings of a right list are changed; the blocking counts of every clip but one stay what they were. -/
theorem faultListOk.countedBut (h : faultListOk s) {l : List Finding}
    (hl : ∀ c, c ≠ clip → l.countP (fun f => f.blocks c) = s.fl.list.countP fun f => f.blocks c) :
    countedBut clip (s.setFindings l).fl := fun c hc =>
  ((faultListOk_iff.mp h).2 c).trans (by rw [FaultList.blocking_eq, FaultList.blocking_eq]; exact (hl c hc).symm)

/-- The findings of a right list are changed, and every clip's blocking count stays what it was. -/
theorem faultListOk.setFindings (h : faultListOk s) {l : List Finding} (hids : ownIds l)
    (hl : ∀ c, l.countP (fun f => f.blocks c) = s.fl.list.countP fun f => f.blocks c) : faultListOk (s.setFindings l) :=
  faultListOk_iff.mpr ⟨hids, fun c =>
    ((faultListOk_iff.mp h).2 c).trans (by rw [FaultList.blocking_eq, FaultList.blocking_eq]; exact (hl c).symm)⟩

/-- A finding is replaced by one with its id that blocks as it does. -/
theorem faultListOk.replace (h : faultListOk s) {f g : Finding} (hf : f ∈ s.fl.list) (hid : g.id = f.id)
    (hblocks : ∀ c, g.blocks c = f.blocks c) :
    faultListOk (s.setFindings (s.fl.list.map fun x => if x.id = f.id then g else x)) := by
  have hids := (faultListOk_iff.mp h).1
  refine h.setFindings (hids.map fun x => ?_) fun c => countP_blocks_map fun x hx => ?_
  · split
    next hx => rw [hid, hx]
    · rfl
  · split
    next hxf => rw [hblocks, hids.eq_of_id hx hf hxf]
    · rfl

theorem newFinding_ok (h : faultListOk s) (hroom : s.fl.list.length < 512) (o : Occurrence) (c : Clip) (cls : FindingClass) :
    faultListOk (s.newFinding o c cls) := by
  obtain ⟨hids, hcount⟩ := faultListOk_iff.mp h
  obtain ⟨hlt, hfree⟩ := FaultList.freshId_free hids
  refine settleBlocking_ok (s := State.raise _ _ _) (hids.concat hroom hlt hfree) fun d hd => (hcount d).trans ?_
  rw [FaultList.blocking_eq, FaultList.blocking_eq]
  refine (Eq.trans (List.countP_append ..) ?_).symm
  rw [List.countP_singleton, Finding.not_blocks_of_clip (Ne.symm hd)]
  rfl

/-- The finding that makes room blocks no card (R163). -/
theorem evictee_spec {l : List Finding} {cls : FindingClass} {e : Finding} (h : evictee l cls = some e) :
    e ∈ l ∧ ∀ c, e.blocks c = false := by
  simp only [evictee, Option.or_eq_some_iff] at h
  have found {p : Finding → Bool} (hp : l.find? p = some e) (hb : ∀ f, p f = true → f.cls ≠ .blocking ∨ f.state = .cleared) :
      e ∈ l ∧ ∀ c, e.blocks c = false :=
    ⟨List.mem_of_find?_eq_some hp, fun c => by obtain hx | hx := hb e (List.find?_some hp) <;> simp [Finding.blocks, hx]⟩
  obtain h | ⟨-, h | ⟨-, h | ⟨-, h⟩⟩⟩ := h
  · exact found h fun f hf => .inr (by simpa using hf)
  · exact found h fun f hf => .inl (by simp_all)
  · exact found h fun f hf => .inl (by simp_all)
  · split at h
    · exact found h fun f hf => .inl (by simpa using hf)
    · cases h

theorem store_ok (h : faultListOk s) (o : Occurrence) (c : Clip) : faultListOk (s.store o c) := by
  unfold State.store
  dsimp only
  split
  next hroom => exact newFinding_ok h hroom o c _
  · split
    · exact h
    next e he =>
      obtain ⟨hmem, hblocks⟩ := evictee_spec he
      have hids := (faultListOk_iff.mp h).1
      have hevicted : faultListOk (s.setFindings (s.fl.list.filter fun f => f.id ≠ e.id)) := by
        refine h.setFindings (hids.filter _) fun d => countP_blocks_filter fun f hf hb => decide_eq_true fun hid => ?_
        rw [hids.eq_of_id hf hmem hid, hblocks] at hb
        cases hb
      have hroom : (s.fl.list.filter fun f => f.id ≠ e.id).length < 512 :=
        (List.length_filter_lt_length_iff_exists.mpr ⟨e, hmem, by simp⟩).trans_le hids.1
      exact newFinding_ok (s := State.raise (s.setFindings _) _ _) hevicted hroom o c _

theorem merges_clip {o : Occurrence} {f : Finding} (h : merges o f = true) : f.clip = o.clip := by
  simp only [merges, Bool.and_eq_true, decide_eq_true_eq] at h
  tauto

/-- A join keeps the survivor's id and clip (R161). -/
theorem joined_id_clip (f : Finding) (others : List Finding) : (joined f others).id = f.id ∧ (joined f others).clip = f.clip := by
  have hfold : ∀ (l : List Finding) (g : Finding), (l.foldl (fun g x => { g with
      span := unionSpan g.span x.span, count := min 65535 (g.count + x.count), cls := higherClass g.cls x.cls }) g).id = g.id ∧
      (l.foldl (fun g x => { g with
      span := unionSpan g.span x.span, count := min 65535 (g.count + x.count), cls := higherClass g.cls x.cls }) g).clip = g.clip := by
    intro l
    induction l with
    | nil => exact fun _ => ⟨rfl, rfl⟩
    | cons x xs ih => exact fun g => ih _
  unfold joined
  dsimp only
  split <;> exact hfold others f

theorem placeOcc_ok (h : faultListOk s) (o : Occurrence) (c : Clip) : faultListOk (s.placeOcc o c) := by
  have hids := (faultListOk_iff.mp h).1
  have merging (f : Finding) (hf : f ∈ s.fl.list.filter (merges o)) : f ∈ s.fl.list ∧ f.clip = o.clip :=
    ⟨List.mem_of_mem_filter hf, merges_clip (List.mem_filter.mp hf).2⟩
  unfold State.placeOcc
  split
  · exact store_ok h o c
  next f hf => exact h.replace (merging f (by simp [hf])).1 rfl fun _ => rfl
  next f others _ hf =>
    obtain ⟨hmem, hclip⟩ := merging f (by simp [hf])
    obtain ⟨gid, gclip⟩ := joined_id_clip f others
    refine settleBlocking_ok (s := State.raise _ _ _) ((hids.filter _).map fun x => ?_) (h.countedBut fun d hd => ?_)
    · split
      next hx => exact gid.trans hx.symm
      · rfl
    · refine (countP_blocks_map fun x hx => ?_).trans (countP_blocks_filter fun x hx hb => decide_eq_true fun hgone => ?_)
      · split
        next hxf =>
          obtain rfl := hids.eq_of_id (List.mem_of_mem_filter hx) hmem hxf
          rw [Finding.not_blocks_of_clip (hclip.trans_ne hd.symm),
            Finding.not_blocks_of_clip (f := (joined x others).merged o) ((gclip.trans hclip).trans_ne hd.symm)]
        · rfl
      · obtain ⟨y, hy, hid⟩ := List.mem_map.mp hgone
        obtain ⟨hymem, hyclip⟩ := merging y (by simp [hf, hy])
        obtain rfl := hids.eq_of_id hymem hx hid
        rw [Finding.not_blocks_of_clip (hyclip.trans_ne hd.symm)] at hb
        cases hb

/-- Sending notices changes no finding. -/
theorem foldl_raise_fl {α : Type} (src : Node) (n : α → Notice) (l : List α) (s : State) :
    (l.foldl (fun t a => t.raise src (n a)) s).fl = s.fl := foldl_keeps State.fl (fun t a => t.raise src (n a)) (fun _ _ => rfl) l s

theorem clearVerified_ok (h : faultListOk s) (clip : Nat) (vol : Serial) : faultListOk (s.clearVerified clip vol) := by
  have hids := (faultListOk_iff.mp h).1
  refine settleBlocking_ok ?_ ?_ <;> rw [foldl_raise_fl]
  · refine hids.map fun f => ?_
    split <;> rfl
  · refine h.countedBut fun c hc => countP_blocks_map fun f hf => ?_
    split
    next hhit =>
      have hclip : f.clip = clip := by
        simp only [clearsOn, Bool.and_eq_true, decide_eq_true_eq] at hhit
        tauto
      rw [Finding.not_blocks_of_clip (hclip.trans_ne hc.symm),
        Finding.not_blocks_of_clip (f := f.clearedBy .part) (hclip.trans_ne hc.symm)]
    · rfl

/-! ## Every command, and every step -/

theorem askHead_ok (h : faultListOk s) : faultListOk s.askHead := by
  unfold State.askHead
  dsimp only
  split <;> exact h

theorem enqueueItem_ok (h : faultListOk s) (i : FaultItem) : faultListOk (s.enqueueItem i) := by
  have hq : faultListOk { s with fl := { s.fl with queue := s.fl.queue ++ [i] } } := h
  unfold State.enqueueItem
  dsimp only
  split
  · exact askHead_ok hq
  · exact hq

theorem execOccurrenceLookupAnswer_faultListOk (h : faultListOk s) (tok : Nat) (rec : Option Clip) :
    leadsTo faultListOk (execOccurrenceLookupAnswer tok rec s) := by
  have hdone : faultListOk (s.lookupDone tok) := h
  unfold execOccurrenceLookupAnswer
  split
  next o rest _ _ =>
    refine leadsTo_next.mpr (askHead_ok ?_)
    have hplaced (c : Clip) := placeOcc_ok hdone o c
    dsimp only
    split
    · split
      · exact hdone
      · exact hplaced _
    · exact hdone
  · exact leadsTo_next.mpr h

theorem execVerifiedReportLookupAnswer_faultListOk (h : faultListOk s) (tok : Nat) (rec : Option Clip) :
    leadsTo faultListOk (execVerifiedReportLookupAnswer tok rec s) := by
  have hdone : faultListOk (s.lookupDone tok) := h
  unfold execVerifiedReportLookupAnswer
  split
  next clip vol rest _ _ =>
    refine leadsTo_next.mpr (askHead_ok ?_)
    have hcleared := clearVerified_ok hdone clip vol
    dsimp only
    split
    · exact hcleared
    · exact hdone
  · exact leadsTo_next.mpr h

theorem execSetKindClass_faultListOk (h : faultListOk s) (q : Req) (kind cls : Nat) :
    leadsTo faultListOk (execSetKindClass q kind cls s) := by
  unfold execSetKindClass
  split <;> exact leadsTo_next.mpr h

theorem execClearOverflowHold_faultListOk (h : faultListOk s) (q : Req) (clip : Nat) :
    leadsTo faultListOk (execClearOverflowHold q clip s) := by
  unfold execClearOverflowHold
  split <;> exact leadsTo_next.mpr h

theorem execClearHoldLookupAnswer_faultListOk (h : faultListOk s) (q : Req) (tok clip : Nat) (rec : Option Clip) :
    leadsTo faultListOk (execClearHoldLookupAnswer q tok clip rec s) := by
  unfold execClearHoldLookupAnswer
  dsimp only
  split
  · exact leadsTo_next.mpr h
  · split
    · exact leadsTo_next.mpr h
    · split <;> exact leadsTo_next.mpr h

theorem FaultList.mem_of_find? {l : FaultList} {id : Nat} {f : Finding} (h : l.find? id = some f) : f ∈ l.list :=
  List.mem_of_find?_eq_some h

theorem execAckFinding_faultListOk (h : faultListOk s) (q : Req) (finding : Nat) :
    leadsTo faultListOk (execAckFinding q finding s) := by
  unfold execAckFinding
  split
  · exact leadsTo_next.mpr h
  next f hf =>
    split
    · exact leadsTo_next.mpr h
    · exact leadsTo_next.mpr h
    next hopen =>
      refine leadsTo_next.mpr (faultListOk.replace (f := f) (g := { f with state := .acknowledged, ackBy := some q.st }) h
        (FaultList.mem_of_find? hf) rfl fun c => ?_)
      simp [Finding.blocks, hopen]

theorem execClearFinding_faultListOk (h : faultListOk s) (q : Req) (finding : Nat) (sup : Bool) :
    leadsTo faultListOk (execClearFinding q finding sup s) := by
  unfold execClearFinding
  split
  · exact leadsTo_next.mpr h
  next f hf =>
    split
    · exact leadsTo_next.mpr h
    split
    · exact leadsTo_next.mpr h
    · have hids := (faultListOk_iff.mp h).1
      refine leadsTo_next.mpr (settleBlocking_ok (s := State.raise _ _ _) (hids.map fun x => ?_) (h.countedBut fun c hc =>
        countP_blocks_map fun x hx => ?_))
      · split
        next hx => exact hx.symm
        · rfl
      · split
        next hid =>
          obtain rfl := hids.eq_of_id hx (FaultList.mem_of_find? hf) hid
          rw [Finding.not_blocks_of_clip hc.symm, Finding.not_blocks_of_clip (f := x.clearedBy _) hc.symm]
        · rfl

theorem execReinspectionRemoval_faultListOk (h : faultListOk s) (clip : Nat) :
    leadsTo faultListOk (execReinspectionRemoval clip s) := by
  have hids := (faultListOk_iff.mp h).1
  refine leadsTo_next.mpr (settleBlocking_ok ?_ ?_) <;> rw [foldl_raise_fl]
  · exact hids.filter _
  · refine h.countedBut fun c hc => countP_blocks_filter fun f hf hb => ?_
    have hclip : f.clip ≠ clip := fun he => by
      rw [Finding.not_blocks_of_clip (he.trans_ne hc.symm)] at hb
      cases hb
    simp [removable, hclip]

theorem execPurgeList_faultListOk (h : faultListOk s) (serial : Serial) (clips : List Nat) :
    leadsTo faultListOk (execPurgeList serial clips s) := by
  obtain ⟨hids, hcount⟩ := faultListOk_iff.mp h
  refine leadsTo_next.mpr (faultListOk_iff.mpr ⟨hids.filter _, fun c => ?_⟩)
  simp only [State.raise_eq, State.send, FaultList.lastSent, FaultList.blocking_eq]
  by_cases hc : c ∈ clips
  · have hnone : (s.fl.sent.filter fun x => x.1 ∉ clips).find? (fun x => x.1 = c) = none := by
      refine List.find?_eq_none.mpr fun x hx => ?_
      have hx : x.1 ∉ clips := by simpa using (List.mem_filter.mp hx).2
      simpa using fun he : x.1 = c => hx (he ▸ hc)
    have hzero : (s.fl.list.filter fun f => f.clip ∉ clips).countP (fun f => f.blocks c) = 0 := by
      refine List.countP_eq_zero.mpr fun f hf => ?_
      have hf : f.clip ∉ clips := by simpa using (List.mem_filter.mp hf).2
      simp [Finding.not_blocks_of_clip fun he => hf (he ▸ hc)]
    rw [hnone, hzero]
    rfl
  · have hsent : (s.fl.sent.filter fun x => x.1 ∉ clips).find? (fun x => x.1 = c) = s.fl.sent.find? fun x => x.1 = c := by
      rw [List.find?_filter]
      congr 1
      funext x
      by_cases hx : x.1 = c <;> simp [hx, hc]
    rw [hsent, countP_blocks_filter fun f hf hb => ?_, ← FaultList.blocking_eq]
    · exact hcount c
    · have hfc : f.clip = c := by
        by_contra hne
        rw [Finding.not_blocks_of_clip hne] at hb
        cases hb
      simpa [hfc] using hc

theorem execQueryFinding_faultListOk (h : faultListOk s) (q : Req) (finding : Nat) :
    leadsTo faultListOk (execQueryFinding q finding s) := by
  unfold execQueryFinding
  split <;> exact leadsTo_next.mpr h

theorem execListFindings_faultListOk (h : faultListOk s) (q : Req) (clip : Option Nat) (states : List Nat) (minClass first : Nat) :
    leadsTo faultListOk (execListFindings q clip states minClass first s) := by
  unfold execListFindings
  split <;> exact leadsTo_next.mpr h

end

theorem exec_faultListOk {i : Instr} (s : State) (hi : partOf i = .fl) (h : faultListOk s) : leadsTo faultListOk (exec i s) := by
  cases i with
  | occurrence o => exact leadsTo_next.mpr (enqueueItem_ok h _)
  | verifiedCopyReport clip vol => exact leadsTo_next.mpr (enqueueItem_ok h _)
  | occurrenceLookupAnswer tok rec => exact execOccurrenceLookupAnswer_faultListOk h tok rec
  | verifiedReportLookupAnswer tok rec => exact execVerifiedReportLookupAnswer_faultListOk h tok rec
  | setKindClass q kind cls => exact execSetKindClass_faultListOk h q kind cls
  | clearOverflowHold q clip => exact execClearOverflowHold_faultListOk h q clip
  | clearHoldLookupAnswer q tok clip rec => exact execClearHoldLookupAnswer_faultListOk h q tok clip rec
  | ackFinding q finding => exact execAckFinding_faultListOk h q finding
  | clearFinding q finding sup => exact execClearFinding_faultListOk h q finding sup
  | reinspectionRemoval clip => exact execReinspectionRemoval_faultListOk h clip
  | purgeList serial clips => exact execPurgeList_faultListOk h serial clips
  | queryFinding q finding => exact execQueryFinding_faultListOk h q finding
  | listFindings q clip states minClass first => exact execListFindings_faultListOk h q clip states minClass first
  | queryClasses q => exact leadsTo_next.mpr h
  | _ => cases hi

theorem fl_of_rest {s t : State} {q : Part} (hq : q ≠ .fl) (h : t.rest q = s.rest q) : t.fl = s.fl := by
  have hfl := congrArg State.fl h
  cases q with
  | fl => exact absurd rfl hq
  | _ => exact hfl

theorem faultListRule : PartRule .fl faultListOk where
  rest := fun hq h hs => (faultListOk_congr (by rw [fl_of_rest hq h]) (by rw [fl_of_rest hq h])).mpr hs
  outside := fun _ _ _ hs => hs
  blank := fun _ _ _ => (faultListOk_congr (s := State.reset) rfl rfl).mpr reset_faultListOk

theorem faultList_kept {s t : State} (hs : faultListOk s) (e : step s = .next t) : faultListOk t :=
  faultListRule.step_keeps (by decide) (by decide) (by decide) (fun _ s hi h => exec_faultListOk s hi h) hs e

/-- Settles O12: the four rules are invariants of `step`. -/
theorem channelsStagingPoolAndFaultListAreKept : Obligations.ChannelsStagingPoolAndFaultListAreKept :=
  ⟨fun _ _ => channels_kept, fun _ _ => staging_kept, fun _ _ => pool_kept, fun _ _ => faultList_kept⟩

end Sys2Proof.Machine
end


section
/-! SUPPORT. What each command of the Staging Store and each grant does (R71, R72). -/

namespace Sys2Proof.Machine

section
variable {ch : Chan} {tag clip ext len num : Nat} {pass : PassKind} {s : State}

theorem bufferRequest_granted {n : Nat} (hn : s.sts.lowestFree = some n) (hshare : s.sts.held ch < 96) :
    ∃ t, exec (.bufferRequest ch tag clip ext pass len) s = .next t ∧ t.cc = s.cc ∧ t.token = s.token ∧ onlyCc s t ∧
      t.sts = { s.sts with bufs := insertBuffer { num := n, owner := ch, clip := clip, ext := ext, pass := pass, len := len }
                                     s.sts.bufs, last := ch } ∧
      t.wire = s.wire ++ [⟨.sts, .cc ch, .bufferGrant ch tag n⟩] := by
  refine ⟨s.grant ⟨ch, tag, clip, ext, pass, len⟩ n, ?_, rfl, rfl, rfl, rfl, rfl⟩
  change execBufferRequest ch tag clip ext pass len s = _
  unfold execBufferRequest
  rw [hn]
  exact congrArg Host.Outcome.next (if_pos (Staging.eligible_iff.mpr hshare))

theorem bufferRequest_waits (h : s.sts.lowestFree = none ∨ 96 ≤ s.sts.held ch) :
    exec (.bufferRequest ch tag clip ext pass len) s =
      .next { s with sts := { s.sts with waits := s.sts.waits ++ [⟨ch, tag, clip, ext, pass, len⟩] } } := by
  change execBufferRequest ch tag clip ext pass len s = _
  unfold execBufferRequest
  split
  next n hn =>
    obtain h | h := h
    · simp [h] at hn
    · exact congrArg Host.Outcome.next (if_neg fun he => Nat.not_le.mpr (Staging.eligible_iff.mp he) h)
  · rfl

/-- The grant a channel still wants is kept, and told to the Card Interface (R73). -/
theorem bufferGrant_wanted {f : Filling} (hf : (s.chan ch).fill = some f) (htag : f.tag = tag) (hnum : f.num = none) :
    ∃ t, exec (.bufferGrant ch tag num) s = .next t ∧
      ChanBecomes ch { s.chan ch with fill := some { f with num := some num }, bufferWait := false } s.sts s.token
        [⟨.cc ch, .ci, .burstGrantReport ch (s.chan ch).serial⟩] s t := by
  refine ⟨_, ?_, ((chanBecomes_refl s ch).setChan _).send _ _ _ rfl⟩
  change execBufferGrant ch tag num s = _
  simp only [execBufferGrant, hf, htag, hnum, and_self, if_true]

theorem bufferGrant_unwanted (h : ∀ f, (s.chan ch).fill = some f → f.tag ≠ tag ∨ f.num ≠ none) :
    exec (.bufferGrant ch tag num) s = .next ((s.freeBuffer num).settle ch) := by
  change execBufferGrant ch tag num s = _
  unfold execBufferGrant
  dsimp only
  split
  next f hf => exact if_neg fun ⟨htag, hnum⟩ => (h f hf).elim (absurd htag) (absurd hnum)
  · rfl

end

/-- Settles O18: each clause from the rule of the store's operation it speaks of. -/
theorem stagingStore : Obligations.StagingStore := by
  refine ⟨fun _ _ _ _ _ _ _ _ => bufferRequest_granted, fun _ _ _ _ _ _ _ => bufferRequest_waits, fun _ _ => rfl, ?_, ?_, ?_, ?_,
    fun _ _ _ _ _ hb ho hp hmore => State.drained_one_of_more hb ho hp hmore, fun _ _ _ _ _ hb ho hp hlast => State.drained_last hb ho hp hlast,
    fun _ _ _ _ => State.drained_of_other, fun _ _ => Staging.lowestFree_eq_some, fun _ => Staging.winner_eq_none, ?_⟩
  · rintro ch tag num s c f rfl hf htag hnum
    obtain ⟨t, ht, hb⟩ := bufferGrant_wanted (num := num) hf htag hnum
    exact ⟨t, ht, hb.chanBecomes, hb.token, hb.sends⟩
  · rintro ch tag num s c rfl h
    exact bufferGrant_unwanted h
  · rintro s n x hn rfl hw
    obtain ⟨b, hb⟩ := Option.isSome_iff_exists.mp hn
    exact State.freeBuffer_unclaimed hb hw
  · rintro s n x w hn rfl hw
    obtain ⟨b, hb⟩ := Option.isSome_iff_exists.mp hn
    exact State.freeBuffer_granted hb hw
  · intro x w hw
    obtain ⟨hmem, hlt⟩ := Staging.mem_of_winner hw
    exact ⟨hmem, hlt, fun v hv hshare => Staging.winner_first hw hv hshare⟩

end Sys2Proof.Machine
end


section
/-! SUPPORT. What the operations that drop an element or ask several ports make of a channel. -/

namespace Sys2Proof.Machine

section
variable {ch : Chan} {c d : Channel} {x : Staging} {n m : Nat} {w : List Wire} {s t : State} {p : Port} {e : Elem}

/-! ## The statements' form for one element -/

theorem ElemTurns.outstanding_self {r : Option RepairPass} (h : ElemTurns p e m r c d) : d.outstanding[p] = m := by
  rw [h.outstanding]
  exact upd_same ..

theorem ElemTurns.of_elem {r : Option RepairPass} {e' : Elem} (h : ElemTurns p e m r c d) (he : e = e') :
    ElemTurns p e' m r c d := he ▸ h

namespace ChanBecomes

/-- The element has changed and not been dropped. -/
theorem elemChanges (h : ChanBecomes ch d x s.token w s t) (he : ElemTurns p e m (s.chan ch).repair (s.chan ch) d)
    (hp : e.phase ≠ .dropped) : Machine.elemBecomes ch p e m s t :=
  h.elemBecomes he (by rw [if_neg hp])

/-- The element has left the order. -/
theorem elemLeaves (h : ChanBecomes ch d x s.token w s t)
    (he : ElemTurns p e m ((s.chan ch).repair.map fun r => r.without p) (s.chan ch) d) (hp : e.phase = .dropped) :
    Machine.elemBecomes ch p e m s t :=
  h.elemBecomes he (by rw [if_pos hp])

theorem ods (h : ChanBecomes ch c x n w s t) : t.ods = s.ods := by
  have hods := congrArg State.ods h.moves.rest
  exact hods

/-- The notice of a destination dropped at the start of an order (R67, R68). -/
theorem dropDest (h : ChanBecomes ch c x n w s t) (p : Port) (cause : DropCause) :
    ChanBecomes ch (c.leaving p) x n (w ++ [noticeOf (.cc ch)
      { sub := .orderDestinationDropped, serial := some c.serial, bay := s.ods.bayOf c.serial, clip := c.clip
        order := c.order, letter := c.letter, port := some p, fields := u8 ch.val ++ u8 (cause.ctorIdx + 1) }]) s
      (t.dropDest ch p cause) := by
  unfold State.dropDest
  rw [h.chan, h.ods]
  exact (h.dropElem p).send _ _ _ rfl

theorem raise (h : ChanBecomes ch c x n w s t) (o : Notice) :
    ChanBecomes ch c x n (w ++ [noticeOf (.cc ch) o]) s (t.raise (.cc ch) o) := h.send _ _ _ rfl

/-- An occurrence is filed. -/
theorem file (h : ChanBecomes ch c x n w s t) (clip : Nat) (kind : FindingKind) (qual : Option Qualifier) :
    ChanBecomes ch c x n (w ++ [filedOf (.cc ch) clip kind qual]) s
      (t.file (.cc ch) { clip := clip, kind := kind, count := 1, span := none, qual := qual }) := h.send _ _ _ rfl

end ChanBecomes

/-! ## Asking several ports -/

/-- The requests outstanding once one more has been sent to each of these ports. -/
def askedOf (v : Vector Nat 4) (ps : List Port) : Vector Nat 4 := ps.foldl (fun v p => upd v p (· + 1)) v

theorem askedOf_get (v : Vector Nat 4) (ps : List Port) (q : Port) : (askedOf v ps)[q] = v[q] + ps.count q := by
  induction ps generalizing v with
  | nil => rfl
  | cons p ps ih =>
    have hstep : (upd v p (· + 1))[q] = v[q] + if p = q then 1 else 0 := by
      refine (upd_get v p q (· + 1)).trans ?_
      by_cases hpq : q = p
      · subst hpq
        simp
      · simp [hpq, Ne.symm hpq]
    rw [askedOf, List.foldl_cons]
    refine (ih _).trans ?_
    rw [hstep, List.count_cons, Nat.add_assoc, Nat.add_comm (ite _ _ _)]
    simp

/-- A request goes to the port of each of these elements. -/
theorem ChanBecomes.askPorts (h : ChanBecomes ch c x n w s t) (es : List Elem) (m : Elem → Instr)
    (hm : ∀ e, isWatchAnswer ⟨.cc ch, .dp e.port, m e⟩ = false) :
    ChanBecomes ch { c with outstanding := askedOf c.outstanding (es.map (·.port)) } x n
      (w ++ es.map fun e => ⟨.cc ch, .dp e.port, m e⟩) s (es.foldl (fun t e => t.askPort ch e.port (m e)) t) := by
  induction es generalizing c w t with
  | nil => exact (h.of_sent (by simp)).of_chan rfl
  | cons e es ih => exact (ih (h.askPort e.port (m e) (hm e))).of_sent (by simp)

end

end Sys2Proof.Machine
end


section
/-! SUPPORT. How a copy channel starts an order and begins to read it (R66 to R69, R80, R85): one lemma per case of a command. -/

namespace Sys2Proof.Machine

section
variable {ch : Chan} {order : Nat} {p : Port} {s : State} {e : Elem}

theorem State.settle_starting (h : (s.chan ch).phase = .starting) : s.settle ch = s.maybeStartRead ch := by
  simp only [State.settle, h]

theorem State.settle_reading (h : (s.chan ch).phase = .reading) : s.settle ch = s := by
  simp only [State.settle, h]

/-! ## The order and its length (R66, R67) -/

/-- The context of a channel that has taken a start message. -/
def startingWith (order clip : Nat) (serial : Serial) (dests : List Dest) : Channel :=
  { phase := .starting, order := some order, clip := some clip, serial := serial, lookup := true
    dests := dests.map fun d => { port := d.port, disp := d.disp, vol := d.vol
                                  phase := if d.disp = .write then .reserving else .skipped } }

theorem startMessage_taken {clip : Nat} {serial : Serial} {dests : List Dest} (h : (s.chan ch).phase = .idle) :
    ∃ t, exec (.startMessage ch order clip serial dests) s = .next t ∧
      ChanBecomes ch (startingWith order clip serial dests) s.sts s.token
        [⟨.cc ch, .cat, .clipLookup (.channel ch order) clip⟩] s t := by
  refine ⟨_, ?_, ((chanBecomes_refl s ch).setChan (startingWith order clip serial dests)).send _ _ _ rfl⟩
  exact if_neg (not_not.mpr h)

theorem startMessage_ignored {clip : Nat} {serial : Serial} {dests : List Dest} (h : (s.chan ch).phase ≠ .idle) :
    exec (.startMessage ch order clip serial dests) s = .next s := if_pos h

section
variable (hs : (s.chan ch).phase = .starting) (ho : (s.chan ch).order = some order)
include hs ho

theorem runs_of_starting : (s.chan ch).runs order = true := Channel.runs_iff.mpr ⟨by simp [hs], ho⟩

theorem clipLength_known (hl : (s.chan ch).lookup = true) (r : Clip) :
    ∃ u, exec (.clipLengthAnswer ch order (some r)) s = .next (u.settle ch) ∧
      ChanBecomes ch { s.chan ch with
          lookup := false, clipNo := r.clipNo, dataLen := r.desc.dataLen, extents := r.extents, letter := some r.desc.letter
          outstanding := askedOf (s.chan ch).outstanding (((s.chan ch).dests.filter fun e => e.phase = .reserving).map (·.port)) }
        s.sts s.token (((s.chan ch).dests.filter fun e => e.phase = .reserving).map fun e => ⟨.cc ch, .dp e.port,
          .reservationRequest ch e.port order (e.vol.getD 0) (spanOf r.extents + dataBlocks r.desc.dataLen)⟩) s u := by
  refine ⟨_, ?_, ((chanBecomes_refl s ch).setChan { s.chan ch with
    lookup := false, clipNo := r.clipNo, dataLen := r.desc.dataLen, extents := r.extents, letter := some r.desc.letter }).askPorts
    ((s.chan ch).dests.filter fun e => e.phase = .reserving) (fun e =>
    .reservationRequest ch e.port order (e.vol.getD 0) (spanOf r.extents + dataBlocks r.desc.dataLen)) fun _ => rfl⟩
  change execClipLengthAnswer ch order (some r) s = _
  simp only [execClipLengthAnswer, runs_of_starting hs ho, hs, hl, and_self, not_true_eq_false, if_false]

theorem clipLength_unknown (hl : (s.chan ch).lookup = true) :
    exec (.clipLengthAnswer ch order none) s = .next (s.enterEnding ch (.failed .cardGone)) := by
  change execClipLengthAnswer ch order none s = _
  simp only [execClipLengthAnswer, runs_of_starting hs ho, hs, hl, and_self, not_true_eq_false, if_false]
  rfl

end

/-! ## Reservations, copies and headers (R67, R68) -/

section
variable (hrun : (s.chan ch).runs order = true) (he : (s.chan ch).elem? p = some e)
include hrun he

theorem reservation_granted (hs : (s.chan ch).phase = .starting) (hp : e.phase = .reserving) (hb : Nat) :
    ∃ t, exec (.reservationAnswer ch order p (.reserved hb)) s = .next t ∧
      ChanBecomes ch (((s.chan ch).answered p).withElem p fun e => { e with hb := some hb, phase := .creating }) s.sts s.token
        [⟨.cc ch, .cat, .copyCreationRequest ch ((s.chan ch).clip.getD 0) order p (e.vol.getD 0) hb⟩] s t := by
  refine ⟨_, ?_, (((chanBecomes_refl s ch).portAnswered p).setElem p _).tellCat _ rfl⟩
  change execReservationAnswer ch order p (.reserved hb) s = _
  simp only [execReservationAnswer, hrun, he, hp, hs, ne_eq, not_true_eq_false, if_false, if_true]

/-- The notice of a destination that an order has dropped at its start (R67, R68). -/
def dropNotice (s : State) (ch : Chan) (order : Nat) (p : Port) (why : DropCause) : Notice :=
  { sub := .orderDestinationDropped, serial := some (s.chan ch).serial, bay := s.ods.bayOf (s.chan ch).serial
    clip := (s.chan ch).clip, order := some order, letter := (s.chan ch).letter, port := some p
    fields := u8 ch.val ++ u8 (why.ctorIdx + 1) }

theorem reservation_refused (hp : e.phase = .reserving) (why : DropCause) :
    ∃ u, exec (.reservationAnswer ch order p (.refused why)) s = .next (u.settle ch) ∧
      ChanBecomes ch (((s.chan ch).answered p).leaving p) s.sts s.token [noticeOf (.cc ch) (dropNotice s ch order p why)] s u := by
  refine ⟨_, ?_, (((chanBecomes_refl s ch).portAnswered p).dropDest p why).of_sent ?_⟩
  · change execReservationAnswer ch order p (.refused why) s = _
    simp only [execReservationAnswer, hrun, he, hp, ne_eq, not_true_eq_false, if_false]
  · obtain ⟨-, ho⟩ := Channel.runs_iff.mp hrun
    simp only [List.nil_append, dropNotice, Channel.answered, ho]

/-- The answer to a copy creation, as CREATING takes it. -/
theorem creation_of_made (hp : e.phase = .creating) : exec (.creationAnswer ch order p .made) s =
    if e.lossSeen = true then .next ((s.endCopy ch e .failed .lostDrive).settle ch)
    else if (s.chan ch).phase = .ending then
      .next ((s.endCopy ch e (endState ((s.chan ch).ended.getD .aborted)).1 (endState ((s.chan ch).ended.getD .aborted)).2).settle ch)
    else .next ((s.setElem ch p fun e => { e with phase := .header }).askPort ch p
      (.headerWrite ch p order (e.vol.getD 0) (e.hb.getD 0) (s.chan ch).serial (s.chan ch).clipNo (s.chan ch).dataLen)) := by
  change execCreationAnswer ch order p .made s = _
  simp only [execCreationAnswer, hrun, he, hp, ne_eq, not_true_eq_false, if_false]

theorem creation_made (hs : (s.chan ch).phase = .starting) (hp : e.phase = .creating) (hl : e.lossSeen = false) :
    ∃ t, exec (.creationAnswer ch order p .made) s = .next t ∧
      ChanBecomes ch (((s.chan ch).withElem p fun e => { e with phase := .header }).asking p) s.sts s.token
        [⟨.cc ch, .dp p, .headerWrite ch p order (e.vol.getD 0) (e.hb.getD 0) (s.chan ch).serial (s.chan ch).clipNo
          (s.chan ch).dataLen⟩] s t := by
  refine ⟨_, ?_, ((chanBecomes_refl s ch).setElem p _).askPort p _ rfl⟩
  rw [creation_of_made hrun he hp, if_neg (by simp [hl]), if_neg (by simp [hs])]

/-- A copy made whose drive has been lost, or whose order is ending (R86, R88). -/
theorem creation_ends (hp : e.phase = .creating) {x : CopyState × CopyCause} (hx : e.lossSeen = true ∧ x = (.failed, .lostDrive) ∨
      e.lossSeen = false ∧ (s.chan ch).phase = .ending ∧ x = endState ((s.chan ch).ended.getD .aborted)) :
    ∃ u, exec (.creationAnswer ch order p .made) s = .next (u.settle ch) ∧
      ChanBecomes ch ((s.chan ch).leaving p) s.sts s.token
        [⟨.cc ch, .cat, .copyEndReport ((s.chan ch).clip.getD 0) (e.vol.getD 0) x.1 x.2⟩] s u := by
  refine ⟨s.endCopy ch e x.1 x.2, ?_,
    ((chanBecomes_refl s ch).endCopy e x.1 x.2).of_chan (by rw [Channel.port_of_elem? he])⟩
  rw [creation_of_made hrun he hp]
  obtain ⟨hl, rfl⟩ | ⟨hl, hs, rfl⟩ := hx
  · exact if_pos hl
  · rw [if_neg (by simp [hl]), if_pos hs]

theorem creation_dropped (hp : e.phase = .creating) {ans : CreateAns} {why : DropCause}
    (h : (ans, why) ∈ [(CreateAns.full, DropCause.full), (.busy, .busy)]) :
    ∃ u, exec (.creationAnswer ch order p ans) s = .next (u.settle ch) ∧
      ChanBecomes ch ((s.chan ch).leaving p) s.sts s.token [noticeOf (.cc ch) (dropNotice s ch order p why)] s u := by
  refine ⟨_, ?_, ((chanBecomes_refl s ch).dropDest p why).of_sent ?_⟩
  · change execCreationAnswer ch order p ans s = _
    simp only [List.mem_cons, Prod.mk.injEq, List.not_mem_nil, or_false] at h
    obtain ⟨rfl, rfl⟩ | ⟨rfl, rfl⟩ := h <;>
      simp only [execCreationAnswer, hrun, he, hp, ne_eq, not_true_eq_false, if_false]
  · obtain ⟨-, ho⟩ := Channel.runs_iff.mp hrun
    simp only [List.nil_append, dropNotice, ho]

theorem creation_notBound (hp : e.phase = .creating) :
    ∃ u, exec (.creationAnswer ch order p .notBound) s =
        .next (if (s.chan ch).phase = .ending then u.settle ch else u.enterEnding ch (.failed .cardGone)) ∧
      ChanBecomes ch ((s.chan ch).leaving p) s.sts s.token [] s u := by
  refine ⟨_, ?_, (chanBecomes_refl s ch).dropElem p⟩
  change execCreationAnswer ch order p .notBound s = _
  simp only [execCreationAnswer, hrun, he, hp, ne_eq, not_true_eq_false, if_false, State.cardLoss]

theorem answering_of_runs : (s.chan ch).answering order p = some e :=
  Channel.answering_eq_some.mpr ⟨Channel.runs_iff.mp hrun, he⟩

theorem headerWrite_done (hne : (s.chan ch).phase ≠ .ending) (hp : e.phase = .header) :
    ∃ u, exec (.headerWriteAnswer ch order p .done) s = .next (u.settle ch) ∧
      ChanBecomes ch (((s.chan ch).answered p).withElem p fun e => { e with phase := .writing }) s.sts s.token
        [⟨.cc ch, .cat, .headerWrittenReport ((s.chan ch).clip.getD 0) (e.vol.getD 0)⟩] s u := by
  refine ⟨_, ?_, (((chanBecomes_refl s ch).portAnswered p).tellCat _ rfl).setElem p _⟩
  change execHeaderWriteAnswer ch order p .done s = _
  simp only [execHeaderWriteAnswer, answering_of_runs hrun he, hp, hne, ne_eq, not_true_eq_false, if_false]

theorem headerWrite_counts {ans : WriteAns} (h : e.phase = .header → ans = .withdrawn ∨ ans = .done ∧ (s.chan ch).phase = .ending) :
    exec (.headerWriteAnswer ch order p ans) s = .next ((s.portAnswered ch p).settle ch) := by
  change execHeaderWriteAnswer ch order p ans s = _
  simp only [execHeaderWriteAnswer, answering_of_runs hrun he]
  split
  · rfl
  next hp =>
    obtain rfl | ⟨rfl, hs⟩ := h (not_not.mp hp)
    · rfl
    · simp only [hs, if_true]

theorem headerWrite_lost (hp : e.phase = .header) :
    exec (.headerWriteAnswer ch order p .lost) s = .next (((s.portAnswered ch p).loseDrive ch p).settle ch) := by
  change execHeaderWriteAnswer ch order p .lost s = _
  simp only [execHeaderWriteAnswer, answering_of_runs hrun he, hp, ne_eq, not_true_eq_false, if_false]

end

/-- A port has answered, and that is all (R88). -/
theorem portAnswered_becomes (s : State) (ch : Chan) (p : Port) :
    ChanBecomes ch ((s.chan ch).answered p) s.sts s.token [] s (s.portAnswered ch p) := (chanBecomes_refl s ch).portAnswered p

/-! ## The start of the read (R69, R80, R85) -/

section
variable (hs : (s.chan ch).phase = .starting) (ho : (s.chan ch).order = some order)
include hs

section
variable (ha : (s.chan ch).asked = true) (hb : (s.chan ch).begun = false)
include ho ha hb

theorem startRead_notBound : exec (.startReadAnswer ch order none) s = .next (s.enterEnding ch (.failed .cardGone)) := by
  change execStartReadAnswer ch order none s = _
  simp only [execStartReadAnswer, runs_of_starting hs ho, hs, ha, hb, Bool.false_eq_true, not_false_eq_true, and_self,
    not_true_eq_false, if_false]
  rfl

theorem startRead_record {i : ReadInfo} (hm : i.mode = .record) :
    ∃ t, exec (.startReadAnswer ch order (some i)) s = .next t ∧
      ChanBecomes ch { s.chan ch with
          clipNo := i.clipNo, dataLen := i.desc.dataLen, extents := i.extents, mode := some .record
          sums := [], begun := true, claimAsked := true, claimTag := s.token } s.sts (s.token + 1)
        [⟨.cc ch, .fx, .livePassBegin ch ((s.chan ch).clip.getD 0) i.desc⟩, ⟨.cc ch, .ci, .claim ch (s.chan ch).serial s.token⟩] s t := by
  refine ⟨_, ?_, (((chanBecomes_refl s ch).setChan { s.chan ch with
    clipNo := i.clipNo, dataLen := i.desc.dataLen, extents := i.extents, mode := some .record
    sums := [], begun := true }).send _ _ (.livePassBegin ch ((s.chan ch).clip.getD 0) i.desc) rfl).sendClaim⟩
  change execStartReadAnswer ch order (some i) s = _
  simp only [execStartReadAnswer, runs_of_starting hs ho, hs, ha, hb, hm, Bool.false_eq_true, not_false_eq_true, and_self,
    not_true_eq_false, if_false]

theorem startRead_compare {i : ReadInfo} (hm : i.mode = .compare) :
    ∃ t, exec (.startReadAnswer ch order (some i)) s = .next t ∧
      ChanBecomes ch { s.chan ch with
          clipNo := i.clipNo, dataLen := i.desc.dataLen, extents := i.extents, mode := some .compare
          sums := [], begun := true } s.sts s.token
        [⟨.cc ch, .fx, .livePassBegin ch ((s.chan ch).clip.getD 0) i.desc⟩,
          ⟨.cc ch, .cat, .storedSumsRequest ch ((s.chan ch).clip.getD 0) order⟩] s t := by
  refine ⟨_, ?_, (((chanBecomes_refl s ch).setChan { s.chan ch with
    clipNo := i.clipNo, dataLen := i.desc.dataLen, extents := i.extents, mode := some .compare
    sums := [], begun := true }).send _ _ (.livePassBegin ch ((s.chan ch).clip.getD 0) i.desc) rfl).tellCat _ rfl⟩
  change execStartReadAnswer ch order (some i) s = _
  simp only [execStartReadAnswer, runs_of_starting hs ho, hs, ha, hb, hm, Bool.false_eq_true, not_false_eq_true, and_self,
    not_true_eq_false, if_false]

end

theorem storedSums_taken (ho : (s.chan ch).order = some order) (hm : (s.chan ch).mode = some .compare)
    (ha : (s.chan ch).claimAsked = false) (hc : (s.chan ch).claim = .none) (sums : List Sum32) :
    ∃ t, exec (.storedSumsAnswer ch order sums) s = .next t ∧
      ChanBecomes ch { s.chan ch with sums := sums, claimAsked := true, claimTag := s.token } s.sts (s.token + 1)
        [⟨.cc ch, .ci, .claim ch (s.chan ch).serial s.token⟩] s t := by
  refine ⟨_, ?_, ((chanBecomes_refl s ch).setChan { s.chan ch with sums := sums }).sendClaim⟩
  exact if_pos ⟨runs_of_starting hs ho, hs, hm, by simp [ha], hc⟩

/-- The start-read request goes to the Catalog, once (R69). -/
theorem settle_startsRead (hl : (s.chan ch).lookup = false) (ha : (s.chan ch).asked = false)
    (hd : ∀ e ∈ (s.chan ch).dests, e.phase ≠ .reserving ∧ e.phase ≠ .creating ∧ e.phase ≠ .header) :
    ChanBecomes ch { s.chan ch with asked := true } s.sts s.token
      [⟨.cc ch, .cat, .startReadRequest ch ((s.chan ch).clip.getD 0) ((s.chan ch).order.getD 0)⟩] s (s.settle ch) := by
  have hsettle : s.settle ch = (s.setChan ch { s.chan ch with asked := true }).tellCat ch
      (.startReadRequest ch ((s.chan ch).clip.getD 0) ((s.chan ch).order.getD 0)) := by
    rw [State.settle_starting hs]
    exact if_neg (by simpa [hl, ha, and_assoc] using hd)
  rw [hsettle]
  exact ((chanBecomes_refl s ch).setChan _).tellCat _ rfl

theorem settle_startWaits (h : (s.chan ch).lookup = true ∨ (s.chan ch).asked = true ∨
    ∃ e ∈ (s.chan ch).dests, e.phase = .reserving ∨ e.phase = .creating ∨ e.phase = .header) : s.settle ch = s := by
  rw [State.settle_starting hs]
  refine if_pos ?_
  simpa [or_assoc] using h

end

/-! ## The claim (R69, R80, R85) -/

section
variable {tag : Nat} (ht : (s.chan ch).claimTag = tag)

theorem claim_discarded {ans : ClaimAns}
    (h : (s.chan ch).claimTag ≠ tag ∨ ((s.chan ch).claimAsked = false ∧ (s.chan ch).claim = .none)) :
    exec (.claimAnswer ch tag ans) s = .next s := by
  change execClaimAnswer ch tag ans s = _
  unfold execClaimAnswer
  exact if_pos (by simpa using h)

section
include ht

theorem claim_standing (h : (s.chan ch).claimAsked = true ∨ (s.chan ch).claim ≠ .none) :
    ¬((s.chan ch).claimTag ≠ tag ∨ (¬(s.chan ch).claimAsked = true ∧ (s.chan ch).claim = .none)) := by
  simp only [ht, ne_eq, not_true_eq_false, false_or, not_and]
  exact fun hn => h.resolve_left hn

theorem claim_granted_starting (h : (s.chan ch).claimAsked = true ∨ (s.chan ch).claim = .waiting)
    (hc : (s.chan ch).claim ≠ .held) (hs : (s.chan ch).phase = .starting) :
    ∃ t, exec (.claimAnswer ch tag .granted) s = .next t ∧
      ChanBecomes ch ({ s.chan ch with claimAsked := false, claim := .held, phase := .reading }.filling (s.chan ch).next .read s.token)
        s.sts (s.token + 1) [⟨.cc ch, .sts, .bufferRequest ch s.token ((s.chan ch).clip.getD 0) (s.chan ch).next .read
            (extentLen (s.chan ch).dataLen (s.chan ch).next)⟩,
          ⟨.cc ch, .ci, .burstRequest ch (s.chan ch).serial (s.chan ch).clipNo (s.chan ch).next 0 false⟩] s t := by
  refine ⟨_, ?_, (((chanBecomes_refl s ch).setChan { s.chan ch with claimAsked := false, claim := .held }).setChan
    { s.chan ch with claimAsked := false, claim := .held, phase := .reading }).startExtent _ _⟩
  change execClaimAnswer ch tag .granted s = _
  unfold execClaimAnswer
  dsimp only
  rw [if_neg (claim_standing ht (h.imp_right fun hw => by simp [hw])), if_neg hc]
  simp only [hs, State.setChan_chan]

theorem claim_waiting_starting (ha : (s.chan ch).claimAsked = true) (hc : (s.chan ch).claim = .none)
    (hs : (s.chan ch).phase = .starting) :
    ∃ t, exec (.claimAnswer ch tag .waiting) s = .next t ∧
      ChanBecomes ch { s.chan ch with claimAsked := false, claim := .waiting } s.sts s.token [] s t := by
  refine ⟨_, ?_, (chanBecomes_refl s ch).setChan _⟩
  change execClaimAnswer ch tag .waiting s = _
  unfold execClaimAnswer
  dsimp only
  rw [if_neg (claim_standing ht (.inl ha)), if_neg (not_not.mpr hc)]
  simp [hs]

theorem claim_cardGone (h : (s.chan ch).claimAsked = true ∨ (s.chan ch).claim ≠ .none)
    (hs : (s.chan ch).phase = .starting ∨ (s.chan ch).phase = .reading) :
    ∃ u, exec (.claimAnswer ch tag .cardGone) s = .next (u.enterEnding ch (.failed .cardGone)) ∧
      ChanBecomes ch { s.chan ch with claimAsked := false, claim := .none } s.sts s.token [] s u := by
  refine ⟨_, ?_, (chanBecomes_refl s ch).setChan _⟩
  change execClaimAnswer ch tag .cardGone s = _
  unfold execClaimAnswer
  dsimp only
  rw [if_neg (claim_standing ht h)]
  obtain hs | hs := hs <;> simp only [hs, State.cardLoss]

end
end

/-! ## The loss of a drive (R86) -/

/-- The buffers of a channel that await a port, by number. -/
def Staging.awaiting (x : Staging) (ch : Chan) (p : Port) : List Nat :=
  (x.bufs.filter fun b => b.owner = ch && p ∈ b.pend).map (·.num)

theorem Staging.awaiting_eq_nil {x : Staging} (h : ∀ b ∈ x.bufs, b.owner = ch → p ∉ b.pend) : x.awaiting ch p = [] := by
  simp only [Staging.awaiting, List.map_eq_nil_iff, List.filter_eq_nil_iff, Bool.and_eq_true, decide_eq_true_eq, not_and]
  exact h

/-- An alive copy is dropped with its drive; the port leaves the pending sets as on any state `z` with this store. -/
theorem ChanBecomes.loseDrive {c : Channel} {n : Nat} {w : List Wire} {t : State} (z : State)
    (h : ChanBecomes ch c z.sts n w s t) (he : c.elem? p = some e) (ha : e.phase.alive = true) {f : State}
    (hf : f = (z.sts.awaiting ch p).foldl (fun t n => t.drained ch p n) z) :
    ChanBecomes ch (c.leaving p) f.sts n (w ++ f.wire.drop z.wire.length) s (t.loseDrive ch p) := by
  have hlose : t.loseDrive ch p = (z.sts.awaiting ch p).foldl (fun t n => t.drained ch p n) (t.dropElem ch p) := by
    simp only [State.loseDrive, h.chan, he, ha, if_true, h.sts]
    rfl
  rw [hlose, hf]
  exact store (.foldl (fun n => .drained ch p n) (z.sts.awaiting ch p)) z (h.dropElem p)

theorem State.loseDrive_creating {t : State} (he : (t.chan ch).elem? p = some e) (hp : e.phase = .creating) :
    t.loseDrive ch p = t.setElem ch p fun e => { e with lossSeen := true } := by
  simp only [State.loseDrive, he, hp]
  rfl

theorem State.loseDrive_other {t : State} (he : (t.chan ch).elem? p = some e) (ha : e.phase.alive = false)
    (hp : e.phase ≠ .creating) : t.loseDrive ch p = t := by
  simp only [State.loseDrive, he, ha, hp, Bool.false_eq_true, if_false]

/-- A lost drive that no buffer awaits. -/
theorem headerWrite_lost_unawaited (hrun : (s.chan ch).runs order = true) (he : (s.chan ch).elem? p = some e)
    (hp : e.phase = .header) (hnone : ∀ b ∈ s.sts.bufs, b.owner = ch → p ∉ b.pend) :
    ∃ u, exec (.headerWriteAnswer ch order p .lost) s = .next (u.settle ch) ∧
      ChanBecomes ch (((s.chan ch).answered p).leaving p) s.sts s.token [] s u := by
  refine ⟨_, headerWrite_lost hrun he hp, ?_⟩
  have hlost := (portAnswered_becomes s ch p).loseDrive s he (by rw [hp]; rfl) rfl
  rw [Staging.awaiting_eq_nil hnone] at hlost
  exact hlost.of_sent (by simp)

end

/-- Settles O17: one case of a command after the other. -/
theorem channelAndReadStart : Obligations.ChannelAndReadStart := by
  refine ⟨⟨?_, fun _ _ _ _ _ _ => startMessage_ignored, ?_, ?_, ?_, ?_, ?_, ?_, ?_⟩, ?_, ?_, ?_, ?_, ?_, ?_, ?_, ?_, ?_, ?_, ?_, ?_,
    ?_, ?_⟩
  · intro ch order clip serial dests s hi
    obtain ⟨t, ht, hb⟩ := startMessage_taken (order := order) (clip := clip) (serial := serial) (dests := dests) hi
    exact ⟨t, ht, hb.chanBecomes, hb.sends⟩
  · rintro ch order s r c rfl hs ho hl
    obtain ⟨u, hu, hb⟩ := clipLength_known hs ho hl r
    refine ⟨u, hu, ?_, hb.sends⟩
    rw [hb.chan]
    exact hb.chanBecomes
  · rintro ch order s c rfl hs ho hl
    exact clipLength_unknown hs ho hl
  · rintro ch order p hb s c e rfl hs ho he hp
    obtain ⟨t, ht, h⟩ := reservation_granted (runs_of_starting hs ho) he hs hp hb
    have turns := (elemTurns_self he).answered.withElem (fun e => { e with hb := some hb, phase := .creating }) fun _ => rfl
    exact ⟨t, ht, h.elemChanges turns nofun, h.sts, by rw [h.chan]; exact turns.outstanding_self, h.sends⟩
  · rintro ch order p why s c e rfl hi ho he hp
    obtain ⟨u, hu, h⟩ := reservation_refused (Channel.runs_iff.mpr ⟨hi, ho⟩) he hp why
    exact ⟨u, _, hu, h.elemLeaves (elemTurns_self he).answered.leaving rfl, h.sts, rfl, h.sends⟩
  · rintro ch order p s c e rfl hs ho he hp hl
    obtain ⟨t, ht, h⟩ := creation_made (runs_of_starting hs ho) he hs hp hl
    have turns := ((elemTurns_self he).withElem (fun e => { e with phase := .header }) fun _ => rfl).asking
    exact ⟨t, ht, h.elemChanges turns nofun, h.sts, by rw [h.chan]; exact turns.outstanding_self, h.sends⟩
  · rintro ch order p s c e ans why rfl hi ho he hp hans
    obtain ⟨u, hu, h⟩ := creation_dropped (Channel.runs_iff.mpr ⟨hi, ho⟩) he hp hans
    exact ⟨u, _, hu, h.elemLeaves (elemTurns_self he).leaving rfl, h.sts, rfl, h.sends⟩
  · rintro ch order p s c e rfl hi hne ho he hp
    obtain ⟨u, hu, h⟩ := headerWrite_done (Channel.runs_iff.mpr ⟨hi, ho⟩) he hne hp
    have turns := (elemTurns_self he).answered.withElem (fun e => { e with phase := .writing }) fun _ => rfl
    exact ⟨u, hu, h.elemChanges turns nofun, h.sts, by rw [h.chan]; exact turns.outstanding_self, h.sends⟩
  · rintro ch order s c i rfl hs ho ha hb hm
    obtain ⟨t, ht, h⟩ := startRead_record hs ho ha hb hm
    exact ⟨t, ht, h.chanBecomes, h.token, h.sends⟩
  · rintro ch order s c i rfl hs ho ha hb hm
    obtain ⟨t, ht, h⟩ := startRead_compare hs ho ha hb hm
    exact ⟨t, ht, h.chanBecomes, h.token, h.sends⟩
  · rintro ch order s c rfl hs ho ha hb
    exact startRead_notBound hs ho ha hb
  · rintro ch order sums s c rfl hs ho hm ha hc
    obtain ⟨t, ht, h⟩ := storedSums_taken hs ho hm ha hc sums
    exact ⟨t, ht, h.chanBecomes, h.token, h.sends⟩
  · rintro ch tag s c rfl ht ha hc hs
    obtain ⟨t, ht, h⟩ := claim_granted_starting ht ha hc hs
    exact ⟨t, ht, h.chanBecomes, h.token, h.sends⟩
  · rintro ch tag s c rfl ht ha hc hs
    obtain ⟨t, ht, h⟩ := claim_waiting_starting ht ha hc hs
    exact ⟨t, ht, h.chanBecomes, h.token, h.sends⟩
  · rintro ch tag s c rfl ht ha hs
    obtain ⟨u, hu, h⟩ := claim_cardGone ht ha hs
    exact ⟨u, hu, h.chanBecomes⟩
  · rintro ch tag ans s c rfl h
    exact claim_discarded h
  · rintro ch order p s c e rfl hi ho he hp
    obtain ⟨u, hu, h⟩ := creation_notBound (Channel.runs_iff.mpr ⟨hi, ho⟩) he hp
    exact ⟨u, hu, h.elemLeaves (elemTurns_self he).leaving rfl, h.sts, h.sends⟩
  · rintro ch order p s c e x rfl hi ho he hp hx
    obtain ⟨u, hu, h⟩ := creation_ends (Channel.runs_iff.mpr ⟨hi, ho⟩) he hp hx
    exact ⟨u, hu, h.elemLeaves (elemTurns_self he).leaving rfl, h.sts, h.sends⟩
  · rintro ch order p s c e ans rfl hi ho he - hans
    have hu := headerWrite_counts (Channel.runs_iff.mpr ⟨hi, ho⟩) he fun _ => hans
    have h := portAnswered_becomes s ch p
    exact ⟨_, hu, h.chanBecomes, h.sends⟩
  · rintro ch order p s c e rfl hi ho he hp hnone
    obtain ⟨u, hu, h⟩ := headerWrite_lost_unawaited (Channel.runs_iff.mpr ⟨hi, ho⟩) he hp hnone
    have turns := (elemTurns_self he).answered.leaving
    exact ⟨u, hu, h.elemLeaves turns rfl, h.sts, by rw [h.chan]; exact turns.outstanding_self, h.sends⟩
  · rintro s ch c rfl hs hl ha hd
    have h := settle_startsRead hs hl ha hd
    exact ⟨_, rfl, h.chanBecomes, h.token, h.sends⟩
  · rintro s ch c rfl hs h
    exact settle_startWaits hs h

end Sys2Proof.Machine
end


section
/-! SUPPORT. How a copy channel reads bursts, hands extents on and ends its read (R73, R74, R76, R81, R83 to R85). -/

namespace Sys2Proof.Machine

/-- The store once a burst's bytes have been appended to a buffer. -/
def Staging.appended (x : Staging) (num : Nat) (bytes : List Byte) : Staging :=
  { x with bufs := x.bufs.map fun b => if b.num = num then { b with data := b.data ++ bytes } else b }

/-- An extent being filled, once a burst has been taken. -/
def Filling.took (f : Filling) (k : Nat) : Filling := { f with bytes := f.bytes + k, burst := f.burst + 1 }

/-- The bytes of a burst of a READ, on their way to the Frame Extractor. -/
def liveBytesOf (ch : Chan) (f : Filling) (bytes : List Byte) : List Wire :=
  if f.pass = .read then [⟨.cc ch, .fx, .liveBytes ch bytes⟩] else []

/-- A change of one buffer, found again under its number. -/
theorem Staging.buf?_changed {x : Staging} {n : Nat} {b : Buffer} (hb : x.buf? n = some b) {f : Buffer → Buffer}
    (hf : ∀ b, (f b).num = b.num) : ({ x with bufs := x.bufs.map fun b => if b.num = n then f b else b } : Staging).buf? n =
      some (f b) := by
  have hnum (b : Buffer) : (if b.num = n then f b else b).num = b.num := by split <;> simp [hf]
  obtain ⟨-, rfl⟩ := Staging.mem_of_buf? hb
  unfold Staging.buf? at hb ⊢
  simp only [List.find?_map, Function.comp_def, hnum, hb, Option.map_some, if_true]

section
variable {ch : Chan} {c : Channel} {x : Staging} {n num ext : Nat} {w : List Wire} {s t : State} {f : Filling} {b : Buffer}

/-! ## A full extent (R74, R81) -/

/-- The context once an extent's buffer is full and its sum has gone to the Catalog. -/
def Channel.summed (c : Channel) (f : Filling) (num : Nat) : Channel :=
  { c with fill := none, summing := c.summing ++ [(num, f.ext, f.pass)] }

/-- The sum of an extent, on its way to the Catalog. -/
def sumReportOf (ch : Chan) (c : Channel) (f : Filling) (bytes : List Byte) : Wire :=
  ⟨.cc ch, .cat, .sumReport ch (c.clip.getD 0) (c.order.getD 0) f.ext (extentSum bytes) f.pass⟩

/-- The requests of the first burst of an extent and of its buffer (R73). -/
def extentRequests (ch : Chan) (c : Channel) (ext : Nat) (pass : PassKind) (tag : Nat) : List Wire :=
  [⟨.cc ch, .sts, .bufferRequest ch tag (c.clip.getD 0) ext pass (extentLen c.dataLen ext)⟩,
    ⟨.cc ch, .ci, .burstRequest ch c.serial c.clipNo ext 0 false⟩]

namespace ChanBecomes

theorem extentFull_read_more (h : ChanBecomes ch c x n w s t) (hp : f.pass = .read) (hb : x.buf? num = some b)
    (hmore : c.next + 1 < c.extents) :
    ChanBecomes ch ({ c.summed f num with next := c.next + 1 }.filling (c.next + 1) .read n) x (n + 1)
      (w ++ sumReportOf ch c f b.data :: extentRequests ch c (c.next + 1) .read n) s (t.extentFull ch f num) := by
  have hfull : t.extentFull ch f num = State.startExtent ((t.setChan ch { c.summed f num with next := c.next + 1 }).tellCat ch
      (sumReportOf ch c f b.data).msg) ch (c.next + 1) .read := by
    unfold State.extentFull
    rw [h.chan, h.sts, hb, hp]
    simp only [Channel.summed, sumReportOf, hp, hmore, if_true, Option.map_some, Option.getD_some]
  rw [hfull]
  exact (((h.setChan _).tellCat _ rfl).startExtent _ _).of_sent (List.append_assoc ..)

theorem extentFull_read_last (h : ChanBecomes ch c x n w s t) (hp : f.pass = .read) (hb : x.buf? num = some b)
    (hlast : c.extents ≤ c.next + 1) :
    ChanBecomes ch { c.summed f num with next := c.next + 1 } x n (w ++ [sumReportOf ch c f b.data]) s (t.extentFull ch f num) := by
  have hfull : t.extentFull ch f num = (t.setChan ch { c.summed f num with next := c.next + 1 }).tellCat ch
      (sumReportOf ch c f b.data).msg := by
    unfold State.extentFull
    rw [h.chan, h.sts, hb, hp]
    simp only [Channel.summed, sumReportOf, hp, Nat.not_lt.mpr hlast, if_false, Option.map_some, Option.getD_some]
  rw [hfull]
  exact (h.setChan _).tellCat _ rfl

theorem extentFull_repair_more (h : ChanBecomes ch c x n w s t) (hp : f.pass = .repair) (hb : x.buf? num = some b)
    {r : RepairPass} (hr : c.repair = some r) (hmore : r.exts[r.done + 1]? = some ext) :
    ChanBecomes ch ({ c.summed f num with repair := some { r with done := r.done + 1 } }.filling ext .repair n) x (n + 1)
      (w ++ sumReportOf ch c f b.data :: extentRequests ch c ext .repair n) s (t.extentFull ch f num) := by
  have hfull : t.extentFull ch f num = State.startExtent ((t.setChan ch { c.summed f num with
      repair := some { r with done := r.done + 1 } }).tellCat ch (sumReportOf ch c f b.data).msg) ch ext .repair := by
    unfold State.extentFull
    rw [h.chan, h.sts, hb, hp]
    simp only [Channel.summed, sumReportOf, hp, hr, hmore, Option.map_some, Option.getD_some, Option.bind_some]
  rw [hfull]
  exact (((h.setChan _).tellCat _ rfl).startExtent _ _).of_sent (List.append_assoc ..)

theorem extentFull_repair_last (h : ChanBecomes ch c x n w s t) (hp : f.pass = .repair) (hb : x.buf? num = some b)
    {r : RepairPass} (hr : c.repair = some r) (hlast : r.exts.length ≤ r.done + 1) :
    ChanBecomes ch { c.summed f num with repair := some { r with done := r.done + 1 } } x n (w ++ [sumReportOf ch c f b.data]) s
      (t.extentFull ch f num) := by
  have hfull : t.extentFull ch f num = (t.setChan ch { c.summed f num with
      repair := some { r with done := r.done + 1 } }).tellCat ch (sumReportOf ch c f b.data).msg := by
    unfold State.extentFull
    rw [h.chan, h.sts, hb, hp]
    simp only [Channel.summed, sumReportOf, hp, hr, List.getElem?_eq_none hlast, Option.map_some, Option.getD_some,
      Option.bind_some]
  rw [hfull]
  exact (h.setChan _).tellCat _ rfl

/-! ## A burst (R73, R81) -/

/-- What is taken of a burst before the extent is judged: its bytes, in the buffer and at the Frame Extractor. -/
theorem burstTaken (h : ChanBecomes ch c x n w s t) (f : Filling) (num : Nat) (bytes : List Byte) :
    ∃ u, ChanBecomes ch c (x.appended num bytes) n (w ++ liveBytesOf ch f bytes) s u ∧
      t.burstDone ch f num bytes = if f.bytes + bytes.length ≥ extentLen c.dataLen f.ext then
        u.extentFull ch (f.took bytes.length) num else u.nextBurst ch (f.took bytes.length) := by
  have hb := h.changeBuffer num (fun b => { b with data := b.data ++ bytes }) fun _ => ⟨rfl, rfl⟩
  unfold State.burstDone
  rw [h.chan]
  obtain ⟨ext, pass, tag, granted, count, burst⟩ := f
  cases pass with
  | read => exact ⟨_, hb.send _ _ (.liveBytes ch bytes) rfl, rfl⟩
  | repair => exact ⟨_, hb.of_sent (List.append_nil w).symm, rfl⟩

/-- The extent is not full yet: the next burst is requested (R73). -/
theorem burstDone_more (h : ChanBecomes ch c x n w s t) {bytes : List Byte}
    (hless : f.bytes + bytes.length < extentLen c.dataLen f.ext) :
    ChanBecomes ch { c with fill := some (f.took bytes.length), burstOut := true } (x.appended num bytes) n
      (w ++ (liveBytesOf ch f bytes ++ [⟨.cc ch, .ci, .burstRequest ch c.serial c.clipNo f.ext (f.burst + 1) f.num.isSome⟩])) s
      (t.burstDone ch f num bytes) := by
  obtain ⟨u, hu, hdone⟩ := h.burstTaken f num bytes
  rw [hdone, if_neg (Nat.not_le.mpr hless)]
  exact (hu.nextBurst (f.took bytes.length)).of_sent (List.append_assoc ..)

/-- The extent is full, whatever the pass. -/
theorem burstDone_full (h : ChanBecomes ch c x n w s t) {bytes : List Byte}
    (hfull : extentLen c.dataLen f.ext ≤ f.bytes + bytes.length) :
    ∃ u, ChanBecomes ch c (x.appended num bytes) n (w ++ liveBytesOf ch f bytes) s u ∧
      t.burstDone ch f num bytes = u.extentFull ch (f.took bytes.length) num := by
  obtain ⟨u, hu, hdone⟩ := h.burstTaken f num bytes
  exact ⟨u, hu, hdone.trans (if_pos hfull)⟩

/-! ## Handing an extent on, and the end of a read (R74, R76, R81) -/

/-- No copy needs the extent: its buffer is freed, as on any state `z` with this store. -/
theorem handOn_freed (z : State) (h : ChanBecomes ch c z.sts n w s t) {writes : Elem → Bool}
    (hnone : c.dests.filter writes = []) :
    ChanBecomes ch c (z.freeBuffer num).sts n (w ++ (z.freeBuffer num).wire.drop z.wire.length) s
      (t.handOn ch num ext writes) := by
  have hfree : t.handOn ch num ext writes = t.freeBuffer num := by
    unfold State.handOn
    rw [h.chan]
    dsimp only
    rw [hnone]
    rfl
  rw [hfree]
  exact store (.freeBuffer num) z h

/-- The buffer waits for the ports of the copies that need the extent, which are asked to write it. -/
theorem handOn_written (h : ChanBecomes ch c x n w s t) {writes : Elem → Bool} {es : List Elem}
    (hes : es = c.dests.filter writes) (hne : es ≠ []) :
    ChanBecomes ch { c with outstanding := askedOf c.outstanding (es.map (·.port)) }
      { x with bufs := x.bufs.map fun b => if b.num = num then { b with pend := es.map (·.port) } else b } n
      (w ++ es.map fun e => ⟨.cc ch, .dp e.port, .extentWrite ch e.port (c.order.getD 0) (e.vol.getD 0) num
        (extentBlock c.span (e.hb.getD 0) ext)⟩) s (t.handOn ch num ext writes) := by
  have hask := (h.changeBuffer num (fun b => { b with pend := es.map (·.port) }) fun _ => ⟨rfl, rfl⟩).askPorts es (fun e =>
    .extentWrite ch e.port (c.order.getD 0) (e.vol.getD 0) num (extentBlock c.span (e.hb.getD 0) ext)) fun _ => rfl
  unfold State.handOn
  rw [h.chan]
  dsimp only
  rw [← hes, if_neg (by simpa using hne)]
  exact hask

theorem readDone (h : ChanBecomes ch c x n w s t) :
    ChanBecomes ch { c with claim := .none, phase := .finishing } x n
      (w ++ ((if c.claim = .none then [] else [⟨.cc ch, .ci, .handBack ch c.serial⟩]) ++
        [⟨.cc ch, .fx, .livePassEndOfData ch⟩, ⟨.cc ch, .ods, .readDoneReport ch (c.order.getD 0)⟩])) s (t.readDone ch) := by
  have hgiven := h.giveUpClaim.send (.cc ch) .fx (.livePassEndOfData ch) rfl
  unfold State.readDone
  dsimp only
  rw [hgiven.chan]
  exact ((hgiven.setChan _).send _ _ _ rfl).of_sent (by simp)

theorem repairDone (h : ChanBecomes ch c x n w s t) :
    ChanBecomes ch { c with claim := .none, repair := none } x n
      (w ++ ((if c.claim = .none then [] else [⟨.cc ch, .ci, .handBack ch c.serial⟩]) ++
        [⟨.cc ch, .ods, .repairDoneReport ch (c.order.getD 0)⟩])) s (t.repairDone ch) := by
  have hgiven := h.giveUpClaim
  unfold State.repairDone
  dsimp only
  rw [hgiven.chan]
  exact ((hgiven.setChan _).send _ _ _ rfl).of_sent (by simp)

end ChanBecomes

/-! ## The answers about bursts (R73, R84, R85) -/

/-- The burst has been answered. -/
theorem burstAnswered (s : State) (ch : Chan) :
    ChanBecomes ch { s.chan ch with burstOut := false } s.sts s.token [] s (s.setChan ch { s.chan ch with burstOut := false }) :=
  (chanBecomes_refl s ch).setChan _

section
variable (hout : (s.chan ch).burstOut = true) (hne : (s.chan ch).phase ≠ .ending)
include hout hne

theorem burst_done (hf : (s.chan ch).fill = some f) (hnum : f.num = some num) (bytes : List Byte) :
    exec (.burstAnswer ch (.done bytes)) s =
      .next ((s.setChan ch { s.chan ch with burstOut := false }).burstDone ch f num bytes) := by
  change execBurstAnswer ch (.done bytes) s = _
  simp only [execBurstAnswer, hout, hne, hf, hnum, not_true_eq_false, if_false]

theorem burst_readError :
    ∃ u, exec (.burstAnswer ch .readError) s = .next (u.enterEnding ch (.failed .readError)) ∧
      ChanBecomes ch { s.chan ch with burstOut := false } s.sts s.token
        [filedOf (.cc ch) ((s.chan ch).clip.getD 0) .readError none] s u := by
  refine ⟨_, ?_, (burstAnswered s ch).file _ _ _⟩
  change execBurstAnswer ch .readError s = _
  simp only [execBurstAnswer, hout, hne, not_true_eq_false, if_false]

theorem burst_cardGone {ans : BurstAns} (ha : ans = .cardGone ∨ ans = .notBound) :
    exec (.burstAnswer ch ans) s =
      .next ((s.setChan ch { s.chan ch with burstOut := false }).enterEnding ch (.failed .cardGone)) := by
  change execBurstAnswer ch ans s = _
  obtain rfl | rfl := ha <;>
    simp only [execBurstAnswer, hout, hne, not_true_eq_false, if_false, State.cardLoss]

/-- The extent is not full yet (R73, R81). -/
theorem burst_more (hf : (s.chan ch).fill = some f) (hnum : f.num = some num) {bytes : List Byte}
    (hless : f.bytes + bytes.length < extentLen (s.chan ch).dataLen f.ext) :
    ∃ t, exec (.burstAnswer ch (.done bytes)) s = .next t ∧
      ChanBecomes ch { s.chan ch with fill := some (f.took bytes.length) } (s.sts.appended num bytes) s.token
        (liveBytesOf ch f bytes ++ [⟨.cc ch, .ci, .burstRequest ch (s.chan ch).serial (s.chan ch).clipNo f.ext (f.burst + 1) true⟩])
        s t :=
  ⟨_, burst_done hout hne hf hnum bytes,
    (((burstAnswered s ch).burstDone_more hless).of_sent (by simp [hnum])).of_chan (by simp only [hout])⟩

/-- The extent is full: what has come of the burst before the sum is sent (R74, R81). -/
theorem burst_full (hf : (s.chan ch).fill = some f) (hnum : f.num = some num) {bytes : List Byte}
    (hfull : extentLen (s.chan ch).dataLen f.ext ≤ f.bytes + bytes.length) (hb : s.sts.buf? num = some b) :
    (s.sts.appended num bytes).buf? num = some { b with data := b.data ++ bytes } ∧
    ∃ u, exec (.burstAnswer ch (.done bytes)) s = .next (u.extentFull ch (f.took bytes.length) num) ∧
      ChanBecomes ch { s.chan ch with burstOut := false } (s.sts.appended num bytes) s.token (liveBytesOf ch f bytes) s u := by
  refine ⟨Staging.buf?_changed (f := fun b => { b with data := b.data ++ bytes }) hb fun _ => rfl, ?_⟩
  obtain ⟨u, hu, hdone⟩ := (burstAnswered s ch).burstDone_full (num := num) hfull
  exact ⟨u, by rw [burst_done hout hne hf hnum, hdone], hu⟩

end

theorem burst_unasked {ans : BurstAns} (hout : (s.chan ch).burstOut = false) : exec (.burstAnswer ch ans) s = .next s := by
  change execBurstAnswer ch ans s = _
  simp only [execBurstAnswer, hout, Bool.false_eq_true, not_false_eq_true, if_true]

/-! ## The answers about sums (R74, R76, R83, R85) -/

/-- The context once a sum has been answered. -/
def Channel.sumTaken (c : Channel) (ext : Nat) (pass : PassKind) : Channel :=
  { c with summing := c.summing.filter fun x => ¬(x.2.1 = ext ∧ x.2.2 = pass) }

section
variable {order : Nat} {pass : PassKind} (hrun : (s.chan ch).runs order = true) (hne : (s.chan ch).phase ≠ .ending)
  (hsum : (s.chan ch).summing.find? (fun x => x.2.1 = ext && x.2.2 = pass) = some (num, ext, pass))
include hrun hne hsum

theorem sum_accepted {ans : SumAns} (ha : ans = .stored ∨ ans = .equal) :
    exec (.sumAnswer ch order ext pass ans) s =
      .next ((s.setChan ch ((s.chan ch).sumTaken ext pass)).sumAccepted ch num ext pass ans) := by
  change execSumAnswer ch order ext pass ans s = _
  simp only [execSumAnswer, hrun, hne, not_true_eq_false, or_self, if_false, hsum]
  obtain rfl | rfl := ha <;> rfl

/-- A sum that is not the one of the bytes read before: the source is unstable (R83). -/
theorem sum_unequal :
    ∃ u, exec (.sumAnswer ch order ext pass .unequal) s = .next (u.enterEnding ch (.failed .sourceUnstable)) ∧
      ChanBecomes ch ((s.chan ch).sumTaken ext pass) (s.freeBuffer num).sts s.token
        (filedOf (.cc ch) ((s.chan ch).clip.getD 0) .sourceUnstable none :: (s.freeBuffer num).wire.drop s.wire.length) s u := by
  refine ⟨_, ?_, ChanBecomes.store (.freeBuffer num) s
    (((chanBecomes_refl s ch).setChan ((s.chan ch).sumTaken ext pass)).file ((s.chan ch).clip.getD 0) .sourceUnstable none)⟩
  change execSumAnswer ch order ext pass .unequal s = _
  simp only [execSumAnswer, hrun, hne, not_true_eq_false, or_self, if_false, hsum]
  rfl

theorem sum_notBound :
    exec (.sumAnswer ch order ext pass .notBound) s = .next (s.enterEnding ch (.failed .cardGone)) := by
  change execSumAnswer ch order ext pass .notBound s = _
  simp only [execSumAnswer, hrun, hne, not_true_eq_false, or_self, if_false, hsum]
  rfl

end

/-- The sums the channel keeps, once that of a buffer has been answered (R74). -/
def Channel.sumKept (c : Channel) (ans : SumAns) (bytes : List Byte) : Channel :=
  { c with sums := if ans = .stored then c.sums ++ [extentSum bytes] else c.sums }

/-- What comes of an accepted sum of a READ before the extent is handed on. -/
theorem ChanBecomes.sumStored (h : ChanBecomes ch c x n w s t) (hb : x.buf? num = some b) (ans : SumAns) :
    ∃ u, ChanBecomes ch (c.sumKept ans b.data) x n w s u ∧ t.sumAccepted ch num ext .read ans =
      ((if ext + 1 = c.extents then u.readDone ch else u).handOn ch num ext fun e => e.phase = .writing).settle ch := by
  unfold State.sumAccepted
  rw [h.chan, h.sts, hb]
  by_cases ha : ans = .stored
  · refine ⟨_, h.setChan (c.sumKept ans b.data), ?_⟩
    simp only [ha, if_true, Channel.sumKept, Option.map_some, Option.getD_some]
  · refine ⟨t, h.of_chan (by rw [Channel.sumKept, if_neg ha]), ?_⟩
    simp only [ha, if_false]

end

/-- An accepted sum of a READ: what has come of it before the extent is handed on, and what follows. -/
theorem sum_read {ch : Chan} {order ext num : Nat} {s : State} {b : Buffer} {ans : SumAns} (hs : (s.chan ch).phase = .reading)
    (ho : (s.chan ch).order = some order)
    (hsum : (s.chan ch).summing.find? (fun x => x.2.1 = ext && x.2.2 = .read) = some (num, ext, .read))
    (ha : ans = .stored ∨ ans = .equal) (hb : s.sts.buf? num = some b) :
    ∃ u, ChanBecomes ch (((s.chan ch).sumTaken ext .read).sumKept ans b.data) s.sts s.token [] s u ∧
      exec (.sumAnswer ch order ext .read ans) s = .next (((if ext + 1 = (s.chan ch).extents then u.readDone ch else u).handOn ch
        num ext fun e => e.phase = .writing).settle ch) := by
  obtain ⟨u, h, hacc⟩ :=
    ((chanBecomes_refl s ch).setChan ((s.chan ch).sumTaken ext .read)).sumStored (num := num) (ext := ext) hb ans
  refine ⟨u, h, ?_⟩
  rw [sum_accepted (Channel.runs_iff.mpr ⟨by simp [hs], ho⟩) (by simp [hs]) hsum ha, hacc]
  rfl

/-- Settles O19: one case of a command after the other. -/
theorem channelReads : Obligations.ChannelReads := by
  refine ⟨?_, ?_, ?_, ?_, fun _ _ _ => burst_unasked, ?_, ?_, ?_, ?_, ?_, ?_⟩
  · rintro ch bytes s c f num rfl hout hs hf hnum hp hless
    obtain ⟨t, ht, h⟩ := burst_more hout (by simp [hs]) hf hnum hless
    rw [liveBytesOf, if_pos hp] at h
    exact ⟨t, ht, h.chan, h.moves.others, h.moves.onlyCc, h.token, h.sts, h.sends⟩
  · rintro ch bytes s c f num b rfl hout hs hf hnum hp hfull hlast hb
    obtain ⟨hb, u, hu, h⟩ := burst_full hout (by simp [hs]) hf hnum hfull hb
    have h := h.extentFull_read_last (f := f.took bytes.length) (num := num) hp hb hlast
    rw [liveBytesOf, if_pos hp] at h
    refine ⟨_, hu, h.chan.trans ?_, h.moves.others, h.moves.onlyCc, h.token, h.sts, (h.of_sent ?_).sends⟩
    · simp only [Channel.summed, Filling.took, hp]
    · simp only [sumReportOf, Filling.took, hp, List.singleton_append]
  · rintro ch s c rfl hout hne
    obtain ⟨u, hu, h⟩ := burst_readError hout hne
    exact ⟨u, hu, h.chanBecomes, h.sends⟩
  · rintro ch s c ans rfl hout hne ha
    exact ⟨_, burst_cardGone hout hne ha, (burstAnswered s ch).chanBecomes, (burstAnswered s ch).sends⟩
  · rintro ch order ext s c num b ans es rfl hs ho hsum ha hnl hb rfl hes
    obtain ⟨u, h, hu⟩ := sum_read hs ho hsum ha hb
    have h := h.handOn_written (num := num) (ext := ext) (writes := fun e => e.phase = .writing) rfl hes
    rw [if_neg hnl, State.settle_reading (by rw [h.chan]; exact hs)] at hu
    refine ⟨_, hu, ?_, h.sts, (h.of_sent ?_).sends⟩
    · rw [h.chan, h.sts]
      exact h.chanBecomes_of_sts
    · simp only [Channel.sumKept, Channel.sumTaken, ho, Option.getD_some, List.nil_append]
      rfl
  · rintro ch order ext s c num b ans es rfl hs ho hc hsum ha hl hb rfl
    obtain ⟨u, h, hu⟩ := sum_read hs ho hsum ha hb
    rw [if_pos hl] at hu
    by_cases hes : (s.chan ch).dests.filter (fun e => e.phase = .writing) = []
    · have h := h.readDone.handOn_freed s (num := num) (ext := ext) (writes := fun e => e.phase = .writing) hes
      refine ⟨_, hu, ?_, fun _ => ⟨h.sts, (h.of_sent ?_).sends⟩, fun hsome => absurd hes hsome⟩
      · rw [h.chan, h.sts]
        exact h.chanBecomes_of_sts
      · simp [Channel.sumKept, Channel.sumTaken, hc, ho]
    · have h := h.readDone.handOn_written (num := num) (ext := ext) (writes := fun e => e.phase = .writing) rfl hes
      refine ⟨_, hu, ?_, fun hnone => absurd hnone hes, fun _ => ⟨h.sts, (h.of_sent ?_).sends⟩⟩
      · rw [h.chan, h.sts]
        exact h.chanBecomes_of_sts
      · simp only [Channel.sumKept, Channel.sumTaken, hc, ho, reduceCtorEq, if_false, Option.getD_some, List.nil_append,
          List.cons_append]
        rfl
  · rintro ch order ext pass s c num rfl hi hne ho hsum
    obtain ⟨u, hu, h⟩ := sum_unequal (Channel.runs_iff.mpr ⟨hi, ho⟩) hne hsum
    refine ⟨u, hu, ?_, h.sts, h.sends⟩
    rw [h.sts]
    exact h.chanBecomes_of_sts
  · rintro ch bytes s c f num b rfl hout hs hf hnum hp hfull hmore hb
    obtain ⟨hb, u, hu, h⟩ := burst_full hout (by simp [hs]) hf hnum hfull hb
    have h := h.extentFull_read_more (f := f.took bytes.length) (num := num) hp hb hmore
    rw [liveBytesOf, if_pos hp] at h
    refine ⟨_, hu, h.chan.trans ?_, h.moves.others, h.moves.onlyCc, h.token, h.sts, (h.of_sent ?_).sends⟩
    · simp only [Channel.summed, Channel.filling, Filling.took, hp, hout]
    · simp only [sumReportOf, extentRequests, Filling.took, hp, List.singleton_append]
  · rintro ch order ext s c num b ans rfl hs ho hsum ha hnl hb hes
    obtain ⟨u, h, hu⟩ := sum_read hs ho hsum ha hb
    have h := h.handOn_freed s (num := num) (ext := ext) (writes := fun e => e.phase = .writing)
      (List.filter_eq_nil_iff.mpr fun e he => by simpa using hes e he)
    rw [if_neg hnl, State.settle_reading (by rw [h.chan]; exact hs)] at hu
    refine ⟨_, hu, ?_, h.sts, h.sends⟩
    rw [h.sts]
    exact h.chanBecomes_of_sts
  · rintro ch order ext pass s c num rfl hi hne ho hsum
    exact sum_notBound (Channel.runs_iff.mpr ⟨hi, ho⟩) hne hsum

end Sys2Proof.Machine
end


section
/-! SUPPORT. How a copy is written, verified and rewritten, and how it is lost (R75, R77 to R79, R81, R82, R86). -/

namespace Sys2Proof.Machine

section
variable {ch : Chan} {c : Channel} {x : Staging} {n m num ext order : Nat} {w : List Wire} {s t : State} {p : Port} {e : Elem}
  {l : List Nat}

theorem Channel.answered_outstanding (c : Channel) (p : Port) : (c.answered p).outstanding[p] = c.outstanding[p] - 1 :=
  upd_same ..

/-! ## An extent written (R75, R81) -/

namespace ChanBecomes

theorem extentDone_writing (h : ChanBecomes ch c x n w s t) (hp : e.phase = .writing) (ext : Nat) :
    ChanBecomes ch (c.withElem e.port fun e => { e with written := e.written + 1 }) x n
      (w ++ [⟨.cc ch, .cat, .extentWrittenReport (c.clip.getD 0) (e.vol.getD 0)⟩]) s (t.extentDone ch e ext) := by
  unfold State.extentDone
  rw [h.chan, hp]
  exact (h.tellCat _ rfl).setElem _ _

theorem extentDone_repairing (h : ChanBecomes ch c x n w s t) (hp : e.phase = .repair) (hl : ∃ n ∈ e.toWrite, n ≠ ext) :
    ChanBecomes ch (c.withElem e.port fun y => { y with toWrite := e.toWrite.filter fun n => n ≠ ext }) x n w s
      (t.extentDone ch e ext) := by
  have hleft : (e.toWrite.filter fun n => n ≠ ext).isEmpty = false := by
    obtain ⟨k, hk, hne⟩ := hl
    exact List.isEmpty_eq_false_iff_exists_mem.mpr ⟨k, List.mem_filter.mpr ⟨hk, by simpa using hne⟩⟩
  unfold State.extentDone
  rw [h.chan, hp]
  dsimp only
  rw [hleft]
  exact h.setElem _ _

/-- A member of a repair pass is all rewritten, and is verified again (R81). -/
theorem extentDone_repaired (h : ChanBecomes ch c x n w s t) (hp : e.phase = .repair) (hl : ∀ n ∈ e.toWrite, n = ext)
    (hr : e.repairList = m :: l) :
    ChanBecomes ch ((c.withElem e.port fun y =>
        { y with phase := .reverify, toWrite := [], newList := [], repairList := y.repairList.drop 1 }).asking e.port) x n
      (w ++ [⟨.cc ch, .cat, .verifyBegunReport (c.clip.getD 0) (e.vol.getD 0)⟩,
        ⟨.cc ch, .dp e.port, .verifyRead ch e.port (c.order.getD 0) (e.vol.getD 0) m (extentBlock c.span (e.hb.getD 0) m)
          (extentLen c.dataLen m) (c.sums.getD m 0)⟩]) s (t.extentDone ch e ext) := by
  have hleft : (e.toWrite.filter fun n => n ≠ ext) = [] := List.filter_eq_nil_iff.mpr (by simpa using hl)
  unfold State.extentDone
  rw [h.chan, hp]
  dsimp only
  rw [hleft, hr]
  exact (((h.tellCat _ rfl).setElem _ _).sendVerify e m).of_sent (by rw [List.append_assoc]; rfl)

/-! ## A round of reading back has ended (R77 to R79, R81, R82) -/

theorem verifyEnded_clean (h : ChanBecomes ch c x n w s t) (e : Elem) :
    ChanBecomes ch ((c.withElem e.port fun y => { y with phase := .rewrite, repairList := [], newList := [] }).asking e.port) x n
      (w ++ [⟨.cc ch, .cat, .verifyEndedReport (c.clip.getD 0) (e.vol.getD 0)⟩,
        ⟨.cc ch, .dp e.port, .headerRewrite ch e.port (c.order.getD 0) (e.vol.getD 0) (e.hb.getD 0) c.sums⟩]) s
      (t.verifyEnded ch e []) := by
  unfold State.verifyEnded
  rw [h.chan]
  exact (((h.tellCat _ rfl).setElem _ _).askPort _ _ rfl).of_sent (by rw [List.append_assoc]; rfl)

theorem verifyEnded_waits (h : ChanBecomes ch c x n w s t) (hl : l ≠ []) (hp : e.passes < 2) :
    ChanBecomes ch (c.withElem e.port fun y =>
        { y with phase := .repairWait, passes := y.passes + 1, repairList := l, newList := [] }) x n
      (w ++ [⟨.cc ch, .cat, .verifyEndedReport (c.clip.getD 0) (e.vol.getD 0)⟩]) s (t.verifyEnded ch e l) := by
  unfold State.verifyEnded
  rw [h.chan]
  dsimp only
  rw [if_neg (by simpa using hl), if_pos hp]
  exact (h.tellCat _ rfl).setElem _ _

theorem verifyEnded_spent (h : ChanBecomes ch c x n w s t) (hl : l ≠ []) (hp : 2 ≤ e.passes) :
    ChanBecomes ch (c.leaving e.port) x n
      (w ++ [⟨.cc ch, .cat, .verifyEndedReport (c.clip.getD 0) (e.vol.getD 0)⟩]) s (t.verifyEnded ch e l) := by
  unfold State.verifyEnded
  rw [h.chan]
  dsimp only
  rw [if_neg (by simpa using hl), if_neg (Nat.not_lt.mpr hp)]
  exact (h.tellCat _ rfl).dropElem _

/-! ## A write has failed (R68, R75, R78) -/

theorem writeFailed (h : ChanBecomes ch c x n w s t) (he : c.elem? p = some e) :
    ChanBecomes ch (c.leaving p) x n (w ++ ⟨.cc ch, .cat, .copyEndReport (c.clip.getD 0) (e.vol.getD 0) .failed .writeFailed⟩ ::
      if c.outstanding[p] = 0 then [] else [⟨.cc ch, .dp p, .withdrawal ch p (c.order.getD 0)⟩]) s (t.writeFailed ch p e) := by
  have hport := Channel.port_of_elem? he
  have hend := h.endCopy e .failed .writeFailed
  rw [hport] at hend
  unfold State.writeFailed
  dsimp only
  rw [hend.chan, show (c.leaving p).outstanding[p] = c.outstanding[p] from rfl]
  by_cases ho : c.outstanding[p] = 0
  · rw [if_pos ho, if_pos ho]
    exact hend
  · rw [if_neg ho, if_neg ho]
    exact (hend.send _ _ _ rfl).of_sent (by simp [Channel.leaving, Channel.withElem])

end ChanBecomes

/-! ## The answers to extent writes (R75, R81, R86, R88) -/

/-- An answer about an extent has been counted, and the port has left the buffer's pending set. -/
theorem extentAnswered (s : State) (ch : Chan) (p : Port) (num : Nat) :
    ChanBecomes ch ((s.chan ch).answered p) (s.drained ch p num).sts s.token ((s.drained ch p num).wire.drop s.wire.length) s
      ((s.portAnswered ch p).drained ch p num) :=
  ((portAnswered_becomes s ch p).store (.drained ch p num) s).of_sent (List.nil_append _)

/-- The mismatch, on its way to the Catalog. -/
def mismatchOf (ch : Chan) (c : Channel) (e : Elem) (ext : Nat) (ans : VerifyAns) : List Wire :=
  if ans = .mismatch then [⟨.cc ch, .cat, .mismatchReport (c.clip.getD 0) (e.vol.getD 0) ext⟩] else []

/-- An answer to a verify read has been counted, and a mismatch reported. -/
theorem verifyAnswered (s : State) (ch : Chan) (p : Port) (e : Elem) (ext : Nat) (ans : VerifyAns) :
    ChanBecomes ch ((s.chan ch).answered p) s.sts s.token (mismatchOf ch (s.chan ch) e ext ans) s
      (if ans = .mismatch then (s.portAnswered ch p).tellCat ch (.mismatchReport ((s.chan ch).clip.getD 0) (e.vol.getD 0) ext)
        else s.portAnswered ch p) := by
  have h := portAnswered_becomes s ch p
  unfold mismatchOf
  split
  · exact h.tellCat _ rfl
  · exact h

section
variable (hrun : (s.chan ch).runs order = true) (he : (s.chan ch).elem? p = some e)
include hrun he

theorem extentWrite_done (hne : (s.chan ch).phase ≠ .ending) : exec (.extentWriteAnswer ch order p num .done) s =
    .next ((((s.portAnswered ch p).drained ch p num).extentDone ch e (((s.sts.buf? num).map (·.ext)).getD 0)).settle ch) := by
  change execExtentWriteAnswer ch order p num .done s = _
  simp only [execExtentWriteAnswer, answering_of_runs hrun he, hne, if_false]

theorem extentWrite_failed (ha : e.phase.alive = true) : exec (.extentWriteAnswer ch order p num .failed) s =
    .next ((((s.portAnswered ch p).drained ch p num).writeFailed ch p e).settle ch) := by
  change execExtentWriteAnswer ch order p num .failed s = _
  simp only [execExtentWriteAnswer, answering_of_runs hrun he, ha, if_true]

theorem extentWrite_lost : exec (.extentWriteAnswer ch order p num .lost) s =
    .next ((((s.portAnswered ch p).drained ch p num).loseDrive ch p).settle ch) := by
  change execExtentWriteAnswer ch order p num .lost s = _
  simp only [execExtentWriteAnswer, answering_of_runs hrun he]

/-- An answer that only counts as answered. -/
theorem extentWrite_counts {ans : WriteAns} (h : ans = .withdrawn ∨ ans = .done ∧ (s.chan ch).phase = .ending ∨
      ans = .failed ∧ e.phase.alive = false ∨ ans = .lost ∧ e.phase.alive = false ∧ e.phase ≠ .creating) :
    exec (.extentWriteAnswer ch order p num ans) s = .next (((s.portAnswered ch p).drained ch p num).settle ch) := by
  change execExtentWriteAnswer ch order p num ans s = _
  simp only [execExtentWriteAnswer, answering_of_runs hrun he]
  obtain rfl | ⟨rfl, hs⟩ | ⟨rfl, ha⟩ | ⟨rfl, ha, hp⟩ := h
  · rfl
  · simp only [hs, if_true]
  · simp only [ha, Bool.false_eq_true, if_false]
  · rw [State.loseDrive_other (e := e) (by rw [(extentAnswered s ch p num).chan]; exact he) ha hp]

/-! ## The answers to verify reads (R77, R81) -/

theorem verifyRead_first (hne : (s.chan ch).phase ≠ .ending) (hp : e.phase = .verify) {ans : VerifyAns}
    (ha : ans = .matched ∨ ans = .mismatch) (hl : l = if ans = .mismatch then insertAsc ext e.repairList else e.repairList) :
    ∃ u, ChanBecomes ch (((s.chan ch).answered p).withElem p fun y => { y with repairList := l, nextVerify := e.nextVerify + 1 })
        s.sts s.token (mismatchOf ch (s.chan ch) e ext ans) s u ∧
      exec (.verifyReadAnswer ch order p ext ans) s = .next ((if e.nextVerify + 1 < (s.chan ch).extents then
        u.sendVerify ch e (e.nextVerify + 1) else u.verifyEnded ch e l).settle ch) := by
  refine ⟨_, (verifyAnswered s ch p e ext ans).setElem p _, ?_⟩
  change execVerifyReadAnswer ch order p ext ans s = _
  simp only [execVerifyReadAnswer, answering_of_runs hrun he, hne, hp, ne_eq, not_true_eq_false, false_and, or_self, if_false, if_true]
  obtain rfl | rfl := ha <;> rw [hl]

theorem verifyRead_again (hne : (s.chan ch).phase ≠ .ending) (hp : e.phase = .reverify) {ans : VerifyAns}
    (ha : ans = .matched ∨ ans = .mismatch) (hl : l = if ans = .mismatch then insertAsc ext e.newList else e.newList) :
    ∃ u, ChanBecomes ch (((s.chan ch).answered p).withElem p fun y => { y with newList := l, repairList := y.repairList.drop 1 })
        s.sts s.token (mismatchOf ch (s.chan ch) e ext ans) s u ∧
      (∀ m rest, e.repairList = m :: rest →
        exec (.verifyReadAnswer ch order p ext ans) s = .next ((u.sendVerify ch e m).settle ch)) ∧
      (e.repairList = [] → exec (.verifyReadAnswer ch order p ext ans) s = .next ((u.verifyEnded ch e l).settle ch)) := by
  have hexec : exec (.verifyReadAnswer ch order p ext ans) s = execVerifyReadAnswer ch order p ext ans s := rfl
  refine ⟨_, (verifyAnswered s ch p e ext ans).setElem p _, fun m rest hlist => ?_, fun hlist => ?_⟩
  all_goals
    rw [hexec]
    simp only [execVerifyReadAnswer, answering_of_runs hrun he, hne, hp, ne_eq, not_true_eq_false, and_false, or_self, if_false,
      reduceCtorEq, hlist]
    obtain rfl | rfl := ha <;> rw [hl]

theorem verifyRead_lost : exec (.verifyReadAnswer ch order p ext .lost) s =
    .next (((s.portAnswered ch p).loseDrive ch p).settle ch) := by
  change execVerifyReadAnswer ch order p ext .lost s = _
  simp only [execVerifyReadAnswer, answering_of_runs hrun he]

theorem verifyRead_withdrawn : exec (.verifyReadAnswer ch order p ext .withdrawn) s =
    .next ((s.portAnswered ch p).settle ch) := by
  change execVerifyReadAnswer ch order p ext .withdrawn s = _
  simp only [execVerifyReadAnswer, answering_of_runs hrun he]

/-! ## The answers to header writes and rewrites (R68, R78, R86) -/

theorem headerWrite_failed (hp : e.phase = .header) : exec (.headerWriteAnswer ch order p .failed) s =
    .next (((s.portAnswered ch p).writeFailed ch p e).settle ch) := by
  change execHeaderWriteAnswer ch order p .failed s = _
  simp only [execHeaderWriteAnswer, answering_of_runs hrun he, hp, ne_eq, not_true_eq_false, if_false]

theorem headerRewrite_done (hp : e.phase = .rewrite) :
    ∃ u, exec (.headerRewriteAnswer ch order p .done) s = .next (u.settle ch) ∧
      ChanBecomes ch (((s.chan ch).answered p).leaving p) s.sts s.token
        [⟨.cc ch, .cat, .rewriteDoneReport ((s.chan ch).clip.getD 0) (e.vol.getD 0)⟩] s u := by
  refine ⟨_, ?_, ((portAnswered_becomes s ch p).tellCat _ rfl).dropElem p⟩
  change execHeaderRewriteAnswer ch order p .done s = _
  simp only [execHeaderRewriteAnswer, answering_of_runs hrun he, hp, ne_eq, not_true_eq_false, if_false]

theorem headerRewrite_failed (hp : e.phase = .rewrite) : exec (.headerRewriteAnswer ch order p .failed) s =
    .next (((s.portAnswered ch p).writeFailed ch p e).settle ch) := by
  change execHeaderRewriteAnswer ch order p .failed s = _
  simp only [execHeaderRewriteAnswer, answering_of_runs hrun he, hp, ne_eq, not_true_eq_false, if_false]

theorem headerRewrite_lost (hp : e.phase = .rewrite) : exec (.headerRewriteAnswer ch order p .lost) s =
    .next (((s.portAnswered ch p).loseDrive ch p).settle ch) := by
  change execHeaderRewriteAnswer ch order p .lost s = _
  simp only [execHeaderRewriteAnswer, answering_of_runs hrun he, hp, ne_eq, not_true_eq_false, if_false]

theorem headerRewrite_counts {ans : WriteAns} (h : e.phase = .rewrite → ans = .withdrawn) :
    exec (.headerRewriteAnswer ch order p ans) s = .next ((s.portAnswered ch p).settle ch) := by
  change execHeaderRewriteAnswer ch order p ans s = _
  simp only [execHeaderRewriteAnswer, answering_of_runs hrun he]
  split
  · rfl
  next hp => rw [h (not_not.mp hp)]

end

/-! ## The loss of a volume (R86) -/

theorem lostVolume_taken (he : (s.chan ch).elem? p = some e) {vol : Serial} (hv : e.vol = some vol) :
    exec (.channelLostVolume ch p vol) s = .next ((s.loseDrive ch p).settle ch) := by
  change execChannelLostVolume ch p vol s = _
  simp only [execChannelLostVolume, he, hv, if_true]

theorem lostVolume_ignored {vol : Serial} (h : ∀ e, (s.chan ch).elem? p = some e → e.vol ≠ some vol) :
    exec (.channelLostVolume ch p vol) s = .next s := by
  change execChannelLostVolume ch p vol s = _
  unfold execChannelLostVolume
  split
  next e he => exact congrArg Host.Outcome.next (if_neg (h e he))
  · rfl

/-- The store has sent more: what was sent first stands before what was sent then. -/
theorem StoreOp.wire_drop {f : State → State} (hf : StoreOp f) {z : State} (hs : s.wire <+: z.wire) :
    (f z).wire.drop s.wire.length = z.wire.drop s.wire.length ++ (f z).wire.drop z.wire.length := by
  conv_lhs => rw [hf.wire z]
  exact List.drop_append_of_le_length hs.length_le

end

end Sys2Proof.Machine
end


section
/-! SUPPORT. How verifications and repair passes begin, run and end (R77, R80 to R82). -/

namespace Sys2Proof.Machine

/-! ## Ascending lists of extents -/

theorem mem_insertAsc {a b : Nat} {l : List Nat} : a ∈ insertAsc b l ↔ a = b ∨ a ∈ l := by
  induction l with
  | nil => simp [insertAsc]
  | cons m ms ih =>
    unfold insertAsc
    split
    · simp
    split
    next hm => simp [hm]
    · simp only [List.mem_cons, ih]
      tauto

theorem insertAsc_ne_nil (n : Nat) (l : List Nat) : insertAsc n l ≠ [] :=
  List.ne_nil_of_mem (mem_insertAsc.mpr (.inl (Eq.refl n)))

theorem insertAsc_ascending {b : Nat} {l : List Nat} (hl : l.Pairwise (· < ·)) : (insertAsc b l).Pairwise (· < ·) := by
  induction l with
  | nil => simp [insertAsc]
  | cons m ms ih =>
    obtain ⟨hm, hms⟩ := List.pairwise_cons.mp hl
    unfold insertAsc
    split
    next hlt => exact List.pairwise_cons.mpr ⟨List.forall_mem_cons.mpr ⟨hlt, fun a ha => hlt.trans (hm a ha)⟩, hl⟩
    next hge =>
      split
      · exact hl
      · refine List.pairwise_cons.mpr ⟨fun a ha => ?_, ih hms⟩
        obtain rfl | ha := mem_insertAsc.mp ha
        · omega
        · exact hm a ha

/-- A list put together by insertion is ascending, and has what it was put together of. -/
theorem foldl_insertAsc (l acc : List Nat) (hacc : acc.Pairwise (· < ·)) :
    (l.foldl (fun l n => insertAsc n l) acc).Pairwise (· < ·) ∧
      ∀ a, a ∈ l.foldl (fun l n => insertAsc n l) acc ↔ a ∈ l ∨ a ∈ acc := by
  induction l generalizing acc with
  | nil => exact ⟨hacc, by simp⟩
  | cons b l ih =>
    obtain ⟨hasc, hmem⟩ := ih (insertAsc b acc) (insertAsc_ascending hacc)
    refine ⟨hasc, fun a => (hmem a).trans ?_⟩
    rw [mem_insertAsc, List.mem_cons]
    tauto

/-! ## Several elements at once -/

/-- The elements of these ports have left the order, and any repair pass. -/
def Channel.leavingAll (c : Channel) (ps : List Port) : Channel :=
  { c with
    dests := c.dests.map fun e => if e.port ∈ ps then e.left else e
    repair := c.repair.map fun r => { r with members := r.members.filter fun x => x ∉ ps } }

theorem Channel.leavingAll_nil (c : Channel) : c.leavingAll [] = c := by
  simp [Channel.leavingAll]

theorem Channel.leavingAll_cons (c : Channel) (p : Port) (ps : List Port) :
    (c.leaving p).leavingAll ps = c.leavingAll (p :: ps) := by
  have hdests : ((c.leaving p).dests.map fun e => if e.port ∈ ps then e.left else e) =
      c.dests.map fun e => if e.port ∈ p :: ps then e.left else e := by
    simp only [Channel.leaving, Channel.withElem, List.map_map]
    refine List.map_congr_left fun e _ => ?_
    by_cases hp : e.port = p <;> by_cases hps : e.port ∈ ps <;> simp [hp, hps, Elem.left]
  have hrepair : ((c.leaving p).repair.map fun r => ({ r with members := r.members.filter fun x => x ∉ ps } : RepairPass)) =
      c.repair.map fun r => { r with members := r.members.filter fun x => x ∉ p :: ps } := by
    simp only [Channel.leaving, Option.map_map, Function.comp_def, RepairPass.without, List.filter_filter]
    refine congrArg (fun f => c.repair.map f) (funext fun r => ?_)
    congr 1
    refine List.filter_congr fun x _ => ?_
    by_cases hp : x = p <;> simp [hp]
  rw [Channel.leavingAll, hdests, hrepair]
  rfl

/-- The elements of these ports are in VERIFY, each with its first extent asked for. -/
def Channel.verifyingAll (c : Channel) (ps : List Port) : Channel :=
  { c with dests := c.dests.map fun e => if e.port ∈ ps then e.verifying else e, outstanding := askedOf c.outstanding ps }

theorem Channel.verifyingAll_nil (c : Channel) : c.verifyingAll [] = c := by
  simp [Channel.verifyingAll, askedOf]

theorem Channel.verifyingAll_cons (c : Channel) (p : Port) (ps : List Port) :
    ((c.withElem p Elem.verifying).asking p).verifyingAll ps = c.verifyingAll (p :: ps) := by
  have hdests : (((c.withElem p Elem.verifying).asking p).dests.map fun e => if e.port ∈ ps then e.verifying else e) =
      c.dests.map fun e => if e.port ∈ p :: ps then e.verifying else e := by
    simp only [Channel.asking, Channel.withElem, List.map_map]
    refine List.map_congr_left fun e _ => ?_
    by_cases hp : e.port = p <;> by_cases hps : e.port ∈ ps <;> simp [hp, hps, Elem.verifying]
  rw [Channel.verifyingAll, hdests]
  rfl

/-- Among elements of ports of their own, those of some elements' ports are these elements. -/
theorem mem_ports_filter {l : List Elem} (hl : (l.map (·.port)).Nodup) (q : Elem → Bool) {e : Elem} (he : e ∈ l) :
    e.port ∈ (l.filter q).map (·.port) ↔ q e = true := by
  refine ⟨fun h => ?_, fun h => List.mem_map.mpr ⟨e, List.mem_filter.mpr ⟨he, h⟩, rfl⟩⟩
  obtain ⟨f, hf, hport⟩ := List.mem_map.mp h
  obtain ⟨hmem, hq⟩ := List.mem_filter.mp hf
  rwa [← List.inj_on_of_nodup_map hl hmem he hport]

/-- A change of the elements of some elements' ports is a change of these elements. -/
theorem map_ports_filter {l : List Elem} (hl : (l.map (·.port)).Nodup) (q : Elem → Bool) (f : Elem → Elem) :
    (l.map fun e => if e.port ∈ (l.filter q).map (·.port) then f e else e) = l.map fun e => if q e = true then f e else e :=
  List.map_congr_left fun e he => by simp only [mem_ports_filter hl q he]

section
variable {ch : Chan} {c : Channel} {x : Staging} {n num ext order : Nat} {w : List Wire} {s t : State} {r : RepairPass}

namespace ChanBecomes

theorem endCopies (h : ChanBecomes ch c x n w s t) (es : List Elem) (final : CopyState) (cause : CopyCause) :
    ChanBecomes ch (c.leavingAll (es.map (·.port))) x n
      (w ++ es.map fun e => ⟨.cc ch, .cat, .copyEndReport (c.clip.getD 0) (e.vol.getD 0) final cause⟩) s
      (es.foldl (fun t e => t.endCopy ch e final cause) t) := by
  induction es generalizing c w t with
  | nil => exact (h.of_sent (by simp)).of_chan c.leavingAll_nil.symm
  | cons e es ih =>
    exact ((ih (h.endCopy e final cause)).of_sent (by rw [List.append_assoc]; rfl)).of_chan (c.leavingAll_cons e.port _)

end ChanBecomes

/-- The messages with which the verification of a copy begins (R77). -/
def verifyBegun (ch : Chan) (c : Channel) (e : Elem) : List Wire :=
  [⟨.cc ch, .cat, .verifyBegunReport (c.clip.getD 0) (e.vol.getD 0)⟩,
    ⟨.cc ch, .dp e.port, .verifyRead ch e.port (c.order.getD 0) (e.vol.getD 0) 0 (extentBlock c.span (e.hb.getD 0) 0)
      (extentLen c.dataLen 0) (c.sums.getD 0 0)⟩]

namespace ChanBecomes

theorem beginVerifies (h : ChanBecomes ch c x n w s t) (es : List Elem) :
    ChanBecomes ch (c.verifyingAll (es.map (·.port))) x n (w ++ es.flatMap (verifyBegun ch c)) s
      (es.foldl (fun t e => t.beginVerify ch e) t) := by
  induction es generalizing c w t with
  | nil => exact (h.of_sent (by simp)).of_chan c.verifyingAll_nil.symm
  | cons e es ih =>
    exact ((ih (h.beginVerify e)).of_sent (by rw [List.append_assoc]; rfl)).of_chan (c.verifyingAll_cons e.port _)

/-- A repair pass that could not be begun (R80). -/
theorem dropRepair (h : ChanBecomes ch c x n w s t) :
    ChanBecomes ch { c.leavingAll ((c.dests.filter c.member).map (·.port)) with repair := none } x n
      (w ++ (c.dests.filter c.member).map fun e => ⟨.cc ch, .cat, .copyEndReport (c.clip.getD 0) (e.vol.getD 0) .failed .cardGone⟩) s
      (t.dropRepair ch) := by
  have hend := h.endCopies (c.dests.filter c.member) .failed .cardGone
  unfold State.dropRepair
  rw [h.chan]
  dsimp only
  rw [hend.chan]
  exact hend.setChan _

end ChanBecomes

/-- The context of a channel whose repair pass begins (R80). -/
def Channel.repairing (c : Channel) (exts : List Nat) (tag : Nat) : Channel :=
  { c with
    repair := some { exts := exts, members := (c.dests.filter fun e => e.phase = .repairWait).map (·.port) }
    dests := c.dests.map fun e => if e.phase = .repairWait then { e with phase := .repair, toWrite := e.repairList } else e
    claimAsked := true, claimTag := tag }

theorem ChanBecomes.beginRepair (h : ChanBecomes ch c x n w s t) : ∃ exts : List Nat, exts.Pairwise (· < ·) ∧
    (∀ a, a ∈ exts ↔ ∃ e ∈ c.dests.filter (fun e => e.phase = .repairWait), a ∈ e.repairList) ∧
    ChanBecomes ch (c.repairing exts n) x (n + 1) (w ++ [⟨.cc ch, .ci, .claim ch c.serial n⟩]) s (t.beginRepair ch) := by
  obtain ⟨hasc, hmem⟩ := foldl_insertAsc ((c.dests.filter fun e => e.phase = .repairWait).flatMap fun e => e.repairList) []
    List.Pairwise.nil
  refine ⟨_, hasc, fun a => (hmem a).trans (by simp only [List.mem_flatMap, List.not_mem_nil, or_false]), ?_⟩
  unfold State.beginRepair
  rw [h.chan]
  exact (h.setChan { c with
    repair := some { exts := ((c.dests.filter fun e => e.phase = .repairWait).flatMap fun e => e.repairList).foldl
                       (fun l n => insertAsc n l) []
                     members := (c.dests.filter fun e => e.phase = .repairWait).map (·.port) }
    dests := c.dests.map fun e => if e.phase = .repairWait then { e with phase := .repair, toWrite := e.repairList } else e }).sendClaim

/-! ## What FINISHING calls for (R77, R80, R89) -/

/-- What a channel in FINISHING does once the verifications have begun. -/
def State.proceed (t : State) (ch : Chan) : State :=
  let c := t.chan ch
  if c.repair.isSome then t
  else if c.dests.any fun e => e.phase = .repairWait then t.beginRepair ch
  else if (c.dests.all fun e => e.phase = .skipped || e.phase = .dropped) ∧ t.sts.held ch = 0 ∧ c.noneOutstanding then
    t.endOrder ch .complete
  else t

/-- A copy whose extents are all written and whose verification has not begun. -/
def Channel.verifiable (c : Channel) (e : Elem) : Bool := e.phase = .writing ∧ e.written = c.extents

theorem State.finish_eq (s : State) (ch : Chan) : s.finish ch =
    (((s.chan ch).dests.filter (s.chan ch).verifiable).foldl (fun t e => t.beginVerify ch e) s).proceed ch := rfl

theorem State.settle_finishing (h : (s.chan ch).phase = .finishing) : s.settle ch = s.finish ch := by
  simp only [State.settle, h]

theorem State.settle_of_none_verifiable (h : (s.chan ch).phase = .finishing)
    (hnone : ∀ e ∈ (s.chan ch).dests, ¬(e.phase = .writing ∧ e.written = (s.chan ch).extents)) :
    s.settle ch = s.proceed ch := by
  rw [State.settle_finishing h, State.finish_eq, List.filter_eq_nil_iff.mpr (by simpa [Channel.verifiable] using hnone)]
  rfl

/-- With the verifications begun, the channel goes on as it would have (R77). -/
theorem settle_beginsVerifies (hs : (s.chan ch).phase = .finishing) (hports : ((s.chan ch).dests.map (·.port)).Nodup) :
    ∃ u, s.settle ch = u.settle ch ∧
      ChanBecomes ch ((s.chan ch).verifyingAll (((s.chan ch).dests.filter (s.chan ch).verifiable).map (·.port))) s.sts s.token
        (((s.chan ch).dests.filter (s.chan ch).verifiable).flatMap (verifyBegun ch (s.chan ch))) s u := by
  have h := (chanBecomes_refl s ch).beginVerifies ((s.chan ch).dests.filter (s.chan ch).verifiable)
  refine ⟨_, ?_, h.of_sent (List.nil_append _)⟩
  rw [State.settle_finishing hs, State.finish_eq, State.settle_of_none_verifiable]
  · rw [h.chan]
    exact hs
  · rw [h.chan, Channel.verifyingAll, map_ports_filter hports]
    intro e he
    obtain ⟨d, -, rfl⟩ := List.mem_map.mp he
    split
    · exact fun hw => by simp [Elem.verifying] at hw
    next hn => simpa [Channel.verifiable] using hn

theorem settle_beginsRepair (hs : (s.chan ch).phase = .finishing) (hr : (s.chan ch).repair = none)
    (hnone : ∀ e ∈ (s.chan ch).dests, ¬(e.phase = .writing ∧ e.written = (s.chan ch).extents))
    (hw : (s.chan ch).dests.filter (fun e => e.phase = .repairWait) ≠ []) : s.settle ch = s.beginRepair ch := by
  rw [State.settle_of_none_verifiable hs hnone, State.proceed]
  simp only [hr, Option.isSome_none, Bool.false_eq_true, if_false]
  refine if_pos ?_
  obtain ⟨e, he⟩ := List.exists_mem_of_ne_nil _ hw
  exact List.any_eq_true.mpr ⟨e, List.mem_filter.mp he⟩

/-! ## The claim of a repair pass (R80) -/

/-- The report that the repair pass has begun, where its claim had not been answered yet. -/
theorem ChanBecomes.repairBegun (h : ChanBecomes ch c x n w s t) {d : Channel} (hd : d.phase = .finishing) :
    ChanBecomes ch c x n (w ++ if d.claimAsked = true then [⟨.cc ch, .ods, .repairBegunReport ch (d.order.getD 0)⟩] else []) s
      (if d.claimAsked = true ∧ d.phase = .finishing then t.send (.cc ch) .ods [.repairBegunReport ch (d.order.getD 0)] else t) := by
  by_cases ha : d.claimAsked = true
  · rw [if_pos ha, if_pos ⟨ha, hd⟩]
    exact h.send _ _ _ rfl
  · rw [if_neg ha, if_neg fun hb => ha hb.1]
    exact h.of_sent (List.append_nil w).symm

section
variable {tag : Nat} (ht : (s.chan ch).claimTag = tag) (hs : (s.chan ch).phase = .finishing)
include ht hs

theorem claim_granted_finishing (h : (s.chan ch).claimAsked = true ∨ (s.chan ch).claim = .waiting)
    (hc : (s.chan ch).claim ≠ .held) (hr : (s.chan ch).repair = some r) (hext : r.exts[r.done]? = some ext) :
    ∃ t, exec (.claimAnswer ch tag .granted) s = .next t ∧
      ChanBecomes ch ({ s.chan ch with claimAsked := false, claim := .held, repair := some { r with granted := true } }.filling
          ext .repair s.token) s.sts (s.token + 1)
        ((if (s.chan ch).claimAsked = true then [⟨.cc ch, .ods, .repairBegunReport ch ((s.chan ch).order.getD 0)⟩] else []) ++
          extentRequests ch (s.chan ch) ext .repair s.token) s t := by
  refine ⟨_, ?_, ((((chanBecomes_refl s ch).setChan { s.chan ch with claimAsked := false, claim := .held }).setChan
    { s.chan ch with claimAsked := false, claim := .held, repair := some { r with granted := true } }).repairBegun
      (d := s.chan ch) hs).startExtent ext .repair⟩
  change execClaimAnswer ch tag .granted s = _
  unfold execClaimAnswer
  dsimp only
  rw [if_neg (claim_standing ht (h.imp_right fun hw => by simp [hw])), if_neg hc]
  simp only [hs, hr, hext, Option.bind_some, Option.map_some, State.setChan_chan]

theorem claim_waiting_finishing (ha : (s.chan ch).claimAsked = true) (hc : (s.chan ch).claim = .none) :
    ∃ t, exec (.claimAnswer ch tag .waiting) s = .next t ∧
      ChanBecomes ch { s.chan ch with claimAsked := false, claim := .waiting } s.sts s.token
        [⟨.cc ch, .ods, .repairBegunReport ch ((s.chan ch).order.getD 0)⟩] s t := by
  refine ⟨_, ?_, ((chanBecomes_refl s ch).setChan { s.chan ch with claimAsked := false, claim := .waiting }).send _ _ _ rfl⟩
  change execClaimAnswer ch tag .waiting s = _
  unfold execClaimAnswer
  dsimp only
  rw [if_neg (claim_standing ht (.inl ha)), if_neg (not_not.mpr hc)]
  simp only [hs, ha, and_self, if_true, reduceCtorEq, if_false]

theorem claim_cardGone_repair (ha : (s.chan ch).claimAsked = true) :
    ∃ u, exec (.claimAnswer ch tag .cardGone) s = .next (u.settle ch) ∧
      ChanBecomes ch { Channel.leavingAll { s.chan ch with claimAsked := false, claim := .none }
          (((s.chan ch).dests.filter (s.chan ch).member).map (·.port)) with repair := none } s.sts s.token
        (((s.chan ch).dests.filter (s.chan ch).member).map fun e =>
          ⟨.cc ch, .cat, .copyEndReport ((s.chan ch).clip.getD 0) (e.vol.getD 0) .failed .cardGone⟩) s u := by
  refine ⟨_, ?_, ((chanBecomes_refl s ch).setChan { s.chan ch with claimAsked := false, claim := .none }).dropRepair⟩
  change execClaimAnswer ch tag .cardGone s = _
  unfold execClaimAnswer
  dsimp only
  rw [if_neg (claim_standing ht (.inl ha))]
  simp only [hs, ha, if_true]

theorem claim_cardGone_held (ha : (s.chan ch).claimAsked = false) (hc : (s.chan ch).claim ≠ .none) :
    ∃ u, exec (.claimAnswer ch tag .cardGone) s = .next (u.enterEnding ch (.failed .cardGone)) ∧
      ChanBecomes ch { s.chan ch with claim := .none } s.sts s.token [] s u := by
  refine ⟨_, ?_, ((chanBecomes_refl s ch).setChan { s.chan ch with claimAsked := false, claim := .none }).of_chan (by rw [← ha])⟩
  change execClaimAnswer ch tag .cardGone s = _
  unfold execClaimAnswer
  dsimp only
  rw [if_neg (claim_standing ht (.inr hc))]
  simp only [hs, ha, Bool.false_eq_true, if_false, State.cardLoss]

end

/-! ## The sums of a repair pass (R81) -/

/-- A copy that needs an extent of the repair pass. -/
def Channel.needs (c : Channel) (ext : Nat) (e : Elem) : Bool := c.member e && e.repairList.contains ext

theorem State.sumAccepted_repair (t : State) (ch : Chan) (num ext : Nat) (ans : SumAns) : t.sumAccepted ch num ext .repair ans =
    (if (t.chan ch).repair.any (fun r => r.exts.getLast? = some ext && r.done = r.exts.length) = true then
      (t.handOn ch num ext ((t.chan ch).needs ext)).repairDone ch else t.handOn ch num ext ((t.chan ch).needs ext)).settle ch := rfl

section
variable (hrun : (s.chan ch).runs order = true) (hne : (s.chan ch).phase ≠ .ending)
  (hsum : (s.chan ch).summing.find? (fun x => x.2.1 = ext && x.2.2 = .repair) = some (num, ext, .repair))
  (hr : (s.chan ch).repair = some r)
include hrun hne hsum hr

/-- The extent is handed on; where it was the pass's last, the pass ends. -/
theorem sum_repair : exec (.sumAnswer ch order ext .repair .equal) s =
    .next ((if r.exts.getLast? = some ext ∧ r.done = r.exts.length then
      ((s.setChan ch ((s.chan ch).sumTaken ext .repair)).handOn ch num ext (((s.chan ch).sumTaken ext .repair).needs ext)).repairDone ch
      else (s.setChan ch ((s.chan ch).sumTaken ext .repair)).handOn ch num ext (((s.chan ch).sumTaken ext .repair).needs ext)).settle
        ch) := by
  have hrepair : ((s.chan ch).sumTaken ext .repair).repair = some r := hr
  rw [sum_accepted hrun hne hsum (.inr rfl), State.sumAccepted_repair, State.setChan_chan, hrepair]
  simp only [Option.any_some, Bool.and_eq_true, decide_eq_true_eq]

end
end

end Sys2Proof.Machine
end


section
/-! SUPPORT. The statement about writing, verifying and repairing (R75, R77 to R82, R86), put together case by case. -/

namespace Sys2Proof.Machine

section
variable {ch : Chan} {order num ext : Nat} {p : Port} {s : State} {e : Elem} {vol : Serial}

/-- A failed write of any kind: the answer has been counted, and the copy is dropped (R68, R75, R78). -/
theorem write_failed {r : Instr} {b : State} (hrun : (s.chan ch).runs order = true) (he : (s.chan ch).elem? p = some e)
    (ha : e.phase.alive = true) (hr : r = .extentWriteAnswer ch order p num .failed ∧ b = s.drained ch p num ∨
      r = .headerWriteAnswer ch order p .failed ∧ e.phase = .header ∧ b = s ∨
      r = .headerRewriteAnswer ch order p .failed ∧ e.phase = .rewrite ∧ b = s) :
    ∃ u, exec r s = .next (u.settle ch) ∧
      ChanBecomes ch (((s.chan ch).answered p).leaving p) b.sts s.token (b.wire.drop s.wire.length ++
        ⟨.cc ch, .cat, .copyEndReport ((s.chan ch).clip.getD 0) (e.vol.getD 0) .failed .writeFailed⟩ ::
          if (s.chan ch).outstanding[p] - 1 = 0 then [] else [⟨.cc ch, .dp p, .withdrawal ch p order⟩]) s u := by
  obtain ⟨-, ho⟩ := Channel.runs_iff.mp hrun
  have horder : ((s.chan ch).answered p).order.getD 0 = order := by rw [Channel.answered, ho]; rfl
  have failed {b t : State} (h : ChanBecomes ch ((s.chan ch).answered p) b.sts s.token (b.wire.drop s.wire.length) s t) :=
    h.writeFailed (p := p) (e := e) he
  rw [Channel.answered_outstanding, horder] at failed
  obtain ⟨rfl, rfl⟩ | ⟨rfl, hp, rfl⟩ | ⟨rfl, hp, rfl⟩ := hr
  · exact ⟨_, extentWrite_failed hrun he ha, failed (extentAnswered s ch p num)⟩
  · exact ⟨_, headerWrite_failed hrun he hp, failed ((portAnswered_becomes b ch p).of_sent (by simp))⟩
  · exact ⟨_, headerRewrite_failed hrun he hp, failed ((portAnswered_becomes b ch p).of_sent (by simp))⟩

/-- A drive found lost by an answer, or told lost (R86). -/
theorem drive_lost {r : Instr} (hrun : (s.chan ch).runs order = true) (he : (s.chan ch).elem? p = some e)
    (ha : e.phase.alive = true) {b : State} (hb : b = (s.sts.awaiting ch p).foldl (fun t n => t.drained ch p n) s) {n : Nat}
    (hr : r = .verifyReadAnswer ch order p ext .lost ∧ n = (s.chan ch).outstanding[p] - 1 ∨
      r = .headerWriteAnswer ch order p .lost ∧ e.phase = .header ∧ n = (s.chan ch).outstanding[p] - 1 ∨
      r = .headerRewriteAnswer ch order p .lost ∧ e.phase = .rewrite ∧ n = (s.chan ch).outstanding[p] - 1 ∨
      r = .channelLostVolume ch p vol ∧ e.vol = some vol ∧ n = (s.chan ch).outstanding[p]) :
    ∃ u, exec r s = .next (u.settle ch) ∧ Machine.elemBecomes ch p e.left n s u ∧ u.sts = b.sts ∧
      Machine.sends s u (b.wire.drop s.wire.length) := by
  have answered := (portAnswered_becomes s ch p).loseDrive s (e := e) he ha hb
  have told := (chanBecomes_refl s ch).loseDrive s (e := e) he ha hb
  have lost : Machine.elemBecomes ch p e.left ((s.chan ch).outstanding[p] - 1) s ((s.portAnswered ch p).loseDrive ch p) :=
    answered.elemLeaves (elemTurns_self he).answered.leaving rfl
  obtain ⟨rfl, rfl⟩ | ⟨rfl, hp, rfl⟩ | ⟨rfl, hp, rfl⟩ | ⟨rfl, hv, rfl⟩ := hr
  · exact ⟨_, verifyRead_lost hrun he, lost, answered.sts, answered.sends⟩
  · exact ⟨_, headerWrite_lost hrun he hp, lost, answered.sts, answered.sends⟩
  · exact ⟨_, headerRewrite_lost hrun he hp, lost, answered.sts, answered.sends⟩
  · exact ⟨_, lostVolume_taken he hv, told.elemLeaves (elemTurns_self he).leaving rfl, told.sts, told.sends⟩

/-- An extent write answered LOST: the port leaves that buffer's pending set first (R86). -/
theorem extentWrite_lost_becomes (he : (s.chan ch).elem? p = some e) (ha : e.phase.alive = true) {b : State}
    (hb : b = ((s.drained ch p num).sts.awaiting ch p).foldl (fun t n => t.drained ch p n) (s.drained ch p num)) :
    ChanBecomes ch (((s.chan ch).answered p).leaving p) b.sts s.token (b.wire.drop s.wire.length) s
      (((s.portAnswered ch p).drained ch p num).loseDrive ch p) := by
  refine ((extentAnswered s ch p num).loseDrive (s.drained ch p num) (e := e) he ha hb).of_sent ?_
  have hpre : s.wire <+: (s.drained ch p num).wire := by
    rw [(StoreOp.drained ch p num).wire s]
    exact ⟨_, rfl⟩
  rw [hb]
  exact (StoreOp.wire_drop (.foldl (fun n => .drained ch p n) _) hpre).symm

end

/-- Settles O20: one case of a command, or of what a phase calls for, after the other. -/
theorem copiesAreWrittenAndVerified : Obligations.CopiesAreWrittenAndVerified := by
  refine ⟨⟨?_, ?_, ?_, ?_, ?_, ?_, ?_, ?_, ?_, fun _ _ _ _ => lostVolume_ignored,
    ⟨?_, ?_, ?_, ?_, ?_, ?_, ?_, ?_, ?_, ?_, ?_, ?_, ?_, ?_⟩, ?_, ?_, ?_, ?_⟩, ?_, ?_, ?_, ?_, ?_, ?_, ?_⟩
  · rintro ch order p num s c e b rfl hi hne ho he hp rfl
    have hu := extentWrite_done (num := num) (Channel.runs_iff.mpr ⟨hi, ho⟩) he hne
    obtain rfl := Channel.port_of_elem? he
    have h := (extentAnswered s ch e.port num).extentDone_writing hp (((s.sts.buf? num).map (·.ext)).getD 0)
    have turns := (elemTurns_self he).answered.withElem (fun e => { e with written := e.written + 1 }) fun _ => rfl
    exact ⟨_, hu, h.elemChanges turns (by simp [hp]), by rw [h.chan]; exact turns.outstanding_self, h.sts, h.sends⟩
  · rintro ch order p num s c e b rfl hi ho he ha hle rfl
    obtain ⟨u, hu, h⟩ := write_failed (Channel.runs_iff.mpr ⟨hi, ho⟩) he ha (.inl ⟨rfl, rfl⟩)
    rw [if_pos (by omega)] at h
    exact ⟨u, hu, h.elemLeaves (elemTurns_self he).answered.leaving rfl, h.sts, h.sends⟩
  · rintro s ch p c e rfl he
    obtain rfl := Channel.port_of_elem? he
    have h := (chanBecomes_refl s ch).beginVerify e
    exact ⟨h.elemChanges ((elemTurns_self he).withElem Elem.verifying fun _ => rfl).asking nofun, h.sts, h.sends⟩
  · rintro ch order p ext ans s c e l rfl hi hne ho he hp ha rfl hmore
    obtain ⟨u, h, hu⟩ := verifyRead_first (ext := ext) (Channel.runs_iff.mpr ⟨hi, ho⟩) he hne hp ha rfl
    obtain rfl := Channel.port_of_elem? he
    have h := h.sendVerify e (e.nextVerify + 1)
    rw [if_pos hmore] at hu
    have turns := ((elemTurns_self he).answered.withElem (fun y => { y with
      repairList := if ans = .mismatch then insertAsc ext e.repairList else e.repairList
      nextVerify := e.nextVerify + 1 }) fun _ => rfl).asking
    refine ⟨_, hu, h.elemChanges turns (by simp [hp]), h.sts, (h.of_sent ?_).sends⟩
    simp only [Channel.withElem, Channel.answered, ho]
    rfl
  · rintro ch order p ext s c e rfl hi hne ho he hp hnil hlast
    obtain ⟨u, h, hu⟩ := verifyRead_first (ext := ext) (l := []) (Channel.runs_iff.mpr ⟨hi, ho⟩) he hne hp (.inl rfl)
      (by simp [hnil])
    obtain rfl := Channel.port_of_elem? he
    have h := h.verifyEnded_clean e
    rw [if_neg (Nat.not_lt.mpr hlast)] at hu
    have turns := (((elemTurns_self he).answered.withElem
      (fun y => { y with repairList := [], nextVerify := e.nextVerify + 1 }) fun _ => rfl).withElem
      (fun y => { y with phase := .rewrite, repairList := [], newList := [] }) fun _ => rfl).asking
    refine ⟨_, hu, h.elemChanges (turns.of_elem (by simp only [hnil])) nofun, h.sts, (h.of_sent ?_).sends⟩
    simp only [Channel.withElem, Channel.answered, ho]
    rfl
  · rintro ch order p ext s c e l rfl hi hne ho he hp rfl hlast hpass
    obtain ⟨u, h, hu⟩ := verifyRead_first (ext := ext) (l := insertAsc ext e.repairList) (Channel.runs_iff.mpr ⟨hi, ho⟩)
      he hne hp (.inr rfl) rfl
    obtain rfl := Channel.port_of_elem? he
    have h := h.verifyEnded_waits (insertAsc_ne_nil ext e.repairList) hpass
    rw [if_neg (Nat.not_lt.mpr hlast)] at hu
    have turns := ((elemTurns_self he).answered.withElem (fun y => { y with
      repairList := insertAsc ext e.repairList, nextVerify := e.nextVerify + 1 }) fun _ => rfl).withElem (fun y => { y with
        phase := .repairWait, passes := y.passes + 1, repairList := insertAsc ext e.repairList, newList := [] }) fun _ => rfl
    exact ⟨_, hu, h.elemChanges turns nofun, h.sts, h.sends⟩
  · rintro ch order p s c e rfl hi ho he hp
    obtain ⟨u, hu, h⟩ := headerRewrite_done (Channel.runs_iff.mpr ⟨hi, ho⟩) he hp
    exact ⟨u, hu, h.elemLeaves (elemTurns_self he).answered.leaving rfl, h.sts, h.sends⟩
  · rintro ch order p s c e r rfl hi ho he hle hr
    have ha : e.phase.alive = true := by obtain ⟨-, hp⟩ | ⟨-, hp⟩ := hr <;> rw [hp] <;> rfl
    obtain ⟨u, hu, h⟩ := write_failed (num := 0) (b := s) (Channel.runs_iff.mpr ⟨hi, ho⟩) he ha
      (.inr (hr.imp (fun h => ⟨h.1, h.2, rfl⟩) fun h => ⟨h.1, h.2, rfl⟩))
    rw [if_pos (by omega)] at h
    exact ⟨u, hu, h.elemLeaves (elemTurns_self he).answered.leaving rfl, h.sts, (h.of_sent (by simp)).sends⟩
  · rintro ch p vol s e he hv ha hnone
    have h := (chanBecomes_refl s ch).loseDrive s he ha rfl
    rw [Staging.awaiting_eq_nil hnone] at h
    exact ⟨_, lostVolume_taken he hv, h.elemLeaves (elemTurns_self he).leaving rfl, h.sts, (h.of_sent (by simp)).sends⟩
  · rintro s ch c ms rfl hs hr hnone rfl hw
    obtain ⟨exts, hasc, hmem, h⟩ := (chanBecomes_refl s ch).beginRepair
    exact ⟨_, exts, settle_beginsRepair hs hr hnone hw, hasc, hmem, h.chanBecomes, h.token, h.sends⟩
  · rintro ch tag s c r ext rfl ht ha hc hs hr hext
    obtain ⟨t, hu, h⟩ := claim_granted_finishing ht hs ha hc hr hext
    exact ⟨t, hu, h.chanBecomes, h.token, h.sends⟩
  · rintro ch tag s c rfl ht ha hc hs
    obtain ⟨t, hu, h⟩ := claim_waiting_finishing ht hs ha hc
    exact ⟨t, hu, h.chanBecomes, h.token, h.sends⟩
  · rintro ch tag s c rfl ht ha hs hports
    obtain ⟨u, hu, h⟩ := claim_cardGone_repair ht hs ha
    refine ⟨u, hu, (h.of_chan ?_).chanBecomes, h.token, h.sends⟩
    simp only [Channel.leavingAll, map_ports_filter hports, Elem.left]
  · rintro ch tag s c rfl ht ha hc hs
    obtain ⟨u, hu, h⟩ := claim_cardGone_held ht hs ha hc
    exact ⟨u, hu, h.chanBecomes⟩
  · rintro ch bytes s c f num rfl hout hne hf hnum hp hless
    obtain ⟨t, ht, h⟩ := burst_more hout hne hf hnum hless
    rw [liveBytesOf, if_neg (by simp [hp])] at h
    exact ⟨t, ht, h.chan, h.moves.others, h.moves.onlyCc, h.token, h.sts, h.sends⟩
  · rintro ch bytes s c f num b r rfl hout hne hf hnum hp hfull hr hlast hb
    obtain ⟨hb, u, hu, h⟩ := burst_full hout hne hf hnum hfull hb
    have h := h.extentFull_repair_last (f := f.took bytes.length) (num := num) hp hb hr hlast
    rw [liveBytesOf, if_neg (by simp [hp])] at h
    refine ⟨_, hu, h.chan.trans ?_, h.moves.others, h.moves.onlyCc, h.token, h.sts, (h.of_sent ?_).sends⟩
    · simp only [Channel.summed, Filling.took, hp]
    · simp only [sumReportOf, Filling.took, hp, List.nil_append]
  · rintro ch order ext s c num r es rfl hi hne ho hsum hr rfl hes hlast hdone hc
    have hu := sum_repair (Channel.runs_iff.mpr ⟨hi, ho⟩) hne hsum hr
    have h := (((chanBecomes_refl s ch).setChan ((s.chan ch).sumTaken ext .repair)).handOn_written (num := num) (ext := ext)
      (writes := ((s.chan ch).sumTaken ext .repair).needs ext) rfl hes).repairDone
    rw [if_pos ⟨hlast, hdone⟩] at hu
    refine ⟨_, hu, ?_, h.sts, (h.of_sent ?_).sends⟩
    · rw [h.chan, h.sts]
      exact h.chanBecomes_of_sts
    · simp only [Channel.sumTaken, hc, ho, reduceCtorEq, if_false, Option.getD_some, List.nil_append, List.cons_append]
      rfl
  · rintro ch order ext s c num r es rfl hi hne ho hsum hr rfl hmore
    have hu := sum_repair (Channel.runs_iff.mpr ⟨hi, ho⟩) hne hsum hr
    have taken := (chanBecomes_refl s ch).setChan ((s.chan ch).sumTaken ext .repair)
    rw [if_neg fun h => hmore h.1] at hu
    by_cases hes : (s.chan ch).dests.filter ((s.chan ch).needs ext) = []
    · have h := taken.handOn_freed s (num := num) (ext := ext) (writes := ((s.chan ch).sumTaken ext .repair).needs ext) hes
      refine ⟨_, hu, ?_, fun _ => ⟨h.sts, h.sends⟩, fun hsome => absurd hes hsome⟩
      rw [h.chan, h.sts]
      exact h.chanBecomes_of_sts
    · have h := taken.handOn_written (num := num) (ext := ext)
        (writes := ((s.chan ch).sumTaken ext .repair).needs ext) rfl hes
      refine ⟨_, hu, ?_, fun hnone => absurd hnone hes, fun _ => ⟨h.sts, (h.of_sent ?_).sends⟩⟩
      · rw [h.chan, h.sts]
        exact h.chanBecomes_of_sts
      · simp only [Channel.sumTaken, ho, Option.getD_some, List.nil_append]
        rfl
  · rintro ch order p num ext s c e b rfl hi hne ho he hp hext hmore rfl
    have hu := extentWrite_done (num := num) (Channel.runs_iff.mpr ⟨hi, ho⟩) he hne
    rw [hext] at hu
    obtain rfl := Channel.port_of_elem? he
    have h := (extentAnswered s ch e.port num).extentDone_repairing hp hmore
    have turns := (elemTurns_self he).answered.withElem
      (fun y => { y with toWrite := e.toWrite.filter fun n => n ≠ ext }) fun _ => rfl
    exact ⟨_, hu, h.elemChanges turns (by simp [hp]), h.sts, h.sends⟩
  · rintro ch order p num ext s c e b n l rfl hi hne ho he hp hext hall hlist rfl
    have hu := extentWrite_done (num := num) (Channel.runs_iff.mpr ⟨hi, ho⟩) he hne
    rw [hext] at hu
    obtain rfl := Channel.port_of_elem? he
    have h := (extentAnswered s ch e.port num).extentDone_repaired hp hall hlist
    have turns := ((elemTurns_self he).answered.withElem (fun y =>
      { y with phase := .reverify, toWrite := [], newList := [], repairList := y.repairList.drop 1 }) fun _ => rfl).asking
    refine ⟨_, hu, h.elemChanges (turns.of_elem (by simp only [hlist]; rfl)) nofun, h.sts, (h.of_sent ?_).sends⟩
    simp only [Channel.answered, ho]
    rfl
  · rintro ch order p ext ans s c e l n rest rfl hi hne ho he hp ha rfl hlist
    obtain ⟨u, h, hu, -⟩ := verifyRead_again (ext := ext) (Channel.runs_iff.mpr ⟨hi, ho⟩) he hne hp ha rfl
    have hu := hu n rest hlist
    obtain rfl := Channel.port_of_elem? he
    have h := h.sendVerify e n
    have turns := ((elemTurns_self he).answered.withElem (fun y => { y with
      newList := if ans = .mismatch then insertAsc ext e.newList else e.newList
      repairList := y.repairList.drop 1 }) fun _ => rfl).asking
    refine ⟨_, hu, h.elemChanges (turns.of_elem (by simp only [hlist]; rfl)) (by simp [hp]), h.sts, (h.of_sent ?_).sends⟩
    simp only [Channel.withElem, Channel.answered, ho]
    rfl
  · rintro ch order p ext ans s c e l rfl hi hne ho he hp ha hl hlist
    obtain ⟨u, h, -, hu⟩ := verifyRead_again (ext := ext) (Channel.runs_iff.mpr ⟨hi, ho⟩) he hne hp ha hl
    have hu := hu hlist
    obtain rfl := Channel.port_of_elem? he
    have turns := (elemTurns_self he).answered.withElem
      (fun y => { y with newList := l, repairList := y.repairList.drop 1 }) fun _ => rfl
    by_cases hnil : l = []
    · subst hnil
      have h := h.verifyEnded_clean e
      have turns := (turns.withElem (fun y => { y with phase := .rewrite, repairList := [], newList := [] }) fun _ => rfl).asking
      refine ⟨_, hu, h.sts, h.elemChanges (turns.of_elem ?_) nofun, (h.of_sent ?_).sends⟩
      · simp only [hlist, if_true]
      · simp only [Channel.withElem, Channel.answered, ho, if_true, List.append_assoc]
        rfl
    simp only [hnil, if_false, List.append_nil]
    by_cases hpass : e.passes < 2
    · have h := h.verifyEnded_waits hnil hpass
      have turns := turns.withElem
        (fun y => { y with phase := .repairWait, passes := y.passes + 1, repairList := l, newList := [] }) fun _ => rfl
      rw [if_pos hpass]
      exact ⟨_, hu, h.sts, h.elemChanges turns nofun, h.sends⟩
    · have h := h.verifyEnded_spent hnil (Nat.not_lt.mp hpass)
      rw [if_neg hpass]
      refine ⟨_, hu, h.sts, h.elemLeaves (turns.leaving.of_elem ?_) rfl, h.sends⟩
      simp only [Elem.left, hlist]
  · rintro ch order p ext s c e rfl hi hne ho he hp hlast hpass
    obtain ⟨u, h, hu⟩ := verifyRead_first (ext := ext) (l := insertAsc ext e.repairList) (Channel.runs_iff.mpr ⟨hi, ho⟩)
      he hne hp (.inr rfl) rfl
    obtain rfl := Channel.port_of_elem? he
    have h := h.verifyEnded_spent (insertAsc_ne_nil ext e.repairList) hpass
    rw [if_neg (Nat.not_lt.mpr hlast)] at hu
    have turns := ((elemTurns_self he).answered.withElem (fun y => { y with
      repairList := insertAsc ext e.repairList, nextVerify := e.nextVerify + 1 }) fun _ => rfl).leaving
    exact ⟨_, hu, h.elemLeaves turns rfl, h.sts, h.sends⟩
  · rintro ch p vol s e he hv ha hp
    rw [lostVolume_taken he hv, State.loseDrive_other he ha hp]
  · rintro ch p vol s e he hv hp
    have h := (chanBecomes_refl s ch).setElem p fun y => { y with lossSeen := true }
    have turns := (elemTurns_self he).withElem (fun y => { y with lossSeen := true }) fun _ => rfl
    exact ⟨_, by rw [lostVolume_taken he hv, State.loseDrive_creating he hp], h.elemChanges turns (by simp [hp]), h.sts,
      h.sends⟩
  · rintro s ch c es rfl hs hports rfl
    obtain ⟨u, hu, h⟩ := settle_beginsVerifies hs hports
    have hnodup : (((s.chan ch).dests.filter (s.chan ch).verifiable).map (·.port)).Nodup :=
      (List.filter_sublist.map _).nodup hports
    refine ⟨u, hu, h.token, ?_, fun p => ?_, h.sends⟩
    · rw [h.chan]
      refine (h.of_chan ?_).chanBecomes
      simp only [Channel.verifyingAll, map_ports_filter hports, Channel.verifiable, decide_eq_true_eq, Elem.verifying]
    · rw [h.chan]
      exact (askedOf_get _ _ p).trans (by rw [hnodup.count]; rfl)
  · rintro ch order p ext s c e rfl hi hne ho he hp hlist hlast
    obtain ⟨u, h, hu⟩ := verifyRead_first (ext := ext) (Channel.runs_iff.mpr ⟨hi, ho⟩) he hne hp (.inl rfl)
      (l := e.repairList) rfl
    obtain rfl := Channel.port_of_elem? he
    rw [if_neg (Nat.not_lt.mpr hlast)] at hu
    have turns := (elemTurns_self he).answered.withElem (fun y => { y with
      repairList := e.repairList, nextVerify := e.nextVerify + 1 }) fun _ => rfl
    by_cases hpass : e.passes < 2
    · have h := h.verifyEnded_waits hlist hpass
      have turns := turns.withElem (fun y =>
        { y with phase := .repairWait, passes := y.passes + 1, repairList := e.repairList, newList := [] }) fun _ => rfl
      rw [if_pos hpass]
      exact ⟨_, hu, h.sts, h.elemChanges turns nofun, h.sends⟩
    · have h := h.verifyEnded_spent hlist (Nat.not_lt.mp hpass)
      rw [if_neg hpass]
      exact ⟨_, hu, h.sts, h.elemLeaves turns.leaving rfl, h.sends⟩
  · rintro ch order p num ans s c e b rfl hi ho he ha rfl
    have h := extentAnswered s ch p num
    refine ⟨_, extentWrite_counts (Channel.runs_iff.mpr ⟨hi, ho⟩) he ha, ?_, h.sts, h.token, h.sends⟩
    rw [h.sts]
    exact h.chanBecomes_of_sts
  · rintro ch order p num s c e b0 b rfl hi ho he ha rfl hb
    have h := extentWrite_lost_becomes he ha hb
    exact ⟨_, extentWrite_lost (Channel.runs_iff.mpr ⟨hi, ho⟩) he,
      h.elemLeaves (elemTurns_self he).answered.leaving rfl, h.sts, h.sends⟩
  · rintro ch order p ext vol s c e b r n rfl hi ho he ha hb hr
    exact drive_lost (Channel.runs_iff.mpr ⟨hi, ho⟩) he ha hb hr
  · rintro ch order p ext s c e r rfl hi ho he hr
    have hrun := Channel.runs_iff.mpr ⟨hi, ho⟩
    have h := portAnswered_becomes s ch p
    refine ⟨_, ?_, h.chanBecomes, h.token, h.sends⟩
    obtain rfl | rfl | ⟨rfl, ha, hp⟩ | ⟨rfl, hp⟩ := hr
    · exact verifyRead_withdrawn hrun he
    · exact headerRewrite_counts hrun he fun _ => rfl
    · rw [verifyRead_lost hrun he, State.loseDrive_other (by rw [h.chan]; exact he) ha hp]
    · exact headerRewrite_counts hrun he fun hw => absurd hw hp
  · rintro ch order p num s c e b r rfl hi ho he ha hle hr
    obtain ⟨u, hu, h⟩ := write_failed (Channel.runs_iff.mpr ⟨hi, ho⟩) he ha hr
    rw [if_neg (by omega)] at h
    exact ⟨u, hu, h.elemLeaves (elemTurns_self he).answered.leaving rfl, h.sts, h.sends⟩
  · rintro ch bytes s c f num b r n rfl hout hne hf hnum hp hfull hr hmore hb
    obtain ⟨hb, u, hu, h⟩ := burst_full hout hne hf hnum hfull hb
    have h := h.extentFull_repair_more (f := f.took bytes.length) (num := num) hp hb hr hmore
    rw [liveBytesOf, if_neg (by simp [hp])] at h
    refine ⟨_, hu, h.chan.trans ?_, h.moves.others, h.moves.onlyCc, h.token, h.sts, (h.of_sent ?_).sends⟩
    · simp only [Channel.summed, Channel.filling, Filling.took, hp, hout]
    · simp only [sumReportOf, extentRequests, Filling.took, hp, List.nil_append]
  · rintro ch order ext s c num r rfl hi hne ho hsum hr hnone hlast hdone hc
    have hu := sum_repair (Channel.runs_iff.mpr ⟨hi, ho⟩) hne hsum hr
    have hes : (s.chan ch).dests.filter ((s.chan ch).needs ext) = [] :=
      List.filter_eq_nil_iff.mpr fun e he hneeds => hnone e he (by simpa [Channel.needs] using hneeds)
    have h := (((chanBecomes_refl s ch).setChan ((s.chan ch).sumTaken ext .repair)).handOn_freed s (num := num) (ext := ext)
      (writes := ((s.chan ch).sumTaken ext .repair).needs ext) hes).repairDone
    rw [if_pos ⟨hlast, hdone⟩] at hu
    refine ⟨_, hu, ?_, h.sts, h.token, (h.of_sent ?_).sends⟩
    · rw [h.sts]
      exact h.chanBecomes_of_sts
    · simp [Channel.sumTaken, hc, ho]

end Sys2Proof.Machine
end


section
/-! SUPPORT. How an order ends: entering ENDING, the wind-down and the end reports (R88, R89), and the watches answered as an
element closes (R102). -/

namespace Sys2Proof.Machine

section
variable {ch : Chan} {c : Channel} {x : Staging} {n order : Nat} {w : List Wire} {s t : State} {p : Port} {k : EndKind}

/-! ## Watches (R102) -/

/-- No watch of an element that has closed on the way is left. -/
theorem ChanMoves.watch_closed (h : ChanMoves ch s t) (hs : (s.chan ch).aliveFor p order = true)
    (ht : (t.chan ch).aliveFor p order = false) : (p, ch, order) ∉ t.cc.watches := by
  have hkept : t.chan ch = s.chan ch ∨ ((p, ch, order) ∈ t.cc.watches → (t.chan ch).aliveFor p order = true) := by
    clear ht
    induction h with
    | refl => exact .inl rfl
    | setChan _ d _ =>
      refine .inr fun hw => ?_
      rw [State.setChan_eq] at hw
      simpa using (List.mem_filter.mp hw).2
    | send _ _ _ _ _ ih | tick _ ih => exact ih
    | store _ hf ih =>
      rw [hf.chan, hf.cc]
      exact ih
  intro hw
  obtain hsame | halive := hkept
  · rw [hsame, hs] at ht
    cases ht
  · rw [halive hw] at ht
    cases ht

theorem Channel.aliveFor_of_elem? {e : Elem} (he : c.elem? p = some e) (ho : c.order = some order) (hp : e.phase.holding = true) :
    c.aliveFor p order = true := by
  simp only [Channel.aliveFor, he, ho, Option.any_some, hp, decide_true, Bool.and_self]

theorem CopyPhase.holding_of_alive {q : CopyPhase} (h : q.alive = true) : q.holding = true := by
  rw [CopyPhase.holding, h]
  rfl

/-- An element that has left the order is closed. -/
theorem Channel.leaving_closed (c : Channel) (p : Port) (order : Nat) : (c.leaving p).aliveFor p order = false := by
  have helem : (c.leaving p).elem? p = (c.elem? p).map Elem.left := by
    refine (Channel.withElem_elem? (c := c) (f := Elem.left) (fun _ => rfl) p).trans ?_
    simp only [if_true]
  rw [Channel.aliveFor, helem]
  cases c.elem? p <;> simp [Elem.left, CopyPhase.holding, CopyPhase.alive]

/-- A copy leaves the order, whatever its channel then does: the watch of its element is answered. -/
theorem ChanBecomes.watch_answered (h : ChanBecomes ch (c.leaving p) x n w s t) (hs : (s.chan ch).aliveFor p order = true)
    (hw : (p, ch, order) ∈ s.cc.watches) : (p, ch, order) ∉ (t.settle ch).cc.watches ∧
      (⟨.cc ch, .dp p, .watchAnswer p ch order⟩ : Wire) ∈ (t.settle ch).wire := by
  have hclosed : (p, ch, order) ∉ (t.settle ch).cc.watches := fun hmem =>
    h.moves.watch_closed hs (h.chan ▸ c.leaving_closed p order) (ChanMoves.refl.settle.watches_subset hmem)
  exact ⟨hclosed, (h.moves.settle.watch_kept_or_answered hw).resolve_left hclosed⟩

theorem endOrder_watches (s : State) (ch : Chan) (k : EndKind) {w : Port × Chan × Nat} (hw : w ∈ s.cc.watches)
    (hch : w.2.1 = ch) : w ∉ (s.endOrder ch k).cc.watches ∧
      (⟨.cc ch, .dp w.1, .watchAnswer w.1 ch w.2.2⟩ : Wire) ∈ (s.endOrder ch k).wire := by
  have hclosed : w.2.1 = ch ∧ Channel.aliveFor {} w.1 w.2.2 = false := ⟨hch, rfl⟩
  unfold State.endOrder
  rw [State.setChan_eq]
  refine ⟨fun hmem => of_decide_eq_true (List.mem_filter.mp hmem).2 hclosed,
    List.mem_append_left _ (List.mem_append_right _ (List.mem_map.mpr ⟨w, ?_, rfl⟩))⟩
  exact List.mem_filter.mpr ⟨hw, decide_eq_true hclosed⟩

/-! ## The end of the wind-down (R88, R89) -/

/-- What the wind-down still waits for (R88). -/
abbrev Channel.windsDown (c : Channel) (x : Staging) (ch : Chan) : Prop :=
  x.held ch ≠ 0 ∨ c.claim ≠ .none ∨ c.claimAsked = true ∨ c.burstOut = true ∨ ¬c.noneOutstanding = true ∨
    (c.dests.any fun e => e.phase = .reserving || e.phase = .creating) = true

/-- The end reports of the alive copies, and the end report of the order. -/
def endReports (ch : Chan) (c : Channel) (k : EndKind) : List Wire :=
  (c.dests.filter fun e => e.phase.alive).map (fun e => ⟨.cc ch, .cat,
    .copyEndReport (c.clip.getD 0) (e.vol.getD 0) (endState k).1 (endState k).2⟩) ++
    [⟨.cc ch, .ods, .orderEndReport ch (c.order.getD 0) k⟩]

namespace ChanBecomes

theorem windDown_waits (h : ChanBecomes ch c x n w s t) (hw : c.windsDown x ch) : t.windDown ch = t := by
  obtain rfl := h.chan
  obtain rfl := h.sts
  exact if_pos hw

theorem windDown_ends (h : ChanBecomes ch c x n w s t) (hw : ¬c.windsDown x ch) :
    ChanBecomes ch {} x n (w ++ endReports ch c (c.ended.getD .aborted)) s (t.windDown ch) := by
  have hend := (h.endCopies (c.dests.filter fun e => e.phase.alive) (endState (c.ended.getD .aborted)).1
    (endState (c.ended.getD .aborted)).2).endOrder (c.ended.getD .aborted)
  obtain rfl := h.chan
  obtain rfl := h.sts
  unfold State.windDown
  dsimp only
  rw [if_neg hw]
  exact hend.of_sent (List.append_assoc ..)

end ChanBecomes

/-- A channel in FINISHING whose copies have all left completes its order (R89). -/
theorem settle_completes (hs : (s.chan ch).phase = .finishing) (hr : (s.chan ch).repair = none)
    (hleft : ∀ e ∈ (s.chan ch).dests, e.phase = .skipped ∨ e.phase = .dropped) (hheld : s.sts.held ch = 0)
    (hnone : (s.chan ch).noneOutstanding = true) : s.settle ch = s.endOrder ch .complete := by
  have hnot {q : CopyPhase} (hq : q ≠ .skipped ∧ q ≠ .dropped) : ∀ e ∈ (s.chan ch).dests, e.phase ≠ q := fun e he hp =>
    (hleft e he).elim (hp ▸ hq.1) (hp ▸ hq.2)
  have hwait : ((s.chan ch).dests.any fun e => e.phase = .repairWait) = false :=
    List.any_eq_false.mpr fun e he => by simpa using hnot (by decide) e he
  rw [State.settle_of_none_verifiable hs fun e he hv => hnot (by decide) e he hv.1, State.proceed]
  simp only [hr, hwait, Option.isSome_none, Bool.false_eq_true, if_false]
  exact if_pos ⟨List.all_eq_true.mpr fun e he => by simpa using hleft e he, hheld, hnone⟩

/-! ## Entering ENDING (R88) -/

/-- The withdrawals of the requests these ports hold. -/
def withdrawalsOf (ch : Chan) (c : Channel) (ps : List Port) : List Wire :=
  (ps.filter fun p => c.outstanding[p] ≠ 0).map fun p => ⟨.cc ch, .dp p, .withdrawal ch p (c.order.getD 0)⟩

theorem ChanBecomes.withdraws (h : ChanBecomes ch c x n w s t) (d : Channel) (ps : List Port) :
    ChanBecomes ch c x n (w ++ withdrawalsOf ch d ps) s (ps.foldl (fun t p =>
      if d.outstanding[p] = 0 then t else t.send (.cc ch) (.dp p) [.withdrawal ch p (d.order.getD 0)]) t) := by
  induction ps generalizing w t with
  | nil => exact h.of_sent (List.append_nil w).symm
  | cons p ps ih =>
    rw [List.foldl_cons]
    by_cases hp : d.outstanding[p] = 0
    · rw [if_pos hp]
      exact (ih h).of_sent (by rw [withdrawalsOf, withdrawalsOf, List.filter_cons_of_neg (by simpa using hp)])
    · rw [if_neg hp]
      refine (ih (h.send _ _ _ rfl)).of_sent ?_
      rw [withdrawalsOf, withdrawalsOf, List.filter_cons_of_pos (by simpa using hp), List.append_assoc]
      rfl

/-- The cut-off of a live pass begun and not ended. -/
def cutOffOf (ch : Chan) (c : Channel) : List Wire :=
  if c.begun = true ∧ c.phase ≠ .finishing then [⟨.cc ch, .fx, .livePassCutOff ch⟩] else []

theorem ChanBecomes.cutsOff (h : ChanBecomes ch c x n w s t) (d : Channel) :
    ChanBecomes ch c x n (w ++ cutOffOf ch d) s
      (if d.begun = true ∧ d.phase ≠ .finishing then t.send (.cc ch) .fx [.livePassCutOff ch] else t) := by
  unfold cutOffOf
  split
  · exact h.send _ _ _ rfl
  · exact h.of_sent (List.append_nil w).symm

/-- The context of a channel that enters ENDING. -/
def Channel.entering (c : Channel) (k : EndKind) : Channel :=
  { c with
    phase := .ending, ended := some k, lookup := false, repair := c.repair.filter (·.granted)
    dests := c.dests.map fun e => if c.lookup = true ∧ e.phase = .reserving then { e with phase := .dropped } else e }

/-- A channel that has given up its wait, its FILLING buffers and its claim. -/
def Channel.stopped (c : Channel) : Channel := { c with bufferWait := false, fill := none, summing := [], claim := .none }

theorem State.settle_ending (h : (s.chan ch).phase = .ending) : s.settle ch = s.windDown ch := by
  simp only [State.settle, h]

/-- What comes of a channel's context, and of its reading, as it enters ENDING, before the messages to others. -/
theorem enterEnding_of_stopped {u : State} (hu : u = if (s.chan ch).burstOut = true then s.setChan ch ((s.chan ch).entering k)
      else (s.setChan ch ((s.chan ch).entering k)).stopReading ch) (h : ChanBecomes ch c x s.token w s u) (hc : c.phase = .ending) :
    ∃ u, s.enterEnding ch k = u.settle ch ∧ ChanBecomes ch c x s.token
      (w ++ cutOffOf ch (s.chan ch) ++ withdrawalsOf ch (s.chan ch) (List.finRange 4)) s u := by
  have hall := (h.cutsOff (s.chan ch)).withdraws (s.chan ch) (List.finRange 4)
  refine ⟨_, ?_, hall⟩
  rw [State.settle_ending (by rw [hall.chan]; exact hc), hu]
  rfl

/-- With a burst at the Card Interface the reading stops at its answer. -/
theorem enterEnding_burstOut (hout : (s.chan ch).burstOut = true) :
    ∃ u, s.enterEnding ch k = u.settle ch ∧ ChanBecomes ch ((s.chan ch).entering k) s.sts s.token
      (cutOffOf ch (s.chan ch) ++ withdrawalsOf ch (s.chan ch) (List.finRange 4)) s u :=
  enterEnding_of_stopped (if_pos hout).symm ((chanBecomes_refl s ch).setChan _) rfl

/-- The FILLING buffers of a channel (R71), in ascending number. -/
def fillingOf (x : Staging) (ch : Chan) (c : Channel) : List Nat :=
  ((x.bufs.filter fun b => b.owner = ch && b.pend.isEmpty).map (·.num)).filter fun n =>
    (c.fill.bind (·.num)) = some n || c.summing.any fun x => x.1 = n

/-- The messages with which a channel stops reading; `f` is the state in which its buffers have been freed. -/
def stopsOf (ch : Chan) (c : Channel) (s f : State) : List Wire :=
  (if c.bufferWait = true then [⟨.cc ch, .sts, .bufferWithdrawal ch⟩] else []) ++ f.wire.drop s.wire.length ++
    if c.claim = .none then [] else [⟨.cc ch, .ci, .handBack ch c.serial⟩]

/-- With none, it stops at once. -/
theorem enterEnding_stops (hout : (s.chan ch).burstOut = false) {f : State}
    (hf : f = (fillingOf s.sts ch (s.chan ch)).foldl State.freeBuffer
      (if (s.chan ch).bufferWait = true then s.leaveWaits ch else s)) :
    ∃ u, s.enterEnding ch k = u.settle ch ∧ ChanBecomes ch ((s.chan ch).entering k).stopped f.sts s.token
      (stopsOf ch (s.chan ch) s f ++ cutOffOf ch (s.chan ch) ++
        withdrawalsOf ch (s.chan ch) (List.finRange 4)) s u := by
  have h := ((chanBecomes_refl s ch).setChan ((s.chan ch).entering k)).stopReading s (nums := fillingOf s.sts ch (s.chan ch)) rfl hf
  exact enterEnding_of_stopped (by rw [hout]; rfl) h rfl

/-- The answer to a burst in ENDING: the channel stops reading. -/
theorem burst_ending {ans : BurstAns} (hs : (s.chan ch).phase = .ending) (hout : (s.chan ch).burstOut = true) {f : State}
    (hf : f = (fillingOf s.sts ch (s.chan ch)).foldl State.freeBuffer
      (if (s.chan ch).bufferWait = true then s.leaveWaits ch else s)) :
    ∃ u, exec (.burstAnswer ch ans) s = .next (u.settle ch) ∧
      ChanBecomes ch { (s.chan ch).stopped with burstOut := false } f.sts s.token (stopsOf ch (s.chan ch) s f) s u := by
  refine ⟨_, ?_, (burstAnswered s ch).stopReading s (nums := fillingOf s.sts ch (s.chan ch)) rfl hf⟩
  change execBurstAnswer ch ans s = _
  simp only [execBurstAnswer, hs, hout, not_true_eq_false, if_false, if_true]

/-! ## Whatever ends an order -/

/-- A message that a channel has sent is on its way. -/
theorem ChanBecomes.mem_wire (h : ChanBecomes ch c x n w s t) {m : Wire} (hm : m ∈ w) : m ∈ t.wire := by
  rw [← h.sent] at hm
  exact List.mem_of_mem_drop (List.mem_of_mem_filter hm)

/-- The channel is in ENDING with that end kind, or empty with the end reported. -/
theorem enterEnding_ends (s : State) (ch : Chan) (k : EndKind) :
    ((s.enterEnding ch k).chan ch).phase = .ending ∧ ((s.enterEnding ch k).chan ch).ended = some k ∨
      (s.enterEnding ch k).chan ch = {} ∧
        (⟨.cc ch, .ods, .orderEndReport ch ((s.chan ch).order.getD 0) k⟩ : Wire) ∈ (s.enterEnding ch k).wire := by
  have hends {c : Channel} {x : Staging} {w : List Wire} {u : State} (hu : s.enterEnding ch k = u.settle ch)
      (h : ChanBecomes ch c x s.token w s u) (hp : c.phase = .ending) (hk : c.ended = some k) (ho : c.order = (s.chan ch).order) :
      ((s.enterEnding ch k).chan ch).phase = .ending ∧ ((s.enterEnding ch k).chan ch).ended = some k ∨
        (s.enterEnding ch k).chan ch = {} ∧
          (⟨.cc ch, .ods, .orderEndReport ch ((s.chan ch).order.getD 0) k⟩ : Wire) ∈ (s.enterEnding ch k).wire := by
    rw [hu, State.settle_ending (by rw [h.chan]; exact hp)]
    by_cases hw : c.windsDown x ch
    · rw [h.windDown_waits hw, h.chan]
      exact .inl ⟨hp, hk⟩
    · have hend := h.windDown_ends hw
      refine .inr ⟨hend.chan, hend.mem_wire ?_⟩
      simp [endReports, hk, ho]
  by_cases hout : (s.chan ch).burstOut = true
  · obtain ⟨u, hu, h⟩ := enterEnding_burstOut (k := k) hout
    exact hends hu h rfl rfl rfl
  · obtain ⟨u, hu, h⟩ := enterEnding_stops (k := k) (Bool.not_eq_true _ ▸ hout) rfl
    exact hends hu h rfl rfl rfl

end

end Sys2Proof.Machine
end


section
/-! SUPPORT. The statement about status queries, watches and the ends of orders (R83 to R85, R87 to R89, R102). -/

namespace Sys2Proof.Machine

/-- Settles O21: the queries and watches, then entering ENDING, the wind-down and the ends, then the watches it answers. -/
theorem channelEnds : Obligations.ChannelEnds := by
  refine ⟨fun _ _ _ _ => ⟨_, rfl, rfl, rfl⟩, fun _ _ _ _ halive => if_pos halive, fun p ch order s hclosed => ?_,
    ?_, ?_, ?_, ?_, ?_, ?_, ⟨rfl, rfl, rfl, rfl⟩, ?_, ?_, ?_, ?_, ?_, ?_, ?_, fun s ch => ⟨rfl, ?_⟩⟩
  · exact ⟨_, if_neg (by simp [hclosed]), rfl, rfl⟩
  · intro s ch c w hw hch
    rw [State.setChan_eq] at hw
    simpa [hch] using (List.mem_filter.mp hw).2
  · rintro ch order s c rfl hi hne ho
    have hruns : ¬(¬(s.chan ch).runs order = true ∨ (s.chan ch).phase = .ending) := by
      simp [Channel.runs_iff.mpr ⟨hi, ho⟩, hne]
    exact ⟨_, if_neg hruns, ((chanBecomes_refl s ch).setChan _).chanBecomes⟩
  · rintro ch order s c rfl h
    refine if_pos ?_
    rw [Channel.runs_iff]
    tauto
  · rintro s ch k t rfl
    have moves := (ChanMoves.refl (ch := ch) (s := s)).enterEnding k
    exact ⟨moves.onlyCc, moves.others, enterEnding_ends s ch k⟩
  · rintro s ch c k rfl hs hk hheld hclaim hasked hout hnone hdests
    have hdone : ¬(s.chan ch).windsDown s.sts ch := by
      have hany : ((s.chan ch).dests.any fun e => e.phase = .reserving || e.phase = .creating) = false :=
        List.any_eq_false.mpr fun e he => by simpa using hdests e he
      simp only [Channel.windsDown, hheld, hclaim, hasked, hout, hnone, hany]
      decide
    have h := (chanBecomes_refl s ch).windDown_ends hdone
    rw [hk] at h
    exact ⟨_, State.settle_ending hs, h.chanBecomes, h.sends⟩
  · rintro s ch c rfl hs hr hleft hheld hnone
    have h := (chanBecomes_refl s ch).endOrder .complete
    exact ⟨_, settle_completes hs hr hleft hheld hnone, h.chanBecomes, h.sends⟩
  · rintro s ch k c ports rfl - hout rfl
    obtain ⟨u, hu, h⟩ := enterEnding_burstOut (k := k) hout
    exact ⟨u, hu, h.token, h.chanBecomes, h.sends⟩
  · rintro s ch k c ports nums f rfl - hout rfl rfl hf
    obtain ⟨u, hu, h⟩ := enterEnding_stops (k := k) hout hf
    refine ⟨u, hu, h.token, ?_, h.sends⟩
    exact h.chanBecomes_of_sts
  · rintro ch ans s c nums f rfl hs hout rfl hf
    obtain ⟨u, hu, h⟩ := burst_ending (ans := ans) hs hout hf
    refine ⟨u, hu, h.token, ?_, h.sends⟩
    exact h.chanBecomes_of_sts
  · rintro s ch c closed rfl
    rw [State.setChan_eq]
    exact ⟨rfl, rfl⟩
  · rintro ch order p s c e rfl hi ho he hp hw
    obtain ⟨u, hu, h⟩ := headerRewrite_done (Channel.runs_iff.mpr ⟨hi, ho⟩) he hp
    exact ⟨_, hu, h.watch_answered (Channel.aliveFor_of_elem? he ho (by rw [hp]; rfl)) hw⟩
  · rintro ch p vol order s c e rfl ho he hv ha hw
    have h := (chanBecomes_refl s ch).loseDrive s he ha rfl
    exact ⟨_, lostVolume_taken he hv,
      h.watch_answered (Channel.aliveFor_of_elem? he ho (CopyPhase.holding_of_alive ha)) hw⟩
  · exact fun s ch k _ hw hch => endOrder_watches s ch k hw hch
  · exact fun w hw => of_decide_eq_true (List.mem_filter.mp hw).2

end Sys2Proof.Machine
end


section
/-! SUPPORT. The rules of the destination ports' shared operations (Section 5): which messages an answer sends, and what a
completion can do. -/

namespace Sys2Proof.Machine

/-! ## Sending messages and nothing else -/

/-- Messages are put on their way, in order. -/
def State.post (s : State) (l : List Wire) : State := { s with wire := s.wire ++ l }

@[simp] theorem State.post_wire (s : State) (l : List Wire) : (s.post l).wire = s.wire ++ l := rfl
@[simp] theorem State.post_token (s : State) (l : List Wire) : (s.post l).token = s.token := rfl
@[simp] theorem State.post_port (s : State) (l : List Wire) (p : Port) : (s.post l).port p = s.port p := rfl
@[simp] theorem State.post_sts (s : State) (l : List Wire) : (s.post l).sts = s.sts := rfl

@[simp] theorem State.post_nil (s : State) : s.post [] = s := by simp [State.post]

@[simp] theorem State.post_post (s : State) (l m : List Wire) : (s.post l).post m = s.post (l ++ m) := by
  simp [State.post]

theorem State.send_eq_post (s : State) (src dst : Node) (ms : List Instr) :
    s.send src dst ms = s.post (ms.map fun m => ⟨src, dst, m⟩) := rfl

theorem onlyWire_post (s : State) (l : List Wire) : onlyWire s (s.post l) := rfl

theorem foldl_post {α : Type} (g : α → Wire) (l : List α) (s : State) :
    l.foldl (fun t x => t.post [g x]) s = s.post (l.map g) := by
  induction l generalizing s with
  | nil => simp
  | cons x l ih => rw [List.foldl_cons, ih, State.post_post]; rfl

/-! ## The answers of a port are messages -/

theorem State.answerWrite_eq (s : State) (p : Port) (r : WriteReq) (a : WriteAns) :
    s.answerWrite p r a = s.post [writeAnswerOf p r a] := by
  cases r <;> rfl

theorem State.endRead_eq (s : State) (p : Port) (r : ReadReq) (a : ReadEnd) :
    s.endRead p r a = s.post [readAnswerOf p r a] := by
  cases r <;> rfl

theorem State.answerPlay_eq (s : State) (p : Port) (r : PlayReq) (a : ReadAns) :
    s.answerPlay p r a = s.post [playAnswerOf p r a] := rfl

theorem foldl_answerWrite (p : Port) (a : WriteAns) (l : List WriteReq) (s : State) :
    l.foldl (fun t r => t.answerWrite p r a) s = s.post (l.map fun r => writeAnswerOf p r a) := by
  simp only [State.answerWrite_eq]
  exact foldl_post _ l s

theorem foldl_endRead (p : Port) (a : ReadEnd) (l : List ReadReq) (s : State) :
    l.foldl (fun t r => t.endRead p r a) s = s.post (l.map fun r => readAnswerOf p r a) := by
  simp only [State.endRead_eq]
  exact foldl_post _ l s

theorem foldl_answerPlay (p : Port) (a : ReadAns) (l : List PlayReq) (s : State) :
    l.foldl (fun t r => t.answerPlay p r a) s = s.post (l.map fun r => playAnswerOf p r a) := by
  simp only [State.answerPlay_eq]
  exact foldl_post _ l s

/-- The LOST answers of everything that waits in a port, in the order of its classes (R100, R113). -/
theorem State.answerAllLost_eq (s : State) (p : Port) (c : PortCtx) :
    c.writes.foldl (fun t r => t.answerWrite p r .lost) (c.reads.foldl (fun t r => t.endRead p r .lost)
      (c.plays.foldl (fun t r => t.answerPlay p r .lost) s)) = s.post (lostAnswersOf p c) := by
  rw [foldl_answerPlay, foldl_endRead, foldl_answerWrite, State.post_post, State.post_post, ← List.append_assoc]
  rfl

theorem State.loseOp_eq (s : State) (p : Port) (k : OpKind) : s.loseOp p k = s.post (lostOpOf p k) := by
  cases k <;> simp [State.loseOp, lostOpOf, State.answerPlay_eq, State.endRead_eq, State.answerWrite_eq]

/-- Who is told that a volume is lost (R113 step 2). -/
def lostVolumeOf (p : Port) (vol : Serial) (chs : List Chan) : List Wire :=
  [⟨.dp p, .cat, .lostVolumeReport p vol⟩] ++ chs.map (fun ch => ⟨.dp p, .cc ch, .channelLostVolume ch p vol⟩) ++
    [⟨.dp p, .ro, .outputLostVolume p vol⟩, ⟨.dp p, .ins, .reinspectLostVolume p vol⟩]

theorem State.loseVolume_eq (s : State) (p : Port) (vol : Serial) (chs : List Chan) :
    s.loseVolume p vol chs = s.post (lostVolumeOf p vol chs) := by
  have hchs (t : State) : chs.foldl (fun t ch => t.send (.dp p) (.cc ch) [.channelLostVolume ch p vol]) t =
      t.post (chs.map fun ch => ⟨.dp p, .cc ch, .channelLostVolume ch p vol⟩) := foldl_post _ chs t
  simp only [State.loseVolume, hchs]
  simp [State.send_eq_post, lostVolumeOf]

theorem foldl_watch (p : Port) (ws : List (Chan × Nat)) (s : State) :
    ws.foldl (fun t w => t.send (.dp p) (.cc w.1) [.watch p w.1 w.2]) s =
      s.post (ws.map fun w => ⟨.dp p, .cc w.1, .watch p w.1 w.2⟩) := foldl_post _ ws s

/-! ## What a completion can do (R103) -/

theorem PortCtx.attempt_of_op {c : PortCtx} {o : DriveOp} {tok : Nat} (ho : c.op = some o) (ht : o.tok = tok) :
    c.attempt tok = some o := by
  simp [PortCtx.attempt, ho, ht]

theorem PortCtx.attempt_eq_none {c : PortCtx} {tok : Nat} (h : ∀ o, c.op = some o → o.tok ≠ tok) :
    c.attempt tok = none := by
  simpa [PortCtx.attempt, Option.filter_eq_none_iff] using h

theorem PortCtx.op_of_attempt {c : PortCtx} {o : DriveOp} {tok : Nat} (h : c.attempt tok = some o) :
    c.op = some o ∧ o.tok = tok := by
  simpa [PortCtx.attempt, Option.filter_eq_some_iff] using h

section
variable {s u : State} {p : Port} {tok : Nat} {o : DriveOp} {f : DriveOp → State → Option State}

/-- A completion of another attempt than the running one is discarded. -/
theorem State.complete_of_other (h : ∀ o, (s.port p).op = some o → o.tok ≠ tok) : s.complete p tok f = s := by
  simp only [State.complete, PortCtx.attempt_eq_none h]

theorem State.complete_discarded {w : OpKind} (ho : (s.port p).op = some o) (ht : o.tok = tok)
    (hk : o.kind = .discarded w) : s.complete p tok f = (s.clearOp p).serve p := by
  simp only [State.complete, PortCtx.attempt_of_op ho ht, hk]

/-- A completion of an operation whose result counts goes to `f`. -/
theorem State.complete_of_kept (ho : (s.port p).op = some o) (ht : o.tok = tok) (hk : ∀ w, o.kind ≠ .discarded w) :
    s.complete p tok f = ((f o (s.clearOp p)).map fun u => u.serve p).getD s := by
  simp only [State.complete, PortCtx.attempt_of_op ho ht]
  split <;> simp_all

theorem State.complete_some (ho : (s.port p).op = some o) (ht : o.tok = tok) (hk : ∀ w, o.kind ≠ .discarded w)
    (hf : f o (s.clearOp p) = some u) : s.complete p tok f = u.serve p := by
  rw [State.complete_of_kept ho ht hk, hf]
  rfl

/-- Every completion: nothing happens, or the operation's own end is taken, and then the arbiter chooses. -/
theorem State.complete_cases (s : State) (p : Port) (tok : Nat) (f : DriveOp → State → Option State) :
    s.complete p tok f = s ∨ ∃ o u, (s.port p).op = some o ∧ (u = s.clearOp p ∨ f o (s.clearOp p) = some u) ∧
      s.complete p tok f = u.serve p := by
  by_cases h : ∀ o, (s.port p).op = some o → o.tok ≠ tok
  · exact .inl (State.complete_of_other h)
  · push Not at h
    obtain ⟨o, ho, ht⟩ := h
    by_cases hk : ∃ w, o.kind = .discarded w
    · obtain ⟨w, hw⟩ := hk
      exact .inr ⟨o, _, ho, .inl rfl, State.complete_discarded ho ht hw⟩
    · push Not at hk
      cases hf : f o (s.clearOp p) with
      | some u => exact .inr ⟨o, u, ho, .inr hf, State.complete_some ho ht hk hf⟩
      | none => exact .inl (by rw [State.complete_of_kept ho ht hk, hf]; rfl)

end

/-! ## What the arbiter can do (R108) -/

/-- The arbiter has a choice to make: the drive is idle and attached, and no scan runs. -/
def PortCtx.chooses (c : PortCtx) : Prop := c.op = none ∧ c.state ≠ .absent ∧ c.state ≠ .scanning

section
variable {s : State} {p : Port} {c : PortCtx}

theorem State.serve_of_not_chooses (h : ¬(s.port p).chooses) : s.serve p = s := by
  refine if_pos ?_
  by_contra hn
  push Not at hn
  exact h ⟨by simpa using hn.1, hn.2⟩

theorem State.serve_of_op (h : (s.port p).op ≠ none) : s.serve p = s := State.serve_of_not_chooses fun hc => h hc.1

theorem State.serve_of_chooses (hc : c = s.port p) (h : c.chooses) : s.serve p =
    match c.format, c.soak with
    | some serial, _ => s.startOp p (.format serial)
    | none, some k =>
      s.startOp p (match k.phase with | .write => .soakWrite k.opBlocks | .read => .soakRead k.opBlocks)
    | none, none =>
      match c.plays with
      | r :: rest => (s.setPort p { c with plays := rest }).startOp p (.play r)
      | [] =>
        match c.nextClass with
        | none => s
        | some .read =>
          match c.reads with
          | r :: rest => (s.setPort p { c with reads := rest, lastClass := .read }).startOp p (.read r)
          | [] => s
        | some .write =>
          match c.nextWrite with
          | some w =>
            (s.setPort p { c with writes := c.writes.erase w, lastClass := .write, lastChan := w.chan }).startOp p (.write w)
          | none => s := by
  subst hc
  obtain ⟨hop, habsent, hscanning⟩ := h
  refine (if_neg ?_).trans rfl
  simp [hop, habsent, hscanning]

theorem State.setPort_self (s : State) (p : Port) : s.setPort p (s.port p) = s := by
  have hupd : upd s.dp.ctx p (fun _ => s.port p) = s.dp.ctx := Vector.set_getElem_self ..
  simp [State.setPort_eq, hupd]

/-- Every choice of the arbiter: none, or an operation of the port's own begins, with a request taken out of its class. -/
theorem State.serve_cases (s : State) (p : Port) : s.serve p = s ∨ ∃ k e,
    s.serve p = (s.setPort p e).startOp p k ∧
    (∃ plays reads writes last chan, e = { s.port p with
      plays := plays, reads := reads, writes := writes, lastClass := last, lastChan := chan }) ∧
    k ≠ .ident ∧ ∀ serial, k = .format serial → (s.port p).format = some serial := by
  by_cases h : (s.port p).chooses
  · have same : s.setPort p (s.port p) = s := s.setPort_self p
    rw [State.serve_of_chooses rfl h]
    generalize s.port p = c at same ⊢
    split
    next serial _ hformat _ => exact .inr ⟨_, c, by rw [same], ⟨_, _, _, _, _, rfl⟩, by simp, by simp_all⟩
    next k _ _ =>
      refine .inr ⟨_, c, by rw [same], ⟨_, _, _, _, _, rfl⟩, ?_⟩
      cases k.phase <;> simp
    · split
      · exact .inr ⟨_, _, rfl, ⟨_, _, _, _, _, rfl⟩, by simp⟩
      · split
        · exact .inl rfl
        all_goals
          split
          · exact .inr ⟨_, _, rfl, ⟨_, _, _, _, _, rfl⟩, by simp⟩
          · exact .inl rfl
  · exact .inl (State.serve_of_not_chooses h)

end

end Sys2Proof.Machine
end


section
/-! SUPPORT. The pointers of every port stay within its drive after every step (R91, R99, R101, R104). -/

namespace Sys2Proof.Machine

/-! ## The rule of a port, pointers and operation apart -/

/-- The pointers lie within the drive, and a format has room for its label and one block more (R91, R99, R101). -/
def pointersOk (c : PortCtx) : Prop :=
  c.alloc.getD 0 ≤ c.capacity.getD 0 ∧ c.recEnd.getD 0 ≤ c.capacity.getD 0 ∧ (c.format.isSome = true → 2 ≤ c.capacity.getD 0)

/-- What the rule asks of an operation that runs in a port: an identification runs only in a scan that has found nothing yet,
and what the operation will write stays within the drive. -/
def opFits (c : PortCtx) (o : DriveOp) : Prop :=
  o.raise.getD 0 ≤ c.capacity.getD 0 ∧
  (o.kind = .ident → c.state = .scanning ∧ c.alloc = none ∧ c.recEnd = none ∧ c.format = none ∧ o.raise = none) ∧
  ∀ serial, o.kind = .format serial → 1 ≤ c.capacity.getD 0

theorem portOk_iff {c : PortCtx} : portOk c ↔ pointersOk c ∧ ∀ o, c.op = some o → opFits c o := by
  simp only [portOk, pointersOk, opFits, and_assoc]

theorem portOk_of_idle {c : PortCtx} (h : pointersOk c) (ho : c.op = none) : portOk c :=
  portOk_iff.mpr ⟨h, by simp [ho]⟩

/-- An operation of another kind than an identification, in a port that keeps its capacity. -/
theorem opFits.of_kind {c e : PortCtx} {o x : DriveOp} (h : opFits c o) (hr : x.raise = o.raise) (hc : e.capacity = c.capacity)
    (hi : x.kind ≠ .ident) (hf : ∀ serial, x.kind = .format serial → o.kind = .format serial) : opFits e x := by
  obtain ⟨raise, -, format⟩ := h
  refine ⟨by rw [hr, hc]; exact raise, fun hk => absurd hk hi, fun serial hk => ?_⟩
  rw [hc]
  exact format serial (hf serial hk)

/-- Outside a scan no identification runs. -/
theorem opFits.not_ident {c : PortCtx} {o : DriveOp} (h : opFits c o) (hs : c.state ≠ .scanning) : o.kind ≠ .ident :=
  fun hk => hs (h.2.1 hk).1

/-- A port outside a scan that keeps capacity and operation stays right when its pointers do. -/
theorem portOk.of_pointers {c e : PortCtx} (h : portOk c) (hs : c.state ≠ .scanning) (he : pointersOk e)
    (ho : e.op = c.op) (hc : e.capacity = c.capacity) : portOk e := by
  obtain ⟨-, fits⟩ := portOk_iff.mp h
  refine portOk_iff.mpr ⟨he, fun o h => ?_⟩
  have hfit := fits o (ho ▸ h)
  exact hfit.of_kind rfl hc (hfit.not_ident hs) fun _ => id

/-- A port that differs only where the rule does not look is as right. -/
theorem portOk.of_same {c e : PortCtx} (h : portOk c) (ha : e.alloc = c.alloc) (hc : e.capacity = c.capacity)
    (hr : e.recEnd = c.recEnd) (hf : e.format = c.format) (hs : e.state = c.state) (ho : e.op = c.op) : portOk e := by
  unfold portOk
  rw [ha, hc, hr, hf, hs, ho]
  exact h

theorem PortCtx.raiseFor_le {c : PortCtx} (h : pointersOk c) (k : OpKind) : (c.raiseFor k).getD 0 ≤ c.capacity.getD 0 := by
  unfold PortCtx.raiseFor
  split
  · split
    · exact h.1
    · exact Nat.zero_le _
  · exact Nat.zero_le _

/-- The label raise of a running operation keeps the recorded end within the drive (R104). -/
theorem PortCtx.raised_pointersOk {c : PortCtx} {o : DriveOp} (h : pointersOk c) (ho : opFits c o) :
    pointersOk (c.raised o) := by
  obtain ⟨halloc, hrec, hformat⟩ := h
  have hraise := ho.1
  unfold PortCtx.raised
  split
  next e he => exact ⟨halloc, by simpa [he] using hraise, hformat⟩
  · exact ⟨halloc, hrec, hformat⟩

@[simp] theorem PortCtx.raised_capacity (c : PortCtx) (o : DriveOp) : (c.raised o).capacity = c.capacity := by
  unfold PortCtx.raised; split <;> rfl

theorem PortCtx.raised_of_none {c : PortCtx} {o : DriveOp} (h : o.raise = none) : c.raised o = c := by
  simp [PortCtx.raised, h]

theorem PortCtx.formatRefusal_eq_none {c : PortCtx} : c.formatRefusal = none ↔
    (c.state = .unformatted ∨ c.state = .ready ∧ c.index = []) ∧ 2 ≤ c.capacity.getD 0 ∧ c.format = none := by
  cases hs : c.state <;> simp only [PortCtx.formatRefusal, hs]
  case unformatted | ready =>
    by_cases hcap : c.capacity.getD 0 < 2
    · simp [hcap]
    · have hcap' : 2 ≤ c.capacity.getD 0 := Nat.le_of_not_lt hcap
      cases hf : c.format <;> simp [hcap, hcap']
  all_goals simp

theorem PortCtx.soakRefusal_eq_none {c : PortCtx} : c.soakRefusal = none ↔
    c.state = .ready ∧ c.format = none ∧ c.alloc ≠ c.capacity := by
  unfold PortCtx.soakRefusal
  split
  next h =>
    refine iff_of_false (by simp) fun ⟨hs, hf, _⟩ => ?_
    simp [hs, hf] at h
  next h =>
    push Not at h
    simp_all

/-! ## The rule under the ports' operations -/

/-- The rule of the ports speaks of the ports alone. -/
theorem portsOk_congr {s t : State} (h : t.dp = s.dp) : portsOk t ↔ portsOk s := by
  simp only [portsOk, State.port, h]

@[simp] theorem portsOk_send {s : State} {src dst : Node} {ms : List Instr} : portsOk (s.send src dst ms) ↔ portsOk s := .rfl

@[simp] theorem portsOk_post {s : State} {l : List Wire} : portsOk (s.post l) ↔ portsOk s := .rfl

section
variable {s : State} {p : Port}

theorem portsOk.setPort {c : PortCtx} (h : portsOk s) (hc : portOk c) : portsOk (s.setPort p c) := fun x => by
  by_cases hx : x = p
  · rw [hx, State.setPort_port]; exact hc
  · rw [State.setPort_other s p x c hx]; exact h x

theorem portsOk.attemptOp {k : OpKind} (attempt : Nat) (h : portsOk s)
    (hi : k = .ident → (s.port p).state = .scanning ∧ (s.port p).alloc = none ∧ (s.port p).recEnd = none ∧
      (s.port p).format = none)
    (hf : ∀ serial, k = .format serial → 1 ≤ (s.port p).capacity.getD 0) : portsOk (s.attemptOp p k attempt) := by
  obtain ⟨pointers, -⟩ := portOk_iff.mp (h p)
  have ht : portsOk s.tick := h
  refine ht.setPort (portOk_iff.mpr ⟨pointers, fun o ho => ?_⟩)
  obtain rfl := Option.some.inj ho
  refine ⟨PortCtx.raiseFor_le pointers k, fun hk => ?_, hf⟩
  have hk : k = .ident := hk
  obtain ⟨hs, ha, hr, hn⟩ := hi hk
  exact ⟨hs, ha, hr, hn, by rw [hk]; rfl⟩

/-- An operation that is neither an identification nor a format begins. -/
theorem portsOk.startOp {k : OpKind} (h : portsOk s) (hi : k ≠ .ident) (hf : ∀ serial, k ≠ .format serial) :
    portsOk (s.startOp p k) :=
  h.attemptOp 1 (fun hk => absurd hk hi) fun serial hk => absurd hk (hf serial)

theorem portsOk.serve (h : portsOk s) : portsOk (s.serve p) := by
  obtain e | ⟨k, e, heq, ⟨plays, reads, writes, last, chan, rfl⟩, hi, hf⟩ := s.serve_cases p
  · rw [e]; exact h
  · have hset : portsOk (s.setPort p { s.port p with
        plays := plays, reads := reads, writes := writes, lastClass := last, lastChan := chan }) :=
      h.setPort ((h p).of_same rfl rfl rfl rfl rfl rfl)
    rw [heq]
    refine hset.attemptOp 1 (fun hk => absurd hk hi) fun serial hk => ?_
    have hcap : 2 ≤ (s.port p).capacity.getD 0 := (portOk_iff.mp (h p)).1.2.2 (by simp [hf serial hk])
    rw [State.setPort_port]
    exact Nat.le_of_succ_le hcap

theorem portsOk.clearOp (h : portsOk s) : portsOk (s.clearOp p) :=
  h.setPort (portOk_of_idle (portOk_iff.mp (h p)).1 rfl)

/-- A completion keeps the rule when the end it takes does: it takes it in the idle port, of an operation that fitted. -/
theorem portsOk.complete {tok : Nat} {f : DriveOp → State → Option State} (h : portsOk s)
    (hf : ∀ o t u, portsOk t → t.port p = { s.port p with op := none } → opFits (s.port p) o → f o t = some u → portsOk u) :
    portsOk (s.complete p tok f) := by
  obtain e | ⟨o, u, ho, hu, e⟩ := State.complete_cases s p tok f <;> rw [e]
  · exact h
  · refine portsOk.serve ?_
    obtain rfl | hu := hu
    · exact h.clearOp
    · exact hf o _ u h.clearOp (by simp [State.clearOp]) ((portOk_iff.mp (h p)).2 o ho) hu

/-! ## Scan -/

theorem portsOk.driveIn (h : portsOk s) : portsOk (s.driveIn p) := by
  unfold State.driveIn
  dsimp only
  split
  · exact h
  · refine portsOk.attemptOp 1 (portsOk_send.mpr (h.setPort ?_)) (by simp) (by simp)
    exact portOk_of_idle (by simp [pointersOk]) rfl

theorem portsOk.scanFailed (h : portsOk s) (ho : (s.port p).op = none) (why : ScanCause) : portsOk (s.scanFailed p why) := by
  have pointers := (portOk_iff.mp (h p)).1
  exact portsOk_send.mpr (h.setPort (portOk_of_idle pointers ho))

theorem portsOk.walkFrom (h : portsOk s) (ho : (s.port p).op = none) (pos : Nat) : portsOk (s.walkFrom p pos) := by
  obtain ⟨-, hrec, hformat⟩ := (portOk_iff.mp (h p)).1
  unfold State.walkFrom
  dsimp only
  split
  · refine portsOk_send.mpr (portsOk_send.mpr (h.setPort (portOk_of_idle ⟨hrec, hrec, hformat⟩ ho)))
  · exact h.startOp (by simp) (by simp)

theorem portsOk.walkEntry (h : portsOk s) (ho : (s.port p).op = none) (pos : Nat) (e : IndexEntry) :
    portsOk (s.walkEntry p pos e) := by
  have hset : portsOk (s.setPort p { s.port p with index := (s.port p).index ++ [e] }) := h.setPort ((h p).of_same rfl rfl rfl rfl rfl rfl)
  exact hset.walkFrom (by simp [ho]) _

/-! ## Format, soak and failed operations -/

theorem portsOk.beginFormat (h : portsOk s) (q : Req) (serial : Serial) (hf : (s.port p).formatRefusal = none) :
    portsOk (s.beginFormat p q serial) := by
  obtain ⟨hstate, hcap, -⟩ := PortCtx.formatRefusal_eq_none.mp hf
  obtain ⟨-, hrec, -⟩ := (portOk_iff.mp (h p)).1
  unfold State.beginFormat
  dsimp only
  rw [State.answerAllLost_eq]
  refine portsOk.serve (portsOk_send.mpr (portsOk.setPort (portsOk_post.mpr h) ?_))
  refine (h p).of_pointers ?_ ⟨Nat.zero_le _, hrec, fun _ => hcap⟩ rfl rfl
  obtain hs | ⟨hs, -⟩ := hstate <;> simp [hs]

theorem portsOk.beginSoak (h : portsOk s) (q : Req) (len limit : Nat) (clamped : Bool) (hs : (s.port p).state = .ready) :
    portsOk (s.beginSoak p q len limit clamped) := by
  refine portsOk.serve (portsOk_send.mpr (portsOk_send.mpr (h.setPort ?_)))
  exact (h p).of_pointers (by simp [hs]) (portOk_iff.mp (h p)).1 rfl rfl

theorem portsOk.testPassed (h : portsOk s) (q : Req) (w : TestFor) : portsOk (s.testPassed p q w) := by
  unfold State.testPassed
  split
  · split
    · exact h
    next hr =>
      obtain ⟨hs, -⟩ := PortCtx.soakRefusal_eq_none.mp hr
      exact h.beginSoak q _ _ _ hs
  · split
    · exact h
    next hr => exact h.beginFormat q _ hr

theorem portsOk.holderTest (h : portsOk s) (q : Req) (w : TestFor) : portsOk (s.holderTest p q w) := by
  unfold State.holderTest
  dsimp only
  split
  · exact h.testPassed q w
  · refine foldl_induction (fun t ch ht => ?_) _ (h.setPort ((h p).of_same rfl rfl rfl rfl rfl rfl))
    split <;> exact ht

theorem portsOk.opFailed {k : OpKind} (h : portsOk s) (ho : (s.port p).op = none) : portsOk (s.opFailed p k) := by
  obtain ⟨halloc, hrec, hformat⟩ := (portOk_iff.mp (h p)).1
  cases k with
  | ident => exact h.scanFailed ho _
  | label => exact h.scanFailed ho _
  | walk pos => exact h.walkFrom ho _
  | sumList pos e check => exact h.walkEntry ho _ _
  | format serial => exact portsOk_send.mpr (h.setPort (portOk_of_idle ⟨halloc, hrec, by simp⟩ ho))
  | soakWrite blocks | soakRead blocks =>
    exact portsOk_send.mpr (h.setPort (portOk_of_idle ⟨halloc, hrec, hformat⟩ ho))
  | play r => exact h
  | read r => rw [State.opFailed, State.endRead_eq]; exact h
  | write r => rw [State.opFailed, State.answerWrite_eq]; exact h
  | discarded w => exact h

theorem portsOk.attemptFailed (h : portsOk s) (tok : Nat) (raised : Bool) : portsOk (s.attemptFailed p tok raised) := by
  unfold State.attemptFailed
  split
  · exact h
  next o hattempt =>
    obtain ⟨ho, -⟩ := PortCtx.op_of_attempt hattempt
    obtain ⟨pointers, fits⟩ := portOk_iff.mp (h p)
    have hfit := fits o ho
    have hkept : pointersOk (if raised then (s.port p).raised o else s.port p) := by
      cases raised
      · exact pointers
      · exact PortCtx.raised_pointersOk pointers hfit
    have ht : portsOk (s.setPort p { (if raised then (s.port p).raised o else s.port p) with op := none }) :=
      h.setPort (portOk_of_idle hkept rfl)
    dsimp only
    split
    · obtain ⟨-, ident, format⟩ := hfit
      refine ht.attemptOp _ (fun hk => ?_) fun serial hk => ?_
      · obtain ⟨hs, ha, hr, hf, hn⟩ := ident hk
        simp [PortCtx.raised_of_none hn, hs, ha, hr, hf]
      · have := format serial hk
        cases raised <;> simpa using this
    · exact (ht.opFailed (by simp)).serve

end

/-! ## The rule under each command of the ports -/

section
variable {s : State} (p : Port)

theorem execDriveAttach_portsOk (h : portsOk s) : leadsTo portsOk (execDriveAttach p s) :=
  leadsTo_next.mpr (portsOk.driveIn ((portsOk_congr rfl).mpr h))

theorem execIdentificationReadDone_portsOk (h : portsOk s) (tok capacity : Nat) :
    leadsTo portsOk (execIdentificationReadDone p tok capacity s) := by
  refine leadsTo_next.mpr (h.complete fun o t u ht hp hfit hu => ?_)
  split at hu
  next hk =>
    obtain ⟨-, ha, hr, hf, -⟩ := hfit.2.1 hk
    obtain rfl := Option.some.inj hu
    refine (ht.setPort (portOk_of_idle ?_ (by simp [hp]))).startOp (by simp) (by simp)
    simp [pointersOk, hp, ha, hr, hf]
  · cases hu

/-- A label that is accepted has its recorded end within the drive (R95). -/
theorem readLabel_le {capacity recEnd : Nat} {bytes : List Byte} {serial : Serial}
    (h : readLabel capacity bytes = .ok (serial, recEnd)) : recEnd ≤ capacity := by
  unfold readLabel at h
  split at h
  · cases h
  · dsimp only at h
    split at h
    · cases h
    next hgood =>
      cases h
      push Not at hgood
      exact hgood.2.2.2.2

theorem execLabelReadDone_portsOk (h : portsOk s) (tok : Nat) (bytes : List Byte) :
    leadsTo portsOk (execLabelReadDone p tok bytes s) := by
  refine leadsTo_next.mpr (h.complete fun o t u ht hp hfit hu => ?_)
  have hidle : (t.port p).op = none := by simp [hp]
  split at hu
  · split at hu <;> obtain rfl := Option.some.inj hu
    · exact ht.scanFailed hidle _
    next serial recEnd hlabel =>
      obtain ⟨halloc, -, hformat⟩ := (portOk_iff.mp (ht p)).1
      refine portsOk.walkFrom (ht.setPort ?_) (by simp [hidle]) _
      exact portOk_of_idle ⟨halloc, readLabel_le hlabel, hformat⟩ hidle
  · cases hu

theorem execWalkReadDone_portsOk (h : portsOk s) (tok : Nat) (bytes : List Byte) :
    leadsTo portsOk (execWalkReadDone p tok bytes s) := by
  refine leadsTo_next.mpr (h.complete fun o t u ht hp hfit hu => ?_)
  have hidle : (t.port p).op = none := by simp [hp]
  dsimp only at hu
  split at hu
  · split at hu <;> obtain rfl := Option.some.inj hu
    · exact ht.walkFrom hidle _
    · split
      · exact ht.startOp (by simp) (by simp)
      · exact ht.walkEntry hidle _ _
  · obtain rfl := Option.some.inj hu
    exact ht.walkEntry hidle _ _
  · cases hu

theorem execFormatWriteDone_portsOk (h : portsOk s) (tok : Nat) : leadsTo portsOk (execFormatWriteDone p tok s) := by
  refine leadsTo_next.mpr (h.complete fun o t u ht hp hfit hu => ?_)
  split at hu
  next serial hk =>
    have hcap : 1 ≤ (t.port p).capacity.getD 0 := by rw [hp]; exact hfit.2.2 serial hk
    obtain rfl := Option.some.inj hu
    exact portsOk_send.mpr (ht.setPort (portOk_of_idle ⟨hcap, hcap, by simp⟩ (by simp [hp])))
  · cases hu

theorem execHeaderWriteDone_portsOk (h : portsOk s) (tok : Nat) : leadsTo portsOk (execHeaderWriteDone p tok s) := by
  refine leadsTo_next.mpr (h.complete fun o t u ht hp hfit hu => ?_)
  split at hu
  · have hidle : ((t.port p).raised o).op = none := by rw [hp]; unfold PortCtx.raised; split <;> rfl
    have hraised : pointersOk ((t.port p).raised o) :=
      PortCtx.raised_pointersOk (portOk_iff.mp (ht p)).1 (hp ▸ hfit)
    dsimp only at hu
    split at hu <;> obtain rfl := Option.some.inj hu <;> rw [State.answerWrite_eq, portsOk_post]
    · exact ht.setPort (portOk_of_idle hraised hidle)
    · exact ht.setPort (portOk_of_idle hraised hidle)
  · cases hu

theorem execHeaderRewriteDone_portsOk (h : portsOk s) (tok : Nat) : leadsTo portsOk (execHeaderRewriteDone p tok s) := by
  refine leadsTo_next.mpr (h.complete fun o t u ht hp hfit hu => ?_)
  split at hu
  · dsimp only at hu
    split at hu <;> obtain rfl := Option.some.inj hu <;> rw [State.answerWrite_eq, portsOk_post]
    · exact ht.setPort ((ht p).of_same rfl rfl rfl rfl rfl rfl)
    · exact ht
  · cases hu

/-- A completion whose operation is only answered. -/
theorem portsOk.complete_answered {tok : Nat} {f : DriveOp → State → Option State} (h : portsOk s)
    (hf : ∀ o t u, f o t = some u → ∃ l, u = t.post l) : portsOk (s.complete p tok f) :=
  h.complete fun o t u ht _ _ hu => by
    obtain ⟨l, rfl⟩ := hf o t u hu
    exact ht

theorem execExtentWriteDone_portsOk (h : portsOk s) (tok : Nat) : leadsTo portsOk (execExtentWriteDone p tok s) := by
  refine leadsTo_next.mpr (h.complete_answered p fun o t u hu => ?_)
  split at hu <;> cases hu
  exact ⟨_, State.answerWrite_eq ..⟩

theorem execVerifyReadDone_portsOk (h : portsOk s) (tok : Nat) (bytes : List Byte) :
    leadsTo portsOk (execVerifyReadDone p tok bytes s) := by
  refine leadsTo_next.mpr (h.complete_answered p fun o t u hu => ?_)
  split at hu <;> cases hu
  exact ⟨_, State.send_eq_post ..⟩

theorem execPlaybackReadDone_portsOk (h : portsOk s) (tok : Nat) (bytes : List Byte) :
    leadsTo portsOk (execPlaybackReadDone p tok bytes s) := by
  refine leadsTo_next.mpr (h.complete_answered p fun o t u hu => ?_)
  split at hu <;> cases hu
  exact ⟨_, State.answerPlay_eq ..⟩

theorem execReinspectionReadDone_portsOk (h : portsOk s) (tok : Nat) (bytes : List Byte) :
    leadsTo portsOk (execReinspectionReadDone p tok bytes s) := by
  refine leadsTo_next.mpr (h.complete_answered p fun o t u hu => ?_)
  split at hu <;> cases hu
  exact ⟨_, State.post_post ..⟩

theorem execSoakWriteDone_portsOk (h : portsOk s) (tok : Nat) : leadsTo portsOk (execSoakWriteDone p tok s) := by
  refine leadsTo_next.mpr (h.complete fun o t u ht hp hfit hu => ?_)
  dsimp only at hu
  split at hu <;> cases hu
  exact ht.setPort ((ht p).of_same rfl rfl rfl rfl rfl rfl)

theorem execSoakReadDone_portsOk (h : portsOk s) (tok : Nat) (bytes : List Byte) :
    leadsTo portsOk (execSoakReadDone p tok bytes s) := by
  refine leadsTo_next.mpr (h.complete fun o t u ht hp hfit hu => ?_)
  dsimp only at hu
  split at hu <;> cases hu
  split
  · exact portsOk_send.mpr (ht.setPort (portOk_of_idle (portOk_iff.mp (ht p)).1 (by simp [hp])))
  · exact ht.setPort ((ht p).of_same rfl rfl rfl rfl rfl rfl)

theorem execFormatVolume_portsOk (h : portsOk s) (q : Req) (port : Nat) (serial : Serial) :
    leadsTo portsOk (execFormatVolume q port serial s) := by
  unfold execFormatVolume
  split
  · exact leadsTo_next.mpr h
  · dsimp only
    split
    · exact leadsTo_next.mpr h
    · split
      · exact leadsTo_next.mpr h
      · split
        · exact leadsTo_next.mpr h
        next hr =>
          split
          · exact leadsTo_next.mpr (h.holderTest q _)
          · exact leadsTo_next.mpr (h.beginFormat q serial hr)

/-- A reservation that is granted moves the allocation pointer no further than the drive's capacity (R101). -/
theorem PortCtx.alloc_add_le {c : PortCtx} {blocks : Nat} (h : pointersOk c) (hb : blocks ≤ c.free) :
    c.alloc.getD 0 + blocks ≤ c.capacity.getD 0 := by
  have halloc := h.1
  unfold PortCtx.free at hb
  split at hb
  next hc ha => simp only [hc, ha, Option.getD_some] at *; omega
  · omega

theorem execReservationRequest_portsOk (h : portsOk s) (ch : Chan) (order : Nat) (vol : Serial) (blocks : Nat) :
    leadsTo portsOk (execReservationRequest ch p order vol blocks s) := by
  unfold execReservationRequest
  dsimp only
  repeat' split
  case isFalse.isFalse.isFalse.isFalse.isFalse hstate _ _ hfree =>
    push Not at hstate
    obtain ⟨pointers, -⟩ := portOk_iff.mp (h p)
    refine leadsTo_next.mpr (portsOk_send.mpr (h.setPort ((h p).of_pointers (by simp [hstate.1]) ?_ rfl rfl)))
    exact ⟨PortCtx.alloc_add_le pointers (Nat.le_of_not_lt hfree), pointers.2⟩
  all_goals exact leadsTo_next.mpr h

/-- A holder leaves the port (R102). -/
theorem portsOk.setPort_closed (h : portsOk s) (ch : Chan) (order : Nat) :
    portsOk (s.setPort p ((s.port p).closed ch order)) :=
  h.setPort ((h p).of_same rfl rfl rfl rfl rfl rfl)

theorem execStatusQueryAnswer_portsOk (h : portsOk s) (ch : Chan) (order : Nat) (alive : Bool) :
    leadsTo portsOk (execStatusQueryAnswer p ch order alive s) := by
  have hc : portOk (if alive then s.port p else (s.port p).closed ch order) := by
    cases alive
    · exact (h p).of_same rfl rfl rfl rfl rfl rfl
    · exact h p
  unfold execStatusQueryAnswer
  dsimp only
  split
  · exact leadsTo_next.mpr (h.setPort hc)
  · split
    · exact leadsTo_next.mpr (h.setPort hc)
    · have hset (x : Option HolderTest) :
          portsOk (s.setPort p { (if alive then s.port p else (s.port p).closed ch order) with test := x }) :=
        h.setPort (hc.of_same rfl rfl rfl rfl rfl rfl)
      split
      · exact leadsTo_next.mpr (hset _)
      · rw [leadsTo_next]
        split
        · exact hset none
        · exact (hset none).testPassed _ _

theorem portsOk.detached (h : portsOk s) (hs : (s.port p).state ≠ .scanning) : portsOk (s.detached p) :=
  portsOk_send.mpr (h.setPort ((h p).of_pointers hs (portOk_iff.mp (h p)).1 rfl rfl))

theorem execWatchAnswer_portsOk (h : portsOk s) (ch : Chan) (order : Nat) :
    leadsTo portsOk (execWatchAnswer p ch order s) := by
  unfold execWatchAnswer
  dsimp only
  split
  next hd =>
    have hset : portsOk (s.setPort p { (s.port p).closed ch order with
        watching := ((s.port p).closed ch order).watching.filter fun x => x ≠ (ch, order) }) :=
      h.setPort ((h p).of_same rfl rfl rfl rfl rfl rfl)
    rw [leadsTo_next]
    split
    · refine hset.detached p ?_
      simp [hd.1]
    · exact hset
  · exact leadsTo_next.mpr (h.setPort_closed p ch order)

/-! ### Requests, withdrawals and questions -/

/-- A request joins its class (R107). -/
theorem portsOk.queued (h : portsOk s) (plays : List PlayReq) (reads : List ReadReq) (writes : List WriteReq) :
    portsOk ((s.setPort p { s.port p with plays := plays, reads := reads, writes := writes }).serve p) := by
  refine portsOk.serve (h.setPort ?_)
  exact (h p).of_same rfl rfl rfl rfl rfl rfl

theorem portsOk.takeWrite (h : portsOk s) (vol : Serial) (r : WriteReq) : portsOk (s.takeWrite p vol r) := by
  unfold State.takeWrite
  dsimp only
  simp only [State.answerWrite_eq]
  split
  · exact h
  · split
    · exact h
    · exact h.queued p _ _ _

theorem execVerifyRead_portsOk (h : portsOk s) (ch : Chan) (order : Nat) (vol : Serial) (ext block len : Nat) (sum : Sum32) :
    leadsTo portsOk (execVerifyRead ch p order vol ext block len sum s) := by
  unfold execVerifyRead
  dsimp only
  simp only [State.endRead_eq]
  split
  · exact leadsTo_next.mpr h
  · split
    · exact leadsTo_next.mpr h
    · exact leadsTo_next.mpr (h.queued p _ _ _)

theorem execReinspectionRead_portsOk (h : portsOk s) (vol : Serial) (first count run : Nat) :
    leadsTo portsOk (execReinspectionRead p vol first count run s) := by
  unfold execReinspectionRead
  dsimp only
  simp only [State.endRead_eq]
  split
  · exact leadsTo_next.mpr h
  · exact leadsTo_next.mpr (h.queued p _ _ _)

theorem execPlaybackRead_portsOk (h : portsOk s) (k : Outp) (vol : Serial) (first : Nat) (span : ReadSpan) (rtok : Nat) :
    leadsTo portsOk (execPlaybackRead k p vol first span rtok s) := by
  unfold execPlaybackRead
  dsimp only
  split
  · exact leadsTo_next.mpr h
  · exact leadsTo_next.mpr (h.queued p _ _ _)

theorem execWithdrawal_portsOk (h : portsOk s) (ch : Chan) (order : Nat) : leadsTo portsOk (execWithdrawal ch p order s) := by
  unfold execWithdrawal
  dsimp only
  rw [leadsTo_next, foldl_endRead, foldl_answerWrite]
  exact h.setPort ((h p).of_same rfl rfl rfl rfl rfl rfl)

theorem execReadCancel_portsOk (h : portsOk s) (who : Canceller) : leadsTo portsOk (execReadCancel who p s) := by
  unfold execReadCancel
  dsimp only
  split
  · rw [leadsTo_next, foldl_answerPlay]
    exact h.setPort ((h p).of_same rfl rfl rfl rfl rfl rfl)
  · rw [leadsTo_next, foldl_endRead]
    exact h.setPort ((h p).of_same rfl rfl rfl rfl rfl rfl)

theorem execAttachmentQuestion_portsOk (h : portsOk s) (who : VolAsker) (vol : Serial) :
    leadsTo portsOk (execAttachmentQuestion who p vol s) := by
  cases who <;> exact leadsTo_next.mpr h

/-! ### Detaching, removal and the soak -/

/-- A running operation, if its result is not to count, is still within the drive. -/
theorem portOk.op_discarded {c e : PortCtx} (h : portOk c) (he : pointersOk e) (hc : e.capacity = c.capacity)
    (ho : e.op = c.op.map fun o => { o with kind := .discarded o.kind }) : portOk e := by
  obtain ⟨-, fits⟩ := portOk_iff.mp h
  refine portOk_iff.mpr ⟨he, fun x hx => ?_⟩
  rw [ho] at hx
  obtain ⟨o, hop, rfl⟩ := Option.map_eq_some_iff.mp hx
  exact (fits o hop).of_kind rfl hc (by simp) (by simp)

/-- Outside a scan some running operations may be discarded, and the rest go on. -/
theorem portOk.op_mapped {c e : PortCtx} {f : DriveOp → DriveOp} (h : portOk c) (hs : c.state ≠ .scanning) (he : pointersOk e)
    (hc : e.capacity = c.capacity) (ho : e.op = c.op.map f)
    (hf : ∀ o, f o = o ∨ f o = { o with kind := .discarded o.kind }) : portOk e := by
  obtain ⟨-, fits⟩ := portOk_iff.mp h
  refine portOk_iff.mpr ⟨he, fun x hx => ?_⟩
  rw [ho] at hx
  obtain ⟨o, hop, rfl⟩ := Option.map_eq_some_iff.mp hx
  obtain e | e := hf o <;> rw [e]
  · exact (fits o hop).of_kind rfl hc ((fits o hop).not_ident hs) fun _ => id
  · exact (fits o hop).of_kind rfl hc (by simp) (by simp)

theorem portsOk.soakStopped (h : portsOk s) (hs : (s.port p).state = .soaking) (st : PortState) (cause : Nat) :
    portsOk (s.soakStopped p st cause) := by
  refine portsOk_send.mpr (h.setPort ((h p).op_mapped (by simp [hs]) (portOk_iff.mp (h p)).1 rfl rfl fun o => ?_))
  split <;> simp

theorem execDetach_portsOk (h : portsOk s) (q : Req) (port : Nat) : leadsTo portsOk (execDetach q port s) := by
  unfold execDetach
  split
  · exact leadsTo_next.mpr h
  next p _ =>
    have pointers := (portOk_iff.mp (h p)).1
    dsimp only
    split
    case h_1 | h_2 | h_3 => exact leadsTo_next.mpr h
    case h_4 hs =>
      have hset : portsOk (s.setPort p { s.port p with state := .detaching, watching := (s.port p).watchList }) :=
        h.setPort ((h p).of_pointers (by simp [hs]) pointers rfl rfl)
      rw [leadsTo_next, foldl_watch]
      split
      · exact portsOk.detached p (portsOk_post.mpr (portsOk_send.mpr (portsOk_send.mpr hset))) (by simp)
      · exact portsOk_post.mpr (portsOk_send.mpr (portsOk_send.mpr hset))
    case h_5 hs =>
      have hset : portsOk (s.setPort p { s.port p with
          state := .detached, index := [], vol := none, alloc := none
          op := (s.port p).op.map fun o => { o with kind := .discarded o.kind } }) :=
        h.setPort ((h p).op_discarded ⟨Nat.zero_le _, pointers.2⟩ rfl rfl)
      exact leadsTo_next.mpr (portsOk.detached p (portsOk_send.mpr hset) (by simp))
    case h_6 hs =>
      rw [leadsTo_next]
      refine portsOk.detached p (portsOk_send.mpr (h.setPort ?_)) (by simp [hs])
      refine (h p).op_mapped (by simp [hs]) ⟨pointers.1, pointers.2.1, by simp⟩ rfl rfl fun o => ?_
      split <;> simp
    case h_7 hs =>
      refine leadsTo_next.mpr (portsOk.serve (portsOk.detached p (portsOk_send.mpr (h.soakStopped p hs _ _)) ?_))
      simp [State.soakStopped]

theorem execDriveRemoved_portsOk (h : portsOk s) : leadsTo portsOk (execDriveRemoved p s) := by
  have hpins : portsOk { s with pins := { s.pins with driveDetect := upd s.pins.driveDetect p fun _ => false } } :=
    (portsOk_congr rfl).mpr h
  unfold execDriveRemoved
  dsimp only
  split
  · exact leadsTo_next.mpr hpins
  · rw [leadsTo_next, State.answerAllLost_eq, State.raise_eq, portsOk_send]
    refine portsOk.setPort ?_ (portOk_of_idle (by simp [pointersOk]) rfl)
    simp only [State.loseOp_eq, State.loseVolume_eq]
    repeat' split
    all_goals exact hpins

theorem execStartSoak_portsOk (h : portsOk s) (q : Req) (port len threshold : Nat) :
    leadsTo portsOk (execStartSoak q port len threshold s) := by
  unfold execStartSoak
  split
  · exact leadsTo_next.mpr h
  · split
    · exact leadsTo_next.mpr h
    · split
      · exact leadsTo_next.mpr h
      · exact leadsTo_next.mpr (h.holderTest q _)

theorem execStopSoak_portsOk (h : portsOk s) (q : Req) (port : Nat) : leadsTo portsOk (execStopSoak q port s) := by
  unfold execStopSoak
  split
  · exact leadsTo_next.mpr h
  · split
    · exact leadsTo_next.mpr h
    next p _ hs => exact leadsTo_next.mpr (portsOk.serve (portsOk_send.mpr (h.soakStopped p (not_not.mp hs) _ _)))

end

/-- Every command of the destination ports keeps the rule. -/
theorem exec_portsOk {i : Instr} (s : State) (hi : partOf i = .dp) (h : portsOk s) : leadsTo portsOk (exec i s) := by
  cases i with
  | foundCopySearch p serial clipNo dataLen =>
    change leadsTo _ (execFoundCopySearch p serial clipNo dataLen s)
    unfold execFoundCopySearch
    dsimp only
    split <;> exact leadsTo_next.mpr h
  | driveAttach p => exact execDriveAttach_portsOk p h
  | identificationReadDone p tok capacity => exact execIdentificationReadDone_portsOk p h tok capacity
  | labelReadDone p tok bytes => exact execLabelReadDone_portsOk p h tok bytes
  | walkReadDone p tok bytes => exact execWalkReadDone_portsOk p h tok bytes
  | driveError p tok raised => exact leadsTo_next.mpr (h.attemptFailed tok raised)
  | driveAttemptExpiry p tok raised => exact leadsTo_next.mpr (h.attemptFailed tok raised)
  | formatVolume q port serial => exact execFormatVolume_portsOk h q port serial
  | formatWriteDone p tok => exact execFormatWriteDone_portsOk p h tok
  | reservationRequest ch p order vol blocks => exact execReservationRequest_portsOk p h ch order vol blocks
  | statusQueryAnswer p ch order alive => exact execStatusQueryAnswer_portsOk p h ch order alive
  | watchAnswer p ch order => exact execWatchAnswer_portsOk p h ch order
  | headerWrite ch p order vol hb serial clipNo len => exact leadsTo_next.mpr (h.takeWrite p vol _)
  | headerWriteDone p tok => exact execHeaderWriteDone_portsOk p h tok
  | headerRewrite ch p order vol hb sums => exact leadsTo_next.mpr (h.takeWrite p vol _)
  | headerRewriteDone p tok => exact execHeaderRewriteDone_portsOk p h tok
  | extentWrite ch p order vol num block => exact leadsTo_next.mpr (h.takeWrite p vol _)
  | extentWriteDone p tok => exact execExtentWriteDone_portsOk p h tok
  | verifyRead ch p order vol ext block len sum => exact execVerifyRead_portsOk p h ch order vol ext block len sum
  | verifyReadDone p tok bytes => exact execVerifyReadDone_portsOk p h tok bytes
  | playbackRead k p vol first span rtok => exact execPlaybackRead_portsOk p h k vol first span rtok
  | playbackReadDone p tok bytes => exact execPlaybackReadDone_portsOk p h tok bytes
  | reinspectionRead p vol first count run => exact execReinspectionRead_portsOk p h vol first count run
  | reinspectionReadDone p tok bytes => exact execReinspectionReadDone_portsOk p h tok bytes
  | withdrawal ch p order => exact execWithdrawal_portsOk p h ch order
  | readCancel who p => exact execReadCancel_portsOk p h who
  | attachmentQuestion who p vol => exact execAttachmentQuestion_portsOk p h who vol
  | detach q port => exact execDetach_portsOk h q port
  | driveRemoved p => exact execDriveRemoved_portsOk p h
  | startSoak q port len threshold => exact execStartSoak_portsOk h q port len threshold
  | soakWriteDone p tok => exact execSoakWriteDone_portsOk p h tok
  | soakReadDone p tok bytes => exact execSoakReadDone_portsOk p h tok bytes
  | stopSoak q port => exact execStopSoak_portsOk h q port
  | queryPort q port =>
    change leadsTo _ (execQueryPort q port s)
    unfold execQueryPort
    split <;> exact leadsTo_next.mpr h
  | queryIndex q port first =>
    change leadsTo _ (execQueryIndex q port first s)
    unfold execQueryIndex
    split
    · exact leadsTo_next.mpr h
    · dsimp only
      split <;> exact leadsTo_next.mpr h
  | _ => cases hi

/-! ## Resets and steps -/

theorem dp_of_rest {s t : State} {q : Part} (hq : q ≠ .dp) (h : t.rest q = s.rest q) : t.dp = s.dp := by
  have hdp := congrArg State.dp h
  cases q with
  | dp => exact absurd rfl hq
  | _ => exact hdp

theorem portsRule : PartRule .dp portsOk where
  rest := fun hq h hs => (portsOk_congr (dp_of_rest hq h)).mpr hs
  outside := fun _ _ _ hs => hs
  blank := fun _ _ _ => (portsOk_congr (s := State.reset) rfl).mpr reset_portsOk

/-- A reset leaves the ports ABSENT and takes the drives that are present. -/
theorem restart_portsOk (s : State) (x : Pins) (sp : StationPorts) : portsOk (s.restart x sp) := by
  refine foldl_induction (fun t d h => h.driveIn) _ ?_
  exact foldl_induction (fun t b h => portsRule.rest (by decide) (State.cardIn_rest t b _) h) _ (portsRule.blank s x sp)

theorem partReset_portsOk (s : State) (x : Pins) : portsOk (s.partReset x) := by
  refine foldl_induction (fun t st h => portsRule.rest (by decide) (State.letIn_rest t st) h) _ ?_
  split
  · exact portsRule.rest (by decide) (State.takeNotice_rest _ _) (restart_portsOk _ _ _)
  · exact restart_portsOk _ _ _

theorem exec_portsOk_of_resets {i : Instr} {s : State} (hr : resets i = true) (h : portsOk s) :
    leadsTo portsOk (exec i s) := by
  cases i with
  | powerOnReset x => exact leadsTo_next.mpr (restart_portsOk _ _ _)
  | responseSent st x =>
    change leadsTo _ (execResponseSent st x s)
    simp only [execResponseSent]
    split
    · split
      · exact leadsTo_next.mpr h
      · rw [leadsTo_next]
        split
        · exact partReset_portsOk _ _
        · exact portsRule.rest (q := .sp) (by decide) (by simp) h
    all_goals exact leadsTo_next.mpr h
  | _ => cases hr

theorem ports_kept {s t : State} (hs : portsOk s) (e : step s = .next t) : portsOk t := by
  refine step_keeps (P := portsOk) (fun _ _ h => h) (fun _ _ h => h) (fun i s t h e => ?_) hs e
  by_cases hi : partOf i = .dp
  · exact (exec_portsOk s hi h).elim e
  · cases hr : resets i with
    | true => exact (exec_portsOk_of_resets hr h).elim e
    | false => exact portsRule.exec_of_other (by decide) hi hr e h

end Sys2Proof.Machine
end


section
/-! SUPPORT. The outputs are right after every step (R188, R190, R198). -/

namespace Sys2Proof.Machine

/-! ## The rule of one output -/

/-- An output that differs only where the rule does not look is as right. -/
theorem outputOk.of_same {o e : Output} (h : outputOk o) (he : e.enabled = o.enabled) (hp : e.play = o.play)
    (hc : e.current = o.current) (hl : e.latched = o.latched) (hs : e.store = o.store) (hi : e.pins = o.pins)
    (hb : e.bnd = o.bnd) (hf : e.prefetch = o.prefetch) (hk : e.clip = o.clip) (hr : e.src = o.src) : outputOk e := by
  unfold outputOk
  rw [he, hp, hc, hl, hs, hi, hb, hf, hk, hr]
  exact h

/-- Of an enabled output the rule asks only that it plays nothing while it is STOPPED. -/
theorem outputOk_of_enabled {o : Output} (he : o.enabled = true)
    (hs : o.play = .stopped → o.prefetch = [] ∧ o.clip = none ∧ o.src = none) : outputOk o :=
  ⟨fun h => by simp [he] at h, hs⟩

/-- Of an enabled output that is not STOPPED the rule asks nothing. -/
theorem outputOk_of_plays {o : Output} (he : o.enabled = true) (hp : o.play ≠ .stopped) : outputOk o :=
  outputOk_of_enabled he fun h => absurd h hp

theorem outputOk.enabled_of_plays {o : Output} (h : outputOk o) (hp : o.play ≠ .stopped) : o.enabled = true := by
  by_contra he
  exact hp (h.1 (by simpa using he)).1

theorem outputOk.enabled_of_bnd {o : Output} {b : Boundary} (h : outputOk o) (hb : o.bnd = some b) : o.enabled = true := by
  by_contra he
  obtain ⟨-, -, -, -, -, hnone⟩ := h.1 (by simpa using he)
  simp [hb] at hnone

/-! ## The rule under the outputs' operations -/

/-- The rule of the outputs speaks of their contexts alone. -/
theorem outputsOk_congr {s t : State} (h : t.ro.outs = s.ro.outs) : outputsOk t ↔ outputsOk s := by
  simp only [outputsOk, State.out, h]

@[simp] theorem outputsOk_send {s : State} {src dst : Node} {ms : List Instr} :
    outputsOk (s.send src dst ms) ↔ outputsOk s := .rfl

@[simp] theorem outputsOk_post {s : State} {l : List Wire} : outputsOk (s.post l) ↔ outputsOk s := .rfl

@[simp] theorem outputsOk_dropSlots {s : State} {k : Outp} {ns : List Nat} : outputsOk (s.dropSlots k ns) ↔ outputsOk s := .rfl

@[simp] theorem outputsOk_setClock {s : State} {g : Grp} {c : Clock} : outputsOk (s.setClock g c) ↔ outputsOk s := .rfl

@[simp] theorem State.post_out (s : State) (l : List Wire) (k : Outp) : (s.post l).out k = s.out k := rfl

@[simp] theorem State.dropSlots_out (s : State) (k j : Outp) (ns : List Nat) : (s.dropSlots k ns).out j = s.out j := rfl

@[simp] theorem State.setOut_setOut (s : State) (k : Outp) (a b : Output) : (s.setOut k a).setOut k b = s.setOut k b := by
  simp [State.setOut, upd]

@[simp] theorem State.post_setOut (s : State) (l : List Wire) (k : Outp) (o : Output) :
    (s.post l).setOut k o = (s.setOut k o).post l := rfl

/-- The rule holds of every output but one. -/
def othersOk (k : Outp) (s : State) : Prop := ∀ x, x ≠ k → outputOk (s.out x)

section
variable {s : State} {k : Outp}

theorem othersOk.setOut {o : Output} (h : othersOk k s) (ho : outputOk o) : outputsOk (s.setOut k o) := fun x => by
  by_cases hx : x = k
  · rw [hx, State.setOut_out]; exact ho
  · rw [State.setOut_other s k x o hx]; exact h x hx

theorem outputsOk.setOut {o : Output} (h : outputsOk s) (ho : outputOk o) : outputsOk (s.setOut k o) :=
  othersOk.setOut (fun x _ => h x) ho

/-! ### The prefetch list -/

theorem State.window_of_stopped (h : (s.out k).play = .stopped) : s.window k = [] := by
  unfold State.window
  dsimp only
  split
  · rfl
  · rw [if_pos (.inl h)]

theorem outputsOk.fetchFrame (h : outputsOk s) (hp : (s.out k).play ≠ .stopped) (n : Nat) :
    outputsOk (s.fetchFrame k n) ∧ ((s.fetchFrame k n).out k).play ≠ .stopped := by
  unfold State.fetchFrame
  dsimp only
  split
  · exact ⟨h, hp⟩
  · refine ⟨outputsOk_send.mpr (h.setOut ?_), by simpa using hp⟩
    exact outputOk_of_plays ((h k).enabled_of_plays hp) hp

theorem outputsOk.updatePrefetch (h : outputsOk s) : outputsOk (s.updatePrefetch k) := by
  unfold State.updatePrefetch
  dsimp only
  by_cases hp : (s.out k).play = .stopped
  · rw [State.window_of_stopped hp]
    obtain ⟨hlist, -⟩ := (h k).2 hp
    refine outputsOk_dropSlots.mpr (h.setOut ?_)
    exact (h k).of_same rfl rfl rfl rfl rfl rfl rfl (by simp [hlist]) rfl rfl
  · have hfold (w : List Nat) (t : State) (ht : outputsOk t ∧ (t.out k).play ≠ .stopped) :
        outputsOk (w.foldl (fun t n => t.fetchFrame k n) t) :=
      (foldl_induction (P := fun t => outputsOk t ∧ (t.out k).play ≠ .stopped) (fun t n ht => ht.1.fetchFrame ht.2 n) w ht).1
    refine hfold _ _ ⟨outputsOk_dropSlots.mpr (h.setOut ?_), by simpa using hp⟩
    exact outputOk_of_plays ((h k).enabled_of_plays hp) hp

theorem outputsOk.updateAll (h : outputsOk s) : outputsOk s.updateAll :=
  foldl_induction (fun _ _ h => h.updatePrefetch) _ h

/-! ### Stopping and ending -/

/-- What a stop makes of an output (R198). -/
theorem State.stopOutput_eq (s : State) (k : Outp) : s.stopOutput k =
    (s.setOut k { s.out k with
      prefetch := [], current := none, play := .stopped, clip := none, src := none, pos := 0, unsynced := false, why := none }).post
      (⟨.ro, .fx, .playbackCancel k⟩ :: slotDrops k (s.out k) ++ [noticeOf .ro (outNotice .outStopped k none [])]) := by
  simp [State.stopOutput, State.leavePlayback, State.dropCurrent, State.dropSlots, State.send_eq_post, slotDrops, noticeOf,
    Function.comp_def]

/-- What an end of playing makes of an output: all but the last frame gives up the current slot (R199). -/
theorem State.endPlay_eq (s : State) (k : Outp) (why : PlayEnd) : ∃ l, s.endPlay k why =
    (s.setOut k { s.out k with
      prefetch := [], current := if why = .lastFrame then (s.out k).current else none, play := .ended
      why := some why }).post l := by
  by_cases h : why = .lastFrame
  · simp [State.endPlay, State.leavePlayback, State.dropSlots, State.send_eq_post, h]
  · simp [State.endPlay, State.leavePlayback, State.dropCurrent, State.dropSlots, State.send_eq_post, h]

theorem outputsOk.leavePlayback (h : outputsOk s) : outputsOk (s.leavePlayback k) := by
  refine outputsOk_dropSlots.mpr (h.setOut ⟨fun he => ?_, fun hp => ?_⟩)
  · exact (h k).1 he
  · exact ⟨rfl, ((h k).2 hp).2⟩

theorem outputsOk.dropCurrent (h : outputsOk s) : outputsOk (s.dropCurrent k) := by
  refine outputsOk_dropSlots.mpr (h.setOut ⟨fun he => ?_, (h k).2⟩)
  obtain ⟨hplay, -, rest⟩ := (h k).1 he
  exact ⟨hplay, rfl, rest⟩

theorem outputsOk.stopOutput (h : outputsOk s) : outputsOk (s.stopOutput k) := by
  rw [State.stopOutput_eq]
  refine outputsOk_post.mpr (h.setOut ⟨fun he => ?_, fun _ => ⟨rfl, rfl, rfl⟩⟩)
  obtain ⟨-, -, rest⟩ := (h k).1 he
  exact ⟨rfl, rfl, rest⟩

theorem outputsOk.endPlay (h : outputsOk s) (hp : (s.out k).play ≠ .stopped) (why : PlayEnd) : outputsOk (s.endPlay k why) := by
  obtain ⟨l, e⟩ := s.endPlay_eq k why
  rw [e]
  refine outputsOk_post.mpr (h.setOut (outputOk_of_plays ?_ (by simp)))
  exact (h k).enabled_of_plays hp

theorem outputsOk.loseSource (h : outputsOk s) (why : PlayEnd) : outputsOk (s.loseSource k why) := by
  unfold State.loseSource
  split
  · exact h
  next hp => exact h.endPlay (by simp [hp]) why
  next hp => exact h.endPlay (by simp [hp]) why
  · split
    · exact h
    · exact h.dropCurrent

/-! ### Selections -/

/-- The outputs are right, and each is enabled where it was at `s₀`: so a member of a group stays one while the others
select. -/
def rightSince (s₀ s : State) : Prop := outputsOk s ∧ ∀ x, (s.out x).enabled = (s₀.out x).enabled

variable {s₀ : State}

theorem rightSince.setOut {o : Output} (h : rightSince s₀ s) (he : o.enabled = (s.out k).enabled)
    (hs : o.enabled = true → o.play = .stopped → o.prefetch = [] ∧ o.clip = none ∧ o.src = none) (hon : (s.out k).enabled = true) :
    rightSince s₀ (s.setOut k o) := by
  have hoe : o.enabled = true := he.trans hon
  refine ⟨h.1.setOut (outputOk_of_enabled hoe (hs hoe)), fun x => ?_⟩
  by_cases hx : x = k
  · rw [hx, State.setOut_out, he]; exact h.2 k
  · rw [State.setOut_other s k x o hx]; exact h.2 x

/-- An output that plays takes any other context in which it plays. -/
theorem rightSince.setOut_plays (h : rightSince s₀ s) (hp : (s.out k).play ≠ .stopped) (o : Output)
    (he : o.enabled = (s.out k).enabled) (ho : o.play ≠ .stopped) : rightSince s₀ (s.setOut k o) :=
  h.setOut he (fun _ hs => absurd hs ho) ((h.1 k).enabled_of_plays hp)

theorem rightSince.endPlay (h : rightSince s₀ s) (hp : (s.out k).play ≠ .stopped) (why : PlayEnd) :
    rightSince s₀ (s.endPlay k why) := by
  obtain ⟨l, e⟩ := s.endPlay_eq k why
  rw [e]
  exact h.setOut_plays hp _ rfl (by simp)

theorem rightSince.selectOwn (h : rightSince s₀ s) : rightSince s₀ (s.selectOwn k).1 := by
  unfold State.selectOwn
  dsimp only
  split
  · exact h
  · exact h
  · exact h
  next hp =>
    have hplays : (s.out k).play ≠ .stopped := by simp [hp]
    have hgo (o : Output) (he : o.enabled = (s.out k).enabled) (ho : o.play ≠ .stopped) (sel : Selection) : rightSince s₀
        (if decide ((s.out k).clip.any fun c => (s.out k).pos + 1 = c.frames) then ((s.setOut k o).endPlay k .lastFrame, sel)
          else (s.setOut k { o with pos := nextPos (s.out k).pos }, sel)).1 := by
      split
      · exact (h.setOut_plays hplays o he ho).endPlay (by simpa using ho) _
      · exact h.setOut_plays hplays _ he ho
    split
    · exact hgo (Output.show ..) rfl hplays _
    · exact h.endPlay hplays _
    · exact h.endPlay hplays _
    all_goals
      refine hgo _ ?_ ?_ _
      · rfl
      · exact hplays

theorem rightSince.selectSynced (h : rightSince s₀ s) (g : Grp) : rightSince s₀ (s.selectSynced k g).1 := by
  have hset (hp : (s.out k).play ≠ .stopped) (o : Output) (n : Nat) (he : o.enabled = (s.out k).enabled)
      (ho : o.play = (s.out k).play) : rightSince s₀ (s.setOut k { o with pos := n }) :=
    h.setOut_plays hp _ he (ho ▸ hp)
  have hends (hp : (s.out k).play ≠ .stopped) (n : Nat) (why : PlayEnd) :
      rightSince s₀ ((s.setOut k { s.out k with pos := n }).endPlay k why) :=
    (hset hp _ n rfl rfl).endPlay (by rw [State.setOut_out]; exact hp) why
  unfold State.selectSynced
  dsimp only
  split
  · exact h
  case h_2 hp _ | h_3 hp _ =>
    have hplays : (s.out k).play ≠ .stopped := by simp [hp]
    split
    · exact hset hplays (s.out k) _ rfl rfl
    · split
      · exact hset hplays (s.out k) _ rfl rfl
      · split
        case h_2 | h_3 => exact hends hplays _ _
        case h_1 => exact hset hplays (Output.show ..) _ rfl rfl
        all_goals
          refine hset hplays _ _ ?_ ?_
          · split <;> rfl
          · split <;> rfl
  all_goals exact h

/-- A boundary's choice (R192 step 3): an output at a boundary goes on to its next stage, a miss having given up the current
slot. -/
theorem State.choose_cases (s : State) (k : Outp) (sel : Selection) : s.choose k sel = s ∨
    ∃ o b x l, (s.out k).bnd = some b ∧ (o = s.out k ∨ o = (s.out k).newCurrent none) ∧
      s.choose k sel = (s.setOut k { o with bnd := some x }).post l := by
  have hkept : ∃ o, o = (if sel = .miss then (s.out k).newCurrent none else s.out k) ∧ o.bnd = (s.out k).bnd ∧
      (o = s.out k ∨ o = (s.out k).newCurrent none) := by
    by_cases h : sel = .miss <;> simp [h, Output.newCurrent]
  obtain ⟨o, ho, hbnd, hcases⟩ := hkept
  simp only [State.choose, ← ho]
  split
  · exact .inl rfl
  next b hb =>
    refine .inr ?_
    split
    case h_2 => exact ⟨o, b, _, _, hbnd.symm.trans hb, hcases, rfl⟩
    all_goals exact ⟨o, b, _, [], hbnd.symm.trans hb, hcases, (State.post_nil _).symm⟩

theorem rightSince.choose (h : rightSince s₀ s) (sel : Selection) : rightSince s₀ (s.choose k sel) := by
  obtain e | ⟨o, b, x, l, hb, ho, e⟩ := s.choose_cases k sel <;> rw [e]
  · exact h
  · have hon := (h.1 k).enabled_of_bnd hb
    obtain rfl | rfl := ho
    · exact h.setOut (o := { s.out k with bnd := some x }) rfl (fun _ => (h.1 k).2) hon
    · exact h.setOut (o := { (s.out k).newCurrent none with bnd := some x }) rfl (fun _ => (h.1 k).2) hon

theorem rightSince.beginBoundary (h : rightSince s₀ s) (hon : (s.out k).enabled = true) (g : Option Grp) (event : Nat) :
    rightSince s₀ (s.beginBoundary k g event) := by
  have ht : rightSince s₀ s.tick := h
  have hset (x : Option (List Rgb)) (b : Option Boundary) :
      rightSince s₀ (s.tick.setOut k { s.out k with pins := x, bnd := b }) :=
    ht.setOut rfl (fun _ => (h.1 k).2) hon
  unfold State.beginBoundary
  dsimp only
  split
  · exact (hset _ _).choose _
  · exact (hset _ _).choose _
  · rw [State.setOut_setOut]
    exact hset _ _
  · split
    · exact ((hset _ _).selectSynced _).choose _
    · exact (hset _ _).selectOwn.choose _

theorem outputsOk.rightSince (h : outputsOk s) : rightSince s s := ⟨h, fun _ => rfl⟩

theorem outputsOk.choose (h : outputsOk s) (sel : Selection) : outputsOk (s.choose k sel) := (h.rightSince.choose sel).1

/-! ### Latching -/

theorem outputsOk.latchAll (h : outputsOk s) (ks : List Outp) : outputsOk (s.latchAll ks) := by
  unfold State.latchAll
  split
  · exact h
  · refine outputsOk_send.mpr (foldl_induction (fun t k ht => ht.setOut ⟨fun he => ?_, (ht k).2⟩) _ h)
    obtain ⟨hp, hc, hl, hs, hi, hb⟩ := (ht k).1 he
    exact ⟨hp, hc, hl, hs, hi, by simp [hb]⟩

theorem outputsOk.tryLatch (h : outputsOk s) : outputsOk (s.tryLatch k) := by
  unfold State.tryLatch
  split
  · exact h
  · split <;> exact h.latchAll _

theorem Output.release_kept (o : Output) (sel : Selection) : (o.release sel).enabled = o.enabled ∧ (o.release sel).play = o.play ∧
    (o.release sel).prefetch = o.prefetch ∧ (o.release sel).clip = o.clip ∧ (o.release sel).src = o.src := by
  unfold Output.release
  split
  · split <;> exact ⟨rfl, rfl, rfl, rfl, rfl⟩
  · exact ⟨rfl, rfl, rfl, rfl, rfl⟩

theorem outputsOk.finishBoundary (h : outputsOk s) (hon : (s.out k).enabled = true) (sel : Selection) (slot : LookIx)
    (version : Nat) (l : LookRec) : outputsOk (s.finishBoundary k sel slot version l) := by
  unfold State.finishBoundary
  dsimp only
  refine outputsOk.updatePrefetch (outputsOk_dropSlots.mpr (h.setOut ?_))
  obtain ⟨he, hp, hf, hc, hs⟩ := Output.release_kept { s.out k with
    latched := some { slot := slot, version := version, look := l }
    store := some (s.rendered (s.out k) sel l), bnd := none } sel
  refine outputOk_of_enabled (he.trans hon) fun hplay => ?_
  obtain ⟨hf', hc', hs'⟩ := (h k).2 (hp.symm.trans hplay)
  exact ⟨hf.trans hf', hc.trans hc', hs.trans hs'⟩

/-! ### Routes -/

theorem outputsOk_ite {c : Prop} [Decidable c] {a b : State} (ha : outputsOk a) (hb : outputsOk b) :
    outputsOk (if c then a else b) := by
  split <;> assumption

theorem outputsOk.judgeOut (h : outputsOk s) : outputsOk (s.judgeOut k) := by
  have hset : outputsOk (s.setOut k { s.out k with unsynced := s.judge (s.out k) }) :=
    h.setOut ((h k).of_same rfl rfl rfl rfl rfl rfl rfl rfl rfl rfl)
  unfold State.judgeOut
  dsimp only
  split <;> exact hset

theorem outputsOk.updateClock (h : outputsOk s) (g : Grp) : outputsOk (s.updateClock g) := by
  unfold State.updateClock
  dsimp only
  repeat' split
  all_goals exact h

theorem outputsOk.latchRest (h : outputsOk s) (left : Option Boundary) : outputsOk (s.latchRest left) := by
  unfold State.latchRest
  split
  · split
    · exact h.latchAll _
    · exact h
  · exact h

/-- An output that plays nothing is silenced, whatever else it held (R190). -/
theorem othersOk.silence (h : othersOk k s) (hp : (s.out k).play = .stopped)
    (hs : (s.out k).prefetch = [] ∧ (s.out k).clip = none ∧ (s.out k).src = none) : outputsOk (s.silence k) :=
  outputsOk_send.mpr (h.setOut ⟨fun _ => ⟨hp, rfl, rfl, rfl, rfl, rfl⟩, fun _ => hs⟩)

/-- A request that does not disable an output leaves it right. -/
theorem outputOk.withItems {o : Output} (h : outputOk o) (i : RouteItems)
    (hi : ¬(o.enabled = true ∧ (o.withItems i).enabled = false)) : outputOk (o.withItems i) := by
  refine ⟨fun he => ?_, h.2⟩
  have hoff : o.enabled = false := by
    by_contra hon
    exact hi ⟨by simpa using hon, he⟩
  exact h.1 hoff

/-- What a change of route brings up to date: the LIVE counts, the clocks, the unsynced flags and the prefetch lists. -/
theorem outputsOk.routeSettled {t : State} (h : outputsOk t) (s : State) : outputsOk
    (((List.finRange 4).foldl (fun u j => u.judgeOut j) ((List.finRange 2).foldl (fun u g => u.updateClock g)
      ((List.finRange 3).foldl (fun u c =>
        if s.liveCount c = t.liveCount c then u else u.send .ro .pp [.liveCountReport c (t.liveCount c)]) t))).updateAll) := by
  have hcounts := foldl_induction (P := outputsOk) (f := fun u c =>
    if s.liveCount c = t.liveCount c then u else u.send .ro .pp [.liveCountReport c (t.liveCount c)])
    (fun u c hu => outputsOk_ite hu (outputsOk_send.mpr hu)) (List.finRange 3) h
  have hclocks := foldl_induction (P := outputsOk) (fun u g hu => outputsOk.updateClock hu g) (List.finRange 2) hcounts
  exact (foldl_induction (P := outputsOk) (fun u j hu => outputsOk.judgeOut hu) (List.finRange 4) hclocks).updateAll

theorem outputsOk.routeEffects (h : outputsOk s) (i : RouteItems) :
    outputsOk (s.routeEffects k (s.out k) ((s.out k).withItems i)) := by
  have hothers : othersOk k (s.setOut k ((s.out k).withItems i)) := fun x hx => by
    rw [State.setOut_other s k x _ hx]; exact h x
  unfold State.routeEffects
  dsimp only
  refine outputsOk.routeSettled ?_ s
  · by_cases hoff : (s.out k).enabled = true ∧ ((s.out k).withItems i).enabled = false
    · rw [if_pos (by simpa using hoff)]
      refine outputsOk.latchRest ?_ _
      split
      next hstops =>
        rw [State.stopOutput_eq, State.setOut_setOut]
        refine othersOk.silence (k := k) (fun x hx => ?_) (by simp) (by simp)
        rw [State.post_out, State.setOut_other _ _ _ _ hx]
        exact h x
      next hstays =>
        have hstopped : (s.out k).play = .stopped := by
          by_contra hp
          exact hstays (by simp [hoff, hp])
        exact hothers.silence (by rw [State.setOut_out]; exact hstopped) (by rw [State.setOut_out]; exact (h k).2 hstopped)
    · have hset : outputsOk (s.setOut k ((s.out k).withItems i)) := h.setOut ((h k).withItems i hoff)
      rw [if_neg (by simpa using hoff)]
      split
      · exact hset.stopOutput
      · exact hset

/-! ### Playing -/

theorem Output.enabled_of_playTests {o : Output} {rec? : Option Clip} {start : Nat} (h : o.playTests rec? start = none) :
    o.enabled = true := by
  unfold Output.playTests at h
  split at h
  · cases h
  next he => simpa using he

theorem outputsOk.resume (h : outputsOk s) (q : Req) : outputsOk (s.resume q k) := by
  unfold State.resume
  dsimp only
  split
  · exact h
  next hp =>
    have hplays : (s.out k).play = .paused := not_not.mp hp
    refine outputsOk_send.mpr (outputsOk_send.mpr (h.setOut (outputOk_of_plays ?_ (by simp))))
    exact (h k).enabled_of_plays (by simp [hplays])

theorem outputsOk.startPlay (h : outputsOk s) (hon : (s.out k).enabled = true) (q : Req) (c : Clip) (x : Copy) (start : Nat) :
    outputsOk (s.startPlay k q c x start) := by
  have ht : outputsOk (if (s.out k).play = .playing ∨ (s.out k).play = .paused then s.send .ro .fx [.playbackCancel k] else s) := by
    split <;> exact h
  unfold State.startPlay
  dsimp only
  refine outputsOk_send.mpr (outputsOk_send.mpr (outputsOk.updatePrefetch (outputsOk.judgeOut (outputsOk_send.mpr ?_))))
  refine outputsOk.setOut (s := State.tick _) ?_ (outputOk_of_plays hon (by simp))
  exact ht

end

/-! ## The rule under each command of the outputs -/

section
variable {s : State}

theorem execSetRoute_outputsOk (h : outputsOk s) (q : Req) (output : Nat) (items : RouteItems) :
    leadsTo outputsOk (execSetRoute q output items s) := by
  unfold execSetRoute
  split
  · exact leadsTo_next.mpr h
  · split
    · exact leadsTo_next.mpr h
    · dsimp only
      split
      · exact leadsTo_next.mpr h
      · exact leadsTo_next.mpr (outputsOk_send.mpr (outputsOk_send.mpr (h.routeEffects items)))

theorem execFrameBoundary_outputsOk (h : outputsOk s) (k : Outp) : leadsTo outputsOk (execFrameBoundary k s) := by
  unfold execFrameBoundary
  dsimp only
  split
  · exact leadsTo_next.mpr h
  next hb =>
    push Not at hb
    exact leadsTo_next.mpr (h.rightSince.beginBoundary hb.1 none _).1.updatePrefetch.tryLatch

theorem State.enabled_of_members {g : Grp} {k : Outp} (h : k ∈ s.members g) : (s.out k).enabled = true := by
  simp only [State.members, List.mem_filter, Bool.and_eq_true] at h
  exact h.2.1

theorem execGroupBoundary_outputsOk (h : outputsOk s) (g : Grp) : leadsTo outputsOk (execGroupBoundary g s) := by
  have begun (ks : List Outp) (t : State) (ht : rightSince s t) (hks : ∀ k ∈ ks, (s.out k).enabled = true) (event : Nat) :
      outputsOk (ks.foldl (fun t k => t.beginBoundary k (some g) event) t) := by
    induction ks generalizing t with
    | nil => exact ht.1
    | cons k ks ih =>
      obtain ⟨hk, hks⟩ := List.forall_mem_cons.mp hks
      exact ih _ (ht.beginBoundary ((ht.2 k).trans hk) _ _) hks
  unfold execGroupBoundary
  dsimp only
  split
  · exact leadsTo_next.mpr h
  · refine leadsTo_next.mpr (outputsOk.latchAll (foldl_induction (fun _ _ h => h.updatePrefetch) _ ?_) _)
    exact begun _ _ ⟨outputsOk_setClock.mpr h, fun _ => rfl⟩ (fun k => State.enabled_of_members) _

theorem execLatchAnswer_outputsOk (h : outputsOk s) (outs : List (Outp × Nat × LookIx × Nat × LookRec)) :
    leadsTo outputsOk (execLatchAnswer outs s) := by
  refine leadsTo_next.mpr (foldl_induction (fun t x ht => ?_) _ h)
  split
  next b hb =>
    split
    · exact ht.finishBoundary ((ht x.1).enabled_of_bnd hb) _ _ _ _
    · exact ht
  · exact ht

theorem execTakeNewestAnswer_outputsOk (h : outputsOk s) (k : Outp) (tok : Nat) (got : Option (Nat × FrameHdr × Nat)) :
    leadsTo outputsOk (execTakeNewestAnswer k tok got s) := by
  unfold execTakeNewestAnswer
  dsimp only
  split
  · exact leadsTo_next.mpr h
  next b hb =>
    have hon := (h k).enabled_of_bnd hb
    split
    · split
      · exact leadsTo_next.mpr (h.choose _).tryLatch
      · split
        · exact leadsTo_next.mpr (h.choose _).tryLatch
        · refine leadsTo_next.mpr (outputsOk.tryLatch (outputsOk.choose (h.setOut ?_) _))
          exact outputOk_of_enabled hon (h k).2
    all_goals exact leadsTo_next.mpr h

theorem execBoundaryLookupAnswer_outputsOk (h : outputsOk s) (k : Outp) (tok : Nat) (rec? : Option Clip) :
    leadsTo outputsOk (execBoundaryLookupAnswer k tok rec? s) := by
  unfold execBoundaryLookupAnswer
  dsimp only
  split
  · exact leadsTo_next.mpr h
  next b hb =>
    split
    · exact leadsTo_next.mpr h
    · refine leadsTo_next.mpr (outputsOk.tryLatch (h.setOut ?_))
      exact outputOk_of_enabled ((h k).enabled_of_bnd hb) (h k).2

/-- What locates a PLAY is no concern of the rule. -/
theorem outputsOk.setLocate (h : outputsOk s) (k : Outp) (l : Option Locate) :
    outputsOk (s.setOut k { s.out k with locate := l }) :=
  h.setOut ((h k).of_same rfl rfl rfl rfl rfl rfl rfl rfl rfl rfl)

theorem execPlay_outputsOk (h : outputsOk s) (q : Req) (output : Nat) (clip start : Option Nat) :
    leadsTo outputsOk (execPlay q output clip start s) := by
  have hask (k : Outp) (cs : List Candidate) (t : State) (ht : outputsOk t) :
      outputsOk (t.askAttached .ro (fun ix => .output k ix) cs) :=
    foldl_induction (fun _ _ h => outputsOk_send.mpr h) _ ht
  unfold execPlay
  split
  · exact leadsTo_next.mpr h
  · exact leadsTo_next.mpr (h.resume q)
  · split
    · exact leadsTo_next.mpr h
    · dsimp only
      split
      · exact leadsTo_next.mpr h
      · split
        · exact leadsTo_next.mpr h
        · exact leadsTo_next.mpr h
        · split
          · exact leadsTo_next.mpr h
          · exact leadsTo_next.mpr (hask _ _ _ (h.setLocate _ _))

theorem execPlayAttachmentAnswer_outputsOk (h : outputsOk s) (k : Outp) (ix : Nat) (yes : Bool) :
    leadsTo outputsOk (execPlayAttachmentAnswer k ix yes s) := by
  unfold execPlayAttachmentAnswer
  dsimp only
  split
  · exact leadsTo_next.mpr h
  · rw [leadsTo_next]
    split
    · exact outputsOk_send.mpr (h.setLocate k _)
    · exact h.setLocate k _

theorem execPlayLookupAnswer_outputsOk (h : outputsOk s) (k : Outp) (rec? : Option Clip) :
    leadsTo outputsOk (execPlayLookupAnswer k rec? s) := by
  unfold execPlayLookupAnswer
  dsimp only
  split
  · exact leadsTo_next.mpr h
  · split
    · exact leadsTo_next.mpr h
    · have hset := h.setLocate k none
      split
      · exact leadsTo_next.mpr hset
      · exact leadsTo_next.mpr hset
      next htests =>
        split
        · exact leadsTo_next.mpr hset
        · refine leadsTo_next.mpr (hset.startPlay ?_ _ _ _ _)
          have hon : (s.out k).enabled = true := Output.enabled_of_playTests htests
          rw [State.setOut_out]
          exact hon

theorem execFetchAnswer_outputsOk (h : outputsOk s) (k : Outp) (run n : Nat) (ans : FetchAns) :
    leadsTo outputsOk (execFetchAnswer k run n ans s) := by
  unfold execFetchAnswer
  dsimp only
  split
  · exact leadsTo_next.mpr h
  next e he =>
    have hplays : (s.out k).play ≠ .stopped := fun hp => by
      simp [((h k).2 hp).1] at he
    have hset (es : List Prefetch) : outputsOk (s.setOut k { s.out k with prefetch := es }) :=
      h.setOut (outputOk_of_plays ((h k).enabled_of_plays hplays) hplays)
    split
    · exact leadsTo_next.mpr (hset _).updatePrefetch
    · rw [leadsTo_next]
      refine outputsOk.updatePrefetch ?_
      split
      · exact outputsOk.loseSource (outputsOk_dropSlots.mpr (hset _)) _
      · exact outputsOk_dropSlots.mpr (hset _)

/-- A clock is set, and the members' windows follow it. -/
theorem outputsOk.clockSet (h : outputsOk s) (g : Grp) (c : Clock) : outputsOk (s.setClock g c).updateAll :=
  outputsOk.updateAll (outputsOk_setClock.mpr h)

theorem execPause_outputsOk (h : outputsOk s) (q : Req) (target : PlayTarget) : leadsTo outputsOk (execPause q target s) := by
  unfold execPause
  split
  · exact leadsTo_next.mpr h
  · dsimp only
    split
    · exact leadsTo_next.mpr h
    · split
      · exact leadsTo_next.mpr h
      next hp =>
        refine leadsTo_next.mpr (outputsOk_send.mpr (outputsOk_send.mpr (h.setOut (outputOk_of_plays ?_ (by simp)))))
        exact (h _).enabled_of_plays (by simp [not_not.mp hp])
  · dsimp only
    split
    · exact leadsTo_next.mpr h
    · exact leadsTo_next.mpr (outputsOk_send.mpr (outputsOk_send.mpr (h.clockSet _ _)))

theorem execStop_outputsOk (h : outputsOk s) (q : Req) (target : PlayTarget) : leadsTo outputsOk (execStop q target s) := by
  unfold execStop
  split
  · exact leadsTo_next.mpr h
  · split
    · exact leadsTo_next.mpr h
    · exact leadsTo_next.mpr (outputsOk.stopOutput (outputsOk_send.mpr h))
  · refine leadsTo_next.mpr (foldl_induction (fun t k ht => ?_) _ ?_)
    · split
      · exact ht.stopOutput
      · exact ht
    · exact outputsOk_send.mpr (outputsOk_send.mpr (outputsOk_setClock.mpr h))

theorem execOutputLostVolume_outputsOk (h : outputsOk s) (p : Port) (vol : Serial) :
    leadsTo outputsOk (execOutputLostVolume p vol s) := by
  refine leadsTo_next.mpr (foldl_induction (fun t k ht => ?_) _ h)
  split
  · exact ht.loseSource _
  · exact ht

theorem execOutputPurgeList_outputsOk (h : outputsOk s) (clips : List Nat) : leadsTo outputsOk (execOutputPurgeList clips s) := by
  refine leadsTo_next.mpr (foldl_induction (fun t k ht => ?_) _ h)
  split
  · exact ht.loseSource _
  · exact ht

theorem execPlayGroup_outputsOk (h : outputsOk s) (q : Req) (group : Nat) (start : Option Timecode) (cue : Bool) :
    leadsTo outputsOk (execPlayGroup q group start cue s) := by
  unfold execPlayGroup
  split
  · exact leadsTo_next.mpr h
  · split
    · exact leadsTo_next.mpr h
    · dsimp only
      split
      · exact leadsTo_next.mpr h
      · split
        · exact leadsTo_next.mpr h
        · exact leadsTo_next.mpr (outputsOk_send.mpr (outputsOk_send.mpr (h.clockSet _ _)))

end

/-- Every command of the outputs keeps the rule. -/
theorem exec_outputsOk {i : Instr} (s : State) (hi : partOf i = .ro) (h : outputsOk s) : leadsTo outputsOk (exec i s) := by
  cases i with
  | setRoute q output items => exact execSetRoute_outputsOk h q output items
  | frameBoundary k => exact execFrameBoundary_outputsOk h k
  | groupBoundary g => exact execGroupBoundary_outputsOk h g
  | latchAnswer outs => exact execLatchAnswer_outputsOk h outs
  | takeNewestAnswer k tok got => exact execTakeNewestAnswer_outputsOk h k tok got
  | play q output clip start => exact execPlay_outputsOk h q output clip start
  | playAttachmentAnswer k ix yes => exact execPlayAttachmentAnswer_outputsOk h k ix yes
  | fetchAnswer k run n ans => exact execFetchAnswer_outputsOk h k run n ans
  | pause q target => exact execPause_outputsOk h q target
  | stop q target => exact execStop_outputsOk h q target
  | outputLostVolume p vol => exact execOutputLostVolume_outputsOk h p vol
  | outputPurgeList clips => exact execOutputPurgeList_outputsOk h clips
  | playGroup q group start cue => exact execPlayGroup_outputsOk h q group start cue
  | boundaryLookupAnswer k tok rec? => exact execBoundaryLookupAnswer_outputsOk h k tok rec?
  | playLookupAnswer k rec? => exact execPlayLookupAnswer_outputsOk h k rec?
  | queryOutput q output =>
    change leadsTo _ (execQueryOutput q output s)
    unfold execQueryOutput
    split <;> exact leadsTo_next.mpr h
  | _ => cases hi

theorem ro_of_rest {s t : State} {q : Part} (hq : q ≠ .ro) (h : t.rest q = s.rest q) : t.ro = s.ro := by
  have hro := congrArg State.ro h
  cases q with
  | ro => exact absurd rfl hq
  | _ => exact hro

theorem outputsRule : PartRule .ro outputsOk where
  rest := fun hq h hs => (outputsOk_congr (by rw [ro_of_rest hq h])).mpr hs
  outside := fun _ _ _ hs => hs
  blank := fun _ _ _ => (outputsOk_congr (s := State.reset) rfl).mpr reset_outputsOk

theorem outputs_kept {s t : State} (hs : outputsOk s) (e : step s = .next t) : outputsOk t :=
  outputsRule.step_keeps (by decide) (by decide) (by decide) (fun _ s hi h => exec_outputsOk s hi h) hs e

/-- Settles O28: the two rules are invariants of `step`. -/
theorem portsAndOutputsAreKept : Obligations.PortsAndOutputsAreKept :=
  ⟨fun _ _ => ports_kept, fun _ _ => outputs_kept⟩

end Sys2Proof.Machine
end


section
/-! SUPPORT. What the commands of the destination ports do (Section 5): the port they leave, the attempt number and the
messages, and the statements about requests and completions put together from them. -/

namespace Sys2Proof.Machine

/-! ## The port a command leaves -/

/-- Port `p` is left as `c`, `n` is the next attempt number, `w` are the messages on their way, and nothing else of the state
has changed. -/
def portLeft (p : Port) (c : PortCtx) (n : Nat) (w : List Wire) (s t : State) : Prop :=
  portBecomes p c s t ∧ t.token = n ∧ t.wire = w

/-- Port `p` is left as `c` by a command after which the arbiter chooses (R108). -/
def portServed (p : Port) (c : PortCtx) (n : Nat) (w : List Wire) (s : State) (r : Result) : Prop :=
  ∃ u, r = .next (u.serve p) ∧ portLeft p c n w s u

/-- A command that sends the messages `w` and does nothing else. -/
def onlySends (w : List Wire) (s t : State) : Prop := onlyWire s t ∧ t.wire = s.wire ++ w

theorem portReport_of_view {s : State} {p : Port} {c : PortCtx} (h : c.view = (s.port p).view) : portReport s p c = [] :=
  if_pos h

section
variable {s t : State} {p : Port} {c : PortCtx} {n : Nat} {w : List Wire}

theorem portLeft.port (h : portLeft p c n w s t) : t.port p = c := h.1.1

theorem portLeft.becomes (h : portLeft p c n w s t) : portBecomes p c s t := h.1

theorem portLeft.token (h : portLeft p c n w s t) : t.token = n := h.2.1

theorem portLeft.wire (h : portLeft p c n w s t) : t.wire = w := h.2.2

theorem portLeft.sts (h : portLeft p c n w s t) : t.sts = s.sts := by
  obtain ⟨⟨_, _, hframe⟩, _⟩ := h
  rw [onlyDp] at hframe
  rw [hframe]

theorem portLeft_refl (hc : c = s.port p) : portLeft p c s.token s.wire s s := ⟨⟨hc.symm, fun _ _ => rfl, rfl⟩, rfl, rfl⟩

theorem portLeft.of_wire (h : portLeft p c n w s t) {v : List Wire} (hw : w = v) : portLeft p c n v s t := hw ▸ h

theorem portLeft.post (h : portLeft p c n w s t) (l : List Wire) : portLeft p c n (w ++ l) s (t.post l) := by
  obtain ⟨⟨hport, hothers, hframe⟩, htoken, rfl⟩ := h
  refine ⟨⟨hport, hothers, ?_⟩, htoken, rfl⟩
  rw [onlyDp] at *
  rw [hframe]
  rfl

theorem portLeft.send (h : portLeft p c n w s t) (src dst : Node) (m : Instr) :
    portLeft p c n (w ++ [⟨src, dst, m⟩]) s (t.send src dst [m]) := h.post [⟨src, dst, m⟩]

theorem portLeft.setPort_view (h : portLeft p c n w s t) (e : PortCtx) :
    portLeft p e n (w ++ portReport t p e) s (t.setPort p e) := by
  obtain ⟨⟨_, hothers, hframe⟩, htoken, rfl⟩ := h
  refine ⟨⟨t.setPort_port p e, fun x hx => (t.setPort_other p x e hx).trans (hothers x hx), ?_⟩, by simpa using htoken,
    t.setPort_wire p e⟩
  have hset : onlyDp t (t.setPort p e) := onlyDp_of_rest (t.setPort_rest p e)
  rw [onlyDp] at *
  rw [hset, hframe]

/-- A port that keeps its five values (R92) is stored with no report to the Order Dispatcher. -/
theorem portLeft.setPort (h : portLeft p c n w s t) (e : PortCtx) (hv : e.view = c.view) :
    portLeft p e n w s (t.setPort p e) :=
  (h.setPort_view e).of_wire (by rw [portReport_of_view (hv.trans (congrArg PortCtx.view h.port.symm)), List.append_nil])

/-- A port is stored, in a state where its five values (R92) are still those before the command. -/
theorem portLeft.setPort_report (h : portLeft p c n w s t) (e : PortCtx) (hv : c.view = (s.port p).view) :
    portLeft p e n (w ++ portReport s p e) s (t.setPort p e) := by
  have hreport : portReport t p e = portReport s p e := by simp only [portReport, h.port, hv]
  exact hreport ▸ h.setPort_view e

/-- A port is stored by a command that has done nothing before. -/
theorem portLeft_setPort (e : PortCtx) : portLeft p e s.token (s.wire ++ portReport s p e) s (s.setPort p e) :=
  (portLeft_refl rfl).setPort_report e rfl

/-- An attempt of an operation begins (R103). -/
theorem portLeft.attemptOp (h : portLeft p c n w s t) (k : OpKind) (a : Nat) :
    portLeft p { c with op := some { kind := k, tok := n, attempt := a, raise := c.raiseFor k, cmd := t.driveCmd p k } } (n + 1)
      w s (t.attemptOp p k a) := by
  have htick : portLeft p c (n + 1) w s t.tick := by
    obtain ⟨⟨hport, hothers, hframe⟩, rfl, rfl⟩ := h
    refine ⟨⟨hport, hothers, ?_⟩, rfl, rfl⟩
    rw [onlyDp] at *
    rw [hframe]
    rfl
  have hset := htick.setPort
    { c with op := some { kind := k, tok := n, attempt := a, raise := c.raiseFor k, cmd := t.driveCmd p k } } rfl
  rw [State.attemptOp, h.port, h.token]
  exact hset

theorem portLeft.startOp (h : portLeft p c n w s t) (k : OpKind) :
    portLeft p { c with op := some { kind := k, tok := n, attempt := 1, raise := c.raiseFor k, cmd := t.driveCmd p k } } (n + 1)
      w s (t.startOp p k) := h.attemptOp k 1

/-- The drive becomes idle. -/
theorem portLeft_clearOp (hc : c = s.port p) : portLeft p { c with op := none } s.token s.wire s (s.clearOp p) := by
  subst hc
  exact (portLeft_refl rfl).setPort _ rfl

/-- The running operation is none of the five values of a port (R92). -/
theorem idle_view (hc : c = s.port p) : { c with op := none }.view = (s.port p).view := by rw [← hc]; rfl

theorem portServed_next (h : portLeft p c n w s t) : portServed p c n w s (.next (t.serve p)) := ⟨t, rfl, h⟩

theorem leadsTo_onlySends {src dst : Node} {m : Instr} :
    leadsTo (onlySends [⟨src, dst, m⟩] s) (.next (s.send src dst [m])) := leadsTo_send

theorem leadsTo_onlySends_post {l : List Wire} : leadsTo (onlySends l s) (.next (s.post l)) :=
  leadsTo_next.mpr ⟨onlyWire_post s l, rfl⟩

end

/-! ## What a completion does (R103) -/

section
variable {s u : State} {p : Port} {c e : PortCtx} {tok n : Nat} {o : DriveOp} {w : List Wire} {f : DriveOp → State → Option State}

/-- A completion of the running attempt: its end is taken in the idle port, and then the arbiter chooses. -/
theorem portServed_complete (hc : c = s.port p) (ho : c.op = some o) (ht : o.tok = tok) (hk : ∀ w, o.kind ≠ .discarded w)
    (hf : f o (s.clearOp p) = some u) (hu : portLeft p e n w s u) :
    portServed p e n w s (.next (s.complete p tok f)) := by
  subst hc
  exact ⟨u, congrArg _ (State.complete_some ho ht hk hf), hu⟩

theorem portServed_complete_discarded {was : OpKind} (hc : c = s.port p) (ho : c.op = some o) (ht : o.tok = tok)
    (hk : o.kind = .discarded was) : portServed p { c with op := none } s.token s.wire s (.next (s.complete p tok f)) := by
  refine ⟨s.clearOp p, ?_, portLeft_clearOp hc⟩
  subst hc
  exact congrArg _ (State.complete_discarded ho ht hk)

@[simp] theorem State.clearOp_port (s : State) (p : Port) : (s.clearOp p).port p = { s.port p with op := none } :=
  s.setPort_port p _

end

/-! ## Requests (R93, R107) -/

theorem PortCtx.current_eq {c : PortCtx} (h : c.state ≠ .scanning) : c.current = c.vol := if_neg h

theorem PortCtx.current_ne {c : PortCtx} {vol : Serial} (h : c.state = .scanning ∨ c.vol ≠ some vol) :
    c.current ≠ some vol := by
  by_cases hs : c.state = .scanning
  · simp [PortCtx.current, hs]
  · rw [PortCtx.current_eq hs]
    exact h.resolve_left hs

section
variable {s : State} {p : Port} {c : PortCtx} {vol : Serial}

/-- A write-class request for the volume the port holds joins the end of its class. -/
theorem takeWrite_queued (w : WriteReq) (hc : c = s.port p) (hs : c.state ≠ .scanning) (hv : c.vol = some vol)
    (hsoak : c.state ≠ .soaking) (hdet : c.state ≠ .detached) :
    portServed p { c with writes := c.writes ++ [w] } s.token s.wire s (.next (s.takeWrite p vol w)) := by
  have hcur : ¬(s.port p).current ≠ some vol := not_not.mpr (by rw [← hc, PortCtx.current_eq hs, hv])
  rw [State.takeWrite, if_neg hcur, ← hc, if_neg (by simp [hsoak, hdet])]
  exact portServed_next ((portLeft_refl hc).setPort _ rfl)

/-- A write-class request that is answered at once. -/
theorem takeWrite_answered (w : WriteReq) {ans : WriteAns} (hc : c = s.port p)
    (h : (c.state = .scanning ∨ c.vol ≠ some vol) ∧ ans = WriteAns.lost ∨
      c.vol = some vol ∧ (c.state = .soaking ∨ c.state = .detached) ∧ ans = .failed) :
    leadsTo (onlySends [writeAnswerOf p w ans] s) (.next (s.takeWrite p vol w)) := by
  subst hc
  obtain ⟨hlost, rfl⟩ | ⟨hv, hstate, rfl⟩ := h
  · rw [State.takeWrite, if_pos (PortCtx.current_ne hlost), State.answerWrite_eq]
    exact leadsTo_onlySends_post
  · have hs : (s.port p).state ≠ .scanning := by rcases hstate with h | h <;> simp [h]
    have hcur : ¬(s.port p).current ≠ some vol := not_not.mpr ((PortCtx.current_eq hs).trans hv)
    rw [State.takeWrite, if_neg hcur, if_pos hstate, State.answerWrite_eq]
    exact leadsTo_onlySends_post

/-- A read-class request for the volume the port holds joins the end of its class. -/
theorem reads_queued (r : ReadReq) (hc : c = s.port p) :
    portServed p { c with reads := c.reads ++ [r] } s.token s.wire s
      (.next ((s.setPort p { c with reads := c.reads ++ [r] }).serve p)) :=
  portServed_next ((portLeft_refl hc).setPort _ rfl)

end

/-- Settles O25, clause by clause. -/
theorem portRequests : Obligations.PortRequests := by
  refine ⟨?queued, ?answered, ?reads, ?plays, ?mismatch, ?lost⟩
  case queued =>
    intro ch p order vol hb serial clipNo len sums num block s c r w hc hs hv hsoak hdet hr
    obtain ⟨rfl, rfl⟩ | ⟨rfl, rfl⟩ | ⟨rfl, rfl⟩ := hr
    all_goals exact takeWrite_queued _ hc hs hv hsoak hdet
  case answered =>
    intro ch p order vol hb serial clipNo len sums num block s c ans hc h
    exact ⟨takeWrite_answered (.header ch order hb serial clipNo len) hc h, takeWrite_answered (.rewrite ch order hb sums) hc h,
      takeWrite_answered (.extent ch order num block) hc h⟩
  case reads =>
    intro ch p order vol ext block len sum first count run s c r w hc hs hv hr
    have hcur : ¬(s.port p).current ≠ some vol := not_not.mpr (by rw [← hc, PortCtx.current_eq hs, hv])
    obtain ⟨rfl, rfl, hdet⟩ | ⟨rfl, rfl⟩ := hr
    · change portServed _ _ _ _ _ (execVerifyRead ch p order vol ext block len sum s)
      simp only [execVerifyRead]
      rw [if_neg hcur, if_neg (hc ▸ hdet), ← hc]
      exact reads_queued _ hc
    · change portServed _ _ _ _ _ (execReinspectionRead p vol first count run s)
      simp only [execReinspectionRead]
      rw [if_neg hcur, ← hc]
      exact reads_queued _ hc
  case plays =>
    intro k p vol first span rtok s c hc hs hv
    have hcur : ¬(s.port p).current ≠ some vol := not_not.mpr (by rw [← hc, PortCtx.current_eq hs, hv])
    change portServed _ _ _ _ _ (execPlaybackRead k p vol first span rtok s)
    simp only [execPlaybackRead]
    rw [if_neg hcur, ← hc]
    exact portServed_next ((portLeft_refl hc).setPort _ rfl)
  case mismatch =>
    intro ch p order vol ext block len sum s c hc hdet hv
    have hcur : ¬(s.port p).current ≠ some vol := not_not.mpr (by rw [← hc, PortCtx.current_eq (by simp [hdet]), hv])
    change leadsTo _ (execVerifyRead ch p order vol ext block len sum s)
    simp only [execVerifyRead]
    rw [if_neg hcur, if_pos (hc ▸ hdet)]
    exact leadsTo_onlySends
  case lost =>
    intro ch k p order vol ext block len sum first count span rtok run s c hc h
    subst hc
    have hcur := PortCtx.current_ne h
    exact ⟨⟨_, if_pos hcur, rfl, rfl⟩, ⟨_, if_pos hcur, rfl, rfl⟩, ⟨_, if_pos hcur, rfl, rfl⟩⟩

end Sys2Proof.Machine
end


section
/-! SUPPORT. What the completions of the destination ports' operations do (R104 to R106). -/

namespace Sys2Proof.Machine

/-! ## Completions -/

section
variable {s : State} {p : Port} {c e : PortCtx} {tok : Nat} {o : DriveOp}

theorem PortCtx.raised_eq (c : PortCtx) (o : DriveOp) :
    c.raised o = { c with recEnd := if o.raise.isSome then o.raise else c.recEnd } := by
  cases ho : o.raise <;> simp [PortCtx.raised, ho]

/-- A header written is answered: DONE with its entry where the index has room, FAILED where it is full (R104). -/
theorem headerWriteDone_served {ch : Chan} {order hb : Nat} {serial : Serial} {clipNo len : Nat} {ans : WriteAns}
    (hc : c = s.port p) (ho : c.op = some o) (ht : o.tok = tok)
    (hk : o.kind = .write (.header ch order hb serial clipNo len))
    (hans : c.index.length < 4096 ∧ ans = .done ∧ e = { c with
        op := none, recEnd := (if o.raise.isSome then o.raise else c.recEnd)
        index := insertEntry { hb := hb, serial := serial, clipNo := clipNo, len := len, sums := none } c.index } ∨
      4096 ≤ c.index.length ∧ ans = .failed ∧
        e = { c with op := none, recEnd := (if o.raise.isSome then o.raise else c.recEnd) }) :
    portServed p e s.token (s.wire ++ portReport s p e ++ [⟨.dp p, .cc ch, .headerWriteAnswer ch order p ans⟩]) s
      (execHeaderWriteDone p tok s) := by
  have hidle := portLeft_clearOp hc
  refine portServed_complete (u := (((s.clearOp p).setPort p e).answerWrite p (.header ch order hb serial clipNo len) ans))
    hc ho ht (by simp [hk]) ?_ ((hidle.setPort_report e (idle_view hc)).send (.dp p) (.cc ch) _)
  have hfull : (PortCtx.indexFull { c with op := none, recEnd := if o.raise.isSome then o.raise else c.recEnd } = true) =
      (4096 ≤ c.index.length) := by simp [PortCtx.indexFull, Config.indexEntries]
  simp only [hk, hidle.port, PortCtx.raised_eq, hfull]
  obtain ⟨hroom, rfl, rfl⟩ | ⟨hroom, rfl, rfl⟩ := hans
  · rw [if_neg (Nat.not_le.mpr hroom)]
  · rw [if_pos hroom]

/-- A header rewritten makes its entry COMPLETE and ends the channel's hold of it (R105). -/
theorem headerRewriteDone_served {ch : Chan} {order hb : Nat} {sums : List Sum32} (hc : c = s.port p) (ho : c.op = some o)
    (ht : o.tok = tok) (hk : o.kind = .write (.rewrite ch order hb sums)) (hx : ∃ x ∈ c.index, x.hb = hb)
    (he : e = { c with op := none, index := c.index.map fun x => if x.hb = hb then { x with sums := some sums } else x
                       holders := upd c.holders ch fun h => h.filter fun y => y.2 ≠ hb }) :
    portServed p e s.token (s.wire ++ [⟨.dp p, .cc ch, .headerRewriteAnswer ch order p .done⟩]) s
      (execHeaderRewriteDone p tok s) := by
  have hidle := portLeft_clearOp hc
  have hview : e.view = { c with op := none }.view := by
    simp [he, PortCtx.view, PortCtx.indexFull, PortCtx.free]
  refine portServed_complete (u := ((s.clearOp p).setPort p e).answerWrite p (.rewrite ch order hb sums) .done)
    hc ho ht (by simp [hk]) ?_ ((hidle.setPort e hview).send (.dp p) (.cc ch) _)
  simp only [hk, hidle.port]
  rw [if_pos (by simpa using hx), he]

/-- A header rewritten where the index has no entry of its block is answered FAILED. -/
theorem headerRewriteDone_failed {ch : Chan} {order hb : Nat} {sums : List Sum32} (hc : c = s.port p) (ho : c.op = some o)
    (ht : o.tok = tok) (hk : o.kind = .write (.rewrite ch order hb sums)) (hx : ∀ x ∈ c.index, x.hb ≠ hb) :
    portServed p { c with op := none } s.token (s.wire ++ [⟨.dp p, .cc ch, .headerRewriteAnswer ch order p .failed⟩]) s
      (execHeaderRewriteDone p tok s) := by
  have hidle := portLeft_clearOp hc
  refine portServed_complete (u := (s.clearOp p).answerWrite p (.rewrite ch order hb sums) .failed)
    hc ho ht (by simp [hk]) ?_ (hidle.send (.dp p) (.cc ch) _)
  simp only [hk, hidle.port]
  rw [if_neg (by simpa using hx)]

theorem extentWriteDone_served {ch : Chan} {order num block : Nat} (hc : c = s.port p) (ho : c.op = some o)
    (ht : o.tok = tok) (hk : o.kind = .write (.extent ch order num block)) :
    portServed p { c with op := none } s.token (s.wire ++ [⟨.dp p, .cc ch, .extentWriteAnswer ch order p num .done⟩]) s
      (execExtentWriteDone p tok s) :=
  portServed_complete (u := (s.clearOp p).answerWrite p (.extent ch order num block) .done) hc ho ht (by simp [hk])
    (by simp only [hk]) ((portLeft_clearOp hc).send (.dp p) (.cc ch) _)

/-- The bytes an operation read, where there are as many as it reads, are taken as they are. -/
theorem padTo_take_of_length {n : Nat} {bytes : List Byte} (h : n ≤ bytes.length) :
    padTo n (bytes.take n) = bytes.take n := by
  simp [padTo, h]

theorem verifyReadDone_served {bytes : List Byte} {ch : Chan} {order ext block len : Nat} {sum : Sum32} (hc : c = s.port p)
    (ho : c.op = some o) (ht : o.tok = tok) (hk : o.kind = .read (.verify ch order ext block len sum))
    (hlen : len ≤ bytes.length) :
    portServed p { c with op := none } s.token (s.wire ++ [⟨.dp p, .cc ch, .verifyReadAnswer ch order p ext
        (if extentSum (bytes.take len) = sum then .matched else .mismatch)⟩]) s (execVerifyReadDone p tok bytes s) :=
  portServed_complete hc ho ht (by simp [hk]) (by simp only [hk, padTo_take_of_length hlen])
    ((portLeft_clearOp hc).send (.dp p) (.cc ch) _)

theorem playbackReadDone_served {bytes : List Byte} {r : PlayReq} (hc : c = s.port p) (ho : c.op = some o)
    (ht : o.tok = tok) (hk : o.kind = .play r) (hlen : bytes.length = r.blocks bytes * 4096) :
    portServed p { c with op := none } s.token (s.wire ++ [⟨.dp p, .fx, .playbackReadAnswer r.k r.rtok (.done bytes)⟩]) s
      (execPlaybackReadDone p tok bytes s) := by
  have hbytes : padTo (r.blocks bytes * Config.blockBytes) (bytes.take (r.blocks bytes * Config.blockBytes)) = bytes :=
    padTo_take_self hlen
  exact portServed_complete (u := (s.clearOp p).answerPlay p r (.done bytes)) hc ho ht (by simp [hk])
    (by simp only [hk, hbytes]) ((portLeft_clearOp hc).send (.dp p) .fx _)

theorem reinspectionReadDone_served {bytes : List Byte} {first count run : Nat} (hc : c = s.port p) (ho : c.op = some o)
    (ht : o.tok = tok) (hk : o.kind = .read (.reinspect first count run)) (hlen : bytes.length = count * 4096) :
    portServed p { c with op := none } s.token
      (s.wire ++ [⟨.dp p, .fx, .reinspectBytes run bytes⟩, ⟨.dp p, .ins, .reinspectReadAnswer run .done⟩]) s
      (execReinspectionReadDone p tok bytes s) := by
  have hbytes : padTo (count * Config.blockBytes) (bytes.take (count * Config.blockBytes)) = bytes :=
    padTo_take_self hlen
  exact portServed_complete
    (u := ((s.clearOp p).send (.dp p) .fx [.reinspectBytes run bytes]).send (.dp p) .ins [.reinspectReadAnswer run .done])
    hc ho ht (by simp [hk]) (by simp only [hk, hbytes])
    ((((portLeft_clearOp hc).send (.dp p) .fx _).send (.dp p) .ins _).of_wire (List.append_assoc ..))

end

/-- Settles O27, clause by clause. -/
theorem portCompletions : Obligations.PortCompletions := by
  refine ⟨⟨?written, ?rewritten, ?extent, ?verify, ?play, ?reinspect, ?other⟩, ?full, ?noEntry⟩
  case written =>
    intro p tok s c o ch order hb serial clipNo len e hc ho ht hk hroom he
    exact headerWriteDone_served hc ho ht hk (.inl ⟨hroom, rfl, he⟩)
  case rewritten =>
    intro p tok s c o ch order hb sums e hc ho ht hk hx he
    exact headerRewriteDone_served hc ho ht hk hx he
  case extent =>
    intro p tok s c o ch order num block hc ho ht hk
    exact extentWriteDone_served hc ho ht hk
  case verify =>
    intro p tok bytes s c o ch order ext block len sum hc ho ht hk hlen
    exact verifyReadDone_served hc ho ht hk hlen
  case play =>
    intro p tok bytes s c o r hc ho ht hk hlen
    exact playbackReadDone_served hc ho ht hk hlen
  case reinspect =>
    intro p tok bytes s c o first count run hc ho ht hk hlen
    exact reinspectionReadDone_served hc ho ht hk hlen
  case other =>
    intro p tok bytes n s h r hr
    simp only [List.mem_cons, List.not_mem_nil, or_false] at hr
    rcases hr with rfl | rfl | rfl | rfl | rfl | rfl | rfl | rfl | rfl | rfl | rfl | rfl <;>
      exact congrArg Host.Outcome.next (State.complete_of_other h)
  case full =>
    intro p tok s c o ch order hb serial clipNo len e hc ho ht hk hfull he
    have hview : e.view = (s.port p).view := by subst he hc; rfl
    have h := headerWriteDone_served hc ho ht hk (.inr ⟨hfull, rfl, he⟩)
    rw [portReport_of_view hview, List.append_nil] at h
    exact h
  case noEntry =>
    intro p tok s c o ch order hb sums hc ho ht hk hx
    exact headerRewriteDone_failed hc ho ht hk hx

end Sys2Proof.Machine
end


section
/-! SUPPORT. What attaching and scanning a drive do (R94 to R97). -/

namespace Sys2Proof.Machine

/-! ## The walk (R96, R97) -/

section
variable {s t : State} {p : Port} {c e : PortCtx} {n pos : Nat} {w : List Wire}

theorem PortCtx.indexFull_iff (c : PortCtx) : c.indexFull = true ↔ 4096 ≤ c.index.length := by
  simp [PortCtx.indexFull, Config.indexEntries]

/-- The walk goes on with the block at its position. -/
theorem walkFrom_reads (h : portLeft p c n w s t) (hpos : pos < c.recEnd.getD 0) (hroom : c.index.length < 4096) :
    portLeft p { c with op := some { kind := .walk pos, tok := n, attempt := 1, cmd := .read pos 1 } } (n + 1) w s
      (t.walkFrom p pos) := by
  have hgo : ¬((t.port p).recEnd.getD 0 ≤ pos ∨ (t.port p).indexFull = true) := by
    rw [h.port, PortCtx.indexFull_iff]
    omega
  rw [State.walkFrom, if_neg hgo]
  exact h.startOp (.walk pos)

/-- At the recorded end, or with the index full, the port is READY and offers what it has found (R97). -/
theorem walkFrom_completes (s : State) (hc : c = s.port p) (hend : c.recEnd.getD 0 ≤ pos ∨ 4096 ≤ c.index.length)
    (he : e = { c with state := .ready, alloc := c.recEnd }) :
    portLeft p e s.token (s.wire ++ portReport s p e ++
      [noticeOf (.dp p) (portNotice .destScanned p c.vol (u16 c.index.length ++
        u16 (c.index.filter fun x => x.sums.isSome).length ++ u64 e.free))] ++
      (c.index.flatMap fun x => foundOfferOf p (c.vol.getD 0) x).map fun m => ⟨.dp p, .cat, m⟩) s (s.walkFrom p pos) := by
  rw [← PortCtx.indexFull_iff] at hend
  subst hc he
  rw [State.walkFrom, if_pos hend]
  exact ((portLeft_setPort _).send (.dp p) .sp _).post _

/-- An entry that is added to the index and the walk after it (R96). -/
theorem State.walkEntry_eq (h : portLeft p c n w s t) (x : IndexEntry) : t.walkEntry p pos x =
    (t.setPort p { c with index := c.index ++ [x] }).walkFrom p (pos + spanOf (extentsOf x.len) + dataBlocks x.len) := by
  rw [← h.port, State.walkEntry]

end

/-! ## Attach and scan (R94 to R96) -/

section
variable {s : State} {p : Port} {c e : PortCtx} {tok : Nat} {o : DriveOp}

/-- The state as it is once the pins of a port show whether a drive is there. -/
def State.driveShown (s : State) (p : Port) (shown : Bool) : State :=
  { s with pins := { s.pins with driveDetect := upd s.pins.driveDetect p fun _ => shown } }

theorem onlyDp.pins_eq {t u : State} (h : onlyDp u t) : t.pins = u.pins := by
  rw [onlyDp] at h
  rw [h]

/-- The frame of a command of the ports that follows the pins before. -/
theorem onlyDp.frame_of_pins {t u : State} {n : Nat} (h : onlyDp u t) (ht : t.token = n)
    (hu : { u with pins := s.pins } = s := by rfl) :
    t = { s with dp := t.dp, pins := t.pins, wire := t.wire, token := n } := by
  have hframe := h
  rw [onlyDp, ht] at hframe
  rw [h.pins_eq]
  exact hframe.trans (by rw [← hu])

theorem driveIn_scans (hc : c = s.port p) (habsent : c.state = .absent)
    (he : e = { state := .scanning, test := c.test
                op := some { kind := .ident, tok := s.token, attempt := 1, cmd := .identify } }) :
    portLeft p e (s.token + 1)
      (s.wire ++ portReport s p e ++ [noticeOf (.dp p) (portNotice .destAttached p none [])]) s (s.driveIn p) := by
  subst hc he
  rw [State.driveIn, if_neg (not_not.mpr habsent)]
  exact ((portLeft_setPort _).send (.dp p) .sp _).startOp .ident

theorem identificationReadDone_reads_label (capacity : Nat) (hc : c = s.port p) (ho : c.op = some o) (ht : o.tok = tok)
    (hk : o.kind = .ident)
    (he : e = { c with capacity := some capacity
                       op := some { kind := .label, tok := s.token, attempt := 1, cmd := .read 0 1 } }) :
    leadsTo (portLeft p e (s.token + 1) (s.wire ++ portReport s p e) s) (execIdentificationReadDone p tok capacity s) := by
  have hidle := portLeft_clearOp hc
  have hlabel := (hidle.setPort_report { c with capacity := some capacity, op := none } (idle_view hc)).startOp .label
  have hserve := State.serve_of_op (p := p) (s := (_ : State)) (by rw [hlabel.port]; exact Option.some_ne_none _)
  subst he
  refine leadsTo_next.mpr ?_
  rw [State.complete_some (hc ▸ ho) ht (by simp [hk]) (by simp only [hk, hidle.port]; rfl), hserve]
  exact hlabel

/-- A label that cannot be used ends the scan (R95). -/
theorem labelReadDone_fails {bytes : List Byte} {why : ScanCause} (hc : c = s.port p) (ho : c.op = some o) (ht : o.tok = tok)
    (hk : o.kind = .label) (hread : readLabel (c.capacity.getD 0) bytes = .error why)
    (he : e = { c with state := .unformatted, vol := none, op := none }) :
    portServed p e s.token (s.wire ++ portReport s p e ++
      [noticeOf (.dp p) (portNotice .destScanFailed p none (u8 (why.ctorIdx + 1)))]) s (execLabelReadDone p tok bytes s) := by
  have hidle := portLeft_clearOp hc
  refine portServed_complete (u := (s.clearOp p).scanFailed p why) hc ho ht (by simp [hk])
    (by simp only [hk, hidle.port, hread]) ?_
  subst he
  rw [State.scanFailed, hidle.port]
  exact (hidle.setPort_report _ (idle_view hc)).send (.dp p) .sp _

/-- Something is read of a scan and the walk goes on: port `p` is left as `c`, and then walked from `pos`. -/
def walkedOn (p : Port) (c : PortCtx) (n : Nat) (w : List Wire) (pos : Nat) (s : State) (r : Result) : Prop :=
  ∃ u, r = .next ((u.walkFrom p pos).serve p) ∧ portLeft p c n w s u

theorem walkedOn_complete {u : State} {pos n : Nat} {w : List Wire} {f : DriveOp → State → Option State} (hc : c = s.port p)
    (ho : c.op = some o) (ht : o.tok = tok) (hk : ∀ w, o.kind ≠ .discarded w)
    (hf : f o (s.clearOp p) = some (u.walkFrom p pos)) (hu : portLeft p e n w s u) :
    walkedOn p e n w pos s (.next (s.complete p tok f)) := by
  subst hc
  exact ⟨u, congrArg _ (State.complete_some ho ht hk hf), hu⟩

/-- A label that is accepted starts the walk at block 1 (R95, R96). -/
theorem labelReadDone_walks {bytes : List Byte} {serial : Serial} {recEnd : Nat} (hc : c = s.port p) (ho : c.op = some o)
    (ht : o.tok = tok) (hk : o.kind = .label) (hread : readLabel (c.capacity.getD 0) bytes = .ok (serial, recEnd))
    (he : e = { c with vol := some serial, recEnd := some recEnd, op := none }) :
    walkedOn p e s.token (s.wire ++ portReport s p e) 1 s (execLabelReadDone p tok bytes s) := by
  have hidle := portLeft_clearOp hc
  subst he
  exact walkedOn_complete hc ho ht (by simp [hk]) (by simp only [hk, hidle.port, hread])
    (hidle.setPort_report { c with vol := some serial, recEnd := some recEnd, op := none } (idle_view hc))

/-- A block that is no clip header moves the walk one block on (R96). -/
theorem walkReadDone_no_header {bytes : List Byte} {pos : Nat} (hc : c = s.port p) (ho : c.op = some o) (ht : o.tok = tok)
    (hk : o.kind = .walk pos) (hread : readClipHdr (c.vol.getD 0) (c.recEnd.getD 0) pos bytes = none) :
    walkedOn p { c with op := none } s.token s.wire (pos + 1) s (execWalkReadDone p tok bytes s) := by
  have hidle := portLeft_clearOp hc
  exact walkedOn_complete hc ho ht (by simp [hk]) (by simp only [hk, hidle.port, hread]) hidle

/-- An entry is added and the walk moves past its copy (R96). -/
theorem walkEntry_walks {x : IndexEntry} {pos : Nat} {f : DriveOp → State → Option State} (hc : c = s.port p)
    (ho : c.op = some o) (ht : o.tok = tok) (hk : ∀ w, o.kind ≠ .discarded w)
    (hf : f o (s.clearOp p) = some ((s.clearOp p).walkEntry p pos x))
    (he : e = { c with index := c.index ++ [x], op := none }) :
    walkedOn p e s.token (s.wire ++ portReport s p e) (pos + spanOf (extentsOf x.len) + dataBlocks x.len) s
      (.next (s.complete p tok f)) := by
  have hidle := portLeft_clearOp hc
  subst he
  exact walkedOn_complete hc ho ht hk (hf.trans (congrArg some (State.walkEntry_eq hidle x)))
    (hidle.setPort_report { c with index := c.index ++ [x], op := none } (idle_view hc))

theorem walkReadDone_incomplete {bytes : List Byte} {pos : Nat} {h : FoundHdr} (hc : c = s.port p) (ho : c.op = some o)
    (ht : o.tok = tok) (hk : o.kind = .walk pos) (hread : readClipHdr (c.vol.getD 0) (c.recEnd.getD 0) pos bytes = some h)
    (hcomplete : h.complete = false) (he : e = { c with index := c.index ++ [h.entry], op := none }) :
    walkedOn p e s.token (s.wire ++ portReport s p e) (pos + spanOf (extentsOf h.entry.len) + dataBlocks h.entry.len) s
      (execWalkReadDone p tok bytes s) :=
  walkEntry_walks hc ho ht (by simp [hk])
    (by simp only [hk, (portLeft_clearOp hc).port, hread, hcomplete, Bool.false_eq_true, if_false]) he

/-- A COMPLETE header has its sum list read (R96). -/
theorem walkReadDone_reads_sums {bytes : List Byte} {pos : Nat} {h : FoundHdr} (hc : c = s.port p) (ho : c.op = some o)
    (ht : o.tok = tok) (hk : o.kind = .walk pos) (hread : readClipHdr (c.vol.getD 0) (c.recEnd.getD 0) pos bytes = some h)
    (hcomplete : h.complete = true) :
    leadsTo (portLeft p { c with op := some { kind := .sumList pos h.entry h.check, tok := s.token, attempt := 1
                                              cmd := .read (pos + 1) (spanOf (extentsOf h.entry.len) - 1) } }
      (s.token + 1) s.wire s) (execWalkReadDone p tok bytes s) := by
  have hidle := portLeft_clearOp hc
  have hsums := hidle.startOp (.sumList pos h.entry h.check)
  have hserve : ((s.clearOp p).startOp p (.sumList pos h.entry h.check)).serve p = _ :=
    State.serve_of_op (by rw [hsums.port]; exact Option.some_ne_none _)
  refine leadsTo_next.mpr ?_
  rw [State.complete_some (u := (s.clearOp p).startOp p (.sumList pos h.entry h.check)) (hc ▸ ho) ht (by simp [hk])
    (by simp only [hk, hidle.port, hread, hcomplete, if_true]), hserve]
  exact hsums

/-- The sum list is kept where its check value agrees (R96). -/
theorem walkReadDone_sums {bytes : List Byte} {pos n : Nat} {x : IndexEntry} {check : Sum32} (hc : c = s.port p)
    (ho : c.op = some o) (ht : o.tok = tok) (hk : o.kind = .sumList pos x check) (hn : n = extentsOf x.len)
    (hlen : 4 * n ≤ bytes.length)
    (he : e = { c with op := none, index := c.index ++ [{ x with
      sums := if extentSum (bytes.take (4 * n)) = check then some (readSumList n (bytes.take (4 * n))) else none }] }) :
    walkedOn p e s.token (s.wire ++ portReport s p e) (pos + spanOf n + dataBlocks x.len) s
      (execWalkReadDone p tok bytes s) := by
  subst hn
  refine walkEntry_walks
    (x := { x with
      sums := if extentSum (bytes.take (4 * extentsOf x.len)) = check then
        some (readSumList (extentsOf x.len) (bytes.take (4 * extentsOf x.len))) else none })
    hc ho ht (by simp [hk]) ?_ he
  simp only [hk, padTo_take_of_length hlen]

end

/-- Settles O22, clause by clause. -/
theorem attachAndScan : Obligations.AttachAndScan := by
  refine ⟨?attach, ?shown, ?ident, ?labelBad, ?label, ?noHeader, ?incomplete, ?complete, ?sums, ?walk, ?scanned⟩
  case attach =>
    intro p s c e hc habsent he
    obtain ⟨⟨hport, hothers, hframe⟩, htoken, hwire⟩ := driveIn_scans (s := s.driveShown p true) hc habsent he
    exact ⟨_, rfl, hport, hothers, hframe.pins_eq, hframe.frame_of_pins htoken, hwire⟩
  case shown =>
    intro p s hs
    exact congrArg Host.Outcome.next (if_pos (α := State) hs)
  case ident =>
    intro p tok capacity s c o e hc ho ht hk he
    exact identificationReadDone_reads_label capacity hc ho ht hk he
  case labelBad =>
    intro p tok bytes s c o why e hc ho ht hk hread he
    exact labelReadDone_fails hc ho ht hk hread he
  case label =>
    intro p tok bytes s c o serial recEnd e hc ho ht hk hread he
    exact labelReadDone_walks hc ho ht hk hread he
  case noHeader =>
    intro p tok bytes s c o pos hc ho ht hk hread
    exact walkReadDone_no_header hc ho ht hk hread
  case incomplete =>
    intro p tok bytes s c o pos h e hc ho ht hk hread hcomplete he
    exact walkReadDone_incomplete hc ho ht hk hread hcomplete he
  case complete =>
    intro p tok bytes s c o pos h hc ho ht hk hread hcomplete
    exact walkReadDone_reads_sums hc ho ht hk hread hcomplete
  case sums =>
    intro p tok bytes s c o pos x check n e hc ho ht hk hn hlen he
    exact walkReadDone_sums hc ho ht hk hn hlen he
  case walk =>
    intro s p pos c hc hpos hroom
    have h := walkFrom_reads (portLeft_refl hc) hpos hroom
    exact ⟨h.becomes, h.wire⟩
  case scanned =>
    intro s p pos c e hc hend he
    have h := walkFrom_completes s hc hend he
    exact ⟨h.becomes, h.wire⟩

end Sys2Proof.Machine
end


section
/-! SUPPORT. What reservations, holder tests and watches do (R101, R102, R111, R112), and how a FORMAT VOLUME or a START SOAK
that has passed its tests begins. -/

namespace Sys2Proof.Machine

/-! ## State tests (R99, R114) -/

/-- The first state test of FORMAT VOLUME that fails gives its reason (R99). -/
def PortCtx.refusesFormat (c : PortCtx) (why : Reason) : Prop :=
  c.state ≠ .unformatted ∧ c.state ≠ .ready ∧ why = .notReady ∨
    (c.state = .unformatted ∨ c.state = .ready) ∧ (c.capacity.getD 0 < 2 ∧ why = .noCapacity ∨
      2 ≤ c.capacity.getD 0 ∧ (c.format ≠ none ∧ why = .already ∨
        c.format = none ∧ c.state = .ready ∧ c.index ≠ [] ∧ why = .volumeInUse))

/-- The first state test of START SOAK that fails gives its reason (R114). -/
def PortCtx.refusesSoak (c : PortCtx) (why : Reason) : Prop :=
  (c.state ≠ .ready ∨ c.format ≠ none) ∧ why = .notReady ∨
    c.state = .ready ∧ c.format = none ∧ c.alloc = c.capacity ∧ why = .noRoom

section
variable {c : PortCtx} {why : Reason}

theorem PortCtx.formatRefusal_of_state (h : c.state = .unformatted ∨ c.state = .ready) : c.formatRefusal =
    if c.capacity.getD 0 < 2 then some .noCapacity
    else if c.format.isSome then some .already
    else if c.state = .ready ∧ ¬c.index.isEmpty then some .volumeInUse
    else none := by
  rcases h with h | h <;> simp [PortCtx.formatRefusal, h]

theorem PortCtx.refusesFormat.refusal (h : c.refusesFormat why) : c.formatRefusal = some why := by
  obtain ⟨hu, hr, rfl⟩ | ⟨hs, hwhy⟩ := h
  · unfold PortCtx.formatRefusal
    split <;> simp_all
  · rw [PortCtx.formatRefusal_of_state hs]
    obtain ⟨hcap, rfl⟩ | ⟨hcap, ⟨hf, rfl⟩ | ⟨hf, hready, hix, rfl⟩⟩ := hwhy
    · rw [if_pos hcap]
    · rw [if_neg (Nat.not_lt.mpr hcap), if_pos (Option.isSome_iff_ne_none.mpr hf)]
    · rw [if_neg (Nat.not_lt.mpr hcap), if_neg (by simp [hf]), if_pos ⟨hready, by simpa using hix⟩]

theorem PortCtx.refusesSoak.refusal (h : c.refusesSoak why) : c.soakRefusal = some why := by
  unfold PortCtx.soakRefusal
  obtain ⟨hs, rfl⟩ | ⟨hs, hf, ha, rfl⟩ := h
  · exact if_pos (by simpa [Option.isSome_iff_ne_none] using hs)
  · rw [if_neg (by simp [hs, hf]), if_pos ha]

end

/-! ## A format and a soak begin (R100, R116) -/

section
variable {s : State} {p : Port} {c e : PortCtx} {q : Req}

theorem beginFormat_left {serial : Serial} (hc : c = s.port p)
    (he : e = { c with state := .unformatted, vol := none, index := [], alloc := none, format := some serial
                       plays := [], reads := [], writes := [] }) :
    ∃ u, s.beginFormat p q serial = u.serve p ∧ portLeft p e s.token
      (s.wire ++ lostAnswersOf p c ++ portReport s p e ++ [acceptOf (.dp p) q []]) s u := by
  subst hc he
  refine ⟨_, rfl, ?_⟩
  rw [State.answerAllLost_eq]
  exact ((((portLeft_refl rfl).post _).setPort_report _ rfl).send (.dp p) .sp _)

theorem beginSoak_left {len limit n : Nat} {clamped : Bool} (hc : c = s.port p) (hn : n = min (len * 256) c.free)
    (he : e = { c with state := .soaking, qual := .untested, soak := some { len := n, limit := limit } }) :
    ∃ u, s.beginSoak p q len limit clamped = u.serve p ∧ portLeft p e s.token
      (s.wire ++ portReport s p e ++ [noticeOf (.dp p) (portNotice .destSoakStarted p c.vol (u32 n ++ u16 limit)),
        answerOf (.dp p) q (.accepted clamped (u32 n))]) s u := by
  subst hc hn he
  exact ⟨_, rfl, (((portLeft_setPort _).send (.dp p) .sp _).send (.dp p) .sp _).of_wire (List.append_assoc ..)⟩

theorem testPassed_format {serial : Serial} (h : (s.port p).formatRefusal = none) :
    s.testPassed p q (.format serial) = s.beginFormat p q serial := by
  simp only [State.testPassed, h]

theorem testPassed_soak {len limit : Nat} {clamped : Bool} (h : (s.port p).soakRefusal = none) :
    s.testPassed p q (.soak len limit clamped) = s.beginSoak p q len limit clamped := by
  simp only [State.testPassed, h]

/-- A request whose state tests fail is refused (R112). -/
theorem testPassed_refused {what : TestFor} {why : Reason} (hc : c = s.port p)
    (h : (∃ len limit clamped, what = .soak len limit clamped) ∧ c.refusesSoak why ∨
      (∃ serial, what = .format serial) ∧ c.refusesFormat why) :
    s.testPassed p q what = s.refuseState (.dp p) q why := by
  subst hc
  obtain ⟨⟨len, limit, clamped, rfl⟩, h⟩ | ⟨⟨serial, rfl⟩, h⟩ := h
  · simp only [State.testPassed, h.refusal]
  · simp only [State.testPassed, h.refusal]

end

/-! ## Reservations (R93, R101) -/

section
variable {s : State} {p : Port} {c e : PortCtx} {ch : Chan} {order blocks : Nat} {vol : Serial}

theorem reservationRequest_granted (hc : c = s.port p) (hs : c.state = .ready) (hf : c.format = none) (hv : c.vol = some vol)
    (hix : c.index.length < 4096) (hb : blocks ≤ c.free)
    (he : e = { c with alloc := some (c.alloc.getD 0 + blocks), test := c.test.map fun x => { x with failed := true }
                       holders := upd c.holders ch fun _ => some (order, c.alloc.getD 0) }) :
    leadsTo (portLeft p e s.token (s.wire ++ portReport s p e ++
      [⟨.dp p, .cc ch, .reservationAnswer ch order p (.reserved (c.alloc.getD 0))⟩]) s)
      (execReservationRequest ch p order vol blocks s) := by
  simp only [execReservationRequest]
  rw [← hc, if_neg (by simp [hs]), if_neg (by simp [hs, hf]), if_neg (by simp [hv]),
    if_neg (by simpa [PortCtx.indexFull_iff] using hix), if_neg (Nat.not_lt.mpr hb), leadsTo_next]
  subst he
  exact (portLeft_setPort _).send (.dp p) (.cc ch) _

theorem reservationRequest_refused {why : DropCause} (hc : c = s.port p)
    (hwhy : why = (if c.state = .absent then DropCause.absent else if c.state ≠ .ready ∨ c.format ≠ none then .notReady
      else if c.vol ≠ some vol then .volumeChanged else if 4096 ≤ c.index.length then .indexFull else .noSpace))
    (h : c.state ≠ .ready ∨ c.format ≠ none ∨ c.vol ≠ some vol ∨ 4096 ≤ c.index.length ∨ c.free < blocks) :
    execReservationRequest ch p order vol blocks s =
      .next (s.send (.dp p) (.cc ch) [.reservationAnswer ch order p (.refused why)]) := by
  subst hc
  simp only [execReservationRequest, Option.isSome_iff_ne_none, PortCtx.indexFull_iff]
  by_cases habsent : (s.port p).state = .absent
  · simp only [if_pos habsent, hwhy]
  by_cases hready : (s.port p).state ≠ .ready ∨ (s.port p).format ≠ none
  · simp only [if_neg habsent, if_pos hready, hwhy]
  by_cases hv : (s.port p).vol ≠ some vol
  · simp only [if_neg habsent, if_neg hready, if_pos hv, hwhy]
  by_cases hix : 4096 ≤ (s.port p).index.length
  · simp only [if_neg habsent, if_neg hready, if_neg hv, if_pos hix, hwhy]
  · have hfree : (s.port p).free < blocks := by tauto
    simp only [if_neg habsent, if_neg hready, if_neg hv, if_neg hix, if_pos hfree, hwhy]

end

/-! ## Answers to status queries (R102, R112) -/

/-- A port once a channel has answered a status query: a channel that is not ALIVE is no holder any more (R102). -/
def PortCtx.afterAnswer (c : PortCtx) (ch : Chan) (order : Nat) (alive : Bool) : PortCtx :=
  if alive then c else c.closed ch order

section
variable {s : State} {p : Port} {c : PortCtx} {ch : Chan} {order : Nat} {alive : Bool} {x : HolderTest}

@[simp] theorem PortCtx.afterAnswer_test (c : PortCtx) (ch : Chan) (order : Nat) (alive : Bool) :
    (c.afterAnswer ch order alive).test = c.test := by
  cases alive <;> rfl

@[simp] theorem PortCtx.afterAnswer_view (c : PortCtx) (ch : Chan) (order : Nat) (alive : Bool) :
    (c.afterAnswer ch order alive).view = c.view := by
  cases alive <;> rfl

/-- An answer that no test awaits. -/
theorem statusQueryAnswer_untested (hc : c = s.port p) (hx : ∀ x, c.test = some x → ch ∉ x.awaiting) :
    leadsTo (portLeft p (c.afterAnswer ch order alive) s.token s.wire s) (execStatusQueryAnswer p ch order alive s) := by
  have hset := (portLeft_refl hc).setPort (c.afterAnswer ch order alive) (by simp)
  have hexec : execStatusQueryAnswer p ch order alive s = .next (s.setPort p (c.afterAnswer ch order alive)) := by
    change (match ((s.port p).afterAnswer ch order alive).test with | none => _ | some x => _) = _
    rw [PortCtx.afterAnswer_test, ← hc]
    split
    · rfl
    · next x hx' => exact if_pos (hx x hx')
  exact ⟨_, hexec, hset⟩

/-- An answer that a test awaits among others. -/
theorem statusQueryAnswer_awaited (hc : c = s.port p) (hx : c.test = some x) (hch : ch ∈ x.awaiting)
    (hmore : ∃ d ∈ x.awaiting, d ≠ ch) :
    leadsTo (portLeft p { c.afterAnswer ch order alive with
        test := some { x with awaiting := x.awaiting.filter fun d => d ≠ ch, failed := x.failed || alive } } s.token s.wire s)
      (execStatusQueryAnswer p ch order alive s) := by
  refine ⟨_, ?_, (portLeft_refl hc).setPort _ (PortCtx.afterAnswer_view c ch order alive)⟩
  change (match ((s.port p).afterAnswer ch order alive).test with | none => _ | some x => _) = _
  rw [PortCtx.afterAnswer_test, ← hc, hx]
  refine (if_neg (not_not.mpr hch)).trans (if_pos ?_)
  simpa using hmore

/-- The last answer a test awaits (R112). -/
theorem statusQueryAnswer_last (hc : c = s.port p) (hx : c.test = some x) (hch : x.awaiting = [ch]) :
    ∃ t, portLeft p { c.afterAnswer ch order alive with test := none } s.token s.wire s t ∧
      execStatusQueryAnswer p ch order alive s =
        .next (if x.failed || alive then t.refuse (.dp p) x.q .busy else t.testPassed p x.q x.what) := by
  refine ⟨_, (portLeft_refl hc).setPort _ (PortCtx.afterAnswer_view c ch order alive), ?_⟩
  change (match ((s.port p).afterAnswer ch order alive).test with | none => _ | some x => _) = _
  rw [PortCtx.afterAnswer_test, ← hc, hx]
  refine (if_neg (by simp [hch])).trans ((if_neg (by simp [hch])).trans rfl)

/-- The last answer of a test that has failed, or fails now, refuses the request BUSY. -/
theorem statusQueryAnswer_busy (hc : c = s.port p) (hx : c.test = some x) (hch : x.awaiting = [ch])
    (hfailed : (x.failed || alive) = true) :
    leadsTo (portLeft p { c.afterAnswer ch order alive with test := none } s.token (s.wire ++ [refuseOf (.dp p) x.q .busy]) s)
      (execStatusQueryAnswer p ch order alive s) := by
  obtain ⟨t, hleft, hexec⟩ := statusQueryAnswer_last (order := order) (alive := alive) hc hx hch
  exact ⟨_, hexec.trans (congrArg _ (if_pos hfailed)), hleft.send (.dp p) .sp _⟩

end

/-! ## Watches (R102, R110, R111) -/

section
variable {s t : State} {p : Port} {c e : PortCtx} {ch : Chan} {order n : Nat} {w : List Wire}

/-- The port becomes DETACHED, with its notice. -/
theorem portLeft.detached (h : portLeft p c n w s t) (he : e = { c with state := .detached, watching := [] }) :
    portLeft p e n (w ++ portReport t p e ++ [noticeOf (.dp p) (portNotice .destDetached p c.vol [])]) s (t.detached p) := by
  subst he
  rw [State.detached, h.port]
  exact (h.setPort_view _).send (.dp p) .sp _

/-- The port becomes DETACHED where its five values (R92) are still those before the command. -/
theorem portLeft.detached_report (h : portLeft p c n w s t) (hv : c.view = (s.port p).view)
    (he : e = { c with state := .detached, watching := [] }) :
    portLeft p e n (w ++ portReport s p e ++ [noticeOf (.dp p) (portNotice .destDetached p c.vol [])]) s (t.detached p) := by
  have hreport : portReport t p e = portReport s p e := by simp only [portReport, h.port, hv]
  exact hreport ▸ h.detached he

/-- The holder whose watch is answered is none any more. -/
theorem watchAnswer_closes (hc : c = s.port p) (h : c.state ≠ .detaching ∨ (ch, order) ∉ c.watching) :
    leadsTo (portLeft p (c.closed ch order) s.token s.wire s) (execWatchAnswer p ch order s) := by
  refine ⟨_, if_neg ?_, ?_⟩
  · rw [← hc]
    rintro ⟨hs, hw⟩
    exact h.elim (fun h => h hs) fun h => h hw
  · rw [← hc]
    exact (portLeft_refl hc).setPort _ rfl

theorem watchAnswer_of_detaching (hc : c = s.port p) (hs : c.state = .detaching) (hw : (ch, order) ∈ c.watching) :
    ∃ t, portLeft p { c.closed ch order with watching := c.watching.filter fun x => x ≠ (ch, order) } s.token s.wire s t ∧
      execWatchAnswer p ch order s =
        .next (if (c.watching.filter fun x => x ≠ (ch, order)).isEmpty then t.detached p else t) := by
  refine ⟨_, (portLeft_refl hc).setPort _ rfl, ?_⟩
  subst hc
  exact if_pos ⟨hs, hw⟩

end

/-- Settles O24, clause by clause. -/
theorem reservationsAndHolders : Obligations.ReservationsAndHolders := by
  refine ⟨⟨?granted, ?refused, ?untested, ?awaited, ?failed, ?format, ?soak, ?tests, ?second, ?alive, ?passed, ?lastWatch,
    ?closed⟩, ?moreWatches⟩
  case granted =>
    intro ch p order vol blocks s c e hc hs hf hv hix hb he
    exact reservationRequest_granted hc hs hf hv hix hb he
  case refused =>
    intro ch p order vol blocks s c why hc hwhy h
    exact ⟨_, reservationRequest_refused hc hwhy h, onlyWire_send .., State.send_wire ..⟩
  case untested =>
    intro p ch order alive s c hc hx
    exact statusQueryAnswer_untested hc hx
  case awaited =>
    intro p ch order alive s c x hc hx hch hmore
    obtain ⟨t, hexec, hleft⟩ := statusQueryAnswer_awaited (order := order) (alive := alive) hc hx hch hmore
    refine ⟨t, hexec, hleft.token, hleft.wire, ?_⟩
    cases alive <;> exact hleft.becomes
  case failed =>
    intro p ch order s c x hc hx hch hfailed
    exact statusQueryAnswer_busy hc hx hch (by simp [hfailed])
  case format =>
    intro s p q serial c e hc hs hcap hf he
    rw [testPassed_format (hc ▸ PortCtx.formatRefusal_eq_none.mpr ⟨hs, hcap, hf⟩)]
    exact beginFormat_left hc he
  case soak =>
    intro s p q len limit clamped c e n hc hs hf ha hn he
    rw [testPassed_soak (hc ▸ PortCtx.soakRefusal_eq_none.mpr ⟨hs, hf, ha⟩)]
    exact beginSoak_left hc hn he
  case tests =>
    intro s p q what c why hc h
    rw [testPassed_refused hc h]
    exact ⟨onlyWire_send .., State.send_wire ..⟩
  case second =>
    intro q p serial len threshold s htest
    have hsome : (s.port p).test.isSome = true := Option.isSome_iff_ne_none.mpr htest
    constructor
    · intro hserial hvol
      refine ⟨s.refuse (.dp p) q .busy, ?_, onlyWire_send .., State.send_wire ..⟩
      change execFormatVolume q p.val serial s = _
      simp only [execFormatVolume, ix?_val]
      rw [if_neg (not_or.mpr ⟨hserial, hvol⟩), if_pos hsome]
    · refine ⟨s.refuse (.dp p) q .busy, ?_, onlyWire_send .., State.send_wire ..⟩
      change execStartSoak q p.val len threshold s = _
      simp only [execStartSoak, ix?_val]
      rw [if_pos hsome]
  case alive =>
    intro p ch order s c x hc hx hch
    exact statusQueryAnswer_busy hc hx hch (Bool.or_true _)
  case passed =>
    intro p ch order s c x hc hx hch hfailed
    obtain ⟨t, hleft, hexec⟩ := statusQueryAnswer_last (order := order) (alive := false) hc hx hch
    exact ⟨t, hexec.trans (congrArg _ (if_neg (by simp [hfailed]))), hleft.becomes, hleft.wire⟩
  case lastWatch =>
    intro p ch order s c e hc hs hw he
    obtain ⟨t, hleft, hexec⟩ := watchAnswer_of_detaching hc hs (by simp [hw] : (ch, order) ∈ c.watching)
    exact ⟨t.detached p, hexec.trans (congrArg _ (if_pos (by simp [hw]))), hleft.detached_report (by rw [← hc]; rfl) he⟩
  case closed =>
    intro p ch order s c hc h
    obtain ⟨t, hexec, hleft⟩ := watchAnswer_closes hc h
    exact ⟨t, hexec, hleft.token, hleft.wire, hleft.becomes⟩
  case moreWatches =>
    intro p ch order s c hc hs hw hmore
    obtain ⟨t, hleft, hexec⟩ := watchAnswer_of_detaching hc hs hw
    refine ⟨t, hexec.trans (congrArg _ (if_neg (by simpa using hmore))), hleft.token, hleft.wire, hleft.becomes⟩

end Sys2Proof.Machine
end


section
/-! SUPPORT. What formatting and the soak test do (R99, R100, R114 to R119), and a failed attempt of an operation (R103). -/

namespace Sys2Proof.Machine

/-! ## Holder tests (R112) -/

/-- The status queries of a holder test: one for each holder element. -/
def queriesOf (p : Port) (c : PortCtx) : List Wire :=
  c.holding.flatMap fun ch => ((c.holders[ch]).map fun h => (⟨.dp p, .cc ch, .statusQuery p ch h.1⟩ : Wire)).toList

theorem foldl_post_list {α : Type} (g : α → List Wire) (l : List α) (s : State) :
    l.foldl (fun t x => t.post (g x)) s = s.post (l.flatMap g) := by
  induction l generalizing s with
  | nil => simp
  | cons x l ih => rw [List.foldl_cons, ih, State.post_post, List.flatMap_cons]

section
variable {s : State} {p : Port} {c : PortCtx} {q : Req} {what : TestFor}

theorem mem_queriesOf {ch : Chan} {h : Nat × Nat} (hh : c.holders[ch] = some h) :
    (⟨.dp p, .cc ch, .statusQuery p ch h.1⟩ : Wire) ∈ queriesOf p c := by
  have hholding : ch ∈ c.holding := List.mem_filter.mpr ⟨List.mem_finRange ch, by rw [hh]; rfl⟩
  exact List.mem_flatMap.mpr ⟨ch, hholding, by rw [hh]; exact List.mem_singleton_self _⟩

theorem holderTest_of_none (hc : c = s.port p) (hh : c.holding = []) : s.holderTest p q what = s.testPassed p q what := by
  simp only [State.holderTest, ← hc, hh]

theorem holderTest_left (hc : c = s.port p) (hh : c.holding ≠ []) :
    portLeft p { c with test := some { q := q, what := what, awaiting := c.holding, failed := false } } s.token
      (s.wire ++ queriesOf p c) s (s.holderTest p q what) := by
  have hset := (portLeft_refl hc).setPort
    { c with test := some { q := q, what := what, awaiting := c.holding, failed := false } } rfl
  have hquery (t : State) (ch : Chan) : (match c.holders[ch] with
      | some h => t.send (.dp p) (.cc ch) [.statusQuery p ch h.1]
      | none => t) = t.post (((c.holders[ch]).map fun h => (⟨.dp p, .cc ch, .statusQuery p ch h.1⟩ : Wire)).toList) := by
    cases c.holders[ch] with
    | some h => rfl
    | none => exact (State.post_nil t).symm
  have htest : s.holderTest p q what = c.holding.foldl (fun t ch =>
      match c.holders[ch] with
      | some h => t.send (.dp p) (.cc ch) [.statusQuery p ch h.1]
      | none => t) (s.setPort p { c with test := some { q := q, what := what, awaiting := c.holding, failed := false } }) := by
    rw [State.holderTest, ← hc]
    cases hl : c.holding with
    | nil => exact absurd hl hh
    | cons ch chs => rfl
  simp only [htest, hquery, foldl_post_list]
  exact hset.post _

/-- What a test with holders to ask leaves, as the statements say it. -/
theorem holderTest_asks (hc : c = s.port p) (hh : c.holding ≠ []) :
    leadsTo (fun t => portBecomes p { c with test := some { q := q, what := what, awaiting := c.holding, failed := false } } s t ∧
      t.token = s.token ∧ ∀ ch h, c.holders[ch] = some h → (⟨.dp p, .cc ch, .statusQuery p ch h.1⟩ : Wire) ∈ t.wire)
      (.next (s.holderTest p q what)) := by
  have hleft := holderTest_left (q := q) (what := what) hc hh
  refine leadsTo_next.mpr ⟨hleft.becomes, hleft.token, fun ch h hch => ?_⟩
  rw [hleft.wire]
  exact List.mem_append_right _ (mem_queriesOf hch)

end

/-! ## FORMAT VOLUME and START SOAK (R99, R114) -/

section
variable {s : State} {p : Port} {c : PortCtx} {q : Req} {serial : Serial} {len threshold : Nat}

/-- FORMAT VOLUME past the tests of its operands, with no holder test outstanding. -/
theorem execFormatVolume_passed (hc : c = s.port p) (hserial : serial ≠ 0) (hvol : c.vol ≠ some serial)
    (htest : c.test = none) (h : c.formatRefusal = none) : execFormatVolume q p.val serial s =
      if c.state = .ready then .next (s.holderTest p q (.format serial)) else .next (s.beginFormat p q serial) := by
  subst hc
  simp only [execFormatVolume, ix?_val, h]
  rw [if_neg (not_or.mpr ⟨hserial, hvol⟩), if_neg (by simp [htest])]

theorem execFormatVolume_refused (hc : c = s.port p) (hserial : serial ≠ 0) (hvol : c.vol ≠ some serial)
    (htest : c.test = none) {why : Reason} (h : c.refusesFormat why) :
    execFormatVolume q p.val serial s = .next (s.refuseState (.dp p) q why) := by
  subst hc
  simp only [execFormatVolume, ix?_val, h.refusal]
  rw [if_neg (not_or.mpr ⟨hserial, hvol⟩), if_neg (by simp [htest])]

/-- What START SOAK takes from its operands (R114, R116). -/
def soakOf (len threshold : Nat) : TestFor :=
  .soak (min 4096 (if len = 0 then 256 else len)) (min 65535 threshold) (decide (len > 4096 ∨ threshold > 65535))

theorem execStartSoak_passed (hc : c = s.port p) (htest : c.test = none) (h : c.soakRefusal = none) :
    execStartSoak q p.val len threshold s = .next (s.holderTest p q (soakOf len threshold)) := by
  subst hc
  simp only [execStartSoak, ix?_val, h]
  exact if_neg (by simp [htest])

theorem execStartSoak_refused (hc : c = s.port p) (htest : c.test = none) {why : Reason} (h : c.refusesSoak why) :
    execStartSoak q p.val len threshold s = .next (s.refuseState (.dp p) q why) := by
  subst hc
  simp only [execStartSoak, ix?_val, h.refusal]
  exact if_neg (by simp [htest])

/-- An operand that is not allowed is refused VALUE. -/
theorem formatVolume_value {port : Nat} (h : 4 ≤ port ∨ serial = 0 ∨ ∃ p : Port, p.val = port ∧ (s.port p).vol = some serial) :
    ∃ p : Port, execFormatVolume q port serial s = .next (s.refuse (.dp p) q .value) := by
  cases hp : ix? 4 port with
  | none => exact ⟨0, by simp only [execFormatVolume, hp]⟩
  | some p =>
    have hval := ix?_some hp
    refine ⟨p, ?_⟩
    simp only [execFormatVolume, hp]
    refine if_pos ?_
    rcases h with h | h | ⟨x, hx, h⟩
    · exact absurd p.isLt (by omega)
    · exact .inl h
    · obtain rfl : x = p := Fin.ext (hx.trans hval.symm)
      exact .inr h

end

/-! ## Failed attempts (R103) -/

section
variable {s t : State} {p : Port} {c d e : PortCtx} {tok n : Nat} {o : DriveOp} {raised : Bool} {w : List Wire} {r : Instr}

/-- An error and an expiry of the running attempt do the same. -/
theorem exec_attemptFailed (h : r = .driveError p tok raised ∨ r = .driveAttemptExpiry p tok raised) :
    exec r s = .next (s.attemptFailed p tok raised) := by
  rcases h with rfl | rfl <;> rfl

/-- A failed attempt leaves the drive idle; then the operation is attempted again, or what follows its last failure happens and
the arbiter chooses. -/
theorem attemptFailed_left (hc : c = s.port p) (ho : c.op = some o) (ht : o.tok = tok)
    (hd : d = if raised then c.raised o else c) :
    ∃ t, portLeft p { d with op := none } s.token s.wire s t ∧ s.attemptFailed p tok raised =
      if o.attempt < o.kind.attempts then t.attemptOp p o.kind (o.attempt + 1) else (t.opFailed p o.kind).serve p := by
  subst hc hd
  have hview : { (if raised then (s.port p).raised o else s.port p) with op := none }.view = (s.port p).view := by
    rw [PortCtx.raised_eq]
    cases raised <;> rfl
  refine ⟨_, (portLeft_refl rfl).setPort _ hview, ?_⟩
  simp only [State.attemptFailed, PortCtx.attempt_of_op ho ht]

/-- The last attempt, which has raised no label, fails. -/
theorem opFailed_served (hc : c = s.port p) (ho : c.op = some o) (ht : o.tok = tok) (hlast : o.kind.attempts ≤ o.attempt)
    (hr : r = .driveError p tok false ∨ r = .driveAttemptExpiry p tok false)
    (hf : ∀ t, portLeft p { c with op := none } s.token s.wire s t → portLeft p e n w s (t.opFailed p o.kind)) :
    portServed p e n w s (exec r s) := by
  obtain ⟨t, hleft, hfailed⟩ := attemptFailed_left (raised := false) hc ho ht rfl
  rw [if_neg (Nat.not_lt.mpr hlast)] at hfailed
  exact ⟨_, (exec_attemptFailed hr).trans (congrArg _ hfailed), hf t hleft⟩

end

/-! ## Ends of a format and of a soak (R100, R117 to R119) -/

section
variable {s t : State} {p : Port} {c e : PortCtx} {tok n : Nat} {o : DriveOp} {w : List Wire} {k : Soak} {r : Instr}

theorem formatWriteDone_served {serial : Serial} (hc : c = s.port p) (ho : c.op = some o) (ht : o.tok = tok)
    (hk : o.kind = .format serial)
    (he : e = { c with state := .ready, vol := some serial, recEnd := some 1, alloc := some 1, index := []
                       qual := .untested, holders := Vector.replicate 3 none, format := none, op := none }) :
    portServed p e s.token (s.wire ++ portReport s p e ++
      [noticeOf (.dp p) (portNotice .destFormatted p (some serial) (fSerial serial))]) s (execFormatWriteDone p tok s) := by
  have hidle := portLeft_clearOp hc
  subst he
  exact portServed_complete hc ho ht (by simp [hk]) (by simp only [hk, hidle.port, State.raise_eq])
    ((hidle.setPort_report _ (idle_view hc)).send (.dp p) .sp _)

theorem soakWriteDone_served {blocks : Nat} {tx : BitVec 23} (hc : c = s.port p) (ho : c.op = some o) (ht : o.tok = tok)
    (hk : o.kind = .soakWrite blocks) (hs : c.soak = some k) (htx : tx = (soakBytes (blocks * 4096) k.tx).2) :
    portServed p { c with op := none, soak := some (if k.len ≤ k.pos + blocks
        then { k with tx := tx, phase := .read, pos := 0 } else { k with tx := tx, pos := k.pos + blocks }) }
      s.token s.wire s (execSoakWriteDone p tok s) := by
  have hidle := portLeft_clearOp hc
  subst htx
  exact portServed_complete hc ho ht (by simp [hk]) (by simp only [hk, hidle.port, hs]) (hidle.setPort _ rfl)

/-- The soak ends with a result (R118). -/
theorem portLeft.soakEnds (h : portLeft p c n w s t) (hv : c.view = (s.port p).view) {errors limit : Nat}
    (he : e = { c with state := .ready, soak := none, qual := if errors ≤ limit then .passed else .failed }) :
    portLeft p e n (w ++ portReport s p e ++ [noticeOf (.dp p) (portNotice .destSoakDone p c.vol
      (u16 errors ++ u16 limit ++ u8 (e.qual.ctorIdx + 1)))]) s (t.soakEnds p errors limit) := by
  subst he
  rw [State.soakEnds, h.port]
  exact (h.setPort_report _ hv).send (.dp p) .sp _

/-- A read of a soak is fed to the receiver, and goes on or ends the soak (R117, R118). -/
theorem soakReadDone_takes {bytes : List Byte} {blocks : Nat} (hc : c = s.port p) (ho : c.op = some o) (ht : o.tok = tok)
    (hk : o.kind = .soakRead blocks) (hs : c.soak = some k) (hlen : bytes.length = blocks * 4096) {k' : Soak}
    (hk' : k' = bytes.foldl Soak.feedByte k)
    (hu : portLeft p e n w s (if k.len ≤ k.pos + blocks then (s.clearOp p).soakEnds p k'.errors k'.limit
      else (s.clearOp p).setPort p { c with op := none, soak := some { k' with pos := k.pos + blocks } })) :
    portServed p e n w s (execSoakReadDone p tok bytes s) := by
  have hidle := portLeft_clearOp hc
  have hbytes : padTo (blocks * Config.blockBytes) (bytes.take (blocks * Config.blockBytes)) = bytes := padTo_take_self hlen
  refine portServed_complete hc ho ht (by simp [hk]) ?_ hu
  simp only [hk, hidle.port, hs, hbytes, hk']

theorem soakReadDone_goes_on {bytes : List Byte} {blocks : Nat} (hc : c = s.port p) (ho : c.op = some o) (ht : o.tok = tok)
    (hk : o.kind = .soakRead blocks) (hs : c.soak = some k) (hlen : bytes.length = blocks * 4096)
    (hpos : k.pos + blocks < k.len) {k' : Soak} (hk' : k' = bytes.foldl Soak.feedByte k) :
    portServed p { c with op := none, soak := some { k' with pos := k.pos + blocks } } s.token s.wire s
      (execSoakReadDone p tok bytes s) := by
  refine soakReadDone_takes hc ho ht hk hs hlen hk' ?_
  rw [if_neg (Nat.not_le.mpr hpos)]
  exact (portLeft_clearOp hc).setPort _ rfl

theorem soakReadDone_ends {bytes : List Byte} {blocks : Nat} (hc : c = s.port p) (ho : c.op = some o) (ht : o.tok = tok)
    (hk : o.kind = .soakRead blocks) (hs : c.soak = some k) (hlen : bytes.length = blocks * 4096)
    (hpos : k.len ≤ k.pos + blocks) {k' : Soak} (hk' : k' = bytes.foldl Soak.feedByte k)
    (he : e = { c with op := none, state := .ready, soak := none
                       qual := if k'.errors ≤ k'.limit then .passed else .failed }) :
    portServed p e s.token (s.wire ++ portReport s p e ++ [noticeOf (.dp p) (portNotice .destSoakDone p c.vol
      (u16 k'.errors ++ u16 k'.limit ++ u8 (e.qual.ctorIdx + 1)))]) s (execSoakReadDone p tok bytes s) := by
  refine soakReadDone_takes hc ho ht hk hs hlen hk' ?_
  rw [if_pos hpos]
  exact (portLeft_clearOp hc).soakEnds (idle_view hc) he

/-- An operation of a soak that fails its attempts ends it FAILED (R118). -/
theorem soak_fails {blocks : Nat} (hc : c = s.port p) (ho : c.op = some o) (ht : o.tok = tok) (hs : c.soak = some k)
    (hlast : 3 ≤ o.attempt) (hk : o.kind = .soakWrite blocks ∨ o.kind = .soakRead blocks)
    (hr : r = .driveError p tok false ∨ r = .driveAttemptExpiry p tok false)
    (he : e = { c with op := none, state := .ready, qual := .failed, soak := none }) :
    portServed p e s.token (s.wire ++ portReport s p e ++ [noticeOf (.dp p) (portNotice .destSoakDone p c.vol
      (u16 65535 ++ u16 k.limit ++ u8 (Qual.failed.ctorIdx + 1)))]) s (exec r s) := by
  have hattempts : o.kind.attempts = 3 := by rcases hk with h | h <;> simp only [h, OpKind.attempts]
  refine opFailed_served hc ho ht (hattempts ▸ hlast) hr fun t hleft => ?_
  have hfailed : t.opFailed p o.kind = t.opFailed p (.soakWrite blocks) := by rcases hk with h | h <;> simp only [h, State.opFailed]
  rw [hfailed, State.opFailed, hleft.port, hs]
  subst he
  exact (hleft.setPort_report _ (idle_view hc)).send (.dp p) .sp _

/-- A label that cannot be written leaves the port UNFORMATTED (R100). -/
theorem format_fails {serial : Serial} (hc : c = s.port p) (ho : c.op = some o) (ht : o.tok = tok) (hk : o.kind = .format serial)
    (hlast : 3 ≤ o.attempt) (hr : r = .driveError p tok false ∨ r = .driveAttemptExpiry p tok false) :
    portServed p { c with op := none, format := none } s.token
      (s.wire ++ [noticeOf (.dp p) (portNotice .destFormatFailed p none [])]) s (exec r s) := by
  refine opFailed_served hc ho ht (by rw [hk]; exact hlast) hr fun t hleft => ?_
  rw [hk, State.opFailed, hleft.port]
  exact (hleft.setPort { c with op := none, format := none } rfl).send (.dp p) .sp _

/-- A soak that ends without result discards the operation it has on the drive (R119). -/
theorem soakStopped_left (s : State) (st : PortState) (cause : Nat) (hc : c = s.port p) (ho : c.op = some o)
    (he : e = { c with state := st, soak := none, op := some (discardSoak o) }) :
    portLeft p e s.token (s.wire ++ portReport s p e ++
      [noticeOf (.dp p) (portNotice .destSoakEnded p c.vol (u8 (cause + 1)))]) s (s.soakStopped p st cause) := by
  subst hc he
  have hstop : s.soakStopped p st cause =
      (s.setPort p { s.port p with state := st, soak := none, op := some (discardSoak o) }).raise (.dp p)
        (portNotice .destSoakEnded p (s.port p).vol (fNamed cause)) := by
    rw [State.soakStopped, ho]
    obtain ⟨kind, _, _, _, _⟩ := o
    cases kind <;> rfl
  rw [hstop]
  exact (portLeft_setPort _).send (.dp p) .sp _

theorem stopSoak_left {q : Req} (hc : c = s.port p) (hs : c.state = .soaking) (ho : c.op = some o)
    (he : e = { c with state := .ready, soak := none, op := some (discardSoak o) }) :
    leadsTo (portLeft p e s.token (s.wire ++ portReport s p e ++
      [noticeOf (.dp p) (portNotice .destSoakEnded p c.vol (u8 1)), acceptOf (.dp p) q []]) s) (execStopSoak q p.val s) := by
  have hleft := (soakStopped_left s .ready 0 hc ho he).send (.dp p) .sp (.blockAnswer q (.accepted false []))
  have hserve := State.serve_of_op (p := p) (by rw [hleft.port, he]; exact Option.some_ne_none _)
  refine ⟨_, ?_, hleft.of_wire (List.append_assoc ..)⟩
  simp only [execStopSoak, ix?_val]
  rw [if_neg (not_not.mpr (hc ▸ hs))]
  exact congrArg _ hserve

end

/-- Settles O23, clause by clause. -/
theorem formattingAndSoakTest : Obligations.FormattingAndSoakTest := by
  refine ⟨⟨?format, ?formatHeld, ?value, ?formatRefused, ?formatFails, ?formatted⟩, ?soak, ?soakHeld, ?soakRefused, ?written,
    ?readOn, ?readLast, ?soakFails, ?discarded, ?stop, ?notSoaking, ?bit⟩
  case format =>
    intro q p serial s c e hc hserial hvol htest hs hcap hf he
    have hpass : c.formatRefusal = none :=
      PortCtx.formatRefusal_eq_none.mpr ⟨hs.imp_right fun h => ⟨h.1, h.2.1⟩, hcap, hf⟩
    have hbegin : execFormatVolume q p.val serial s = .next (s.beginFormat p q serial) := by
      rw [execFormatVolume_passed hc hserial hvol htest hpass]
      rcases hs with hs | ⟨hs, _, hh⟩
      · exact if_neg (by simp [hs])
      · refine (if_pos hs).trans ?_
        rw [holderTest_of_none hc hh, testPassed_format (hc ▸ hpass)]
    obtain ⟨u, hu, hleft⟩ := beginFormat_left (q := q) hc he
    exact ⟨u, hbegin.trans (congrArg _ hu), hleft⟩
  case formatHeld =>
    intro q p serial s c hc hserial hvol hs hcap hf hix htest hh
    have hpass : c.formatRefusal = none := PortCtx.formatRefusal_eq_none.mpr ⟨.inr ⟨hs, hix⟩, hcap, hf⟩
    change leadsTo _ (execFormatVolume q p.val serial s)
    rw [execFormatVolume_passed hc hserial hvol htest hpass, if_pos hs]
    exact holderTest_asks hc hh
  case value =>
    intro q port serial s h
    obtain ⟨p, hp⟩ := formatVolume_value (q := q) h
    exact ⟨_, p, hp, onlyWire_send .., State.send_wire ..⟩
  case formatRefused =>
    intro q p serial s c why hc hserial hvol htest h
    exact ⟨_, execFormatVolume_refused hc hserial hvol htest h, onlyWire_send .., State.send_wire ..⟩
  case formatFails =>
    intro p tok s c o serial r hc ho ht hk hlast hr
    exact format_fails hc ho ht hk hlast hr
  case formatted =>
    intro p tok s c o serial e hc ho ht hk he
    exact formatWriteDone_served hc ho ht hk he
  case soak =>
    intro q p len threshold s c e n hc hs hf ha htest hh hn he
    have hpass : c.soakRefusal = none := PortCtx.soakRefusal_eq_none.mpr ⟨hs, hf, ha⟩
    obtain ⟨u, hu, hleft⟩ :=
      beginSoak_left (q := q) (clamped := decide (len > 4096 ∨ threshold > 65535)) hc hn he
    refine ⟨u, (execStartSoak_passed hc htest hpass).trans ?_, hleft⟩
    rw [holderTest_of_none hc hh, soakOf, testPassed_soak (hc ▸ hpass), hu]
  case soakHeld =>
    intro q p len threshold s c what hc hs hf ha htest hh hwhat
    have hpass : c.soakRefusal = none := PortCtx.soakRefusal_eq_none.mpr ⟨hs, hf, ha⟩
    obtain ⟨t, ht, hleft⟩ := holderTest_asks (q := q) (what := what) hc hh
    subst hwhat
    exact ⟨t, (execStartSoak_passed hc htest hpass).trans ht, hleft⟩
  case soakRefused =>
    intro q p len threshold s c why hc htest h
    exact ⟨_, execStartSoak_refused hc htest h, onlyWire_send .., State.send_wire ..⟩
  case written =>
    intro p tok s c o k blocks hc ho ht hk hs
    obtain ⟨u, hu, hleft⟩ := soakWriteDone_served hc ho ht hk hs rfl
    exact ⟨u, _, hu, rfl, hleft⟩
  case readOn =>
    intro p tok bytes s c o k blocks hc ho ht hk hs hlen hpos
    obtain ⟨u, hu, hleft⟩ := soakReadDone_goes_on hc ho ht hk hs hlen hpos rfl
    exact ⟨u, _, hu, rfl, hleft⟩
  case readLast =>
    intro p tok bytes s c o k blocks k' e hc ho ht hk hs hlen hpos hk' he
    exact soakReadDone_ends hc ho ht hk hs hlen hpos hk' he
  case soakFails =>
    intro p tok s c o k blocks e r hc ho ht hs hlast hk hr he
    exact soak_fails hc ho ht hs hlast hk hr he
  case discarded =>
    intro p tok bytes s c o r k hc ho ht hk hr
    rcases hr with rfl | rfl | rfl
    all_goals exact portServed_complete_discarded hc ho ht hk
  case stop =>
    intro q p s c o e hc hs ho he
    exact stopSoak_left hc hs ho he
  case notSoaking =>
    intro q p s hs
    refine ⟨s.refuseState (.dp p) q .notSoaking, ?_, onlyWire_send .., State.send_wire ..⟩
    change execStopSoak q p.val s = _
    simp only [execStopSoak, ix?_val]
    exact if_pos hs
  case bit =>
    intro k b hloaded
    simp only [Soak.feedBit, hloaded, if_true]

end Sys2Proof.Machine
end


section
/-! SUPPORT. What the arbiter, failed attempts, withdrawals, detaching and removal do (R103, R108 to R113). -/

namespace Sys2Proof.Machine

/-! ## The write the round-robin takes (R108) -/

/-- How many channels the round-robin passes over before a channel. -/
def passedOver (last ch : Chan) : Nat := (ch - last - 1 : Chan).val

theorem passedOver_first (last v : Chan) : passedOver last (last + 1) ≤ passedOver last v := by
  revert last v; decide

theorem passedOver_second (last v : Chan) (h : v ≠ last + 1) : passedOver last (last + 2) ≤ passedOver last v := by
  revert last v; decide

theorem passedOver_last (last v : Chan) (h₁ : v ≠ last + 1) (h₂ : v ≠ last + 2) : passedOver last last ≤ passedOver last v := by
  revert last v; decide

/-- The channels in the order of the round-robin. -/
def roundFrom (last : Chan) : List Chan := [last + 1, last + 2, last]

theorem mem_roundFrom (last ch : Chan) : ch ∈ roundFrom last := by revert last ch; decide

/-- A channel that stands after none of the others in the round is passed over as little as any of the rest. -/
theorem passedOver_le_of_split {last ch v : Chan} {before after : List Chan} (h : roundFrom last = before ++ ch :: after)
    (hv : v ∉ before) : passedOver last ch ≤ passedOver last v := by
  match before, h with
  | [], h =>
    obtain ⟨hch, _⟩ := List.cons.inj h
    exact hch ▸ passedOver_first last v
  | [a], h =>
    obtain ⟨ha, h'⟩ := List.cons.inj h
    obtain ⟨hch, _⟩ := List.cons.inj h'
    refine hch ▸ passedOver_second last v ?_
    simpa [← ha] using hv
  | [a, b], h =>
    obtain ⟨ha, h'⟩ := List.cons.inj h
    obtain ⟨hb, h''⟩ := List.cons.inj h'
    obtain ⟨hch, _⟩ := List.cons.inj h''
    obtain ⟨h₁, h₂⟩ : v ≠ last + 1 ∧ v ≠ last + 2 := by simpa [← ha, ← hb] using hv
    exact hch ▸ passedOver_last last v h₁ h₂
  | a :: b :: d :: rest, h => simp [roundFrom] at h

/-- The waiting write the round-robin takes: the oldest of its channel, whose turn comes before that of any other. -/
theorem PortCtx.nextWrite_spec {c : PortCtx} (h : c.writes ≠ []) : ∃ older w younger, c.nextWrite = some w ∧
    c.writes = older ++ w :: younger ∧ (∀ v ∈ older, v.chan ≠ w.chan) ∧
    ∀ v ∈ c.writes, passedOver c.lastChan w.chan ≤ passedOver c.lastChan v.chan := by
  have hround : c.nextWrite = (roundFrom c.lastChan).findSome? fun ch => c.writes.find? fun w => w.chan = ch := rfl
  cases hn : c.nextWrite with
  | none =>
    obtain ⟨v, hv⟩ := List.exists_mem_of_ne_nil _ h
    rw [hround, List.findSome?_eq_none_iff] at hn
    have hnone := hn v.chan (mem_roundFrom c.lastChan v.chan)
    exact absurd rfl (of_decide_eq_false (by simpa using List.find?_eq_none.mp hnone v hv) : ¬v.chan = v.chan)
  | some w =>
    rw [hround, List.findSome?_eq_some_iff] at hn
    obtain ⟨before, ch, after, hsplit, hfind, hbefore⟩ := hn
    obtain ⟨hw, older, younger, hwrites, holder⟩ := List.find?_eq_some_iff_append.mp hfind
    obtain rfl : w.chan = ch := by simpa using hw
    refine ⟨older, w, younger, rfl, hwrites, by simpa using holder, fun v hv => ?_⟩
    refine passedOver_le_of_split hsplit fun hmem => ?_
    simpa using List.find?_eq_none.mp (hbefore _ hmem) v hv

theorem erase_of_split {writes older younger : List WriteReq} {w : WriteReq} (h : writes = older ++ w :: younger)
    (holder : ∀ v ∈ older, v.chan ≠ w.chan) : writes.erase w = older ++ younger := by
  have hw : w ∉ older := fun hmem => holder w hmem rfl
  rw [h, List.erase_append_right _ hw, List.erase_cons_head]

theorem PortCtx.nextClass_read {c : PortCtx} (hr : c.reads ≠ []) (hw : c.writes = [] ∨ c.lastClass = .write) :
    c.nextClass = some .read := by
  have hr' : c.reads.isEmpty = false := by simpa using hr
  obtain hw | hl := hw
  · simp only [PortCtx.nextClass, hr', hw, List.isEmpty_nil]
  · cases hw' : c.writes.isEmpty <;> simp only [PortCtx.nextClass, hr', hw', hl]

theorem PortCtx.nextClass_write {c : PortCtx} (hw : c.writes ≠ []) (hr : c.reads = [] ∨ c.lastClass = .read) :
    c.nextClass = some .write := by
  have hw' : c.writes.isEmpty = false := by simpa using hw
  obtain hr | hl := hr
  · simp only [PortCtx.nextClass, hw', hr, List.isEmpty_nil]
  · cases hr' : c.reads.isEmpty <;> simp only [PortCtx.nextClass, hr', hw', hl]

/-! ## What the arbiter begins (R108) -/

/-- What an operation puts on the drive depends neither on the waiting requests nor on what the drive did before. -/
theorem State.driveCmd_congr {s t : State} {p : Port} {c : PortCtx} {plays : List PlayReq} {reads : List ReadReq} {writes : List WriteReq}
    {op : Option DriveOp} {last : ServedClass} {chan : Chan}
    (hc : c = s.port p) (hp : t.port p = { c with plays := plays, reads := reads, writes := writes, op := op, lastClass := last
                                                  lastChan := chan }) (hs : t.sts = s.sts) (k : OpKind) :
    t.driveCmd p k = s.driveCmd p k := by
  subst hc
  unfold State.driveCmd
  rw [hp, hs]
  split <;> rfl

section
variable {s : State} {p : Port} {c : PortCtx}

theorem serve_play {r : PlayReq} {rest : List PlayReq} (hc : c = s.port p) (h : c.chooses) (hf : c.format = none)
    (hs : c.soak = none) (hp : c.plays = r :: rest) :
    portLeft p { c with plays := rest
                        op := some { kind := .play r, tok := s.token, attempt := 1, cmd := s.driveCmd p (.play r) } }
      (s.token + 1) s.wire s (s.serve p) := by
  have hserve : s.serve p = (s.setPort p { c with plays := rest }).startOp p (.play r) := by
    rw [State.serve_of_chooses hc h]
    simp only [hf, hs, hp]
  rw [hserve]
  exact ((portLeft_refl hc).setPort { c with plays := rest } rfl).startOp (.play r)

theorem serve_read {r : ReadReq} {rest : List ReadReq} (hc : c = s.port p) (h : c.chooses) (hf : c.format = none)
    (hs : c.soak = none) (hp : c.plays = []) (hr : c.reads = r :: rest) (hw : c.writes = [] ∨ c.lastClass = .write) :
    portLeft p { c with reads := rest, lastClass := .read
                        op := some { kind := .read r, tok := s.token, attempt := 1, cmd := s.driveCmd p (.read r) } }
      (s.token + 1) s.wire s (s.serve p) := by
  have hclass := PortCtx.nextClass_read (by simp [hr]) hw
  have hset := (portLeft_refl hc).setPort { c with reads := rest, lastClass := .read } rfl
  have hcmd := State.driveCmd_congr hc hset.port hset.sts (.read r)
  have hserve : s.serve p = (s.setPort p { c with reads := rest, lastClass := .read }).startOp p (.read r) := by
    rw [State.serve_of_chooses hc h]
    simp only [hf, hs, hp, hclass, hr]
  rw [hserve, ← hcmd]
  exact hset.startOp (.read r)

theorem serve_write {w : WriteReq} {older younger : List WriteReq} (hc : c = s.port p) (h : c.chooses) (hf : c.format = none)
    (hs : c.soak = none) (hp : c.plays = []) (hclass : c.nextClass = some .write) (hn : c.nextWrite = some w)
    (hwrites : c.writes = older ++ w :: younger) (holder : ∀ v ∈ older, v.chan ≠ w.chan) :
    portLeft p { c with writes := older ++ younger, lastClass := .write, lastChan := w.chan
                        op := some { kind := .write w, tok := s.token, attempt := 1, raise := c.raiseFor (.write w)
                                     cmd := s.driveCmd p (.write w) } } (s.token + 1) s.wire s (s.serve p) := by
  have hset := (portLeft_refl hc).setPort { c with writes := older ++ younger, lastClass := .write, lastChan := w.chan } rfl
  have hcmd := State.driveCmd_congr hc hset.port hset.sts (.write w)
  have hserve : s.serve p = (s.setPort p { c with writes := older ++ younger, lastClass := .write
                                                  lastChan := w.chan }).startOp p (.write w) := by
    rw [State.serve_of_chooses hc h, ← erase_of_split hwrites holder]
    simp only [hf, hs, hp, hclass, hn]
  rw [hserve, ← hcmd]
  exact hset.startOp (.write w)

/-- The operation a soak has next on the drive (R117). -/
def Soak.nextOp (k : Soak) : OpKind :=
  match k.phase with
  | .write => .soakWrite k.opBlocks
  | .read => .soakRead k.opBlocks

theorem serve_soak {k : Soak} (hc : c = s.port p) (h : c.chooses) (hf : c.format = none) (hs : c.soak = some k) :
    ∃ o, (s.serve p).port p = { c with op := some o } ∧ o.kind = k.nextOp := by
  have hserve : s.serve p = s.startOp p k.nextOp := by
    rw [State.serve_of_chooses hc h]
    cases hphase : k.phase <;> simp only [hf, hs, Soak.nextOp, hphase]
  rw [hserve]
  exact ⟨_, ((portLeft_refl hc).startOp _).port, rfl⟩

end

/-! ## Failed attempts (R103) -/

section
variable {s : State} {p : Port} {c d e : PortCtx} {tok : Nat} {o : DriveOp} {raised : Bool} {r : Instr}

/-- A failed attempt that is not the last is made again. -/
theorem attemptFailed_again (hc : c = s.port p) (ho : c.op = some o) (ht : o.tok = tok) (hmore : o.attempt < o.kind.attempts)
    (hd : d = if raised then c.raised o else c)
    (hr : r = .driveError p tok raised ∨ r = .driveAttemptExpiry p tok raised) :
    ∃ t u, exec r s = .next t ∧ portLeft p { d with op := none } s.token s.wire s u ∧
      portLeft p { d with op := some { kind := o.kind, tok := s.token, attempt := o.attempt + 1
                                       raise := d.raiseFor o.kind, cmd := u.driveCmd p o.kind } } (s.token + 1) s.wire s t := by
  obtain ⟨u, hleft, hfailed⟩ := attemptFailed_left (raised := raised) hc ho ht hd
  rw [if_pos hmore] at hfailed
  exact ⟨_, u, (exec_attemptFailed hr).trans (congrArg _ hfailed), hleft, hleft.attemptOp o.kind (o.attempt + 1)⟩

theorem attempts_of_answered {k : OpKind} (hp : ∀ x, k ≠ .play x) (hd : ∀ w, k ≠ .discarded w) : k.attempts = 3 := by
  cases k with
  | play x => exact absurd rfl (hp x)
  | discarded w => exact absurd rfl (hd w)
  | _ => rfl

/-- The last failure answers a request FAILED. -/
theorem request_fails {w : Wire} (hc : c = s.port p) (ho : c.op = some o) (ht : o.tok = tok)
    (hlast : o.kind.attempts ≤ o.attempt) (hr : r = .driveError p tok false ∨ r = .driveAttemptExpiry p tok false)
    (hw : (∃ x, o.kind = .write x ∧ w = writeAnswerOf p x .failed) ∨ (∃ x, o.kind = .read x ∧ w = readAnswerOf p x .failed) ∨
      (∃ x, o.kind = .play x ∧ w = playAnswerOf p x .failed)) :
    portServed p { c with op := none } s.token (s.wire ++ [w]) s (exec r s) := by
  refine opFailed_served hc ho ht hlast hr fun t hleft => ?_
  have hpost : t.opFailed p o.kind = t.post [w] := by
    obtain ⟨x, hk, rfl⟩ | ⟨x, hk, rfl⟩ | ⟨x, hk, rfl⟩ := hw
    · rw [hk, State.opFailed, State.answerWrite_eq]
    · rw [hk, State.opFailed, State.endRead_eq]
    · rw [hk, State.opFailed, State.answerPlay_eq]
  rw [hpost]
  exact hleft.post _

/-- A scan whose identification or label cannot be read fails (R94, R95). -/
theorem scan_fails {why : ScanCause} (hc : c = s.port p) (ho : c.op = some o) (ht : o.tok = tok) (hlast : 3 ≤ o.attempt)
    (hr : r = .driveError p tok false ∨ r = .driveAttemptExpiry p tok false)
    (hk : o.kind = .ident ∧ why = .noIdentity ∨ o.kind = .label ∧ why = .labelUnreadable)
    (he : e = { c with op := none, state := .unformatted, vol := none }) :
    portServed p e s.token (s.wire ++ portReport s p e ++
      [noticeOf (.dp p) (portNotice .destScanFailed p none (u8 (why.ctorIdx + 1)))]) s (exec r s) := by
  have hattempts : o.kind.attempts = 3 := by rcases hk with h | h <;> simp only [h.1, OpKind.attempts]
  refine opFailed_served hc ho ht (hattempts ▸ hlast) hr fun t hleft => ?_
  have hfailed : t.opFailed p o.kind = t.scanFailed p why := by
    obtain ⟨h, rfl⟩ | ⟨h, rfl⟩ := hk <;> simp only [h, State.opFailed]
  rw [hfailed, State.scanFailed, hleft.port]
  subst he
  exact (hleft.setPort_report _ (idle_view hc)).send (.dp p) .sp _

/-- The walk goes past a block that cannot be read (R96). -/
theorem walk_fails {pos : Nat} (hc : c = s.port p) (ho : c.op = some o) (ht : o.tok = tok) (hlast : 3 ≤ o.attempt)
    (hr : r = .driveError p tok false ∨ r = .driveAttemptExpiry p tok false) (hk : o.kind = .walk pos) :
    walkedOn p { c with op := none } s.token s.wire (pos + 1) s (exec r s) := by
  obtain ⟨t, hleft, hfailed⟩ := attemptFailed_left (raised := false) hc ho ht rfl
  rw [if_neg (by rw [hk]; exact Nat.not_lt.mpr hlast), hk, State.opFailed] at hfailed
  exact ⟨t, (exec_attemptFailed hr).trans (congrArg _ hfailed), hleft⟩

/-- A COMPLETE header whose sum list cannot be read is taken as INCOMPLETE (R96, assumption 69). -/
theorem sumList_fails {pos : Nat} {x : IndexEntry} {check : Sum32} (hc : c = s.port p) (ho : c.op = some o) (ht : o.tok = tok)
    (hlast : 3 ≤ o.attempt) (hr : r = .driveError p tok false ∨ r = .driveAttemptExpiry p tok false)
    (hk : o.kind = .sumList pos x check) (he : e = { c with op := none, index := c.index ++ [x] }) :
    walkedOn p e s.token (s.wire ++ portReport s p e) (pos + spanOf (extentsOf x.len) + dataBlocks x.len) s (exec r s) := by
  obtain ⟨t, hleft, hfailed⟩ := attemptFailed_left (raised := false) hc ho ht rfl
  rw [if_neg (by rw [hk]; exact Nat.not_lt.mpr hlast), hk, State.opFailed, State.walkEntry_eq hleft] at hfailed
  subst he
  exact ⟨_, (exec_attemptFailed hr).trans (congrArg _ hfailed), hleft.setPort_report _ (idle_view hc)⟩

theorem attemptFailed_of_other (h : ∀ o, (s.port p).op = some o → o.tok ≠ tok) : s.attemptFailed p tok raised = s := by
  simp only [State.attemptFailed, PortCtx.attempt_eq_none h]

/-- A label that a failed attempt had raised stays raised (R104). -/
theorem PortCtx.raised_some (c : PortCtx) {n : Nat} (h : o.raise = some n) : c.raised o = { c with recEnd := some n } := by
  simp only [PortCtx.raised, h]

end

/-! ## Withdrawals (R109) -/

section
variable {s : State} {p : Port} {c : PortCtx}

theorem withdrawal_left (ch : Chan) (order : Nat) (hc : c = s.port p) :
    leadsTo (portLeft p { c with writes := c.writes.filter (fun w => ¬(w.chan = ch ∧ w.order = order))
                                 reads := c.reads.filter fun r => ¬ r.ofOrder ch order = true } s.token (s.wire ++
      (c.writes.filter fun w => w.chan = ch ∧ w.order = order).map (fun w => writeAnswerOf p w .withdrawn) ++
      (c.reads.filter fun r => r.ofOrder ch order).map fun r => readAnswerOf p r .withdrawn) s)
      (execWithdrawal ch p order s) := by
  have hmine : (fun w : WriteReq => decide (w.chan = ch) && decide (w.order = order)) =
      fun w => decide (w.chan = ch ∧ w.order = order) := funext fun w => (Bool.decide_and ..).symm
  have hothers : (fun w : WriteReq => !(decide (w.chan = ch) && decide (w.order = order))) =
      fun w => decide ¬(w.chan = ch ∧ w.order = order) := funext fun w => by simp
  have hreads : (fun r : ReadReq => !r.ofOrder ch order) = fun r => decide ¬ r.ofOrder ch order = true :=
    funext fun r => by simp
  simp only [execWithdrawal, foldl_answerWrite, foldl_endRead, leadsTo_next, ← hc, hmine, hothers, hreads]
  refine (((portLeft_refl hc).setPort _ ?_).post _).post _
  rfl

theorem readCancel_output_left (k : Outp) (hc : c = s.port p) :
    leadsTo (portLeft p { c with plays := c.plays.filter fun r => r.k ≠ k } s.token (s.wire ++
      (c.plays.filter fun r => r.k = k).map fun r => playAnswerOf p r .withdrawn) s) (execReadCancel (.output k) p s) := by
  simp only [execReadCancel, foldl_answerPlay, leadsTo_next, ← hc]
  refine ((portLeft_refl hc).setPort _ ?_).post _
  rfl

theorem readCancel_inspector_left (hc : c = s.port p) :
    leadsTo (portLeft p { c with reads := c.reads.filter fun r => ¬ r.isReinspect = true } s.token (s.wire ++
      (c.reads.filter ReadReq.isReinspect).map fun r => readAnswerOf p r .withdrawn) s) (execReadCancel .inspector p s) := by
  have hreads : (fun r : ReadReq => !r.isReinspect) = fun r => decide ¬ r.isReinspect = true := funext fun r => by simp
  simp only [execReadCancel, foldl_endRead, leadsTo_next, ← hc, hreads]
  refine ((portLeft_refl hc).setPort _ ?_).post _
  rfl

end

end Sys2Proof.Machine
end


section
/-! SUPPORT. What detaching and removing a drive do (R110, R111, R113, R119), and the statement about the arbiter, failures and
removal put together. -/

namespace Sys2Proof.Machine

/-! ## Detaching (R110, R111) -/

section
variable {s t : State} {p : Port} {c e : PortCtx} {q : Req} {n : Nat} {w : List Wire}

theorem PortCtx.watchList_eq_nil : c.watchList = [] ↔ c.holding = [] := by
  simp only [PortCtx.watchList, PortCtx.holding, List.filterMap_eq_nil_iff, List.filter_eq_nil_iff, Option.map_eq_none_iff,
    Bool.not_eq_true, Option.isSome_eq_false_iff, Option.isNone_iff_eq_none]

theorem PortCtx.mem_watchList {ch : Chan} {h : Nat × Nat} (hh : c.holders[ch] = some h) : (ch, h.1) ∈ c.watchList :=
  List.mem_filterMap.mpr ⟨ch, List.mem_finRange ch, by rw [hh]; rfl⟩

/-- A DETACH in READY: the port is DETACHING with a watch on each holder, or DETACHED at once where there is none (R111). -/
theorem detach_ready (hc : c = s.port p) (hs : c.state = .ready) :
    ∃ t, portLeft p { c with state := .detaching, watching := c.watchList } s.token (s.wire ++
        portReport s p { c with state := .detaching, watching := c.watchList } ++ [acceptOf (.dp p) q []] ++
        [noticeOf (.dp p) (portNotice .destDetaching p c.vol [])] ++
        c.watchList.map fun w => ⟨.dp p, .cc w.1, .watch p w.1 w.2⟩) s t ∧
      execDetach q p.val s = .next (if c.watchList.isEmpty then t.detached p else t) := by
  refine ⟨_, ((((portLeft_setPort { c with state := .detaching, watching := c.watchList }).send (.dp p) .sp _).send
    (.dp p) .sp _).post _), ?_⟩
  simp only [execDetach, ix?_val, ← hc, hs, foldl_watch]
  rfl

/-- A port that is DETACHED already is left so, with the notice. -/
theorem portLeft.detached_again (h : portLeft p c n w s t) (hs : c.state = .detached) (he : e = { c with watching := [] }) :
    portLeft p e n (w ++ [noticeOf (.dp p) (portNotice .destDetached p c.vol [])]) s (t.detached p) := by
  have hdetached : e = { c with state := .detached, watching := [] } := by rw [he, ← hs]
  have hview : e.view = (t.port p).view := by rw [h.port, he]; rfl
  have hleft := h.detached hdetached
  rw [portReport_of_view hview, List.append_nil] at hleft
  exact hleft

theorem detach_scanning (hc : c = s.port p) (hs : c.state = .scanning)
    (he : e = { c with state := .detached, index := [], vol := none, alloc := none, watching := []
                       op := c.op.map fun o => { o with kind := .discarded o.kind } }) :
    leadsTo (portLeft p e s.token (s.wire ++ portReport s p e ++
      [acceptOf (.dp p) q [], noticeOf (.dp p) (portNotice .destDetached p none [])]) s) (execDetach q p.val s) := by
  have hset := (portLeft_setPort (s := s) (p := p) { c with
    state := .detached, index := [], vol := none, alloc := none
    op := c.op.map fun o => { o with kind := .discarded o.kind } }).send (.dp p) .sp (.blockAnswer q (.accepted false []))
  have hleft := hset.detached_again rfl he
  refine ⟨_, ?_, hleft.of_wire (w := _) ?_⟩
  · simp only [execDetach, ix?_val, ← hc, hs]
    rfl
  · subst he
    exact List.append_assoc ..

/-- Outside a scan a format that is given up has its own operation discarded (R110). -/
theorem detach_unformatted (hc : c = s.port p) (hs : c.state = .unformatted)
    (he : e = { c with state := .detached, format := none, watching := [], op := c.op.map discardFormat }) :
    leadsTo (portLeft p e s.token (s.wire ++ [acceptOf (.dp p) q []] ++ portReport s p e ++
      [noticeOf (.dp p) (portNotice .destDetached p c.vol [])]) s) (execDetach q p.val s) := by
  have hset := ((portLeft_refl hc).setPort { c with format := none, op := c.op.map discardFormat } rfl).send (.dp p) .sp
    (.blockAnswer q (.accepted false []))
  have hexec : execDetach q p.val s = .next (State.detached
      ((s.setPort p { c with format := none, op := c.op.map discardFormat }).accept (.dp p) q []) p) := by
    simp only [execDetach, ix?_val, ← hc, hs]
    cases ho : c.op with
    | none => rfl
    | some o =>
      obtain ⟨kind, _, _, _, _⟩ := o
      cases kind <;> rfl
  exact ⟨_, hexec, hset.detached_report (idle_view hc) he⟩

theorem detach_soaking {o : DriveOp} (hc : c = s.port p) (hs : c.state = .soaking) (ho : c.op = some o)
    (he : e = { c with state := .detached, soak := none, watching := [], op := some (discardSoak o) }) :
    leadsTo (portLeft p e s.token (s.wire ++ portReport s p e ++ [noticeOf (.dp p) (portNotice .destSoakEnded p c.vol (u8 2)),
        acceptOf (.dp p) q [], noticeOf (.dp p) (portNotice .destDetached p c.vol [])]) s) (execDetach q p.val s) := by
  have hstop := (soakStopped_left s .detached 1 hc ho rfl).send (.dp p) .sp (.blockAnswer q (.accepted false []))
  have hleft := hstop.detached_again rfl he
  have hserve := State.serve_of_op (p := p) (by rw [hleft.port, he]; exact Option.some_ne_none _)
  refine ⟨_, ?_, hleft.of_wire (v := _) ?_⟩
  · simp only [execDetach, ix?_val, ← hc, hs]
    exact congrArg _ hserve
  · subst he
    simp only [List.append_assoc]
    rfl

theorem detach_refused {why : Reason} (hc : c = s.port p)
    (h : c.state = .absent ∧ why = .noDrive ∨ (c.state = .detaching ∨ c.state = .detached) ∧ why = .already) :
    execDetach q p.val s = .next (s.refuseState (.dp p) q why) := by
  obtain ⟨hs, rfl⟩ | ⟨hs | hs, rfl⟩ := h <;> simp only [execDetach, ix?_val, ← hc, hs]

end

/-! ## Removal (R113) -/

/-- The LOST answer of the operation that runs in a port, where it performs a request. -/
def opLostOf (p : Port) (c : PortCtx) : List Wire := (c.op.map fun o => lostOpOf p o.kind).getD []

/-- Who is told that the volume a port held is lost. -/
def volLostOf (p : Port) (c : PortCtx) : List Wire := (c.vol.map fun vol => lostVolumeOf p vol c.holding).getD []

section
variable {s : State} {p : Port} {c : PortCtx}

theorem driveRemoved_left (hc : c = s.port p) (hs : c.state ≠ .absent) :
    leadsTo (portLeft p { test := c.test } s.token (s.wire ++ (opLostOf p c ++ lostAnswersOf p c ++ volLostOf p c) ++
      portReport s p { test := c.test } ++ [noticeOf (.dp p) (portNotice .destRemoved p c.vol (u8 (c.state.ctorIdx + 1)))])
      (s.driveShown p false)) (execDriveRemoved p s) := by
  have hexec : execDriveRemoved p s = .next ((((s.driveShown p false).post
      (opLostOf p c ++ lostAnswersOf p c ++ volLostOf p c)).setPort p { test := c.test }).raise (.dp p)
        (portNotice .destRemoved p c.vol (fNamed c.state.ctorIdx))) := by
    have hport : State.port { s with pins := { s.pins with driveDetect := upd s.pins.driveDetect p fun _ => false } } p = c :=
      hc.symm
    simp only [execDriveRemoved, State.driveShown, hport, if_neg hs, State.answerAllLost_eq]
    cases ho : c.op <;> cases hv : c.vol <;>
      simp [opLostOf, volLostOf, ho, hv, State.loseOp_eq, State.loseVolume_eq]
  have hleft : portLeft p c s.token s.wire (s.driveShown p false) (s.driveShown p false) := portLeft_refl hc
  exact ⟨_, hexec, ((hleft.post _).setPort_report _ (congrArg PortCtx.view hc)).send (.dp p) .sp _⟩

end

/-- Settles O26, clause by clause. -/
theorem arbiterFailuresAndRemoval : Obligations.ArbiterFailuresAndRemoval := by
  refine ⟨⟨⟨?running, ?play, ?read, ?write, ?soak⟩,
    ⟨?again, ⟨fun _ => rfl, fun k => attempts_of_answered⟩, ?request, ?scan, ?walk, ?sumList, ?other, ?withdrawal, ?cancelOutput,
      ?cancelInspector⟩, ?detachHeld, ?detachFree, ?detachIdle, ?detachSoaking, ?detachRefused, ?removed, ?removedAbsent⟩,
    ?detachScanning, ?detachUnformatted, ?againRaised, ?writeRaised⟩
  case running =>
    intro s p ho
    exact State.serve_of_op ho
  case play =>
    intro s p c r rest hc ho ha hs hf hsoak hp
    obtain ⟨hport, htoken, hwire⟩ := serve_play hc ⟨ho, ha, hs⟩ hf hsoak hp
    refine ⟨?_, hwire, htoken⟩
    obtain ⟨k, first, count, cut, rtok⟩ := r
    cases cut <;> exact hport
  case read =>
    intro s p c r rest hc ho ha hs hf hsoak hp hr hw
    obtain ⟨hport, htoken, hwire⟩ := serve_read hc ⟨ho, ha, hs⟩ hf hsoak hp hr hw
    exact ⟨hport, hwire, htoken⟩
  case write =>
    intro s p c hc ho ha hs hf hsoak hp hw hr
    obtain ⟨older, w, younger, hnext, hwrites, holder, hturn⟩ := PortCtx.nextWrite_spec hw
    obtain ⟨hport, htoken, hwire⟩ :=
      serve_write hc ⟨ho, ha, hs⟩ hf hsoak hp (PortCtx.nextClass_write hw hr) hnext hwrites holder
    exact ⟨older, w, younger, hwrites, holder, hturn, hport, hwire, htoken⟩
  case soak =>
    intro s p c k hc ho ha hs hf hsoak
    obtain ⟨o, hport, hkind⟩ := serve_soak hc ⟨ho, ha, hs⟩ hf hsoak
    refine ⟨o, hport, hkind.trans ?_⟩
    unfold Soak.nextOp
    cases k.phase <;> rfl
  case again =>
    intro p tok raised s c o r hc ho ht hmore hraise hr
    have hd : c = if raised then c.raised o else c := by
      rcases hraise with rfl | h
      · rfl
      · rw [PortCtx.raised_of_none h, ite_self]
    obtain ⟨t, u, hexec, hu, hleft⟩ := attemptFailed_again hc ho ht hmore hd hr
    exact ⟨t, hexec, State.driveCmd_congr hc hu.port hu.sts o.kind ▸ hleft⟩
  case request =>
    intro p tok s c o r w hc ho ht hlast hr hw
    exact request_fails hc ho ht hlast hr hw
  case scan =>
    intro p tok s c o r why e hc ho ht hlast hr hk he
    exact scan_fails hc ho ht hlast hr hk he
  case walk =>
    intro p tok s c o r pos hc ho ht hlast hr hk
    exact walk_fails hc ho ht hlast hr hk
  case sumList =>
    intro p tok s c o r pos x check e hc ho ht hlast hr hk he
    exact sumList_fails hc ho ht hlast hr hk he
  case other =>
    intro p tok raised s h
    have hnothing := attemptFailed_of_other (raised := raised) h
    exact ⟨congrArg Host.Outcome.next hnothing, congrArg Host.Outcome.next hnothing⟩
  case withdrawal =>
    intro ch p order s c hc
    exact (withdrawal_left ch order hc).imp fun t h => ⟨h.token, h.becomes, h.wire⟩
  case cancelOutput =>
    intro k p s c hc
    exact (readCancel_output_left k hc).imp fun t h => ⟨h.token, h.becomes, h.wire⟩
  case cancelInspector =>
    intro p s c hc
    exact (readCancel_inspector_left hc).imp fun t h => ⟨h.token, h.becomes, h.wire⟩
  case detachHeld =>
    intro q p s c e hc hs hh he
    obtain ⟨t, hleft, hexec⟩ := detach_ready (q := q) hc hs
    have hsome : ¬c.watchList.isEmpty = true := fun h => hh (PortCtx.watchList_eq_nil.mp (List.isEmpty_iff.mp h))
    subst he
    refine ⟨t, hexec.trans (congrArg _ (if_neg hsome)), hleft.becomes, hleft.token, fun ch h hch => ?_, ?_, ?_⟩
    · rw [hleft.wire]
      exact List.mem_append_right _ (List.mem_map_of_mem (PortCtx.mem_watchList hch))
    · rw [hleft.wire]
      simp
    · rw [hleft.wire]
      simp
  case detachFree =>
    intro q p s c hc hs hh
    obtain ⟨t, hleft, hexec⟩ := detach_ready (q := q) hc hs
    have hnone : c.watchList.isEmpty = true := List.isEmpty_iff.mpr (PortCtx.watchList_eq_nil.mpr hh)
    have hdetached := hleft.detached rfl
    refine ⟨_, hexec.trans (congrArg _ (if_pos hnone)), hdetached.becomes, hdetached.token, ?_, ?_⟩
    · rw [hdetached.wire]
      simp
    · rw [hdetached.wire]
      simp
  case detachIdle =>
    intro q p s c hc hs
    rcases hs with hs | hs
    · obtain ⟨t, hexec, ⟨hport, hothers, hframe⟩, _, hwire⟩ := detach_scanning (q := q) hc hs rfl
      exact ⟨t, hexec, by rw [hport], hothers, hframe, by rw [hwire]; simp⟩
    · obtain ⟨t, hexec, ⟨hport, hothers, hframe⟩, _, hwire⟩ := detach_unformatted (q := q) hc hs rfl
      exact ⟨t, hexec, by rw [hport], hothers, hframe, by rw [hwire]; simp⟩
  case detachSoaking =>
    intro q p s c o e hc hs ho he
    exact detach_soaking hc hs ho he
  case detachRefused =>
    intro q p s c why hc h
    exact ⟨_, detach_refused hc h, onlyWire_send .., State.send_wire ..⟩
  case removed =>
    intro p s c hc hs
    obtain ⟨t, hexec, ⟨hport, hothers, hframe⟩, htoken, hwire⟩ := driveRemoved_left hc hs
    refine ⟨t, hexec, hport, hothers, htoken, hframe.pins_eq, ?_, ?_⟩
    · exact (hframe.frame_of_pins htoken).trans rfl
    · rw [hwire, ← List.append_assoc, ← List.append_assoc]
      unfold opLostOf volLostOf
      cases c.op <;> cases c.vol <;> rfl
  case removedAbsent =>
    intro p s hs
    exact if_pos hs
  case detachScanning =>
    intro q p s c e hc hs he
    exact detach_scanning hc hs he
  case detachUnformatted =>
    intro q p s c e hc hs he
    exact detach_unformatted hc hs he
  case againRaised =>
    intro p tok s c d o r n hc ho ht hmore hn hd hr
    have hraised : d = if true then c.raised o else c := by rw [hd, if_pos rfl, PortCtx.raised_some c hn]
    obtain ⟨t, u, hexec, hu, hleft⟩ := attemptFailed_again hc ho ht hmore hraised hr
    exact ⟨t, u, hexec, hu.becomes, hu.sts, hleft⟩
  case writeRaised =>
    intro p tok s c o r n x hc ho ht hlast hn hk hr
    obtain ⟨t, hleft, hfailed⟩ := attemptFailed_left (raised := true) hc ho ht rfl
    rw [if_neg (Nat.not_lt.mpr hlast), hk, State.opFailed, State.answerWrite_eq] at hfailed
    rw [if_pos rfl, PortCtx.raised_some c hn] at hleft
    exact ⟨_, (exec_attemptFailed hr).trans (congrArg _ hfailed), hleft.post _⟩

end Sys2Proof.Machine
end


section
/-! SUPPORT. Labels and clip headers that are written are read back (R95, R96, R215). -/

namespace Sys2Proof.Machine

/-! ## Numbers low byte first (R215) -/

@[simp] theorem leBytes_length (n v : Nat) : (leBytes n v).length = n := by
  induction n generalizing v with
  | zero => rfl
  | succ n ih => simp [leBytes, ih]

theorem leNat_leBytes (n v : Nat) : leNat (leBytes n v) = v % 256 ^ n := by
  induction n generalizing v with
  | zero => simp [leBytes, leNat, Nat.mod_one]
  | succ n ih =>
    rw [leBytes, leNat, ih, Nat.pow_succ', Nat.mod_mul]
    rfl

/-- A number that stands at an offset of a run of bytes is read there. -/
theorem leAt_of_prefix {bs before : List Byte} {off n v : Nat} (hbs : before ++ leBytes n v <+: bs)
    (hoff : before.length = off) (hv : v < 256 ^ n) : leAt bs off n = v := by
  obtain ⟨after, rfl⟩ := hbs
  rw [leAt, List.append_assoc, List.drop_left' hoff, List.take_left' (leBytes_length n v), leNat_leBytes, Nat.mod_eq_of_lt hv]

theorem ofNat_leAt_of_prefix {w : Nat} {bs before : List Byte} {off n : Nat} {x : BitVec w}
    (hbs : before ++ leBytes n x.toNat <+: bs) (hoff : before.length = off) (hw : 2 ^ w = 256 ^ n) :
    BitVec.ofNat w (leAt bs off n) = x := by
  rw [leAt_of_prefix hbs hoff (hw ▸ x.isLt), BitVec.ofNat_toNat, BitVec.setWidth_eq]

/-! ## The volume label (12.4) -/

section
variable (serial : Serial) (capacity recEnd : Nat) (rest : List Byte)

@[simp] theorem labelBody_length : (labelBody serial capacity recEnd).length = 28 := by simp [labelBody]

theorem labelBytes_take : (labelBytes serial capacity recEnd ++ rest).take 28 = labelBody serial capacity recEnd := by
  rw [labelBytes, List.append_assoc, List.take_left' (labelBody_length ..)]

theorem labelBytes_magic : (labelBytes serial capacity recEnd ++ rest).take 4 = [0x42, 0x58, 0x53, 0x4C] := by
  simp [labelBytes, labelBody]

theorem labelBytes_check : BitVec.ofNat 32 (leAt (labelBytes serial capacity recEnd ++ rest) 28 4) =
    extentSum (labelBody serial capacity recEnd) :=
  ofNat_leAt_of_prefix (List.prefix_append _ _) (labelBody_length ..) rfl

theorem labelBytes_serial : BitVec.ofNat 64 (leAt (labelBytes serial capacity recEnd ++ rest) 4 8) = serial :=
  ofNat_leAt_of_prefix (before := [0x42, 0x58, 0x53, 0x4C])
    (by simp [labelBytes, labelBody]) rfl rfl

theorem labelBytes_capacity (h : capacity < 2 ^ 64) :
    leAt (labelBytes serial capacity recEnd ++ rest) 12 8 = capacity :=
  leAt_of_prefix (before := [0x42, 0x58, 0x53, 0x4C] ++ leBytes 8 serial.toNat)
    (by simp [labelBytes, labelBody])
    (by simp) h

theorem labelBytes_recEnd (h : recEnd < 2 ^ 64) : leAt (labelBytes serial capacity recEnd ++ rest) 20 8 = recEnd :=
  leAt_of_prefix (before := [0x42, 0x58, 0x53, 0x4C] ++ leBytes 8 serial.toNat ++ leBytes 8 capacity)
    (by simp [labelBytes, labelBody])
    (by simp) h

theorem readLabel_labelBytes (hserial : serial ≠ 0) (hcap : capacity < 2 ^ 64) (hpos : 0 < recEnd) (hle : recEnd ≤ capacity) :
    readLabel capacity (labelBytes serial capacity recEnd ++ rest) = .ok (serial, recEnd) := by
  simp only [readLabel, labelBytes_magic, labelBytes_take, labelBytes_check, labelBytes_serial,
    labelBytes_capacity _ _ _ _ hcap, labelBytes_recEnd _ _ _ _ (lt_of_le_of_lt hle hcap)]
  rw [if_neg (not_not.mpr rfl), if_neg]
  rintro (h | h | h | h | h)
  · exact h rfl
  · exact hserial h
  · exact h rfl
  · omega
  · omega

end

/-! ## The clip header (12.4) -/

section
variable (vol : Serial) (st : HeaderState) (serial : Serial) (clipNo len : Nat) (check : Sum32) (rest : List Byte)

@[simp] theorem clipHdrBody_length : (clipHdrBody vol st serial clipNo len check).length = 35 := by simp [clipHdrBody]

theorem clipHdrBytes_take : (clipHdrBytes vol st serial clipNo len check ++ rest).take 35 =
    clipHdrBody vol st serial clipNo len check := by
  rw [clipHdrBytes, List.append_assoc, List.take_left' (clipHdrBody_length ..)]

theorem clipHdrBytes_magic :
    (clipHdrBytes vol st serial clipNo len check ++ rest).take 4 = [0x42, 0x58, 0x43, 0x48] := by
  simp [clipHdrBytes, clipHdrBody]

theorem clipHdrBytes_check : BitVec.ofNat 32 (leAt (clipHdrBytes vol st serial clipNo len check ++ rest) 35 4) =
    extentSum (clipHdrBody vol st serial clipNo len check) :=
  ofNat_leAt_of_prefix (List.prefix_append _ _) (clipHdrBody_length ..) rfl

theorem clipHdrBytes_vol : BitVec.ofNat 64 (leAt (clipHdrBytes vol st serial clipNo len check ++ rest) 4 8) = vol :=
  ofNat_leAt_of_prefix (before := [0x42, 0x58, 0x43, 0x48])
    (by simp [clipHdrBytes, clipHdrBody]) rfl rfl

theorem clipHdrBytes_state : leAt (clipHdrBytes vol st serial clipNo len check ++ rest) 12 1 = st.ctorIdx + 1 :=
  leAt_of_prefix (before := [0x42, 0x58, 0x43, 0x48] ++ leBytes 8 vol.toNat)
    (by simp [clipHdrBytes, clipHdrBody])
    (by simp) (by cases st <;> decide)

theorem clipHdrBytes_serial :
    BitVec.ofNat 64 (leAt (clipHdrBytes vol st serial clipNo len check ++ rest) 13 8) = serial :=
  ofNat_leAt_of_prefix (before := [0x42, 0x58, 0x43, 0x48] ++ leBytes 8 vol.toNat ++ leBytes 1 (st.ctorIdx + 1))
    (by simp [clipHdrBytes, clipHdrBody])
    (by simp) rfl

theorem clipHdrBytes_clipNo (h : clipNo < 256 ^ 2) :
    leAt (clipHdrBytes vol st serial clipNo len check ++ rest) 21 2 = clipNo :=
  leAt_of_prefix (before := [0x42, 0x58, 0x43, 0x48] ++ leBytes 8 vol.toNat ++ leBytes 1 (st.ctorIdx + 1) ++
      leBytes 8 serial.toNat)
    (by simp [clipHdrBytes, clipHdrBody])
    (by simp) h

theorem clipHdrBytes_len (h : len < 256 ^ 8) : leAt (clipHdrBytes vol st serial clipNo len check ++ rest) 23 8 = len :=
  leAt_of_prefix (before := [0x42, 0x58, 0x43, 0x48] ++ leBytes 8 vol.toNat ++ leBytes 1 (st.ctorIdx + 1) ++
      leBytes 8 serial.toNat ++ leBytes 2 clipNo)
    (by simp [clipHdrBytes, clipHdrBody])
    (by simp) h

theorem clipHdrBytes_listCheck :
    BitVec.ofNat 32 (leAt (clipHdrBytes vol st serial clipNo len check ++ rest) 31 4) = check :=
  ofNat_leAt_of_prefix (before := [0x42, 0x58, 0x43, 0x48] ++ leBytes 8 vol.toNat ++ leBytes 1 (st.ctorIdx + 1) ++
      leBytes 8 serial.toNat ++ leBytes 2 clipNo ++ leBytes 8 len)
    (by simp [clipHdrBytes, clipHdrBody])
    (by simp) rfl

theorem readClipHdr_clipHdrBytes {recEnd pos : Nat} (hclip : 1 ≤ clipNo) (hclip' : clipNo ≤ 999) (hlen : 0 < len)
    (hlen' : len ≤ Config.maxClipBytes) (hend : pos + spanOf (extentsOf len) + dataBlocks len ≤ recEnd) :
    readClipHdr vol recEnd pos (clipHdrBytes vol st serial clipNo len check ++ rest) = some
      { entry := { hb := pos, serial := serial, clipNo := clipNo, len := len, sums := none }
        complete := decide (st = .complete), check := check } := by
  have hlen8 : len < 256 ^ 8 := lt_of_le_of_lt hlen' (by norm_num)
  simp only [readClipHdr, clipHdrBytes_magic, clipHdrBytes_take, clipHdrBytes_check, clipHdrBytes_vol, clipHdrBytes_state,
    clipHdrBytes_serial, clipHdrBytes_clipNo _ _ _ _ _ _ _ (show clipNo < 256 ^ 2 by omega), clipHdrBytes_len _ _ _ _ _ _ _ hlen8,
    clipHdrBytes_listCheck]
  have hcomplete : decide (st.ctorIdx + 1 = 2) = decide (st = .complete) := by cases st <;> rfl
  rw [if_neg (not_not.mpr rfl), if_neg (not_not.mpr rfl), if_neg (not_not.mpr rfl), if_neg (by cases st <;> decide),
    if_neg (by omega), if_neg (Nat.not_lt.mpr hend), hcomplete]

end

/-- Settles O59: each number is read at the offset it was written at. -/
theorem labelsAndHeadersReadBack : Obligations.LabelsAndHeadersReadBack :=
  ⟨fun n v => ⟨leNat_leBytes n v, leBytes_length n v⟩,
    fun serial capacity recEnd rest hserial hcap hpos hle =>
      readLabel_labelBytes serial capacity recEnd rest hserial hcap hpos hle,
    fun vol st serial clipNo len check rest _ _ hclip hclip' hlen hlen' hend =>
      readClipHdr_clipHdrBytes vol st serial clipNo len check rest hclip hclip' hlen hlen' hend⟩

end Sys2Proof.Machine
end


section
/-! SUPPORT. Timecode arithmetic (R128): a valid timecode and its count below the frames in a day give each other. -/

namespace Sys2Proof.Machine

section
variable {rate n : Nat} {t t0 : Timecode}

theorem fps_pos (h1 : 1 ≤ rate) (h6 : rate ≤ 6) : 0 < fps rate := by
  interval_cases rate <;> decide

theorem tcValid_iff : tcValid rate t = true ↔ t.h < 24 ∧ t.m < 60 ∧ t.s < 60 ∧ t.f < fps rate := by
  simp [tcValid, and_assoc]

theorem tcCount_of_valid (h : tcValid rate t = true) :
    tcCount rate t = ((t.h * 60 + t.m) * 60 + t.s) * fps rate + t.f :=
  if_pos h

theorem tcCount_lt_day (h : tcValid rate t = true) : tcCount rate t < 86400 * fps rate := by
  obtain ⟨hh, hm, hs, hf⟩ := tcValid_iff.mp h
  have hsec : (t.h * 60 + t.m) * 60 + t.s + 1 ≤ 86400 := by omega
  calc tcCount rate t < ((t.h * 60 + t.m) * 60 + t.s + 1) * fps rate := by
        rw [tcCount_of_valid h, Nat.add_one_mul]; omega
    _ ≤ 86400 * fps rate := Nat.mul_le_mul_right _ hsec

/-- The fields of a valid timecode are the digits of its count. -/
theorem tcOf_tcCount (h : tcValid rate t = true) : tcOf rate (tcCount rate t) = t := by
  obtain ⟨hh, hm, hs, hf⟩ := tcValid_iff.mp h
  have hdiv : tcCount rate t / fps rate = (t.h * 60 + t.m) * 60 + t.s := by
    rw [tcCount_of_valid h, Nat.mul_comm, Nat.mul_add_div (by omega), Nat.div_eq_of_lt hf, Nat.add_zero]
  have hmod : tcCount rate t % fps rate = t.f := by
    rw [tcCount_of_valid h, Nat.mul_add_mod_self_right, Nat.mod_eq_of_lt hf]
  obtain ⟨h', m', s', f'⟩ := t
  simp only [tcOf, hdiv, hmod, Timecode.mk.injEq, and_true]
  dsimp only at hh hm hs
  omega

theorem tcValid_tcOf (hn : n < 86400 * fps rate) : tcValid rate (tcOf rate n) = true := by
  have hfps : 0 < fps rate := by omega
  have hsec : n / fps rate < 86400 := Nat.div_lt_of_lt_mul (by rwa [Nat.mul_comm])
  refine tcValid_iff.mpr ⟨?_, Nat.mod_lt _ (by norm_num), Nat.mod_lt _ (by norm_num), Nat.mod_lt _ hfps⟩
  simp only [tcOf]
  omega

theorem tcCount_tcOf (hn : n < 86400 * fps rate) : tcCount rate (tcOf rate n) = n := by
  have hsec : (n / fps rate / 3600 * 60 + n / fps rate / 60 % 60) * 60 + n / fps rate % 60 = n / fps rate := by omega
  rw [tcCount_of_valid (tcValid_tcOf hn)]
  simp only [tcOf, hsec]
  rw [Nat.mul_comm]
  exact Nat.div_add_mod n (fps rate)

/-- A timecode plus a number of frames is that of a count below the day: the sum modulo the day. -/
theorem tcPlus_count (hfps : 0 < fps rate) (t : Timecode) (k : Int) :
    tcValid rate (tcPlus rate t k) = true ∧
      (tcCount rate (tcPlus rate t k) : Int) = ((tcCount rate t : Int) + k) % (86400 * fps rate : Nat) := by
  have hday : 0 < dayFrames rate := Nat.mul_pos (by norm_num) hfps
  have hnonneg : 0 ≤ ((tcCount rate t : Int) + k) % (dayFrames rate : Int) := Int.emod_nonneg _ (by omega)
  have hlt : (((tcCount rate t : Int) + k) % (dayFrames rate : Int)).toNat < 86400 * fps rate :=
    (Int.toNat_lt hnonneg).mpr (Int.emod_lt_of_pos _ (by exact_mod_cast hday))
  exact ⟨tcValid_tcOf hlt, by rw [tcPlus, tcCount_tcOf hlt, Int.toNat_of_nonneg hnonneg]; rfl⟩

theorem tcDiff_count (hfps : 0 < fps rate) (t t0 : Timecode) :
    tcDiff rate t t0 < 86400 * fps rate ∧
      (tcDiff rate t t0 : Int) = ((tcCount rate t : Int) - tcCount rate t0) % (86400 * fps rate : Nat) := by
  have hday : 0 < dayFrames rate := Nat.mul_pos (by norm_num) hfps
  have hnonneg : 0 ≤ ((tcCount rate t : Int) - tcCount rate t0) % (dayFrames rate : Int) := Int.emod_nonneg _ (by omega)
  exact ⟨(Int.toNat_lt hnonneg).mpr (Int.emod_lt_of_pos _ (by exact_mod_cast hday)), Int.toNat_of_nonneg hnonneg⟩

/-- Adding the difference to the timecode it was taken from leads back to the other one. -/
theorem tcPlus_tcDiff (hfps : 0 < fps rate) (h : tcValid rate t = true) : tcPlus rate t0 (tcDiff rate t t0) = t := by
  have hcount : ((tcCount rate t0 : Int) + tcDiff rate t t0) % (dayFrames rate : Int) = tcCount rate t := by
    rw [(tcDiff_count hfps t t0).2, dayFrames, Int.add_emod_emod, add_sub_cancel]
    exact Int.emod_eq_of_lt (by omega) (by exact_mod_cast tcCount_lt_day h)
  rw [tcPlus, hcount, Int.toNat_natCast, tcOf_tcCount h]

end

/-- Settles O58: a timecode stands for its count, and the three operations are those of counts modulo the day. -/
theorem timecodeArithmetic : Obligations.TimecodeArithmetic := by
  refine ⟨⟨rfl, rfl, rfl, rfl, rfl, rfl⟩, fun rate t h1 h6 => ⟨tcValid_iff, fun hv => ?_⟩⟩
  have hfps := fps_pos h1 h6
  have hnext : (tcCount rate t + 1) % dayFrames rate < 86400 * fps rate := Nat.mod_lt _ (Nat.mul_pos (by norm_num) hfps)
  exact ⟨tcCount_of_valid hv, tcCount_lt_day hv, tcOf_tcCount hv, tcValid_tcOf hnext, tcCount_tcOf hnext,
    tcPlus_count hfps t, fun t0 _ =>
      ⟨(tcDiff_count hfps t t0).1, (tcDiff_count hfps t t0).2, tcPlus_tcDiff hfps hv⟩⟩

end Sys2Proof.Machine
end


section
/-! SUPPORT. The preview slots (R129 to R132): what storing the held slots, dropping a holder and settling a pass do, and what the
requests of the outputs and the completion of an analysis make of them. -/

namespace Sys2Proof.Machine

/-! ## Storing the held slots (R129) -/

/-- The report to the re-inspection context that a change in the number of FREE slots makes (R129, R134). -/
def freeReport (old new : List Slot) : List Wire :=
  if new.length ≠ old.length then [⟨.pp, .fx, .reinspectPlaneResume (64 - new.length)⟩] else []

theorem freeReport_of_length {old new : List Slot} (h : new.length = old.length) : freeReport old new = [] :=
  if_neg (not_not.mpr h)

theorem State.setSlots_eq (s : State) (l : List Slot) :
    s.setSlots l = { s with pp := { s.pp with slots := l }, wire := s.wire ++ freeReport s.pp.slots l } := by
  by_cases h : l.length = s.pp.slots.length
  · simp [State.setSlots, freeReport_of_length h, h]
  · simp [State.setSlots, freeReport, h, State.send, Pool.free, Config.previewSlots]

/-- A slot stays held in a drop exactly when a holder is left in it. -/
theorem mem_dropHolder_iff {h : Holder} {p : Slot → Bool} {l : List Slot} {x : Slot} :
    x ∈ dropHolder h p l ↔ x.holders ≠ [] ∧ ∃ y ∈ l, x = y.leftBy h p := by
  refine ⟨mem_dropHolder, ?_⟩
  rintro ⟨hne, y, hy, rfl⟩
  exact List.mem_filter.mpr ⟨List.mem_map.mpr ⟨y, hy, rfl⟩, by simpa using hne⟩

/-! ## FREE slots and the placing of a plane (R129 to R131) -/

theorem Pool.lowestFree_eq_some_iff (p : Pool) (n : Nat) :
    p.lowestFree = some n ↔ n < 64 ∧ (∀ x ∈ p.slots, x.num ≠ n) ∧ ∀ m < n, ∃ x ∈ p.slots, x.num = m := by
  simp only [Pool.lowestFree, Config.previewSlots, List.find?_range_eq_some, List.mem_range, Bool.not_eq_true',
    List.any_eq_false, decide_eq_true_eq, Bool.not_not, List.any_eq_true]
  tauto

theorem Pool.lowestFree_eq_none_iff (p : Pool) : p.lowestFree = none ↔ ∀ m < 64, ∃ x ∈ p.slots, x.num = m := by
  simp only [Pool.lowestFree, Config.previewSlots, List.find?_range_eq_none, Bool.not_not, List.any_eq_true,
    decide_eq_true_eq]

section
variable (s : State) (n : Nat) (src : SlotSource) (hdr : FrameHdr) (plane : List Byte) (newest : Option Chan)
  {holders : List Holder}

/-- A slot stored with its plane: NEWEST of a channel moves to it where it is to, and the channel's sequence number rises
(R131). -/
def State.stored (new : Slot) : State :=
  { s with
    pp := { s.pp with
      slots := insertSlot new (s.pp.slotsFor newest)
      seqs := newest.elim s.pp.seqs fun c => upd s.pp.seqs c fun v => (v + 1) % 65536 }
    wire := s.wire ++ freeReport s.pp.slots (insertSlot new (s.pp.slotsFor newest)) }

/-- The slot that a plane is placed in. -/
def placedSlot (holders : List Holder) : Slot :=
  { num := n, src := src, hdr := hdr, plane := plane, holders := holders ++ (newest.map Holder.newest).toList }

theorem State.place_of_not_inspect (h : .inspect ∉ holders) : s.place n src hdr plane newest holders =
    s.stored newest (placedSlot n src hdr plane newest holders) := by
  unfold State.place
  cases newest <;> simp only [if_neg h, State.setSlots_eq] <;> rfl

theorem State.place_of_inspect (h : .inspect ∈ holders) {t : State}
    (ht : t = s.stored newest (placedSlot n src hdr plane newest holders)) : s.place n src hdr plane newest holders =
    State.engineTake { t with pp := { t.pp with queue := s.pp.queue ++ [n] } } := by
  subst ht
  unfold State.place
  cases newest <;> simp only [if_pos h, State.setSlots_eq] <;> rfl

end

section
variable {s : State}

/-! ## Requests of outputs (R131, R132) -/

theorem takeNewest_none {c : Chan} (k : Outp) (tok : Nat) (h : ∀ x ∈ s.pp.slots, .newest c ∉ x.holders) :
    exec (.takeNewest k c tok) s = .next (s.send .pp .ro [.takeNewestAnswer k tok none]) := by
  have hfind : (s.pp.slots.find? fun x => Holder.newest c ∈ x.holders) = none :=
    List.find?_eq_none.mpr fun x hx => by simpa using h x hx
  change execTakeNewest k c tok s = _
  simp only [execTakeNewest, hfind]

/-- The slot an output becomes a holder of: no slot is added or removed. -/
theorem takeNewest_some {c : Chan} {x : Slot} (k : Outp) (tok : Nat)
    (h : s.pp.slots.find? (fun y => .newest c ∈ y.holders) = some x) :
    exec (.takeNewest k c tok) s = .next { s with
      pp := { s.pp with slots := s.pp.slots.map fun y =>
        if y.num = x.num ∧ .output k ∉ y.holders then { y with holders := y.holders ++ [.output k] } else y }
      wire := s.wire ++ [⟨.pp, .ro, .takeNewestAnswer k tok (some (x.num, x.hdr, s.pp.seqs[c]))⟩] } := by
  change execTakeNewest k c tok s = _
  simp only [execTakeNewest, h, State.setSlots_eq, freeReport_of_length (List.length_map _), List.append_nil]
  rfl

theorem slotDrop_eq (k : Outp) (n : Nat) (s : State) :
    exec (.slotDrop k n) s = .next (s.setSlots (dropHolder (.output k) (fun y => y.num = n) s.pp.slots)) := rfl

theorem dropAll_eq (k : Outp) (s : State) :
    exec (.dropAll k) s = .next (s.setSlots (dropHolder (.output k) (fun _ => true) s.pp.slots)) := rfl

theorem liveCountReport_pos {n : Nat} (c : Chan) (s : State) (h : n ≠ 0) : exec (.liveCountReport c n) s =
    .next { s with pp := { s.pp with counts := upd s.pp.counts c fun _ => n } } :=
  congrArg Host.Outcome.next (if_neg h)

/-- With no output routed LIVE from it, a channel has no NEWEST slot (R131). -/
theorem liveCountReport_zero (c : Chan) (s : State) : exec (.liveCountReport c 0) s =
    .next (State.setSlots { s with pp := { s.pp with counts := upd s.pp.counts c fun _ => 0 } }
      (dropHolder (.newest c) (fun _ => true) s.pp.slots)) := rfl

/-! ## Analysed slots (R127, R130) -/

section
variable {n : Nat} {x : Slot}

theorem analysisDone_unheld (h : ∀ x ∈ s.pp.slots, x.num = n → .inspect ∉ x.holders) :
    exec (.analysisDoneReport n) s = .next s := by
  have hfind : (s.pp.slots.find? fun x => x.num = n && Holder.inspect ∈ x.holders) = none :=
    List.find?_eq_none.mpr fun x hx => by simpa using h x hx
  change execAnalysisDoneReport n s = _
  simp only [execAnalysisDoneReport, hfind]

variable (hx : s.pp.slots.find? (fun y => y.num = n && .inspect ∈ y.holders) = some x)
include hx

theorem analysisDone_live {c : Chan} {pass : Nat} (hsrc : x.src = .live c pass) : exec (.analysisDoneReport n) s =
    .next ((s.setSlots (dropHolder .inspect (fun y => y.num = n) s.pp.slots)).settleOne pass) := by
  change execAnalysisDoneReport n s = _
  simp only [execAnalysisDoneReport, hx, hsrc]

theorem analysisDone_reinspect (hsrc : x.src = .reinspect) {t : State}
    (ht : t = s.setSlots (dropHolder .inspect (fun y => y.num = n) s.pp.slots)) :
    exec (.analysisDoneReport n) s = .next (t.setReader { t.ins.reader with anal := t.ins.reader.anal + 1 }).readerEnds := by
  change execAnalysisDoneReport n s = _
  simp only [execAnalysisDoneReport, hx, hsrc, ht]

theorem analysisDone_playback {k : Outp} (hsrc : x.src = .playback k) : exec (.analysisDoneReport n) s =
    .next (s.setSlots (dropHolder .inspect (fun y => y.num = n) s.pp.slots)) := by
  change execAnalysisDoneReport n s = _
  simp only [execAnalysisDoneReport, hx, hsrc]

end

section
variable {pass : Nat} {e : Settle}

theorem State.settleOne_none (h : ∀ y ∈ s.fx.settle, y.pass ≠ pass) : s.settleOne pass = s := by
  have hfind : (s.fx.settle.find? fun y => y.pass = pass) = none :=
    List.find?_eq_none.mpr fun y hy => by simpa using h y hy
  simp only [State.settleOne, hfind]

variable (he : s.fx.settle.find? (fun y => y.pass = pass) = some e)
include he

/-- The last slot of a pass settles it: its entry leaves and its result is handed over (R127). -/
theorem State.settleOne_last (h : e.left ≤ 1) : s.settleOne pass = { s with
    fx := { s.fx with settle := s.fx.settle.filter fun y => y.pass ≠ pass }
    wire := s.wire ++ [⟨.fx, .ins, .passResult e.clip e.skipped (s.superseded e.clip pass)⟩] } := by
  simp only [State.settleOne, he, if_pos h]
  rfl

theorem State.settleOne_more (h : 2 ≤ e.left) : s.settleOne pass = { s with
    fx := { s.fx with settle := s.fx.settle.map fun y => if y.pass = pass then { y with left := y.left - 1 } else y } } := by
  simp only [State.settleOne, he, if_neg (show ¬e.left ≤ 1 by omega)]

end

end

/-- Settles O30, clause by clause. -/
theorem previewSlots : Obligations.PreviewSlots := by
  refine ⟨?noNewest, ?newest, ?drop, fun c n s h => liveCountReport_pos c s h, ?noOutput, fun n s h => analysisDone_unheld h,
    ?analysed, ?settled, fun h p slots x => mem_dropHolder_iff, ?reinspected, ?played,
    fun s pass e he h => State.settleOne_more he h, fun s pass h => State.settleOne_none h⟩
  case noNewest =>
    intro k c tok s h
    exact ⟨_, takeNewest_none k tok h, rfl, rfl⟩
  case newest =>
    intro k c tok s x h
    exact ⟨_, takeNewest_some k tok h, rfl, rfl, rfl⟩
  case drop =>
    rintro k n s r slots (⟨rfl, rfl⟩ | ⟨rfl, rfl⟩)
    · exact ⟨_, (slotDrop_eq k n s).trans (congrArg _ (s.setSlots_eq _)), rfl, rfl⟩
    · exact ⟨_, (dropAll_eq k s).trans (congrArg _ (s.setSlots_eq _)), rfl, rfl⟩
  case noOutput =>
    intro c s
    exact ⟨_, (liveCountReport_zero c s).trans (congrArg _ (State.setSlots_eq _ _)), rfl, rfl⟩
  case analysed =>
    intro n s x c pass hx hsrc
    exact ⟨_, (analysisDone_live hx hsrc).trans (by rw [State.setSlots_eq]), rfl, rfl⟩
  case settled =>
    intro s pass e he h
    rw [State.settleOne_last he h]
    exact ⟨rfl, rfl⟩
  case reinspected =>
    rintro n s x slots out hx hsrc rfl rfl
    exact analysisDone_reinspect hx hsrc (s.setSlots_eq _).symm
  case played =>
    rintro n s x k slots out hx hsrc rfl rfl
    exact (analysisDone_playback hx hsrc).trans (congrArg _ (s.setSlots_eq _))

end Sys2Proof.Machine
end


section
/-! SUPPORT. The parse contexts (R121, R122): what one byte and the close of a chunk do, by what has been taken before. -/

namespace Sys2Proof.Machine

/-! ## One byte (R122) -/

section
variable {p : Parse} {b : Byte}

section
variable (hc : p.chunk = none) (hpos : p.pos < p.dataLen)
include hc hpos

theorem Parse.not_atEnd : p.atEnd = false := by simp [Parse.atEnd, hc, hpos]

theorem Parse.take_header {h : ChunkHdr} (hg : p.gather.length = 63)
    (hh : readChunkHdr p.pos p.dataLen (p.gather ++ [b]) = some h) : p.take b = (p.accept h, .header h) := by
  simp [Parse.take, hc, Parse.not_atEnd hc hpos, hg, hh]

theorem Parse.take_badHeader (hg : p.gather.length = 63)
    (hh : readChunkHdr p.pos p.dataLen (p.gather ++ [b]) = none) :
    p.take b = ({ p with gather := p.gather ++ [b] }, .bad) := by
  simp [Parse.take, hc, Parse.not_atEnd hc hpos, hg, hh]

/-- The data end within a chunk header. -/
theorem Parse.take_cutHeader (hg : p.gather.length < 63) (hend : p.dataLen ≤ p.pos + (p.gather.length + 1)) :
    p.take b = ({ p with gather := p.gather ++ [b] }, .bad) := by
  have hlen : ¬p.gather.length = 63 := by omega
  simp [Parse.take, hc, Parse.not_atEnd hc hpos, hlen, hend]

end

section
variable {c : Chunk} (hc : p.chunk = some c)
include hc

/-- The last byte of an offered chunk's plane. -/
theorem Parse.take_plane (ho : c.offered = true) (hlast : c.taken + 1 = 64 + c.hdr.preview) :
    p.take b = ({ p with chunk := some { c with taken := c.taken + 1 }, planeRev := b :: p.planeRev }, .plane) := by
  simp [Parse.take, hc, ho, hlast]

/-- A byte of a chunk that completes no plane that is wanted. -/
theorem Parse.take_chunk (hno : c.offered = true → c.taken + 1 ≠ 64 + c.hdr.preview) : ∃ plane,
    p.take b = ({ p with chunk := some { c with taken := c.taken + 1 }, planeRev := plane }, .nothing) := by
  simp only [Parse.take, hc, if_neg (show ¬(c.offered && decide (c.taken + 1 = 64 + c.hdr.preview)) = true by simpa using hno)]
  exact ⟨_, rfl⟩

theorem Parse.close_open (h : c.taken < c.hdr.len) : p.close = p := by
  simp [Parse.close, hc, Nat.not_le.mpr h]

theorem Parse.close_full (h : c.hdr.len ≤ c.taken) :
    p.close = { p with chunk := none, planeRev := [], pos := p.pos + c.hdr.len } := by
  simp [Parse.close, hc, h]

end

theorem Parse.close_none (hc : p.chunk = none) : p.close = p := by simp [Parse.close, hc]

end

end Sys2Proof.Machine
end


section
/-! SUPPORT. The live pass (R122 to R124, R126, R127, R137): what each operation of a live context comes to, one lemma per case,
and the statement about it put together from them. -/

namespace Sys2Proof.Machine

/-! ## The live contexts -/

section
variable (s : State) (c : Chan) (x : LiveCtx) (w : List Wire)

/-- The state with a new live context and some messages more on their way. -/
def State.withLive : State :=
  { s with fx := { s.fx with live := upd s.fx.live c fun _ => x }, wire := s.wire ++ w }

theorem State.setLive_eq : s.setLive c x = s.withLive c x [] := by
  simp only [State.setLive, State.withLive, List.append_nil]

@[simp] theorem State.withLive_liveCtx : (s.withLive c x w).liveCtx c = x := upd_same ..

@[simp] theorem State.setLive_liveCtx : (s.setLive c x).liveCtx c = x := upd_same ..

@[simp] theorem State.withLive_wire : (s.withLive c x w).wire = s.wire ++ w := rfl

@[simp] theorem State.withLive_send (src dst : Node) (m : Instr) :
    (s.withLive c x w).send src dst [m] = s.withLive c x (w ++ [⟨src, dst, m⟩]) := by
  simp only [State.withLive, State.send, List.map_cons, List.map_nil, List.append_assoc]

theorem liveBecomes_withLive : liveBecomes c x s (s.withLive c x w) :=
  ⟨State.withLive_liveCtx .., fun _ hd => upd_other _ _ _ _ hd, rfl⟩

end

/-- A command that leaves a live context and some messages more. -/
theorem next_withLive {r : Result} {s : State} {c : Chan} {x : LiveCtx} {w : List Wire} (h : r = .next (s.withLive c x w)) :
    ∃ t, r = .next t ∧ liveBecomes c x s t ∧ t.wire = s.wire ++ w :=
  ⟨_, h, liveBecomes_withLive .., rfl⟩

/-- A command that leaves a live context and sends nothing. -/
theorem next_withLive_nil {r : Result} {s : State} {c : Chan} {x : LiveCtx} (h : r = .next (s.withLive c x [])) :
    ∃ t, r = .next t ∧ liveBecomes c x s t ∧ t.wire = s.wire :=
  ⟨_, h, liveBecomes_withLive .., List.append_nil _⟩

/-! ## Counting, headers and unreadable data (R123, R124, R126) -/

section
variable {s : State} {c : Chan}

theorem State.skipFrame_eq (s : State) (c : Chan) : s.skipFrame c =
    s.withLive c { s.liveCtx c with skipped := (s.liveCtx c).skipped + 1 }
      [⟨.fx, .cat, .inspectionCountReport ((s.liveCtx c).parse.clip.getD 0) (.addSkipped 1)⟩] := rfl

/-- What data that cannot be read make a live context send: the occurrence, the Catalog's state where the pass is inspected, and
the end of the continuity context (R123). -/
def LiveCtx.unparsable (x : LiveCtx) (c : Chan) : List Wire :=
  [⟨.fx, .fl, .occurrence (spanOcc (x.parse.clip.getD 0) .unparsable 1 x.parse.faultFrame x.parse.faultFrame)⟩] ++
    (if x.inspecting then [⟨.fx, .cat, .inspectionCountReport (x.parse.clip.getD 0) (.setState .halted none)⟩] else []) ++
    [⟨.fx, .ins, .continuityEnd c x.pass .halted⟩]

/-- The same, message by message, after what was sent before. -/
theorem LiveCtx.unparsable_after (x : LiveCtx) (c : Chan) (w : List Wire) : w ++ x.unparsable c =
    w ++ [⟨.fx, .fl, .occurrence (spanOcc (x.parse.clip.getD 0) .unparsable 1 x.parse.faultFrame x.parse.faultFrame)⟩] ++
      (if x.inspecting then [⟨.fx, .cat, .inspectionCountReport (x.parse.clip.getD 0) (.setState .halted none)⟩] else []) ++
      [⟨.fx, .ins, .continuityEnd c x.pass .halted⟩] := by
  simp only [LiveCtx.unparsable, List.append_assoc]

theorem State.liveBad_eq (s : State) (c : Chan) : s.liveBad c =
    s.withLive c { s.liveCtx c with parse := (s.liveCtx c).parse.halt } ((s.liveCtx c).unparsable c) := by
  unfold State.liveBad LiveCtx.unparsable
  dsimp only
  split <;> simp [State.fileUnparsable, State.setLive, State.withLive, State.send]

/-- An accepted header of an inspected pass (R124, R126). -/
theorem State.liveHeader_inspected {h : ChunkHdr} {x : LiveCtx} {step : Nat} (hx : x = s.liveCtx c)
    (hi : x.inspecting = true) (hstep : step = nextStep s.fx.steps[c] s.pp.free) : s.liveHeader c h = { s with
      fx := { s.fx with
        steps := upd s.fx.steps c fun _ => step
        live := upd s.fx.live c fun _ =>
          if h.preview = 0 ∨ h.index % step ≠ 0 then { x with skipped := x.skipped + 1 }
          else { x with parse := x.parse.offer } }
      wire := s.wire ++ ⟨.fx, .ins, .frameHeader c x.pass (x.parse.frameHdr h)⟩ ::
        if h.preview = 0 ∨ h.index % step ≠ 0 then
          [⟨.fx, .cat, .inspectionCountReport (x.parse.clip.getD 0) (.addSkipped 1)⟩] else [] } := by
  subst hx hstep
  unfold State.liveHeader
  dsimp only
  rw [if_pos hi]
  by_cases hskip : h.preview = 0 ∨ h.index % nextStep s.fx.steps[c] s.pp.free ≠ 0
  · simp only [if_pos hskip, State.skipFrame_eq, State.withLive, State.send, State.liveCtx, List.append_assoc]
    rfl
  · simp only [if_neg hskip]
    rfl

/-- An accepted header of a pass that is not inspected (R124). -/
theorem State.liveHeader_routed {h : ChunkHdr} {x : LiveCtx} (hx : x = s.liveCtx c) (hi : x.inspecting = false) :
    s.liveHeader c h = s.withLive c (if h.preview ≠ 0 ∧ 0 < s.pp.counts[c] then { x with parse := x.parse.offer } else x)
      [⟨.fx, .ins, .frameHeader c x.pass (x.parse.frameHdr h)⟩] := by
  subst hx
  have hself : upd s.fx.live c (fun _ => s.liveCtx c) = s.fx.live := upd_self ..
  unfold State.liveHeader
  dsimp only
  rw [if_neg (Bool.eq_false_iff.mp hi)]
  by_cases hoffer : h.preview ≠ 0 ∧ 0 < s.pp.counts[c]
  · rw [if_pos hoffer, if_pos hoffer]
    rfl
  · rw [if_neg hoffer, if_neg hoffer, State.withLive, hself]
    rfl

/-! ## One byte of a live pass (R122) -/

section
variable {b : Byte}

theorem State.liveByte_idle (b : Byte) (h : (s.liveCtx c).parse.state ≠ .parsing) : s.liveByte c b = s := if_pos h

variable {x : LiveCtx} (hx : x = s.liveCtx c) (hs : x.parse.state = .parsing)
include hx hs

theorem State.liveByte_header {p : Parse} {h : ChunkHdr} (htake : x.parse.take b = (p, .header h)) {t : State}
    (ht : t = (s.setLive c { x with parse := p }).liveHeader c h) :
    s.liveByte c b = t.setLive c { t.liveCtx c with parse := (t.liveCtx c).parse.close } := by
  subst hx ht
  simp only [State.liveByte, hs, ne_eq, not_true_eq_false, if_false, htake]

theorem State.liveByte_plane {p : Parse} (htake : x.parse.take b = (p, .plane)) {t : State}
    (ht : t = (s.setLive c { x with parse := p }).livePlane c) :
    s.liveByte c b = t.setLive c { t.liveCtx c with parse := (t.liveCtx c).parse.close } := by
  subst hx ht
  simp only [State.liveByte, hs, ne_eq, not_true_eq_false, if_false, htake]

/-- A byte with which the data cannot be read: the bytes gathered of the header are discarded too. -/
theorem State.liveByte_bad (htake : x.parse.take b = ({ x.parse with gather := x.parse.gather ++ [b] }, .bad)) :
    s.liveByte c b = s.withLive c { x with parse := x.parse.halt } (x.unparsable c) := by
  subst hx
  simp only [State.liveByte, hs, ne_eq, not_true_eq_false, if_false, htake, State.setLive_eq, State.liveBad_eq,
    State.withLive_liveCtx]
  simp only [← State.setLive_eq, Parse.close_none (show Parse.chunk (Parse.halt _) = none from rfl)]
  simp only [State.withLive, State.setLive, upd_upd]
  rfl

end

/-! ## The plane of an offered frame (R124, R131) -/

theorem State.livePlane_full (h : s.pp.lowestFree = none) :
    s.livePlane c = if (s.liveCtx c).inspecting then s.skipFrame c else s := by
  simp only [State.livePlane, h]

/-- The plane of an inspected pass: its slot is held by INSPECT and goes to the tail of the inspection queue. -/
theorem State.livePlane_inspected {x : LiveCtx} {n : Nat} {newest : Option Chan} {new : Slot} (hx : x = s.liveCtx c)
    (hi : x.inspecting = true) (hn : s.pp.lowestFree = some n)
    (hnewest : newest = if 0 < s.pp.counts[c] then some c else none)
    (hnew : new = placedSlot n (.live c x.pass) x.parse.currentHdr x.parse.planeRev.reverse newest [.inspect]) {u : State}
    (hu : u = (s.setLive c { x with placed := x.placed + 1 }).stored newest new) :
    s.livePlane c = State.engineTake { u with pp := { u.pp with queue := s.pp.queue ++ [n] } } := by
  subst hx hnewest hnew
  simp only [State.livePlane, hn, if_pos hi]
  exact State.place_of_inspect _ _ _ _ _ _ (List.mem_singleton_self _) hu

/-- The plane of a pass that is not inspected: NEWEST alone holds its slot. -/
theorem State.livePlane_routed {x : LiveCtx} {n : Nat} (hx : x = s.liveCtx c) (hi : x.inspecting = false)
    (hn : s.pp.lowestFree = some n) : s.livePlane c =
    s.stored (some c) (placedSlot n (.live c x.pass) x.parse.currentHdr x.parse.planeRev.reverse (some c) []) := by
  subst hx
  simp only [State.livePlane, hn, if_neg (Bool.eq_false_iff.mp hi)]
  exact State.place_of_not_inspect _ _ _ _ _ _ List.not_mem_nil

/-! ## The end of a live pass (R127) -/

/-- How many slots of a pass are still held by INSPECT (R127). -/
def State.inspectHeld (s : State) (c : Chan) (pass : Nat) : Nat :=
  (s.pp.slots.filter fun y => y.src = .live c pass && .inspect ∈ y.holders).length

theorem State.inspectHeld_eq_zero {pass : Nat} (h : ∀ y ∈ s.pp.slots, y.src = .live c pass → .inspect ∉ y.holders) :
    s.inspectHeld c pass = 0 := by
  simpa [State.inspectHeld] using h

theorem State.settlePass_zero {pass : Nat} (clip skipped : Nat) (y : LiveCtx) (w : List Wire)
    (h : s.inspectHeld c pass = 0) : (s.withLive c y w).settlePass c pass clip skipped =
      s.withLive c y (w ++ [⟨.fx, .ins, .passResult clip skipped ((s.withLive c y []).superseded clip pass)⟩]) :=
  (if_pos h).trans (State.withLive_send ..)

theorem State.settlePass_pos {pass : Nat} (clip skipped : Nat) (y : LiveCtx) (w : List Wire)
    (h : s.inspectHeld c pass ≠ 0) : (s.withLive c y w).settlePass c pass clip skipped = { s with
      fx := { s.fx with
        live := upd s.fx.live c fun _ => y
        settle := s.fx.settle ++
          [{ pass := pass, clip := clip, skipped := skipped, left := s.inspectHeld c pass }] }
      wire := s.wire ++ w } := if_neg h

theorem State.liveEnd_idle (h : (s.liveCtx c).parse.state ≠ .parsing) : s.liveEnd c = s.withLive c {} [] :=
  (if_pos h).trans (s.setLive_eq c {})

theorem State.liveCut_idle (h : (s.liveCtx c).parse.state ≠ .parsing) : s.liveCut c = s.withLive c {} [] :=
  (if_pos h).trans (s.setLive_eq c {})

/-- The frames of the directory that a cut-off pass has neither placed nor skipped (R127). -/
def LiveCtx.unseen (x : LiveCtx) : Nat := x.parse.frames - (x.placed + x.skipped)

/-- What a cut-off tells the Catalog: the frames not seen count as skipped (R127). -/
def LiveCtx.cutReport (x : LiveCtx) : List Wire :=
  if x.unseen = 0 then [] else [⟨.fx, .cat, .inspectionCountReport (x.parse.clip.getD 0) (.addSkipped x.unseen)⟩]

section
variable {x : LiveCtx} (hx : x = s.liveCtx c) (hs : x.parse.state = .parsing)
include hx hs

theorem State.liveEnd_routed (hi : x.inspecting = false) : s.liveEnd c =
    s.withLive c {} [⟨.fx, .ins, .continuityEnd c x.pass (.finish x.parse.ordinal)⟩] := by
  subst hx
  simp [State.liveEnd, hs, hi, State.setLive_eq]

theorem State.liveCut_routed (hi : x.inspecting = false) : s.liveCut c =
    s.withLive c {} [⟨.fx, .ins, .continuityEnd c x.pass .cutOff⟩] := by
  subst hx
  simp [State.liveCut, hs, hi, State.setLive_eq]

variable (hi : x.inspecting = true)
include hi

theorem State.liveEnd_inspected : s.liveEnd c =
    (s.withLive c {} [⟨.fx, .ins, .continuityEnd c x.pass (.finish x.parse.ordinal)⟩]).settlePass c x.pass
      (x.parse.clip.getD 0) x.skipped := by
  subst hx
  simp [State.liveEnd, hs, hi, State.setLive_eq]

theorem State.liveCut_inspected : s.liveCut c =
    (s.withLive c {} (⟨.fx, .ins, .continuityEnd c x.pass .cutOff⟩ :: x.cutReport)).settlePass c x.pass
      (x.parse.clip.getD 0) (x.skipped + x.unseen) := by
  subst hx
  by_cases hn : (s.liveCtx c).unseen = 0
  · rw [LiveCtx.cutReport, if_pos hn, hn]
    rw [LiveCtx.unseen] at hn
    simp [State.liveCut, hs, hi, State.setLive_eq, hn]
  · rw [LiveCtx.cutReport, if_neg hn]
    rw [LiveCtx.unseen] at hn ⊢
    simp [State.liveCut, hs, hi, State.setLive_eq, hn]

/-- With none of its slots held by INSPECT the pass hands over its result, marked by the contexts that are left. -/
theorem State.liveEnd_settles (hzero : s.inspectHeld c x.pass = 0) : s.liveEnd c =
    s.withLive c {} [⟨.fx, .ins, .continuityEnd c x.pass (.finish x.parse.ordinal)⟩,
      ⟨.fx, .ins, .passResult (x.parse.clip.getD 0) x.skipped
        ((s.withLive c {} []).superseded (x.parse.clip.getD 0) x.pass)⟩] := by
  rw [State.liveEnd_inspected hx hs hi, State.settlePass_zero _ _ _ _ hzero]
  rfl

theorem State.liveCut_settles (hzero : s.inspectHeld c x.pass = 0) : s.liveCut c =
    s.withLive c {} (⟨.fx, .ins, .continuityEnd c x.pass .cutOff⟩ :: x.cutReport ++
      [⟨.fx, .ins, .passResult (x.parse.clip.getD 0) (x.skipped + x.unseen)
        ((s.withLive c {} []).superseded (x.parse.clip.getD 0) x.pass)⟩]) := by
  rw [State.liveCut_inspected hx hs hi, State.settlePass_zero _ _ _ _ hzero]

/-- With slots of its own still held by INSPECT the pass adds a settle entry. -/
theorem State.liveEnd_awaits (hheld : s.inspectHeld c x.pass ≠ 0) : s.liveEnd c = { s with
    fx := { s.fx with
      live := upd s.fx.live c fun _ => {}
      settle := s.fx.settle ++
        [{ pass := x.pass, clip := x.parse.clip.getD 0, skipped := x.skipped, left := s.inspectHeld c x.pass }] }
    wire := s.wire ++ [⟨.fx, .ins, .continuityEnd c x.pass (.finish x.parse.ordinal)⟩] } := by
  rw [State.liveEnd_inspected hx hs hi, State.settlePass_pos _ _ _ _ hheld]

theorem State.liveCut_awaits (hheld : s.inspectHeld c x.pass ≠ 0) : s.liveCut c = { s with
    fx := { s.fx with
      live := upd s.fx.live c fun _ => {}
      settle := s.fx.settle ++ [{ pass := x.pass, clip := x.parse.clip.getD 0, skipped := x.skipped + x.unseen
                                  left := s.inspectHeld c x.pass }] }
    wire := s.wire ++ [⟨.fx, .ins, .continuityEnd c x.pass .cutOff⟩] ++ x.cutReport } := by
  rw [State.liveCut_inspected hx hs hi, State.settlePass_pos _ _ _ _ hheld, List.append_assoc]
  rfl

end

/-! ## Deliveries (R124) -/

theorem State.deliverLive_asking (e : LiveEvent) (h : (s.liveCtx c).asking = true) : s.deliverLive c e =
    s.withLive c { s.liveCtx c with held := (s.liveCtx c).held ++ [e] } [] := (if_pos h).trans (State.setLive_eq ..)

theorem State.deliverLive_taken (e : LiveEvent) (h : (s.liveCtx c).asking = false) :
    s.deliverLive c e = s.liveEvent c e := if_neg (by simp [h])

section
variable (ha : (s.liveCtx c).asking = false)
include ha

theorem livePassBegin_taken (clip : Nat) (desc : Desc) : exec (.livePassBegin c clip desc) s =
    .next (s.liveStart c clip desc) := congrArg Host.Outcome.next (State.deliverLive_taken _ ha)

theorem liveBytes_taken (bytes : List Byte) : exec (.liveBytes c bytes) s =
    .next (bytes.foldl (fun t b => t.liveByte c b) s) := congrArg Host.Outcome.next (State.deliverLive_taken _ ha)

theorem livePassEndOfData_taken : exec (.livePassEndOfData c) s = .next (s.liveEnd c) :=
  congrArg Host.Outcome.next (State.deliverLive_taken _ ha)

theorem livePassCutOff_taken : exec (.livePassCutOff c) s = .next (s.liveCut c) :=
  congrArg Host.Outcome.next (State.deliverLive_taken _ ha)

end

/-- The Catalog's answer sets the flag of the pass that asked, and what was held is taken (R124). -/
theorem liveInspectionStateAnswer_none_held {pass : Nat} {rec : Option Clip} {x : LiveCtx} {on : Bool} (hx : x = s.liveCtx c)
    (ha : x.asking = true) (hp : x.pass = pass) (hheld : x.held = [])
    (hon : on = !(rec.any fun c : Clip => c.insp = .reinspecting)) :
    exec (.liveInspectionStateAnswer c pass rec) s = .next (s.withLive c { x with asking := false, inspecting := on }
      (if on then [⟨.fx, .cat, .inspectionCountReport (x.parse.clip.getD 0) (.start .live)⟩] else [])) := by
  subst hx hon
  change execLiveInspectionStateAnswer c pass rec s = _
  unfold execLiveInspectionStateAnswer
  dsimp only
  rw [if_neg (not_not.mpr ⟨ha, hp⟩), hheld, List.foldl_nil]
  split
  · rw [State.setLive_eq, State.withLive_send, List.nil_append]
  · rw [State.setLive_eq]

theorem liveInspectionStateAnswer_discarded {pass : Nat} (rec : Option Clip)
    (h : (s.liveCtx c).asking = false ∨ (s.liveCtx c).pass ≠ pass) :
    exec (.liveInspectionStateAnswer c pass rec) s = .next s :=
  if_pos fun ⟨ha, hp⟩ => h.elim (fun hf => by simp [ha] at hf) fun hne => hne hp

end

/-- Settles O29, clause by clause. -/
theorem livePass : Obligations.LivePass := by
  refine ⟨⟨?begins, ?held, ?answer, fun ch pass rec s h => liveInspectionStateAnswer_discarded rec h, ?bytes, ?skipped,
    ?header, ?inspected, ?routed, ?plane, ?placed, ?full, fun p => ⟨p.lowestFree_eq_some_iff, p.lowestFree_eq_none_iff⟩,
    ?bad, fun s ch b h => State.liveByte_idle b h, ?settles, ?idle, ?settling, ?ends⟩, ?cut⟩
  case begins =>
    intro ch clip desc s ha
    exact ⟨_, livePassBegin_taken ha clip desc, upd_same .., rfl, upd_same .., rfl, rfl⟩
  case held =>
    rintro ch s x r e rfl ha h
    have held : ∀ e, ∃ t, Host.Outcome.next (s.deliverLive ch e) = .next t ∧
        liveBecomes ch { s.liveCtx ch with held := (s.liveCtx ch).held ++ [e] } s t ∧ t.wire = s.wire :=
      fun e => next_withLive_nil (congrArg _ (State.deliverLive_asking e ha))
    obtain ⟨clip, desc, rfl, rfl⟩ | ⟨bs, rfl, rfl⟩ | ⟨rfl, rfl⟩ | ⟨rfl, rfl⟩ := h
    all_goals exact held _
  case answer =>
    intro ch pass rec s x on hx ha hp hheld hon
    exact next_withLive (liveInspectionStateAnswer_none_held hx ha hp hheld hon)
  case bytes =>
    intro ch bytes s ha
    exact liveBytes_taken ha bytes
  case skipped =>
    intro s ch b x h hx hs hc hg hpos hread hi hpreview
    have hhdr := State.liveHeader_inspected (h := h) (x := { x with parse := x.parse.accept h })
      (s.setLive_liveCtx ch _).symm hi rfl
    simp only [hpreview, true_or, if_true] at hhdr
    rw [State.liveByte_header hx hs (Parse.take_header hc hpos hg hread) hhdr.symm, State.setLive_liveCtx]
    exact ⟨rfl, congrArg LiveCtx.skipped (upd_same ..)⟩
  case header =>
    intro s ch b x h t hx hs hc hg hpos hread ht
    exact State.liveByte_header hx hs (Parse.take_header hc hpos hg hread) ht
  case inspected =>
    intro s ch h x step hx hi hstep
    exact State.liveHeader_inspected hx hi hstep
  case routed =>
    intro s ch h x hx hi
    exact State.liveHeader_routed hx hi
  case plane =>
    intro s ch b x k t hx hs hc ho hlast ht
    exact State.liveByte_plane hx hs (Parse.take_plane hc ho hlast) ht
  case placed =>
    rintro s ch x n newest holders old slots hx hn rfl rfl rfl rfl
    cases hi : x.inspecting with
    | false =>
      have hsame : upd s.fx.live ch (fun y => y) = s.fx.live := upd_self ..
      refine ⟨_, State.livePlane_routed hx hi hn, ?_⟩
      simp only [Bool.not_false, Bool.true_or, if_true, Bool.false_eq_true, if_false, hsame]
      rfl
    | true =>
      refine ⟨_, State.livePlane_inspected hx hi hn rfl rfl rfl, ?_⟩
      subst hx
      by_cases hcount : 0 < s.pp.counts[ch]
      · simp only [if_pos hcount, decide_eq_true hcount, Bool.or_true, if_true]
        rfl
      · simp only [if_neg hcount, decide_eq_false hcount, Bool.not_true, Bool.or_self, Bool.false_eq_true, if_true, if_false]
        rfl
  case full =>
    rintro s ch x rfl hn
    exact State.livePlane_full hn
  case bad =>
    rintro s ch b x n hx hs hc hg hpos hread rfl
    rw [State.liveByte_bad hx hs (Parse.take_badHeader hc hpos hg hread)]
    exact ⟨x.unparsable_after ch s.wire, by rw [State.withLive_liveCtx]; rfl⟩
  case settles =>
    intro ch s x hx ha hs hi hfree
    have hzero := State.inspectHeld_eq_zero hfree
    refine ⟨⟨_, (livePassEndOfData_taken (hx ▸ ha)).trans (congrArg _ (State.liveEnd_settles hx hs hi hzero)),
      liveBecomes_withLive .., rfl⟩,
      ⟨_, x.unseen, (livePassCutOff_taken (hx ▸ ha)).trans (congrArg _ (State.liveCut_settles hx hs hi hzero)),
        liveBecomes_withLive .., rfl, ?_⟩⟩
    simp only [State.withLive_wire, LiveCtx.cutReport, List.append_assoc, List.singleton_append]
    rfl
  case idle =>
    rintro ch s x rfl ha hs
    simp only [List.forall_mem_cons, List.not_mem_nil, false_implies, implies_true, and_true]
    exact ⟨next_withLive_nil ((livePassEndOfData_taken ha).trans (congrArg _ (State.liveEnd_idle hs))),
      next_withLive_nil ((livePassCutOff_taken ha).trans (congrArg _ (State.liveCut_idle hs)))⟩
  case settling =>
    rintro ch s x n hx ha hs hi rfl hn
    exact ⟨⟨_, (livePassEndOfData_taken (hx ▸ ha)).trans (congrArg _ (State.liveEnd_awaits hx hs hi hn)),
      State.withLive_liveCtx s ch {} [], fun _ hd => upd_other _ _ _ _ hd, rfl⟩,
      ⟨_, x.unseen, (livePassCutOff_taken (hx ▸ ha)).trans (congrArg _ (State.liveCut_awaits hx hs hi hn)), rfl,
        State.withLive_liveCtx s ch {} [], fun _ hd => upd_other _ _ _ _ hd, rfl⟩⟩
  case ends =>
    rintro ch s x r how rfl ha hs hi (⟨rfl, rfl⟩ | ⟨rfl, rfl⟩)
    · exact next_withLive ((livePassEndOfData_taken ha).trans (congrArg _ (State.liveEnd_routed rfl hs hi)))
    · exact next_withLive ((livePassCutOff_taken ha).trans (congrArg _ (State.liveCut_routed rfl hs hi)))
  case cut =>
    rintro s ch b x n hx hs hc hg hpos hend rfl
    rw [State.liveByte_bad hx hs (Parse.take_cutHeader hc hpos hg hend)]
    exact ⟨x.unparsable_after ch s.wire, State.withLive_liveCtx ..⟩

end Sys2Proof.Machine
end


section
/-! SUPPORT. Playback reading (R133, R135): what serving a fetch and the answer to a read make of a playback context, one lemma per
case. -/

namespace Sys2Proof.Machine

/-! ## The playback contexts -/

section
variable (s : State) (k : Outp) (x y : PlayCtx) (n m : Nat) (w v : List Wire)

/-- The state with a new playback context, an attempt number and some messages more on their way. -/
def State.withPlay : State :=
  { s with fx := { s.fx with play := upd s.fx.play k fun _ => x }, wire := s.wire ++ w, token := n }

theorem State.setPlay_eq : s.setPlay k x = s.withPlay k x s.token [] := by
  simp only [State.setPlay, State.withPlay, List.append_nil]

@[simp] theorem State.withPlay_playCtx : (s.withPlay k x n w).playCtx k = x := upd_same ..

@[simp] theorem State.withPlay_token : (s.withPlay k x n w).token = n := rfl

@[simp] theorem State.withPlay_withPlay : (s.withPlay k x n w).withPlay k y m v = s.withPlay k y m (w ++ v) := by
  simp only [State.withPlay, upd_upd, List.append_assoc]

/-- Answering a fetch sends one message more. -/
@[simp] theorem State.withPlay_answerFetch (f : Nat × Nat) (a : FetchAns) :
    (s.withPlay k x n w).answerFetch k f a = s.withPlay k x n (w ++ [⟨.fx, .ro, .fetchAnswer k f.1 f.2 a⟩]) := by
  simp only [State.withPlay, State.answerFetch, State.send, List.map_cons, List.map_nil, List.append_assoc]

@[simp] theorem State.withPlay_answerAll (fs : List (Nat × Nat)) (a : FetchAns) :
    (s.withPlay k x n w).answerAll k fs a =
      s.withPlay k x n (w ++ fs.map fun f => ⟨.fx, .ro, .fetchAnswer k f.1 f.2 a⟩) := by
  induction fs generalizing w with
  | nil => simp [State.answerAll]
  | cons f fs ih =>
    rw [State.answerAll, List.foldl_cons, State.withPlay_answerFetch]
    exact (ih _).trans (by rw [List.append_assoc]; rfl)

theorem State.setPlay_answerAll (fs : List (Nat × Nat)) (a : FetchAns) : (s.setPlay k x).answerAll k fs a =
    s.withPlay k x s.token (fs.map fun f => ⟨.fx, .ro, .fetchAnswer k f.1 f.2 a⟩) := by
  rw [State.setPlay_eq, State.withPlay_answerAll, List.nil_append]

theorem State.setPlay_answerFetch (f : Nat × Nat) (a : FetchAns) : (s.setPlay k x).answerFetch k f a =
    s.withPlay k x s.token [⟨.fx, .ro, .fetchAnswer k f.1 f.2 a⟩] := by
  rw [State.setPlay_eq, State.withPlay_answerFetch, List.nil_append]

theorem playBecomes_withPlay : playBecomes k x s (s.withPlay k x n w) :=
  ⟨State.withPlay_playCtx .., fun _ hj => upd_other _ _ _ _ hj, rfl⟩

end

/-- A command that leaves a playback context and some messages more, and starts no attempt. -/
theorem next_withPlay {r : Result} {s : State} {k : Outp} {x : PlayCtx} {w : List Wire}
    (h : r = .next (s.withPlay k x s.token w)) :
    ∃ t, r = .next t ∧ t.token = s.token ∧ playBecomes k x s t ∧ t.wire = s.wire ++ w :=
  ⟨_, h, rfl, playBecomes_withPlay .., rfl⟩

/-! ## Serving a fetch (R133) -/

section
variable {s : State} {k : Outp} {x : PlayCtx} {f : Nat × Nat} {rest : List (Nat × Nat)}

/-- Where reading for a frame goes on: from the position reached, or from the start again for a frame already passed. -/
def Parse.seek (p : Parse) (n : Nat) : Parse :=
  if n < p.ordinal then { p with pos := 0, ordinal := 0, lastIndex := none } else p

theorem Parse.seek_ahead {p : Parse} {n : Nat} (h : p.ordinal ≤ n) : p.seek n = p := if_neg (by omega)

/-- The context a fetch is served from. -/
theorem PlayCtx.seek_eq (x : PlayCtx) (n : Nat) (fs : List (Nat × Nat)) : (if n < x.parse.ordinal then
      { x with parse := { x.parse with pos := 0, ordinal := 0, lastIndex := none }, fetches := fs }
      else { x with fetches := fs }) =
    { x with parse := x.parse.seek n, fetches := fs } := by
  unfold Parse.seek
  split <;> rfl

theorem State.serveFetch_nil (s : State) (k : Outp) :
    State.serveFetch k [] s = s.withPlay k { s.playCtx k with fetches := [] } s.token [] := State.setPlay_eq ..

/-- With no fetch left the fetch list is empty. -/
theorem State.withPlay_serveFetch_nil (s : State) (k : Outp) (x : PlayCtx) (n : Nat) (w : List Wire) :
    State.serveFetch k [] (s.withPlay k x n w) = s.withPlay k { x with fetches := [] } n w := by
  rw [State.serveFetch_nil, State.withPlay_playCtx, State.withPlay_token, State.withPlay_withPlay, List.append_nil]

theorem State.playRead_eq (s : State) (k : Outp) (x : PlayCtx) (src : Source) (first last : Nat) (whole : Bool) :
    s.playRead k x src first last whole = s.withPlay k { x with rtok := some s.token } (s.token + 1)
      [⟨.fx, .dp src.port, .playbackRead k src.port src.vol (src.hb + src.span + first / 4096)
        ⟨last / 4096 - first / 4096 + 1, if whole then some (first % 4096) else none⟩ s.token⟩] := rfl

section
variable {p : Parse} (hx : x = s.playCtx k) (hp : p = x.parse.seek f.2)
include hx hp

theorem State.serveFetch_noSource (hsrc : x.src = none) : State.serveFetch k (f :: rest) s =
    s.withPlay k { x with parse := p, fetches := [] } s.token
      ((f :: rest).map fun g => ⟨.fx, .ro, .fetchAnswer k g.1 g.2 .cancelled⟩) := by
  subst hx hp
  simp only [State.serveFetch, PlayCtx.seek_eq]
  simp only [hsrc, State.setPlay_answerAll]

variable {src : Source} (hsrc : x.src = some src)
include hsrc

theorem State.serveFetch_beyondEnd (hend : p.dataLen ≤ p.pos) : State.serveFetch k (f :: rest) s =
    State.serveFetch k rest (s.withPlay k { x with parse := p, fetches := f :: rest } s.token
      [⟨.fx, .ro, .fetchAnswer k f.1 f.2 .beyondEnd⟩]) := by
  subst hx hp
  simp only [State.serveFetch, PlayCtx.seek_eq]
  simp only [hsrc, State.setPlay_answerFetch]
  exact if_pos hend

/-- Fewer bytes are left than a chunk header has. -/
theorem State.serveFetch_cutHeader (hpos : p.pos < p.dataLen) (hcut : p.dataLen < p.pos + 64) :
    State.serveFetch k (f :: rest) s = s.withPlay k { x with parse := p.halt, fetches := [] } s.token
      ((f :: rest).map fun g => ⟨.fx, .ro, .fetchAnswer k g.1 g.2 .unparsable⟩) := by
  subst hx hp
  simp only [State.serveFetch, PlayCtx.seek_eq]
  simp only [hsrc, State.setPlay_answerAll]
  rw [if_neg (Nat.not_le.mpr hpos), if_pos hcut]

/-- The read a fetch needs: a header alone on the way to its frame, and the plane too where the frame is the next. -/
theorem State.serveFetch_read {last : Nat} (hfits : p.pos + 64 ≤ p.dataLen)
    (hlast : last = if p.ordinal < f.2 then p.pos + 63 else min (p.pos + 64 + 2332800) p.dataLen - 1) :
    State.serveFetch k (f :: rest) s =
      s.withPlay k { x with parse := p, fetches := f :: rest, rtok := some s.token } (s.token + 1)
        [⟨.fx, .dp src.port, .playbackRead k src.port src.vol (src.hb + src.span + p.pos / 4096)
          ⟨last / 4096 - p.pos / 4096 + 1, if p.ordinal < f.2 then none else some (p.pos % 4096)⟩ s.token⟩] := by
  subst hx hp hlast
  simp only [State.serveFetch, PlayCtx.seek_eq]
  simp only [hsrc, State.playRead_eq]
  rw [if_neg (by omega), if_neg (by omega)]
  by_cases hway : ((s.playCtx k).parse.seek f.2).ordinal < f.2
  · simp only [if_pos hway]
    rfl
  · simp only [if_neg hway]
    rfl

end

/-! ## The fetch list (R133) -/

theorem playbackStart_eq (k : Outp) (clip dataLen frames : Nat) (copy : CopyPlace) (s : State) :
    exec (.playbackStart k clip dataLen frames copy) s = .next (s.withPlay k
      { parse := .start clip dataLen frames
        src := some { port := copy.port, vol := copy.vol, hb := copy.hb, span := spanOf (extentsOf dataLen) } } s.token []) :=
  congrArg Host.Outcome.next (State.setPlay_eq ..)

theorem fetch_waits (run n : Nat) (hx : x = s.playCtx k) (hs : x.parse.state = .parsing) (hf : x.fetches ≠ []) :
    exec (.fetch k run n) s = .next (s.withPlay k { x with fetches := x.fetches ++ [(run, n)] } s.token []) := by
  subst hx
  change execFetch k run n s = _
  simp only [execFetch, hs, if_neg (show ¬(s.playCtx k).fetches.isEmpty = true by simpa using hf), State.setPlay_eq]

theorem fetch_served (run n : Nat) (hs : (s.playCtx k).parse.state = .parsing) (hf : (s.playCtx k).fetches = []) :
    exec (.fetch k run n) s = .next (State.serveFetch k [(run, n)] s) := by
  change execFetch k run n s = _
  simp only [execFetch, hs, hf, List.isEmpty_nil, if_true]

theorem fetch_halted (run n : Nat) (hs : (s.playCtx k).parse.state = .halted) :
    exec (.fetch k run n) s = .next (s.answerFetch k (run, n) .unparsable) := by
  change execFetch k run n s = _
  simp only [execFetch, hs]

theorem fetch_idle (run n : Nat) (hs : (s.playCtx k).parse.state = .idle) :
    exec (.fetch k run n) s = .next (s.answerFetch k (run, n) .cancelled) := by
  change execFetch k run n s = _
  simp only [execFetch, hs]

/-! ## The answer to a read (R133, R135) -/

theorem playbackReadAnswer_discarded {rtok : Nat} (ans : ReadAns) (h : (s.playCtx k).rtok ≠ some rtok) :
    exec (.playbackReadAnswer k rtok ans) s = .next s := if_pos h

section
variable {rtok : Nat} (hx : x = s.playCtx k) (hr : x.rtok = some rtok)
include hx hr

theorem playbackReadAnswer_done (bytes : List Byte) (hf : x.fetches = f :: rest) :
    exec (.playbackReadAnswer k rtok (.done bytes)) s = .next (s.playBytes k x f rest bytes) := by
  subst hx
  change execPlaybackReadAnswer k rtok (.done bytes) s = _
  simp only [execPlaybackReadAnswer, hr, ne_eq, not_true_eq_false, if_false, hf]

theorem playbackReadAnswer_failed (hf : x.fetches = f :: rest) :
    exec (.playbackReadAnswer k rtok .failed) s = .next (State.serveFetch k rest
      (s.withPlay k { x with rtok := none } s.token [⟨.fx, .ro, .fetchAnswer k f.1 f.2 .failed⟩])) := by
  subst hx
  change execPlaybackReadAnswer k rtok .failed s = _
  simp only [execPlaybackReadAnswer, hr, ne_eq, not_true_eq_false, if_false, hf, State.setPlay_answerFetch]

theorem playbackReadAnswer_withdrawn : exec (.playbackReadAnswer k rtok .withdrawn) s = .next
    (s.withPlay k { x with rtok := none, fetches := [] } s.token
      (x.fetches.map fun f => ⟨.fx, .ro, .fetchAnswer k f.1 f.2 .cancelled⟩)) := by
  subst hx
  change execPlaybackReadAnswer k rtok .withdrawn s = _
  simp only [execPlaybackReadAnswer, hr, ne_eq, not_true_eq_false, if_false, State.setPlay_answerAll]

theorem playbackReadAnswer_lost : exec (.playbackReadAnswer k rtok .lost) s = .next
    (s.withPlay k {} s.token (x.fetches.map fun f => ⟨.fx, .ro, .fetchAnswer k f.1 f.2 .lost⟩)) := by
  subst hx
  change execPlaybackReadAnswer k rtok .lost s = _
  simp only [execPlaybackReadAnswer, hr, ne_eq, not_true_eq_false, if_false, State.setPlay_answerAll]

end

/-- The cancel of the read in progress, where there is one (R133). -/
def PlayCtx.cancelRead (x : PlayCtx) (k : Outp) : List Wire :=
  match x.rtok, x.src with
  | some _, some src => [⟨.fx, .dp src.port, .readCancel (.output k) src.port⟩]
  | _, _ => []

theorem playbackCancel_eq (hx : x = s.playCtx k) : exec (.playbackCancel k) s = .next (s.withPlay k {} s.token
    (x.cancelRead k ++ x.fetches.map fun f => ⟨.fx, .ro, .fetchAnswer k f.1 f.2 .cancelled⟩)) := by
  subst hx
  change execPlaybackCancel k s = _
  unfold execPlaybackCancel PlayCtx.cancelRead
  cases hr : (s.playCtx k).rtok with
  | none => simp [hr, State.setPlay_answerAll]
  | some r => cases hsrc : (s.playCtx k).src with
    | none => simp [hr, hsrc, State.setPlay_answerAll]
    | some src => simp [hr, hsrc, State.setPlay_answerAll, State.withPlay, State.send]

/-! ## The bytes of a read (R133) -/

/-- A parse context past the chunk of an accepted header. -/
def Parse.passed (p : Parse) (h : ChunkHdr) : Parse :=
  { p with ordinal := p.ordinal + 1, lastIndex := some h.index, gather := [], chunk := none, pos := p.pos + h.len }

theorem freeReport_insertSlot (x : Slot) (l : List Slot) :
    freeReport l (insertSlot x l) = [⟨.pp, .fx, .reinspectPlaneResume (64 - (l.length + 1))⟩] := by
  have hlen : (insertSlot x l).length = l.length + 1 := (insertSlot_perm x l).length_eq
  simp [freeReport, hlen]

section
variable {bytes : List Byte}

theorem State.playBytes_unreadable
    (hread : readChunkHdr x.parse.pos x.parse.dataLen ((bytes.drop (x.parse.pos % 4096)).take 64) = none) :
    s.playBytes k x f rest bytes = s.withPlay k { x with parse := x.parse.halt, fetches := [], rtok := none } s.token
      ((f :: rest).map fun g => ⟨.fx, .ro, .fetchAnswer k g.1 g.2 .unparsable⟩) := by
  simp only [State.playBytes, hread, State.setPlay_answerAll]

variable {h : ChunkHdr} {y : PlayCtx}
  (hread : readChunkHdr x.parse.pos x.parse.dataLen ((bytes.drop (x.parse.pos % 4096)).take 64) = some h)
  (hy : y = { x with rtok := none, parse := x.parse.passed h })
include hread hy

/-- A chunk before the frame wanted: reading goes on. -/
theorem State.playBytes_before (hway : x.parse.ordinal < f.2) :
    s.playBytes k x f rest bytes = State.serveFetch k (f :: rest) (s.withPlay k y s.token []) := by
  subst hy
  simp only [State.playBytes, hread, if_pos hway, State.setPlay_eq]
  rfl

theorem State.playBytes_noPlane (hat : f.2 ≤ x.parse.ordinal) (hnone : h.preview = 0) :
    s.playBytes k x f rest bytes = State.serveFetch k rest (s.withPlay k y s.token
      [⟨.fx, .ro, .fetchAnswer k f.1 f.2 (.noPlane ((x.parse.accept h).frameHdr h))⟩]) := by
  subst hy
  simp only [State.playBytes, hread, if_neg (Nat.not_lt.mpr hat), if_pos hnone, State.setPlay_answerFetch]
  rfl

theorem State.playBytes_noSlot (hat : f.2 ≤ x.parse.ordinal) (hplane : h.preview ≠ 0) (hfull : s.pp.lowestFree = none) :
    s.playBytes k x f rest bytes = State.serveFetch k rest (s.withPlay k y s.token
      [⟨.fx, .ro, .fetchAnswer k f.1 f.2 (.noSlot ((x.parse.accept h).frameHdr h))⟩]) := by
  subst hy
  simp only [State.playBytes, hread, if_neg (Nat.not_lt.mpr hat), if_neg hplane, State.setPlay_pp, hfull,
    State.setPlay_answerFetch]
  rfl

/-- The plane of the frame wanted takes the lowest FREE slot, held by the output. -/
theorem State.playBytes_placed {n : Nat} {new : Slot} (hat : f.2 ≤ x.parse.ordinal) (hplane : h.preview ≠ 0)
    (hfree : s.pp.lowestFree = some n)
    (hnew : new = { num := n, src := .playback k, hdr := (x.parse.accept h).frameHdr h
                    plane := ((bytes.drop (x.parse.pos % 4096)).drop 64).take 2332800, holders := [.output k] }) :
    s.playBytes k x f rest bytes = State.serveFetch k rest { s with
      fx := { s.fx with play := upd s.fx.play k fun _ => y }
      pp := { s.pp with slots := insertSlot new s.pp.slots }
      wire := s.wire ++ [⟨.pp, .fx, .reinspectPlaneResume (64 - (s.pp.slots.length + 1))⟩,
        ⟨.fx, .ro, .fetchAnswer k f.1 f.2 (.placed n ((x.parse.accept h).frameHdr h))⟩] } := by
  subst hy hnew
  simp only [State.playBytes, hread, if_neg (Nat.not_lt.mpr hat), if_neg hplane, State.setPlay_pp, hfree]
  rw [State.place_of_not_inspect _ _ _ _ _ _ (by simp)]
  simp only [State.stored, State.setPlay_pp, Pool.slotsFor, freeReport_insertSlot, State.answerFetch, State.send,
    List.append_assoc]
  rfl

end

end

end Sys2Proof.Machine
end


section
/-! SUPPORT. Re-inspection reading (R134, R135): what a byte, the close of a chunk and the commands of the re-inspection context do,
one lemma per case. -/

namespace Sys2Proof.Machine

/-! ## The re-inspection context -/

section
variable (s : State) (x y : ReCtx) (w v : List Wire)

/-- The state with a new re-inspection context and some messages more on their way. -/
def State.withRe : State := { s with fx := { s.fx with re := x }, wire := s.wire ++ w }

theorem State.setRe_eq : s.setRe x = s.withRe x [] := by
  simp only [State.setRe, State.withRe, List.append_nil]

@[simp] theorem State.withRe_withRe : (s.withRe x w).withRe y v = s.withRe y (w ++ v) := by
  simp only [State.withRe, List.append_assoc]

theorem State.setRe_tellReader (run : Nat) (rep : ReReport) : (s.setRe x).tellReader run rep =
    s.withRe x [⟨.fx, .ins, .reinspectContextReport run rep⟩] := rfl

/-- The context as it stands, with nothing sent. -/
theorem State.withRe_self : s.withRe s.fx.re [] = s := by
  simp only [State.withRe, List.append_nil]

end

section
variable {s : State} {x : ReCtx}

/-! ## The close of a chunk (R122, R134) -/

section
variable {c : Chunk} (hx : x = s.fx.re) (hc : x.parse.chunk = some c)
include hx hc

theorem State.closeRe_open (h : c.taken < c.hdr.len) : s.closeRe = s := by
  subst hx
  have hmid : s.fx.re.parse.atEnd = false := by simp [Parse.atEnd, hc]
  simp only [State.closeRe, Parse.close_open hc h, hmid, Bool.false_eq_true, and_false, if_false]
  rw [State.setRe_eq]
  exact s.withRe_self

variable (hs : x.parse.state = .parsing) (h : c.hdr.len ≤ c.taken)
include hs h

theorem State.closeRe_next (hmore : x.parse.pos + c.hdr.len < x.parse.dataLen) : s.closeRe =
    s.withRe { x with parse := { x.parse with chunk := none, planeRev := [], pos := x.parse.pos + c.hdr.len } } [] := by
  subst hx
  simp only [State.closeRe, Parse.close_full hc h, Parse.atEnd, decide_eq_false (Nat.not_le.mpr hmore), ge_iff_le,
    Bool.and_false, Bool.false_eq_true, and_false, if_false, State.setRe_eq]

/-- A chunk that closes at the data length ends the parse (R134). -/
theorem State.closeRe_end (hend : x.parse.dataLen ≤ x.parse.pos + c.hdr.len) : s.closeRe =
    s.withRe {} [⟨.fx, .ins, .reinspectContextReport x.run (.ended x.placed x.skipped)⟩] := by
  subst hx
  simp only [State.closeRe, Parse.close_full hc h, Parse.atEnd, decide_eq_true hend, ge_iff_le, Option.isNone_none,
    Bool.and_self, hs, and_self, if_true, State.setRe_tellReader]

end

/-! ## One byte (R122, R123, R134) -/

section
variable {b : Byte} {p : Parse} {c : Chunk} {h : ChunkHdr} (hx : x = s.fx.re)
include hx

theorem State.reByte_chunk (htake : x.parse.take b = (p, .nothing)) :
    s.reByte b = (s.withRe { x with parse := p } []).closeRe := by
  subst hx
  simp only [State.reByte, htake, State.setRe_eq]

/-- A chunk with no plane is counted skipped. -/
theorem State.reByte_noPlane (htake : x.parse.take b = (p, .header h)) (hnone : h.preview = 0) : s.reByte b =
    (s.withRe { x with skipped := x.skipped + 1, parse := p }
      [⟨.fx, .cat, .inspectionCountReport (x.parse.clip.getD 0) (.addSkipped 1)⟩]).closeRe := by
  subst hx
  simp only [State.reByte, htake, if_pos hnone]
  rfl

theorem State.reByte_offer (htake : x.parse.take b = (p, .header h)) (hplane : h.preview ≠ 0) :
    s.reByte b = { s with fx := { s.fx with re := { x with parse := p.offer } } } := by
  subst hx
  simp only [State.reByte, htake, if_neg hplane]
  rfl

/-- Data that cannot be read: the bytes gathered of the header are discarded too. -/
theorem State.reByte_bad (htake : x.parse.take b = ({ x.parse with gather := x.parse.gather ++ [b] }, .bad)) :
    s.reByte b = { s with
      fx := { s.fx with re := { x with parse := x.parse.halt } }
      wire := s.wire ++ [⟨.fx, .fl, .occurrence
          (spanOcc (x.parse.clip.getD 0) .unparsable 1 x.parse.faultFrame x.parse.faultFrame)⟩,
        ⟨.fx, .ins, .reinspectContextReport x.run (.halted x.parse.faultFrame x.placed x.skipped)⟩] } := by
  subst hx
  simp only [State.reByte, htake, State.fileUnparsable, State.setRe, State.tellReader, State.file, State.send,
    List.append_assoc]
  rfl

theorem State.reByte_waits (htake : x.parse.take b = (p, .plane)) (hfew : s.pp.free < 16) :
    s.reByte b = s.withRe { x with parse := { p with state := .waiting } } [] := by
  subst hx
  simp only [State.reByte, htake, State.setRe_pp, ge_iff_le, if_neg (Nat.not_le.mpr hfew)]
  exact State.setRe_eq ..

theorem State.reByte_places {n : Nat} (htake : x.parse.take b = (p, .plane)) (hmany : 16 ≤ s.pp.free)
    (hfree : s.pp.lowestFree = some n) : s.reByte b = ((s.setRe { x with parse := p }).placeRe n).closeRe := by
  subst hx
  simp only [State.reByte, htake, State.setRe_pp, ge_iff_le, if_pos hmany, hfree]

/-- A gathered plane takes a slot held by INSPECT, at the tail of the inspection queue, and the reader is told. -/
theorem State.placeRe_eq (n : Nat) {u : State}
    (hu : u = { s with
      fx := { s.fx with re := { x with placed := x.placed + 1 } }
      pp := { s.pp with
        queue := s.pp.queue ++ [n]
        slots := insertSlot { num := n, src := .reinspect, hdr := x.parse.currentHdr, plane := x.parse.planeRev.reverse
                              holders := [.inspect] } s.pp.slots }
      wire := s.wire ++ [⟨.pp, .fx, .reinspectPlaneResume (64 - (s.pp.slots.length + 1))⟩] }) :
    s.placeRe n = u.engineTake.send .fx .ins [.reinspectContextReport x.run .placed] := by
  subst hx hu
  unfold State.placeRe
  dsimp only
  rw [State.place_of_inspect _ _ _ _ _ _ (List.mem_singleton_self _) rfl]
  simp only [State.stored, State.setRe_pp, Pool.slotsFor, freeReport_insertSlot]
  rfl

end

theorem State.placeRe_tells (s : State) (n : Nat) :
    (⟨.fx, .ins, .reinspectContextReport s.fx.re.run .placed⟩ : Wire) ∈ (s.placeRe n).wire :=
  List.mem_append_right _ (List.mem_singleton_self _)

/-! ## What has been sent stays on its way -/

section
variable {w : List Wire} (h : w <+: s.wire)
include h

theorem State.send_keeps_sent (src dst : Node) (ms : List Instr) : w <+: (s.send src dst ms).wire :=
  h.trans (List.prefix_append ..)

theorem State.setRe_keeps_sent (x : ReCtx) : w <+: (s.setRe x).wire := h

theorem State.engineTake_keeps_sent : w <+: s.engineTake.wire := by
  unfold State.engineTake
  split
  · split
    · exact State.send_keeps_sent h ..
    · exact h
  · exact h

theorem State.closeRe_keeps_sent : w <+: s.closeRe.wire := by
  unfold State.closeRe
  dsimp only
  split
  · exact State.send_keeps_sent h ..
  · exact h

theorem State.placeRe_keeps_sent (n : Nat) : w <+: (s.placeRe n).wire := by
  rw [State.placeRe_eq rfl n rfl]
  exact State.send_keeps_sent (State.engineTake_keeps_sent (h.trans (List.prefix_append ..))) ..

theorem State.reByte_keeps_sent (b : Byte) : w <+: (s.reByte b).wire := by
  unfold State.reByte
  dsimp only
  split
  · exact State.closeRe_keeps_sent h
  · split
    · exact State.closeRe_keeps_sent (State.send_keeps_sent h ..)
    · exact h
  · split
    · split
      next n hn => exact State.closeRe_keeps_sent (State.placeRe_keeps_sent (State.setRe_keeps_sent h _) n)
      · exact h
    · exact h
  · exact State.send_keeps_sent (State.send_keeps_sent h ..) ..

theorem State.reBytes_keeps_sent (bs : List Byte) : w <+: (State.reBytes bs s).wire := by
  induction bs generalizing s with
  | nil =>
    unfold State.reBytes State.reConsumed
    dsimp only
    split
    · exact State.send_keeps_sent h ..
    · exact h
  | cons b bs ih =>
    unfold State.reBytes
    split
    · exact ih (State.reByte_keeps_sent h b)
    all_goals exact h

end

/-! ## Delivered reads (R134) -/

section
variable {run : Nat} {bytes : List Byte}

theorem State.reBytes_consumed (h : s.fx.re.parse.state = .parsing ∨ s.fx.re.parse.state = .waiting ∧ s.fx.re.held = []) :
    State.reBytes [] s = s.send .fx .ins [.reinspectReadConsumed s.fx.re.run] := if_pos h

theorem State.reBytes_unreported (h : ¬(s.fx.re.parse.state = .parsing ∨ s.fx.re.parse.state = .waiting ∧ s.fx.re.held = [])) :
    State.reBytes [] s = s := if_neg h

theorem State.reBytes_parsing (b : Byte) (bs : List Byte) (h : s.fx.re.parse.state = .parsing) :
    State.reBytes (b :: bs) s = State.reBytes bs (s.reByte b) := by
  simp only [State.reBytes, h]

/-- The bytes of a read wait with a WAITING context. -/
theorem State.reBytes_waiting (hx : x = s.fx.re) (hs : x.parse.state = .waiting) (hne : bytes ≠ []) :
    State.reBytes bytes s = s.withRe { x with held := x.held ++ bytes } [] := by
  subst hx
  cases bytes with
  | nil => exact absurd rfl hne
  | cons b bs => simp only [State.reBytes, hs, State.setRe_eq]

theorem reinspectContextStart_fresh (run clip dataLen frames : Nat) (src : Source) (h : s.fx.re.early = none) :
    exec (.reinspectContextStart run clip dataLen frames src) s =
      .next (s.withRe { parse := .start clip dataLen frames, run := run, src := some src } []) := by
  change execReinspectContextStart run clip dataLen frames src s = _
  simp only [execReinspectContextStart, h, State.setRe_eq]

theorem reinspectBytes_taken (bytes : List Byte) (hs : s.fx.re.parse.state = .parsing ∨ s.fx.re.parse.state = .waiting)
    (hrun : s.fx.re.run = run) : exec (.reinspectBytes run bytes) s = .next (State.reBytes bytes s) := by
  change execReinspectBytes run bytes s = _
  obtain hs | hs := hs <;> simp only [execReinspectBytes, hs, if_pos hrun]

/-- Bytes of a run that has not started here are kept for it (assumption 11). -/
theorem reinspectBytes_early (run : Nat) (bytes : List Byte) (hx : x = s.fx.re) (hs : x.parse.state = .idle) :
    exec (.reinspectBytes run bytes) s = .next (s.withRe { x with early := some (run, bytes) } []) := by
  subst hx
  change execReinspectBytes run bytes s = _
  simp only [execReinspectBytes, hs, State.setRe_eq]

theorem reinspectBytes_halted (bytes : List Byte) (hs : s.fx.re.parse.state = .halted) (hrun : s.fx.re.run = run) :
    exec (.reinspectBytes run bytes) s = .next s := by
  change execReinspectBytes run bytes s = _
  simp only [execReinspectBytes, hs, if_pos hrun]

/-! ## Resuming, cancelling and losing (R134, R135) -/

theorem reinspectPlaneResume_discarded {free : Nat} (h : s.fx.re.parse.state ≠ .waiting ∨ free < 16 ∨ s.pp.free < 16) :
    exec (.reinspectPlaneResume free) s = .next s := if_pos h

/-- The WAITING context places its plane and takes the bytes that wait with it. -/
theorem reinspectPlaneResume_places {free n : Nat} (hx : x = s.fx.re) (hs : x.parse.state = .waiting) (hfree : 16 ≤ free)
    (hstill : 16 ≤ s.pp.free) (hn : s.pp.lowestFree = some n) {v : State}
    (hv : v = ((s.setRe { x with held := [], parse := { x.parse with state := .parsing } }).placeRe n).closeRe) :
    exec (.reinspectPlaneResume free) s = .next (if x.held = [] then v else State.reBytes x.held v) := by
  subst hx hv
  have hgo : ¬(s.fx.re.parse.state ≠ .waiting ∨ free < Config.reinspectReserve ∨ s.pp.free < Config.reinspectReserve) := by
    rintro (h | h | h)
    exacts [h hs, absurd hfree (Nat.not_le.mpr h), absurd hstill (Nat.not_le.mpr h)]
  change execReinspectPlaneResume free s = _
  simp only [execReinspectPlaneResume, if_neg hgo, hn]

theorem reinspectContextCancel_taken (hx : x = s.fx.re) (hs : x.parse.state ≠ .idle) (hrun : x.run = run) :
    exec (.reinspectContextCancel run) s =
      .next (s.withRe {} [⟨.fx, .ins, .reinspectContextReport run (.counts x.placed x.skipped)⟩]) := by
  subst hx
  exact if_neg (by tauto)

theorem reinspectReadLost_taken (hx : x = s.fx.re) (hs : x.parse.state ≠ .idle) (hrun : x.run = run) :
    exec (.reinspectReadLost run) s = .next
      (s.withRe {} [⟨.fx, .ins, .reinspectContextReport run (.lost x.placed x.skipped x.parse.ordinal)⟩]) := by
  subst hx
  exact if_neg (by tauto)

theorem reinspectContextCancel_discarded (h : s.fx.re.parse.state = .idle ∨ s.fx.re.run ≠ run) :
    exec (.reinspectContextCancel run) s = .next s := if_pos h

theorem reinspectReadLost_discarded (h : s.fx.re.parse.state = .idle ∨ s.fx.re.run ≠ run) :
    exec (.reinspectReadLost run) s = .next s := if_pos h

end

end

end Sys2Proof.Machine
end


section
/-! SUPPORT. The statement about playback and re-inspection reading (R133 to R135), put together case by case. -/

namespace Sys2Proof.Machine

/-- Settles O31: playback reading from the fetch that is served, re-inspection reading byte by byte. -/
theorem playbackAndReinspectionReading : Obligations.PlaybackAndReinspectionReading := by
  refine ⟨⟨⟨?start, ?waits, ?reads, ?beyond, ?stopped, ?discarded, ?noPlaneOne, ?noSlotOne, ?failedOne, ?withdrawn, ?placedOne,
    ?unreadable, ?lost, ?cancel⟩, ?reStart, ?reTaken, ?reWaiting, ?reEarly, ?reHalted, ?reConsumed, ?reByte, ?rePlaneWaits,
    ?reResumeNot, ?reResumeTold, ?reEnded, ?reEndedNot, ?rePlane, ?reNoPlane, ?reOffer, ?reBad, ?reLastChunk, ?reClose⟩,
    ?failed, ?done, ?serveNil, ?serve, ?reRead, ?reResume, ?reCut⟩
  case start =>
    intro k clip dataLen frames copy s
    exact ⟨_, playbackStart_eq k clip dataLen frames copy s, rfl, List.append_nil _, playBecomes_withPlay ..⟩
  case waits =>
    intro k run n s x hx hs hf
    exact ⟨_, fetch_waits run n hx hs hf, playBecomes_withPlay .., rfl, List.append_nil _⟩
  case reads =>
    rintro k run n s x p src first last rfl hs hf hsrc hp hfits rfl hlast
    exact ⟨_, (fetch_served run n hs hf).trans (congrArg _ (State.serveFetch_read rfl hp hsrc hfits hlast)),
      playBecomes_withPlay .., rfl, rfl⟩
  case beyond =>
    rintro k run n s x src rfl hs hf hsrc hahead hend
    have hsame : ({ s.playCtx k with fetches := [] } : PlayCtx) = s.playCtx k := by rw [← hf]
    have hserved := ((State.serveFetch_beyondEnd (f := (run, n)) rfl (Parse.seek_ahead hahead).symm hsrc hend).trans
      (State.withPlay_serveFetch_nil ..)).trans (congrArg (s.withPlay k · s.token _) hsame)
    exact ⟨_, (fetch_served run n hs hf).trans (congrArg _ hserved), playBecomes_withPlay .., rfl, rfl⟩
  case stopped =>
    rintro k run n s ans (⟨hs, rfl⟩ | ⟨hs, rfl⟩)
    · exact ⟨_, fetch_halted run n hs, rfl, rfl⟩
    · exact ⟨_, fetch_idle run n hs, rfl, rfl⟩
  case discarded =>
    intro k rtok ans s h
    exact playbackReadAnswer_discarded ans h
  case noPlaneOne =>
    rintro k rtok bytes s x f h p hx hr hf rfl hread hat hnone
    have hbytes := State.playBytes_noPlane (s := s) (k := k) (rest := []) hread rfl hat.ge hnone
    rw [State.withPlay_serveFetch_nil] at hbytes
    exact next_withPlay ((playbackReadAnswer_done hx hr bytes hf).trans (congrArg _ hbytes))
  case noSlotOne =>
    rintro k rtok bytes s x f h p hx hr hf rfl hread hat hplane hfull
    have hbytes := State.playBytes_noSlot (k := k) (rest := []) hread rfl hat.ge hplane hfull
    rw [State.withPlay_serveFetch_nil] at hbytes
    exact next_withPlay ((playbackReadAnswer_done hx hr bytes hf).trans (congrArg _ hbytes))
  case failedOne =>
    intro k rtok s x f hx hr hf
    have hfailed := playbackReadAnswer_failed hx hr hf
    rw [State.withPlay_serveFetch_nil] at hfailed
    exact next_withPlay hfailed
  case withdrawn =>
    intro k rtok s x hx hr _
    exact next_withPlay (playbackReadAnswer_withdrawn hx hr)
  case placedOne =>
    rintro k rtok bytes s x f h p n hdr hx hr hf rfl hread hat hplane hfree rfl
    have hexec := (playbackReadAnswer_done hx hr bytes hf).trans (congrArg _
      ((State.playBytes_placed (k := k) (rest := []) hread rfl hat.ge hplane hfree rfl).trans (State.serveFetch_nil _ k)))
    exact ⟨_, hexec, rfl, mem_insertSlot.mpr (.inl rfl), congrArg PlayCtx.fetches (upd_same ..),
      List.mem_append_left _ (List.mem_append_right _ (.tail _ (.head _)))⟩
  case unreadable =>
    rintro k rtok bytes s x p hx hr hf rfl hread
    obtain ⟨f, rest, hfs⟩ := List.exists_cons_of_ne_nil hf
    rw [hfs]
    exact next_withPlay ((playbackReadAnswer_done hx hr bytes hfs).trans (congrArg _ (State.playBytes_unreadable hread)))
  case lost =>
    intro k rtok s x hx hr
    exact next_withPlay (playbackReadAnswer_lost hx hr)
  case cancel =>
    intro k s x hx
    obtain ⟨t, hexec, htoken, hplay, hwire⟩ := next_withPlay (playbackCancel_eq hx)
    rw [← List.append_assoc] at hwire
    exact ⟨t, hexec, htoken, hplay, hwire⟩
  case reStart =>
    intro run clip dataLen frames src s h
    exact ⟨_, reinspectContextStart_fresh run clip dataLen frames src h, List.append_nil _, rfl⟩
  case reTaken =>
    rintro run bytes s x rfl hs hrun
    exact reinspectBytes_taken bytes (.inl hs) hrun
  case reWaiting =>
    rintro run bytes s x rfl hs hrun hne
    exact ⟨_, (reinspectBytes_taken bytes (.inr hs) hrun).trans (congrArg _ (State.reBytes_waiting rfl hs hne)), rfl,
      List.append_nil _⟩
  case reEarly =>
    intro run bytes s x hx hs
    exact ⟨_, reinspectBytes_early run bytes hx hs, rfl, List.append_nil _⟩
  case reHalted =>
    intro run bytes s hs hrun
    exact reinspectBytes_halted bytes hs hrun
  case reConsumed =>
    intro s hs
    exact State.reBytes_consumed (.inl hs)
  case reByte =>
    intro s b bs hs
    exact State.reBytes_parsing b bs hs
  case rePlaneWaits =>
    intro s b x c hx hs hc ho hlast hfew
    rw [State.reByte_waits hx (Parse.take_plane hc ho hlast) hfew]
    exact ⟨rfl, List.append_nil _, rfl⟩
  case reResumeNot =>
    intro free s h
    exact reinspectPlaneResume_discarded h
  case reResumeTold =>
    intro free s x n hx hs hfree hstill hn
    obtain ⟨v, hv⟩ : ∃ v : State,
        v = ((s.setRe { x with held := [], parse := { x.parse with state := .parsing } }).placeRe n).closeRe := ⟨_, rfl⟩
    have hexec := reinspectPlaneResume_places hx hs hfree hstill hn hv
    have htold : (⟨.fx, .ins, .reinspectContextReport x.run .placed⟩ : Wire) ∈ v.wire := by
      rw [hv]
      exact List.IsPrefix.subset (State.closeRe_keeps_sent (List.prefix_refl _)) (State.placeRe_tells _ n)
    refine ⟨_, hexec, onlyFrames_of_rest (keepsRest_next.mp (hexec ▸ exec_rest_frames s rfl rfl)), ?_⟩
    split
    · exact htold
    · exact (State.reBytes_keeps_sent (List.prefix_refl _) _).subset htold
  case reEnded =>
    rintro run s x r rep hx hs hrun (⟨rfl, rfl⟩ | ⟨rfl, rfl⟩)
    · exact ⟨_, reinspectContextCancel_taken hx hs hrun, rfl, rfl⟩
    · exact ⟨_, reinspectReadLost_taken hx hs hrun, rfl, rfl⟩
  case reEndedNot =>
    intro run s h
    exact ⟨reinspectContextCancel_discarded h, reinspectReadLost_discarded h⟩
  case rePlane =>
    rintro s b x c n u hx hs hc ho hlast hmany hfree rfl
    rw [State.reByte_places hx (Parse.take_plane hc ho hlast) hmany hfree, State.placeRe_eq rfl n rfl]
    subst hx
    rfl
  case reNoPlane =>
    intro s b x h hx hs hc hg hpos hread hnone
    exact State.reByte_noPlane hx (Parse.take_header hc hpos hg hread) hnone
  case reOffer =>
    intro s b x h hx hs hc hg hpos hread hplane
    exact State.reByte_offer hx (Parse.take_header hc hpos hg hread) hplane
  case reBad =>
    rintro s b x n hx hs hc hg hpos hread rfl
    exact State.reByte_bad hx (Parse.take_badHeader hc hpos hg hread)
  case reLastChunk =>
    intro s b x c hx hs hc hno hfull hend
    obtain ⟨plane, htake⟩ := Parse.take_chunk (b := b) hc hno
    rw [State.reByte_chunk hx htake, State.closeRe_end rfl rfl hs hfull hend, State.withRe_withRe]
    rfl
  case reClose =>
    intro s x c hx hs hc
    refine ⟨State.closeRe_open hx hc, fun hfull hmore => ?_, State.closeRe_end hx hc hs⟩
    rw [State.closeRe_next hx hc hs hfull hmore]
    exact (State.setRe_eq ..).symm
  case failed =>
    intro k rtok s x f rest hx hr hf
    exact ⟨_, playbackReadAnswer_failed hx hr hf, playBecomes_withPlay .., rfl, rfl⟩
  case done =>
    rintro k rtok bytes s x f rest h p y hx hr hf rfl hread hy
    have hdone := playbackReadAnswer_done hx hr bytes hf
    refine ⟨fun hway => ?_, ?_, ?_⟩
    · exact ⟨_, hdone.trans (congrArg _ (State.playBytes_before hread hy hway)), playBecomes_withPlay .., rfl,
        List.append_nil _⟩
    · rintro hdr ans rfl hat (⟨hnone, rfl⟩ | ⟨hplane, hfull, rfl⟩)
      · exact ⟨_, hdone.trans (congrArg _ (State.playBytes_noPlane hread hy hat hnone)), playBecomes_withPlay .., rfl, rfl⟩
      · exact ⟨_, hdone.trans (congrArg _ (State.playBytes_noSlot hread hy hat hplane hfull)), playBecomes_withPlay .., rfl,
          rfl⟩
    · rintro hdr n new rfl hat hplane hfree hnew
      exact ⟨_, hdone.trans (congrArg _ (State.playBytes_placed hread hy hat hplane hfree hnew)), upd_same ..,
        fun _ hj => upd_other _ _ _ _ hj, rfl⟩
  case serveNil =>
    intro k s
    rw [State.serveFetch_nil]
    exact ⟨playBecomes_withPlay .., List.append_nil _, rfl⟩
  case serve =>
    rintro k f rest s x p t hx hp rfl
    refine ⟨fun hsrc => ?_, fun src hsrc => ⟨fun hend => ?_, fun hpos hcut => ?_, fun last hfits hlast => ?_⟩⟩
    · rw [State.serveFetch_noSource hx hp hsrc]
      exact ⟨playBecomes_withPlay .., rfl, rfl⟩
    · exact ⟨_, State.serveFetch_beyondEnd hx hp hsrc hend, playBecomes_withPlay .., rfl, rfl⟩
    · rw [State.serveFetch_cutHeader hx hp hsrc hpos hcut]
      exact ⟨playBecomes_withPlay .., rfl, rfl⟩
    · rw [State.serveFetch_read hx hp hsrc hfits hlast]
      exact ⟨playBecomes_withPlay .., rfl, rfl⟩
  case reRead =>
    rintro s x rfl
    refine ⟨fun hs hheld => State.reBytes_consumed (.inr ⟨hs, hheld⟩), fun h => State.reBytes_unreported ?_⟩
    obtain ⟨hs, hheld⟩ | hs | hs := h
    · simp [hs, hheld]
    · simp [hs]
    · simp [hs]
  case reResume =>
    rintro free s x n u v hx hs hfree hstill hn rfl rfl
    refine (reinspectPlaneResume_places hx hs hfree hstill hn rfl).trans ?_
    rw [State.placeRe_eq rfl n rfl]
    rfl
  case reCut =>
    rintro s b x n hx hs hc hg hpos hend rfl
    exact State.reByte_bad hx (Parse.take_cutHeader hc hpos hg hend)

end Sys2Proof.Machine
end
